-- ==== Sys2Proof/Word.lean ====
section
/-! DEFINITION. The words, bytes and plain operand data of the OXT-9640 commands (spec/00_scope.md, R8). -/

namespace Sys2Proof

/-- One octet of a frame or record; byte 0 is sent or stored first (R8). -/
abbrev Byte := BitVec 8
/-- One 32-bit register word (00_scope, Registers). -/
abbrev Word := BitVec 32
/-- A string of octets, byte 0 first (R8). -/
abbrev Bytes := List Byte

/-- The two backbone ports (R16). -/
inductive Port where
  | fore | aft
  deriving DecidableEq, Repr

/-- Who requests a register access (R417, R426). -/
inductive Req where
  | host | monitor | far
  deriving DecidableEq, Repr

/-- A monitor session: the node's own UART, or the remote session it serves (R406). -/
inductive Ses where
  | onUart | remote
  deriving DecidableEq, Repr

/-- A measurement of the line-feed controller, in the units of Tables 3-7 and 3-8 (R59). -/
structure LfMeas where
  vf  : Nat
  lpn : Nat
  i   : Nat
  deriving DecidableEq, Repr

/-- The eight samples of the straps, oldest first (R32). -/
structure Straps where
  psel : List (BitVec 2)
  mtx  : List Bool
  deriving DecidableEq, Repr

/-- A native frame as a lane has decoded it: header, payload and trailer bytes, whether its START block was uncorrectable, its uncorrectable
blocks after that one, and the counter at the first symbol of its START block (R113, R168). `cut`: the input stopped before LENGTH bytes (R222). -/
structure RxFrame where
  bytes    : Bytes
  startBad : Bool
  unc      : Nat
  cut      : Bool
  stamp    : Nat
  deriving DecidableEq, Repr

/-- What a lane receives for one frame: the frame as decoded, or the blocks on the line, 320 bits each, with the 58 bits before them, newest
first (R95 to R97). -/
inductive LaneRx where
  | frame (f : RxFrame)
  | line (last : List Bool) (blocks : List (List Bool)) (stamp : Nat)
  deriving DecidableEq, Repr

/-- A CAN frame as the bit engine sees it, with its start-of-frame stamp (R168, R285). -/
structure CanFrame where
  ide  : Bool
  fdf  : Bool
  brs  : Bool
  rtr  : Bool
  esi  : Bool
  id   : Nat
  dlc  : Nat
  data : Bytes
  stamp : Nat
  deriving DecidableEq, Repr

/-- What Doze decodes on a selective-wake channel (R335). -/
inductive SwEvent where
  | frame (f : CanFrame)   -- a classical frame valid to ISO 11898-1
  | error                  -- a frame with a stuff, CRC or form error
  | skipped                -- a frame with FDF recessive
  deriving DecidableEq, Repr

/-- What a memory access of the scrubber found (R368); deferred: the foreground held the bank, or the crossing was full, for the whole
window, and the access moves to the next one (R21, R25). -/
inductive ScrubFind where
  | clean | corrected | uncorrectable | deferred
  deriving DecidableEq, Repr

/-- The measurements a self-test hands back at its end (Table 14-3, R359). -/
structure TestResult where
  pass    : Bool   -- no criterion of the "Lasting when" column was met
  fars    : Bool   -- MRAM: the fault lies in the region (not in logical region L0)
  bankB   : Bool   -- MRAM: the bank under test
  region  : Nat    -- MRAM: its logical region
  deriving DecidableEq, Repr

/-- A TTDP frame on the ETB lane (R144): HELLO or TOPOLOGY, as the standard lays it out. -/
structure TtdpFrame where
  topology : Bool
  bytes    : Bytes
  deriving DecidableEq, Repr

/-- An OTP key slot of the monitor's `key` command (R402). -/
inductive KeySlot where
  | img | mon | clr
  deriving DecidableEq, Repr

/-- The area of `rec dump` (R403). -/
inductive DumpArea where
  | gen | sev7 | ring | every
  deriving DecidableEq, Repr

/-- A monitor command line, its fields read (Table 16-2). -/
inductive MonCmd where
  | help | ident | recStat | topo | time | fault | profileShow | replan | sleep | tel | unlock | lock | locl
  | rd (off n : Nat) | wr (off val : Nat)
  | recDump (a : DumpArea) | recStats (ext : Bool) (i : Nat) | recClear (scope : Nat) | recResp (r : Bytes)
  | lane (n : Option Nat) | profileSet (p : Nat) | test (u : Nat) | ret (u : Nat) | retire (l : Nat) | canrec (c : Nat)
  | telSend (s : Nat) | unlockResp (r : Bytes) | key (k : KeySlot) (v : Bytes) | nvmProg (len : Nat) | node (h : Nat)
  | bad
  deriving DecidableEq, Repr

/-- Bits [hi:lo] of a word as a number (R8). -/
def fld (w : Word) (hi lo : Nat) : Nat := (w.toNat >>> lo) % 2 ^ (hi - lo + 1)

/-- A word with bits [hi:lo] set to `v` (R8). -/
def setFld (w : Word) (hi lo v : Nat) : Word :=
  let m : Nat := (2 ^ (hi - lo + 1) - 1) <<< lo
  (w &&& ~~~(BitVec.ofNat 32 m)) ||| BitVec.ofNat 32 ((v % 2 ^ (hi - lo + 1)) <<< lo)

/-- Bit `i` of a word. -/
def bitAt (w : Word) (i : Nat) : Bool := w.toNat.testBit i

end Sys2Proof
end

