-- ==== Sys2Proof/Syntax.lean ====
section
/-! DEFINITION. The commands of spec/opcode_table.json, one constructor a row, with the data each one brings from
outside the node: which lane, pair, channel or port, the bytes received, the word written with its byte enables. -/

namespace Sys2Proof

/-- The commands (spec/opcode_table.json). `req` is the requester, `be` the byte enables and `v` the word of a register write (R416). -/
inductive Instr where
  -- line power and supervision (chapter 3)
  | pilotStart | pilotStop | uvloRising
  | powerOnResetEnd (resetHigh : Bool) (st : Straps)
  | resetAssert | resetRelease (st : Straps)
  | powerFail (energyOk : Bool) | uvloFalling
  | lineOv (m : LfMeas) | lineOvClear
  | thermalWarn (temp : Int) | thermalShed (temp : Int) | thermalRestore (temp : Int) | thermalOff (temp : Int) | thermalRestart (temp : Int)
  | railRecheck (m : LfMeas)
  | softStartDone (p : Fin 4) | softStartTimeout (p : Fin 4) (m : LfMeas) | lfLimit (p : Fin 4) (m : LfMeas)
  | limitTimerExpiry (p : Fin 4) (m : LfMeas) | fastTrip (p : Fin 4) (m : LfMeas)
  | retryWaitExpiry (p : Fin 4) (m : LfMeas) | lfReverse (p : Fin 4) (m : LfMeas) | sourceReturn (p : Fin 4) (m : LfMeas)
  | lfstatLatchClear (req : Req) (be : BitVec 4) (v : Word)
  -- start-up, image, profiles (chapter 4) and boundary scan (chapter 2)
  | nvmWaitDone | headerReceived (d : Bytes) | sectionReceived (d : Bytes) | tagResult (tail : Bytes)
  | profileSwitchRequest (req : Req) (be : BitVec 4) (v : Word)
  | switchVerifyDone (lf : Bytes) (secs : List Bytes) | switchLoadDone (lf : Bytes) (secs : List Bytes)
  | tapReset | tapExtest (tdi : List Bool := []) | tapIdcode (tdi : List Bool := []) | tapSamplePreload (tdi : List Bool := []) | tapHighz (tdi : List Bool := [])
  | tapClamp (tdi : List Bool := []) | tapBypass (code : BitVec 6 := 0x3F) (tdi : List Bool := [])
  -- backbone lanes (chapter 5)
  | detectEnergy (l : Fin 4) (heldSeen : Bool) | trainDone (l : Fin 4) | trainTimeout (l : Fin 4)
  | lockAchieved (l : Fin 4) (msg : Bytes) | lockTimeout (l : Fin 4) | checkDone (l : Fin 4) | checkFail (l : Fin 4)
  | lossOfLock (l : Fin 4) (corr : Nat := 0) (idleUnc : Nat := 0) | lossClassify (l : Fin 4) | downWaitExpiry (l : Fin 4) | heldExit (l : Fin 4) | laneN10Reoffer (l : Fin 4)
  | healthWindow (l : Fin 4) (maxMargin : Int) (snr corr idleUnc : Nat)
  | eqAdapt (l : Fin 4) (margin : Int) (want : List Int) (ffe : Bytes)
  | linkMessageTx (l : Fin 4) (stamp : Nat) | linkMessageRx (l : Fin 4) (msg : Bytes) (stamp : Nat)
  | nativeFrameRx (l : Fin 4) (r : LaneRx)
  | bbCntClear (req : Req) (be : BitVec 4) (v : Word)
  -- inauguration (chapter 6)
  | listenTimeout (seg : Fin 2) | probeRx (p : Port) (f : Bytes) | reportRx (p : Port) (f : Bytes) | assignRx (p : Port) (f : Bytes)
  | confirmRx (p : Port) (f : Bytes) | announceRx (p : Port) (f : Bytes) | leaveRx (p : Port) (f : Bytes)
  | runTimeout (seg : Fin 2) | confirmTimeout (seg : Fin 2) | followTimeout (seg : Fin 2) | joiningTimeout (seg : Fin 2)
  | announceRepeat (p : Port)
  | topLeadWrite (req : Req) (be : BitVec 4) (v : Word) | replanRequest (req : Req) (be : BitVec 4) (v : Word)
  | topTidxLatch (req : Req) (be : BitVec 4) (v : Word) | etbdataRead (req : Req)
  | etbFrameRx (f : TtdpFrame) | etbHelloTimer
  -- time base (chapter 7)
  | cycleStart | lanternRx (l : Fin 4) (f : Bytes) (stamp : Nat) | lanternWExpiry | masterFreeTimeout
  | commonInstant (synci : Bool) | syncoPulseEnd | synciEdge (rising : Bool) (stamp : Nat)
  | tbNowRead (req : Req) | sififoRead (req : Req)
  | gptpSyncTimer (k : Fin 8) | gptpAnnounceTimer (k : Fin 8) | gptpPdelayTimer (k : Fin 8) | gptpFrameRx (k : Fin 8) (f : Bytes)
  -- schedule and guardian (chapter 8)
  | staticSlotStart (laneB : Bool) (ready : Bool) (gdOfs : Int) | guardianCloseTimeout (laneB : Bool) | guardianTableCheck
  | dynamicSegmentStart | minislotStart (m : Nat) | boundCheckDone | fallbackEmit (l : Fin 4)
  -- switch core (chapter 9)
  | localFrameRx (bp : Fin 11) (f : Bytes) (stamp : Nat) | outputDequeue (p : Fin 20) (badCell : Option Nat)
  | pauseFrameRx (l : Fin 4) (f : Bytes) | pauseRefresh (l : Fin 4) | pauseExpiry (l : Fin 4) | pauseStuck (l : Fin 4) (c : Fin 8)
  | portDown (p : Fin 20) | portUp (p : Fin 20) | holdExpiry (p : Fin 20) | fdbAgeOut (idx : Nat)
  | swFdbLatch (req : Req) (be : BitVec 4) (v : Word) | swCntClear (req : Req) (be : BitVec 4) (v : Word)
  -- signals and the gateway (chapter 10)
  | gatewayMappingTask | sigWindowWrite (off : Nat) (be : BitVec 4) (v : Word)
  | hostCommit (req : Req) (be : BitVec 4) (v : Word) | sgCntClear (req : Req) (be : BitVec 4) (v : Word)
  -- CAN channels and the Lamplighter (chapter 11)
  | canFrameValid (c : Fin 8) (f : CanFrame) | canVisit (c : Fin 8) (busIdle : Bool)
  | canTxSuccess (c : Fin 8) (stamp tdcv : Nat) | canArbLost (c : Fin 8)
  | canBusError (c : Fin 8) (code field : Nat) (tx hard : Bool)
  | canIntegrated (c : Fin 8) | canRecovered (c : Fin 8) | canRecoverCmd (req : Req) (c : Fin 8) (be : BitVec 4) (v : Word)
  | canRequest (req : Req) (c : Fin 8) (o : Fin 128) | canStage (req : Req) (c : Fin 8) (o : Fin 128)
  | canCancel (req : Req) (c : Fin 8) (o : Fin 128) (early : Bool) | canRelease (req : Req) (c : Fin 8) (o : Fin 128)
  | canBufferWrite (off : Nat) (be : BitVec 4) (v : Word)
  | domTimeout (c : Fin 8) | busStuck (c : Fin 8) | protocolException (c : Fin 8)
  | canQueueAck (req : Req) (c : Fin 8) (be : BitVec 4) (v : Word) | canQidxLatch (req : Req) (c : Fin 8) (be : BitVec 4) (v : Word)
  | llContextFault (u : Fin 11) (marchFails : Bool) | llRebuildDone (u : Fin 11)
  | canCntClear (req : Req) (be : BitVec 4) (v : Word)
  -- host bridge (chapter 12)
  | remoteRead (addr : Nat) (be : BitVec 4) | remotePostedWrite (addr : Nat) (be : BitVec 4) (v : Word) (merge : Bool)
  | remoteNpWrite (addr : Nat) (be : BitVec 4) (v : Word)
  | spiWriteFrame (a : Word) (d : List Word) | spiReadFrame (a : Word)
  | pwriteRx (f : Bytes) | npwriteRx (f : Bytes) | readRx (f : Bytes) | irqRx (f : Bytes)
  | lockRx (f : Bytes) (rivals : List Bytes) | unlockRx (f : Bytes)
  | wackRx (f : Bytes) | rdataRx (f : Bytes) | lockackRx (f : Bytes) | lateRx (f : Bytes) (stamp : Nat)
  | tagTimeout (t : Fin 64) | delayedDiscard (t : Fin 64)
  | busGrant | masterAccessEnd (err : Bool) (rdata : Word) | masterAccessTimeout | nogrant | grantRemoved
  | irqSend (req : Req) (be : BitVec 4) (v : Word) | lockAcquire (req : Req) (be : BitVec 4) (v : Word)
  | lockRelease (req : Req) (be : BitVec 4) (v : Word) | lockRetryTimer | lockBroken (sem : Option (Fin 32))
  | semAcquire (req : Req) (i : Fin 32) (be : BitVec 4) (v : Word) | semRelease (req : Req) (i : Fin 32) (be : BitVec 4) (v : Word)
  | hbLogClear (req : Req) (be : BitVec 4) (v : Word) | hbCntClear (req : Req) (be : BitVec 4) (v : Word)
  | polledModeExit (req : Req) (be : BitVec 4) (v : Word)
  -- sleep and wake (chapter 13)
  | roundStart (req : Req) (be : BitVec 4) (v : Word) (wakeLow : Bool) | sleepAbortCmd (req : Req) (be : BitVec 4) (v : Word)
  | tokenRx (p : Port) (f : Bytes) (wakeLow : Bool) | roundRtoExpiry | snufferCommitRx (p : Port) (f : Bytes)
  | kindleFrameRx (p : Port) (f : Bytes) | sleepInstant | kindleAbortRepeat (p : Port) | lineDrop
  | kindleToneDetect (p : Port) | canWakeDetect (c : Fin 8) | wakePinDetect | lineWakeTimer (p : Fin 4)
  | kindleWordRx (p : Port) (cellsA cellsB : List Nat) | kindleWordTimeout | swFrameRx (c : Fin 8) (e : SwEvent) | dozeTimeout
  | wakeStartThreshold | wakeStartTimer | pwrCntClear (req : Req) (be : BitVec 4) (v : Word)
  -- fault masking, background work, policy (chapter 14)
  | selfTestEnd (r : TestResult) | laneRetireDone (l : Fin 4)
  | unitTestCmd (req : Req) (be : BitVec 4) (v : Word) | unitRetireCmd (req : Req) (be : BitVec 4) (v : Word)
  | unitReturnCmd (req : Req) (be : BitVec 4) (v : Word)
  | disagreeCheck | watchdogExpiry (sramError : Bool) | mgmtRestartDone | mgmtRestartWait | policyTick
  | sramScrubLine (found : ScrubFind) | mramScrubStep (found : ScrubFind) | pilotTrimTimer (dev : Int)
  | wearLevelCopyDone (bankB : Bool) (logical dest : Nat) | fltCntClear (req : Req) (be : BitVec 4) (v : Word)
  -- event recorder (chapter 15)
  | eventIntake | recordWriteDone (okA okB : Bool) | optimeTick | statSample (ext : Bool) (i : Nat) | statFlush | recorderScanDone
  | recRidxLatch (req : Req) (be : BitVec 4) (v : Word) | recSidxLatch (req : Req) (be : BitVec 4) (v : Word)
  | clearReq (req : Req) (be : BitVec 4) (v : Word) | clearGo (req : Req) (be : BitVec 4) (v : Word)
  | clearChallengeExpiry | clearLockoutEnd | logResyncDone (bankB : Bool) | bankNoAnswer (bankB : Bool)
  | recCntClear (req : Req) (be : BitVec 4) (v : Word)
  -- monitor and telemetry (chapter 16)
  | monHelp (s : Ses) | monId (s : Ses) | monRd (s : Ses) (off n : Nat) | monWr (s : Ses) (off : Nat) (v : Word)
  | monRecStat (s : Ses) | monRecDump (s : Ses) (a : DumpArea) | monRecStats (s : Ses) (ext : Bool) (i : Nat)
  | monRecClear (s : Ses) (scope : Nat) | monRecResp (s : Ses) (r : Bytes) | monLane (s : Ses) (n : Option Nat)
  | monTopo (s : Ses) | monTime (s : Ses) | monFault (s : Ses) | monProfileShow (s : Ses) | monProfileSet (s : Ses) (p : Nat)
  | monTest (s : Ses) (u : Nat) | monReturn (s : Ses) (u : Nat) | monRetire (s : Ses) (l : Nat) | monCanrec (s : Ses) (c : Nat)
  | monReplan (s : Ses) | monSleep (s : Ses) (wakeLow : Bool) | monTel (s : Ses) | monTelSend (s : Ses) (sel : Nat)
  | monUnlockRequest (s : Ses) | monUnlockResponse (s : Ses) (r : Bytes) | monLock (s : Ses)
  | monKey (s : Ses) (k : KeySlot) (key : Bytes) | monNvmProg (s : Ses) (len : Nat)
  | nvmProgBlock (blk : Bytes) (num : Nat) (crc : Nat) | nvmProgDone (readBack : Bytes)
  | monNode (s : Ses) (h : Nat) | monLocal (s : Ses) | monSyntaxError (s : Ses)
  | monChallengeExpiry (s : Ses) | monLockoutEnd (s : Ses) | serviceIdleTimeout (s : Ses)
  | remoteRequestRx (f : Bytes) | remoteResponseRx (f : Bytes) | remoteResponseTimeout | remoteSessionIdle (served : Bool)
  | telemetryPeriod | telemetryFrameRx (f : Bytes) | monTidxLatch (req : Req) (be : BitVec 4) (v : Word)
  -- interrupts and the register map (chapter 17)
  | ipendClear (req : Req) (be : BitVec 4) (v : Word) | irqForce (req : Req) (be : BitVec 4) (v : Word)
  | ienWrite (req : Req) (be : BitVec 4) (v : Word) | registerWrite (req : Req) (off : Nat) (be : BitVec 4) (v : Word)
  -- rows appended to the table
  | sleepCoreOff | kindleToneSent | emberBiasReached (p : Fin 4) | ttdpHelloTimeout
  deriving DecidableEq, Repr

end Sys2Proof
end

