-- ==== Sys2Proof/Decode.lean ====
section
/-! DEFINITION. The words of the table's rows. No row of spec/opcode_table.json carries bits (every `fields` is empty):
the commands are operations and events, not encodings, so a word spells none of them. -/

namespace Sys2Proof

/-- The command a table word spells: none, since no row has bits. DESIGN CHOICE (log 3). -/
def decodeTableWord (_nbits _w : Nat) : Option Instr := none

end Sys2Proof
end

