-- ==== Sys2Proof/Machine/RegMap.lean ====
section
/-! DEFINITION. The register map as fields: which bits of which offset are RW, RWL, W1C or WO, and the reset word
(R10, R414, Table 17-9 and the register tables of each chapter). What is not listed is RO, reserved or unassigned (R13). -/

namespace Sys2Proof.Machine

/-- The writable bits and the reset word of one register (Table 0-5). -/
structure Desc where
  rw    : Nat := 0
  rwl   : Nat := 0
  w1c   : Nat := 0
  wo    : Nat := 0
  reset : Nat := 0
  deriving DecidableEq, Repr

/-- Bits [hi:lo] as a mask. -/
def mask (hi lo : Nat) : Nat := (2 ^ (hi - lo + 1) - 1) <<< lo

/-- A group of `n` words from `base`. -/
def inGroup (off base n : Nat) : Bool := decide (base ≤ off) && decide (off < base + 4 * n)

/-- An array of `n` instances of stride `st` from `base`: the offset inside the instance. -/
def inArray (off base n st : Nat) : Option Nat :=
  if base ≤ off ∧ off < base + n * st then some ((off - base) % st) else none

/-- Global block (Tables 17-3 to 17-7, 4-11 to 4-16). -/
def descGlobal (off : Nat) : Option Desc :=
  match off with
  | 0x0000 | 0x0004 | 0x0008 | 0x000C | 0x0010 | 0x0048 | 0x0100 | 0x0104 | 0x0108 | 0x010C | 0x0124 => some {}
  | 0x0014 => some { rw := 0xFFFFFFFF }
  | 0x0040 => some { w1c := mask 23 16 ||| mask 9 0 }
  | 0x0044 => some { rw := mask 23 16 ||| mask 10 0, reset := 1 }
  | 0x004C => some { wo := mask 23 16 ||| mask 9 0 }
  | 0x0120 => some { wo := mask 31 16 ||| mask 8 8 ||| mask 1 0 }
  | _ => none

/-- Backbone lanes (Tables 5-12 to 5-17). -/
def descLanes (off : Nat) : Option Desc :=
  if off = 0x1000 then some {}
  else if off = 0x1004 then some { wo := 0xF }
  else match inArray off 0x1100 4 0x100 with
    | some 0x00 => some { rwl := 0x1F, reset := 7 }
    | some 0x04 => some {}
    | some 0x08 => some {}
    | some 0x0C => some { rwl := mask 27 0, reset := 0x0434050F }
    | some r => if inGroup r 0x20 12 then some {} else none
    | none => none

/-- Inauguration and topology (Tables 6-10 to 6-15). -/
def descTopology (off : Nat) : Option Desc :=
  match off with
  | 0x2000 => some { rwl := mask 11 0 }
  | 0x2004 => some { rw := 3 }
  | 0x2008 => some { wo := mask 31 16 ||| 1 }
  | 0x200C | 0x2010 | 0x2014 | 0x2060 | 0x2064 | 0x206C => some {}
  | 0x2018 => some { rw := 1 }
  | 0x2020 => some { rw := 0xFF }
  | 0x2068 => some { rw := 0x3FF }
  | _ => if inGroup off 0x2024 4 || inGroup off 0x2040 7 then some {} else none

/-- Time base (Tables 7-10 to 7-13). -/
def descTime (off : Nat) : Option Desc :=
  match off with
  | 0x3000 => some { rwl := mask 19 4 ||| 1, reset := 0x00010340 }
  | 0x3004 => some { rwl := mask 18 0, reset := 0x2710 }
  | 0x3008 | 0x300C | 0x3030 | 0x3048 | 0x304C | 0x3078 | 0x307C => some {}
  | 0x3040 => some { rwl := mask 23 0, reset := 0x00006408 }
  | 0x3044 => some { rwl := 3, w1c := mask 24 24 }
  | 0x3070 => some { rw := 0xFFFFFFFF }
  | 0x3074 => some { rw := 0xFFFFFFFF }
  | 0x3080 => some { rwl := mask 19 16 ||| mask 15 0, reset := 0x000D0000 }
  | _ => if inGroup off 0x3010 8 || inGroup off 0x3060 4 || inGroup off 0x3090 9 then some {} else none

/-- Power and sleep (Tables 3-5 to 3-8, 13-13 to 13-15). -/
def descPower (off : Nat) : Option Desc :=
  match off with
  | 0xA000 | 0xA004 | 0xA008 | 0xA030 | 0xA034 | 0xA038 | 0xA108 | 0xA10C => some {}
  | 0xA010 => some { rwl := mask 31 16 ||| 3, reset := 0x0A000000 }
  | 0xA014 => some { wo := mask 31 16 ||| 3 }
  | 0xA018 => some { rw := 1 }
  | 0xA020 => some { rwl := mask 31 30 ||| mask 23 0, reset := 0xC0000364 }
  | 0xA100 => some { rwl := mask 19 0, reset := 0x00067800 }
  | 0xA104 => some { w1c := mask 19 16 }
  | 0xA3FC => some { wo := 1 }
  | _ =>
    if inGroup off 0xA300 10 then some {}
    else match inArray off 0xA200 8 0x20 with
      | some 0x00 => some { rwl := mask 31 28 ||| mask 19 16, reset := 0x20000000 }
      | some 0x04 | some 0x08 => some { rwl := mask 28 0 }
      | some 0x0C | some 0x10 => some { rwl := 0xFFFFFFFF }
      | some 0x14 => some {}
      | _ => none

/-- A unit number of Table 14-1 (R355). -/
def unitAssigned (u : Nat) : Bool :=
  decide (u ≤ 0x03) || (decide (0x08 ≤ u) && decide (u ≤ 0x0F)) || (decide (0x10 ≤ u) && decide (u ≤ 0x1A)) ||
  (decide (0x20 ≤ u) && decide (u ≤ 0x24)) || u == 0x30 || u == 0x31

/-- Fault and policy (Tables 14-11 to 14-14). -/
def descFault (off : Nat) : Option Desc :=
  match off with
  | 0xB000 => some { rwl := mask 23 8 ||| 1, reset := 0x000A8300 }
  | 0xB004 => some { rwl := 0x3F, reset := 0x1F }
  | 0xB008 | 0xB010 | 0xB404 => some {}
  | 0xB00C => some { wo := mask 31 16 ||| mask 9 0 }
  | 0xB0FC => some { wo := 1 }
  | 0xB400 => some { rwl := 0x3F, reset := 0x3F }
  | _ =>
    if inGroup off 0xB040 8 || inGroup off 0xB080 13 || inGroup off 0xB440 6 || inGroup off 0xB480 8 || inGroup off 0xB800 256 then some {}
    else if inGroup off 0xB100 50 && unitAssigned ((off - 0xB100) / 4) then some {}
    else none

/-- Recorder (Tables 15-11 to 15-13). -/
def descRecorder (off : Nat) : Option Desc :=
  match off with
  | 0xC000 => some { rwl := mask 15 8 ||| 1, reset := 0x3C00 }
  | 0xC004 | 0xC008 | 0xC00C | 0xC010 | 0xC014 | 0xC0C4 => some {}
  | 0xC020 => some { rw := mask 31 30 ||| mask 15 0 }
  | 0xC060 => some { rw := mask 31 31 ||| mask 6 0 }
  | 0xC0C0 => some { wo := mask 31 16 ||| mask 9 8 ||| mask 4 0 }
  | 0xC1FC => some { wo := 1 }
  | _ =>
    if inGroup off 0xC040 8 || inGroup off 0xC080 16 || inGroup off 0xC0D0 4 || inGroup off 0xC100 16 || inGroup off 0xC180 10 then some {}
    else if inGroup off 0xC0E0 8 then some { wo := 0xFFFFFFFF }
    else none

/-- Schedule and guardian (Tables 8-10 to 8-16). -/
def descSchedule (off : Nat) : Option Desc :=
  match off with
  | 0x4000 => some { rwl := mask 27 24 ||| mask 19 8 ||| mask 2 0, reset := 0x08031602 }
  | 0x4004 | 0x4008 => some { rwl := mask 29 28 ||| mask 25 0, reset := 0x10002064 }
  | 0x400C => some { rwl := mask 31 24 ||| mask 18 0, reset := 0x0A000FA0 }
  | 0x4010 => some { rwl := mask 29 0, reset := 0x0A010000 }
  | 0x4100 => some { rwl := 3, reset := 3 }
  | 0x4104 | 0x4108 => some {}
  | _ => if inGroup off 0x4020 5 || inGroup off 0x4080 13 || inGroup off 0x4180 7 then some {} else none

/-- Switch (Tables 9-8 to 9-12). -/
def descSwitch (off : Nat) : Option Desc :=
  match off with
  | 0x5000 => some { rwl := 7, reset := 1 }
  | 0x5004 => some { rwl := 0xFFFF, reset := 0x64 }
  | 0x5008 => some { rwl := 0xFF }
  | 0x500C => some { rwl := 0xFFFFFF, reset := 0xDAC688 }
  | 0x5010 => some { rwl := 0xFFFF, reset := 0x12C }
  | 0x5014 => some { rwl := 0xFFFFFFFF, reset := 0x14141414 }
  | 0x5018 => some { rwl := 0xFFFFFFFF, reset := 0x0A141414 }
  | 0x5040 => some { rwl := 0xFFFFFFFF, reset := 0x02800020 }
  | 0x5340 => some { rw := 0xFFFFFFFF, reset := 0xFFFFFFFF }
  | 0x5344 => some { rw := 0xFFFF, reset := 0xFFFF }
  | 0x5400 => some { rw := 0xFFF }
  | 0x5404 | 0x5408 | 0x540C => some {}
  | 0x5F00 => some { wo := 1 }
  | _ =>
    if inGroup off 0x5020 8 then some { rwl := 0xFFFFFFFF, reset := 0x02000010 }
    else if inGroup off 0x5100 20 then some { rwl := 1 }
    else if inGroup off 0x5180 20 then some { reset := 0xC }
    else if inGroup off 0x5200 20 || inGroup off 0x5800 320 || inGroup off 0x5E00 32 then some {}
    else match inArray off 0x5300 4 0x10 with
      | some 0x0 => some { rw := mask 31 17 }
      | some 0x4 => some { rw := 0xFFFFFFFF, reset := 0x5EE00000 }
      | some 0x8 | some 0xC => some { rw := mask 24 0 }
      | _ => none

/-- Signals (Tables 10-10 and 10-11). -/
def descSignals (off : Nat) : Option Desc :=
  match off with
  | 0x6000 => some { rwl := mask 14 12 ||| mask 10 8 ||| 3, reset := 0x6500 }
  | 0x6004 | 0x6008 => some { rwl := 0xFFFFFFFF }
  | 0x6010 => some { wo := 1 }
  | 0x6014 => some { w1c := mask 31 31 }
  | 0x600C | 0x6018 | 0x601C | 0x6020 | 0x6024 => some {}
  | 0x60FC => some { wo := 1 }
  | _ => if inGroup off 0x6080 12 then some {} else none

/-- CAN channels and the Lamplighter (Tables 11-11 to 11-13). -/
def descCan (off : Nat) : Option Desc :=
  match off with
  | 0x8000 => some { reset := 0x40000000 }
  | 0x8004 => some { wo := 1 }
  | _ =>
    if inGroup off 0x8040 5 then some {}
    else match inArray off 0x7000 8 0x200 with
      | some 0x00 => some { rwl := mask 27 24 ||| mask 4 0, reset := 0x03000000 }
      | some 0x04 => some { rwl := mask 31 4, reset := 0x04F878F0 }
      | some 0x08 => some { rwl := mask 31 6, reset := 0xA00B8CC0 }
      | some 0x10 => some { wo := mask 31 16 ||| 1 }
      | some 0x14 => some { wo := mask 10 8 ||| mask 6 0 }
      | some 0x20 => some { rw := mask 26 16 }
      | some 0x24 => some { w1c := mask 31 31 }
      | some 0x28 => some { rw := mask 9 0 }
      | some 0x0C | some 0x18 | some 0x1C => some {}
      | some r => if inGroup r 0x100 20 || inGroup r 0x180 14 then some {} else none
      | none => none

/-- Host bridge (Tables 12-15 to 12-20). -/
def descBridge (off : Nat) : Option Desc :=
  match off with
  | 0x9000 => some { rwl := mask 31 12 ||| mask 6 4 ||| 5, reset := 0x14648030 }
  | 0x9004 => some { rwl := 0xFFFFFFFF, reset := 0x00320064 }
  | 0x9008 => some { rwl := 0xF }
  | 0x900C => some { rw := 1 }
  | 0x9010 => some { reset := 4 }
  | 0x9014 => some { w1c := mask 4 1 }
  | 0x9018 => some { rw := mask 4 0 }
  | 0x901C | 0x9500 => some {}
  | 0x9020 => some { wo := mask 8 0 }
  | 0x9024 => some { w1c := 0xFFFFFFFF }
  | 0x902C => some { wo := mask 9 8 ||| mask 3 0 }
  | 0x9504 | 0x96FC => some { wo := 1 }
  | _ =>
    if inGroup off 0x9080 32 || inGroup off 0x9400 64 || inGroup off 0x9600 14 then some {}
    else if inGroup off 0x9100 32 then some { wo := mask 9 8 }
    else match inArray off 0x9200 16 0x20 with
      | some 0x00 => some { rwl := mask 31 31 ||| mask 27 16 ||| mask 4 0 }
      | some 0x04 => some { rwl := mask 25 12 }
      | some 0x08 => some { rwl := mask 31 30 ||| mask 15 0 }
      | some 0x0C => some { rwl := mask 23 0 }
      | some 0x10 => some { w1c := mask 31 31, reset := 0x40000000 }
      | some _ => none
      | none => match inArray off 0x9700 16 0x10 with
        | some 0x0 => some { rwl := mask 31 27 ||| mask 15 0 }
        | some 0x4 => some { rwl := mask 25 2 }
        | _ => none

/-- Monitor and security (Tables 16-6 and 16-7). -/
def descMonitor (off : Nat) : Option Desc :=
  match off with
  | 0xD000 => some { rwl := mask 10 8 ||| mask 6 5 ||| mask 2 0, reset := 0x200 }
  | 0xD004 => some { reset := 4 }
  | 0xD008 => some { rwl := 0xFFFFFFFF, reset := 0x0D320000 }
  | 0xD010 => some { rw := 0xFF }
  | 0xD014 => some { reset := 0xFFFFFFFF }
  | 0xD00C | 0xD800 => some {}
  | _ => if inGroup off 0xD080 8 || inGroup off 0xD100 48 then some {} else none

/-- Local Ethernet (Tables 9-13 and 9-14). -/
def descLocal (off : Nat) : Option Desc :=
  match inArray off 0xE100 10 0x10 with
  | some 0x0 => some { rwl := 0xFFFFFFFF, reset := 0x08005F20 }
  | some 0x4 => some {}
  | some 0x8 => some { rwl := mask 27 24 ||| mask 11 0, reset := 1 }
  | _ => none

end Sys2Proof.Machine
end

