-- ==== Sys2Proof/Config.lean ====
section
/-! DEFINITION. What one module fixes (its UID, its stepping digit) and the free values: constants without a body, so
that no proof can see what they are. A claim holds whatever they are. -/

namespace Sys2Proof.Config

/-- The module's 64-bit UID, held in OTP (R121, Table 17-4). -/
opaque uid : BitVec 64
/-- The stepping digit printed on the lid, 0 to 9 (R2, Table 17-3). -/
opaque stepping : BitVec 4
/-- The n-th random byte of the node: challenges and nonces (R391, R401). Free value. -/
opaque randomByte : Nat → BitVec 8
/-- The n-th free choice the spec leaves to the node. Free value. DESIGN CHOICE (log 4). -/
opaque choice : Nat → Nat
/-- The n-th value of measured quantity `q` (voltages, currents, temperatures, margins). Free value. -/
opaque reading : (q n : Nat) → Nat
/-- Byte `i` of the payload of an event whose chapter fixes the content but not the layout (R377). Free value. -/
opaque payloadByte : (code : Nat) → (vals : List Nat) → (i : Nat) → BitVec 8
/-- Octet `i` of a document that a published standard lays out: a gPTP, TTDP or PHY message. Free value. -/
opaque standardByte : (kind : Nat) → (args : List Nat) → (i : Nat) → BitVec 8
/-- The outcome of a protocol of a published standard that the manual only names (gPTP, TTDP). Free value. -/
opaque standardNat : (kind : Nat) → (args : List Nat) → Nat

/-- The place in the boundary register of an output ball's data cell, or of its enable cell, which the module's BSDL file fixes (Table 2-12).
Balls: 0 IRQ#, 1 SYNCO, 2 NSCK, 3 NCS#, 4 MTX, 5 LRDY#, LERR# and LRTY#, 6 LBR#, 7 SIO, 8 the LBUS master balls. Free value. -/
opaque boundaryIndex : (ball : Nat) → (enable : Bool) → Fin 240
/-- What the 240 boundary cells capture at a scan: the levels at the balls and of the core. Free value. -/
opaque boundaryCapture : (n : Nat) → BitVec 240

end Sys2Proof.Config
end

