-- ==== Sys2Proof/Machine/PartsA.lean ====
section
/-! DEFINITION. The parts of the state, first half: line power, start-up, lanes, inauguration, time base, sleep, faults,
policy and recorder, each as plain data under the names the manual gives it. -/

namespace Sys2Proof.Machine

/-- Node states (Table 13-1), numbered as PWR_STAT.NSTATE from STARTUP on. -/
inductive NState where
  | off | ember | doze | startup | repeater | run | drain
  deriving DecidableEq, Repr

/-- States of a line-feed pair, numbered as PWR_LFSTAT.STn (Table 3-6). -/
inductive LfSt where
  | off | softStart | on | limit | retryWait | latched | source | bias
  deriving DecidableEq, Repr

/-- One line-feed pair (R50 to R57). `trips`: consecutive trips; `latch`: PWR_LFSTAT.LATCH; `sink`: pulling the line down to bias (R337). -/
structure Pair where
  st    : LfSt := .off
  trips : Nat  := 0
  latch : Bool := false
  sink  : Bool := false
  deriving DecidableEq, Repr

/-- The power die: node state, supervision, line feed and measurements (chapter 3, R328). -/
structure Line where
  node     : NState := .startup
  fromOff  : Bool := true      -- no core start since the Pilot started
  por      : Bool := true      -- power-on reset under way (Table 3-17)
  resetLow : Bool := false     -- RESET# held low
  core     : Bool := true      -- core rails on
  uvlo     : Bool := true      -- VLB above UVLO rising
  shed     : Bool := false     -- ports, CAN transceivers and V3P3OUT shed by the power-fail warning
  ov       : Bool := false     -- line overvoltage standing
  therm    : Nat := 0          -- GL_TEMP.THERM
  thermOff : Bool := false     -- core rails off by R65
  temp     : BitVec 8 := 0     -- GL_TEMP.TEMP
  railOk   : Bool := false     -- PWR_LFSTAT.RAIL_OK
  vf       : Nat := 0          -- VF as last measured
  vfGnd    : Bool := false     -- LF_VF at ground at that measurement (R36)
  lpn      : Vector (BitVec 16) 4 := Vector.replicate 4 0  -- LPn as last measured
  vlb      : BitVec 16 := 0    -- PWR_LINE.VLB
  pin      : BitVec 16 := 0    -- PWR_LINE.PIN
  cur      : Vector (BitVec 8) 4 := Vector.replicate 4 0   -- PWR_LFI
  pairs    : Vector Pair 4 := Vector.replicate 4 {}
  deriving DecidableEq, Repr

/-- Start-up phases, numbered as GL_BOOTSTAT.PHASE (Table 4-11). -/
inductive Phase where
  | reset | nvmWait | header | loading | loaded | committed | repeater | switchVerify | switchLoad
  deriving DecidableEq, Repr

/-- A directory entry of the image (Table 4-5). -/
structure DirEnt where
  idx    : Nat           -- its place in the directory
  type   : Nat
  pmask  : Nat
  offset : Nat
  length : Nat
  crc    : Nat
  deriving DecidableEq, Repr

/-- A read of the image that failed a check: the part that failed, its index and TYPE, and its CRCs (R82, R91). -/
structure BadRead where
  part     : Nat := 0
  idx      : Nat := 0
  type     : Nat := 0
  expected : Nat := 0
  computed : Nat := 0
  deriving DecidableEq, Repr

/-- Start-up sequencer, image header and profile state (chapter 4), with the latched straps (R32). -/
structure Boot where
  phase     : Phase := .reset
  loaded    : Bool := false
  committed : Bool := false
  authOk    : Bool := false
  retries   : Nat := 0           -- GL_BOOTSTAT.RETRIES
  cause     : Nat := 0           -- GL_BOOTSTAT.CAUSE
  attempt   : Nat := 0           -- attempts of the present read that failed
  blanks    : Nat := 0           -- of those, header reads of all 0xFF or all 0x00
  psel      : Nat := 0
  lbus      : Bool := true       -- GL_STRAP.HOSTIF
  unstable  : Bool := false
  imgLen    : Nat := 0
  sections  : Nat := 0
  flags     : Nat := 0           -- FLAGS of the header
  profiles  : Nat := 0
  imageId   : Nat := 0
  lfBlock   : Bytes := []        -- the line-feed block retained since start-up
  dir       : List DirEnt := []  -- the directory retained since start-up, in ascending order of offset (R71)
  dirSeen   : Bool := false
  types     : List Nat := []     -- section types of the committed configuration
  next      : Nat := 0           -- sections received
  img       : Bytes := []        -- the image as read so far, by position: the input of the whole-image tag (R80)
  active    : Nat := 0
  target    : Nat := 0
  source    : Nat := 0           -- source of the active profile
  reqSource : Nat := 0           -- source of the switch in progress
  switches  : Nat := 0
  checked   : Bool := false      -- verify (or load) read complete, waiting for the common instant
  everRun   : Bool := false      -- a commit has taken place since the core started
  locked    : Bool := false      -- a commit has taken place since the last reset: RWL fields are locked (R12)
  tag       : Bytes := []        -- the whole-image tag as read (R80)
  bad       : BadRead := {}      -- the last read that failed
  wrote     : List (Nat × Word) := []   -- registers written since the section that loads them passed (R10)
  deriving DecidableEq, Repr

/-- Lane states, numbered as BBn_STAT.STATE (Table 5-13). -/
inductive LaneSt where
  | disabled | detect | train | lock | check | up | downWait | held | retired
  deriving DecidableEq, Repr

/-- One peer-delay exchange waiting for the far end's transmit stamp (R153): tA1, tB2, tA4. -/
structure PdWait where
  tA1 : Nat
  tB2 : Nat
  tA4 : Nat
  deriving DecidableEq, Repr

/-- One backbone lane (chapter 5) with its peer-delay measurement (R152 to R154). -/
structure Lane where
  st        : LaneSt := .disabled
  mode      : Nat := 0            -- BBn_STAT.MODE: 0 none, 1 N10, 2 N2G5, 3 I1G
  again     : Bool := false       -- training repeated once after a lock timeout
  fallback  : Bool := false       -- FALLBACK requested in the link messages sent
  farFallback : Bool := false
  heldSeen  : Bool := false       -- the last link message received carried HELD
  health    : Nat := 0            -- 0 GOOD, 1 MARGINAL, 2 BAD
  goodRun   : Nat := 0            -- consecutive windows meeting neither condition
  unc       : Nat := 0            -- uncorrectable blocks in the present window
  fecErr    : Nat := 0            -- HDR_CRC and FRM_CRC in the present window
  snr       : Nat := 0
  corr      : Nat := 0            -- BBn_HEALTH.CORR
  low       : Bool := false       -- margin below MARG_BAD: adaptation frozen (R104)
  seam      : Bool := false
  seamWas   : Bool := false       -- seam cleared in the present cycle: its traffic waits for the next one (R109)
  n10Off    : Bool := false       -- N10 left out of MODES after a BAD period (R100)
  farModes  : Nat := 0
  farUid    : Nat := 0
  farFlags  : Nat := 0
  farSnr    : Nat := 0
  ffe       : List Int := [0, 0, 0]                 -- transmit taps, in 1/64 (R104)
  ffeReq    : List Int := [0, 0, 0]                 -- change requested of the far transmitter
  taps      : List Int := List.replicate 28 0       -- receive equaliser taps, in 1/64 (R104)
  losses    : List Nat := []                        -- times of losses of lock in the last 60 s
  lossAt    : Option Nat := none                    -- an unclassified loss of lock (R106)
  byEnd     : Bool := false                         -- that loss is part of a coupler end
  modeWas   : Nat := 0                              -- mode before the last loss
  uncWas    : Nat := 0
  retiring  : Bool := false                         -- RETIRING set in the link messages sent (R361)
  retSent   : Nat := 0                              -- messages sent with it
  retAt     : Nat := 0                              -- when it was set
  retCause  : Nat := 0
  farRet    : Nat := 0                              -- consecutive messages received with RETIRING
  farRetAny : Bool := false
  farRetAt  : Nat := 0                              -- when RETIRING was last received
  seq       : Nat := 0                              -- SEQ of the last message sent
  rseq      : Option Nat := none                    -- SEQ of the far end's last message
  rxs       : Nat := 0                              -- its receive stamp
  txLog     : List (Nat × Nat) := []                -- own (SEQ, transmit stamp), newest first
  pdWait    : Option PdWait := none
  delays    : List Int := []                        -- last 256 link delays, in 2^-32 ns
  ratios    : List (Nat × Nat) := []                -- last 1,024 pairs (tB3, tA4), newest first
  exch      : Nat := 0                              -- exchanges completed
  delay     : Int := 0                              -- averaged link delay, 2^-32 ns
  nrr       : Int := 0                              -- NRR - 1, 2^-40
  pdBad     : Bool := false                         -- PDELAY_RANGE standing
  rateBad   : Bool := false                         -- RATE_RANGE standing
  dlOver    : Bool := false                         -- DLINK_OVER standing
  deriving DecidableEq, Repr

/-- Inauguration states, numbered as TOP_STAT.ISTATE (Table 6-12). -/
inductive IState where
  | idle | listen | conduct | follow | settled | joining
  deriving DecidableEq, Repr

/-- A topology entry (Table 6-4). -/
structure TopoEnt where
  uid     : Nat
  handle  : Nat
  eflags  : Nat
  rank    : Nat
  slotref : Nat
  deriving DecidableEq, Repr

/-- A run: its leader's priority tuple and number (R124, Table 6-1). -/
structure RunId where
  cab  : Nat
  rank : Nat
  luid : Nat
  run  : Nat
  deriving DecidableEq, Repr

/-- A report body (Table 6-3). -/
structure RepBody where
  uid    : Nat
  handle : Nat
  dist   : Nat
  ports  : Nat
  nflags : Nat
  rank   : Nat
  rqsrc  : Nat
  deriving DecidableEq, Repr

/-- An ASSIGN, assembled from its parts (Table 6-2). -/
structure Assign where
  run    : RunId
  replan : Bool
  ring   : Bool
  epoch  : Nat
  actcyc : Nat
  n      : Nat
  parts  : Nat
  got    : List (Nat × List TopoEnt)
  deriving DecidableEq, Repr

/-- A change waiting for the next ASSIGN (Table 6-7): a bit of the TOPO_CHANGE kinds, and what it concerns. -/
structure Change where
  kind  : Nat
  uid   : Nat := 0                 -- node it concerns
  reps  : List RepBody := []       -- reports that bring it
  src   : Nat := 0                 -- source of a replan request
  deriving DecidableEq, Repr

/-- One inauguration function (chapter 6); a segment gateway runs two (R143). -/
structure Inaug where
  st        : IState := .idle
  epoch     : Nat := 0
  table     : List TopoEnt := []
  ring      : Bool := false
  removed   : List Nat := []                 -- UIDs out of the view (R134)
  departed  : List (Nat × Nat) := []         -- departures, (UID, handle), oldest first (R122)
  run       : Nat := 0
  adopted   : Option RunId := none
  upPort    : Port := .fore
  dist      : Nat := 0                       -- DIST to report
  relayed   : List Port := []                -- ports the adopted PROBE went out of
  reports   : List (Port × RepBody) := []    -- leader: reports of the run
  back      : Option Nat := none             -- own PROBE returned, with its hops: a ring
  restarts  : Nat := 0
  resends   : Nat := 0
  sent      : Option Assign := none          -- leader: the ASSIGN of the run, sent
  confirms  : List Nat := []
  parts     : Option Assign := none          -- ASSIGN being assembled
  pending   : Option Assign := none          -- ASSIGN awaiting ACTCYC
  issue     : Option Assign := none          -- leader: ASSIGN repeated every cycle up to ACTCYC
  missed    : Option Assign := none          -- leader: ASSIGN to send once more (R137)
  stale     : Bool := false                  -- own ASSIGN missed
  changes   : List Change := []
  announce  : List Port := []                -- ports on which ANNOUNCE is repeated
  fresh     : List Port := []                -- newly linked ports not yet admitted (R136)
  joins     : List RepBody := []             -- reports of joining nodes held at this end node
  joinPort  : Port := .fore                  -- JOINING: the port of the winning train
  joinTuple : Option RunId := none
  farN      : Nat := 0
  repSrc    : Nat := 0                       -- REPLAN in force: source and requesting handle
  repHandle : Nat := 0
  kinds     : Nat := 0                       -- kinds of the pending ASSIGN
  oldLeader : Nat := 0
  tabRun    : RunId := { cab := 0, rank := 0, luid := 0, run := 0 }   -- the run of the active table
  reorder   : Bool := false                  -- new leader: issue an ASSIGN in its own order (R134)
  broke     : Option Nat := none             -- a ring that opened: the node on the higher side of the lost link, until a table activates
  seen      : List (Nat × Nat) := []         -- (epoch, part) of ASSIGNs acted on (R126)
  active    : Option Assign := none          -- the ASSIGN of the active table (R137)
  owes      : Bool := false                  -- a report of the own state waits until the node is settled (R131, R146)
  yielded   : Bool := false                  -- the own train has yielded: its process data is stopped (R135)
  merging   : Bool := false                  -- the change under way is a merge of two trains (R147)
  etb       : List Nat := []                 -- leader: UIDs reported with ETB set (R145)
  closing   : List Nat := []                 -- leader: ends that report both ports LINKED (Table 6-7, ring closure)
  deriving DecidableEq, Repr

/-- Dawn work that waits for the management processor, oldest first in its list (R138, R366). -/
inductive DawnWork where
  | frame (p : Port) (sub : Nat) (f : Bytes)
  | listen (g : Fin 2) | run (g : Fin 2) | confirm (g : Fin 2) | follow (g : Fin 2) | joining (g : Fin 2)
  | announce (p : Port)
  | found (p : Port) (far : Nat) | lost (p : Port) (far : Nat)
  | replan (g : Fin 2) (src : Nat)
  deriving DecidableEq, Repr

/-- ETB node state, numbered as TOP_ETBSTAT.STATE (Table 6-15). -/
structure Etb where
  st    : Nat := 0
  inaug : Nat := 0
  nodes : Nat := 0
  ownId : Nat := 0
  topo  : Nat := 0
  dir   : List Word := []
  heard : List Bytes := []        -- TTDP frames taken since the last timeout
  deriving DecidableEq, Repr

/-- Time states, numbered as TB_STAT.STATE (Table 7-11). -/
inductive TState where
  | free | acquiring | locked | holdover | master
  deriving DecidableEq, Repr

/-- A Lantern accepted in the present cycle, with what ranks it (R158). -/
structure Acc where
  port    : Port
  winner  : Bool
  pos     : Nat
  steps   : Nat
  hold    : Bool
  muid    : Nat
  deriving DecidableEq, Repr

/-- One 802.1AS port (R173): its sequence numbers and measured peer delay. -/
structure Gptp where
  syncSeq : Nat := 0
  annSeq  : Nat := 0
  pdSeq   : Nat := 0
  pdOut   : Bool := false         -- a Pdelay_Req is waiting for its answer
  delay   : Nat := 0              -- ns, 0 before the first exchange
  deriving DecidableEq, Repr

/-- The time base (chapter 7). Train time at counter value c is `tt + (c - base) * (2^32 + rate / 2^8)`, in 2^-32 ns (R149). -/
structure TimeBase where
  ctr      : Nat := 0
  base     : Nat := 0
  tt       : Int := 0
  rate     : Int := 0             -- TB_RATE, 2^-40
  st       : TState := .free
  up       : Option Port := none
  upLaneB  : Bool := false
  steps    : Nat := 0             -- STEPS sent
  holdcyc  : Nat := 0             -- HOLDCYC sent
  muid     : Nat := 0
  err      : Int := 0             -- e of the last accepted Lantern, 2^-32 ns
  farRatio : Int := 0
  accepted : List Acc := []       -- accepted in this cycle
  followed : Option Acc := none   -- followed in this cycle
  launched : Bool := false        -- own Lantern launched in this cycle
  holdIn   : Bool := false        -- the followed Lantern carried HOLD
  holdRx   : Nat := 0             -- highest HOLDCYC accepted
  ownHold  : Nat := 0             -- own cycles in HOLDOVER
  lost     : Nat := 0             -- consecutive cycles without a good Lantern
  lastGood : Nat := 0             -- MUID of the last Lantern without HOLD
  failed   : List Nat := []       -- masters marked failed (R160)
  clen     : Option Nat := none   -- CLEN of the first Lantern since IDLE, without a committed SCHEDULE (R179)
  lockRun  : Nat := 0             -- Lanterns within 4 ns
  bigRun   : Nat := 0             -- consecutive errors above 100 ns
  yield    : Option Bool := none  -- a master yields at the next cycle start; true: into ACQUIRING
  tableAt  : Option Nat := none   -- counter when a table was first applied since IDLE
  reason   : Option Nat := none   -- reason with which the candidate masters at the next cycle start
  startCyc : Nat := 0
  startOk  : Bool := false        -- STARTCYC known
  startHit : Bool := false        -- the cycle number has reached it
  mismatch : Bool := false        -- CYCLE_MISMATCH standing
  holdSaid : Bool := false        -- HOLD_LIMIT raised
  served   : Option Nat := none   -- latest cycle number served
  gw       : Bool := false        -- the Lantern followed names a segment gateway as master (R163)
  gwOn     : Bool := false         -- segment gateway: mastering in its other segment
  begun    : Option Nat := none    -- cycle number whose start was last taken
  joinStep : Bool := false         -- a node of a yielded train steps at the first Lantern of the winning train that it follows
  ciServed : Option Nat := none   -- latest common instant acted on
  synco    : Bool := false        -- level the node gives SYNCO (R171)
  synciLvl : Bool := false
  synciOvf : Bool := false
  sififo   : List (Bool × Nat) := []   -- SYNCI stamps, oldest first
  taiOfs   : Nat := 0
  taiv     : Bool := false
  gptp     : Vector Gptp 8 := Vector.replicate 8 {}
  deriving DecidableEq, Repr

/-- The configuration the Pilot retains (R329): PWR_WAKECFG, TDROP and the selective-wake registers of each channel. -/
structure WakeCfg where
  wake  : Word := 0xC0000364#32
  tdrop : Nat := 0x0A
  sw    : Vector (List Word) 8 := Vector.replicate 8 [0x20000000#32, 0, 0, 0, 0]
  i1g   : List Port := []           -- ports in I1G: no tone is sent or taken there (R330, R333)
  deriving DecidableEq, Repr

/-- Wake sources (Table 13-2, Table 13-12). -/
structure WakeSrc where
  src    : Nat := 0
  cause  : Nat := 0
  chan   : Nat := 0
  krelay : Nat := 0
  idOk   : Bool := false
  id     : Nat := 0
  deriving DecidableEq, Repr

/-- The Pilot island (R329, R334, R352): what survives EMBER and DOZE. -/
structure Pilot where
  slept     : Bool := false
  cfg       : WakeCfg := {}
  latch     : WakeSrc := {}
  dozes     : Nat := 0              -- PWR_WAKESRC.DOZES
  asleep    : Nat := 0              -- PWR_ASLEEP
  sleptAt   : Nat := 0
  dozeFrom  : Nat := 0              -- time of the last entry to DOZE
  dozeTime  : Nat := 0              -- time spent in DOZE not yet added to OPTIME, ns
  committed : Bool := false         -- DOZE, committed
  entryTone : Bool := false         -- a tone Kindle is being decoded
  entryCan  : BitVec 8 := 0         -- selective-wake channels listening
  relayed   : Bool := false         -- word relayed, listening circuits back at the Ember level
  wakeRun   : Bool := false         -- this core start came from EMBER or DOZE and has not committed
  armed     : Bool := false         -- detectors armed by the commit of a sleep (R345)
  pendTone  : Option Port := none   -- detected between SI and EMBER
  pendPin   : Bool := false
  pendCan   : Option Nat := none
  pendWord  : Option (Port × Bytes) := none
  errs      : Vector Nat 8 := Vector.replicate 8 0   -- selective-wake error counts
  deriving DecidableEq, Repr

/-- Snuffer round and drain state (R339 to R349). -/
structure Snuffer where
  round     : Nat := 0
  ownRound  : Nat := 0              -- the last round this node started
  result    : Nat := 0              -- PWR_STAT.RESULT
  vreason   : Nat := 0
  vcount    : Nat := 0
  vhandle   : Nat := 0
  sleepcyc  : Nat := 0
  init      : Bool := false         -- initiator of the round in progress
  initH     : Nat := 0              -- handle of the round's initiator
  startAt   : Option Nat := none    -- when the first TOKEN was sent
  out       : List Port := []       -- tokens not yet returned
  consent   : Nat := 0              -- CONSENT bits collected, bit h
  voted     : Bool := false         -- holds a vote
  voteRound : Nat := 0
  commit    : Bool := false         -- COMMIT held
  repeatCom : Bool := false         -- initiator: COMMIT repeated every cycle
  rtt       : Nat := 0
  comPend   : Bool := false         -- initiator: COMMIT due at the next permitted start
  pastSi    : Bool := false         -- the node's own SI has passed
  aborted   : Bool := false
  abortAt   : Nat := 0
  toneEnd   : List Port := []       -- ports to repeat the abort tone on
  lastSw    : Vector (Option Nat) 8 := Vector.replicate 8 none   -- time of the last matching frame (reason 3)
  deriving DecidableEq, Repr

/-- A fault queue entry (R357, Table 14-12). -/
structure QEnt where
  unit    : Nat
  repeats : Nat := 0
  code    : Nat := 0
  ret     : Bool := false      -- the test of a return command
  row     : Nat := 0           -- unit 0x30: its SRAM row
  deriving DecidableEq, Repr

/-- One unit (R364, Table 14-12). -/
structure FUnit where
  req    : Nat := 0
  lost   : Bool := false       -- EFF reads FAULT
  held   : Bool := false
  spared : Bool := false
  defer_ : Bool := false
  defCode : Nat := 0           -- code of the error that deferred it
  trans  : List Nat := []      -- OPTIME of the transient outcomes of the last 24 h
  errors : Nat := 0
  dis    : Nat := 0            -- ms for which REQ and EFF have differed
  disT   : Bool := false       -- DISAGREE raised, test pending
  disH   : Bool := false       -- held by a disagreement (R365)
  code   : Nat := 0            -- first detected error of the retirement under way
  deriving DecidableEq, Repr

/-- Fault handler, SRAM spares, management restart and background work (R355 to R368). -/
structure Faults where
  units    : Vector FUnit 50 := Vector.replicate 50 {}
  queue    : List QEnt := []
  test     : Option QEnt := none      -- unit under test
  second   : Bool := false            -- a second error ended the test as lasting (R358)
  lossTest : Bool := false            -- the lane test under way follows a loss of lock
  pdTest   : Bool := false            -- or a PDELAY_RANGE
  tUnc     : Nat := 0                 -- uncorrectable blocks in the window of the lane test
  tCrc     : Nat := 0                 -- HDR_CRC and FRM_CRC in it
  row      : Nat := 0                 -- SRAM row of the last error
  defRows  : List Nat := []           -- deferred SRAM rows, in order
  heldRows : List Nat := []           -- SRAM rows found lasting with no spare left (R362)
  remap    : List Nat := []           -- SRAM rows served by a spare
  corrRows : List (Nat × Nat) := []   -- rows with a corrected error, and its OPTIME
  mgmtDown : Bool := false            -- management processor restarting
  dawn     : List DawnWork := []      -- Dawn work that waits for it (R138)
  restarts : List Nat := []           -- times of restarts within 600 s
  wait     : Nat := 0                 -- present wait before a restart, s
  waiting  : Bool := false
  lastRst  : Nat := 0
  sLine    : Nat := 0                 -- next SRAM scrub line
  sStart   : Nat := 0
  sLate    : Bool := false
  mStep    : Nat := 0                 -- next MRAM scrub address
  mStart   : Nat := 0
  mLate    : Bool := false
  deriving DecidableEq, Repr

/-- Run state of one policy rule (R370). -/
structure RuleSt where
  cond    : Bool := false
  lastAt  : Nat := 0
  since   : Option Nat := none        -- tick from which the LEVEL comparison has held
  samples : List Nat := []            -- newest first
  sampAt  : Nat := 0
  deriving DecidableEq, Repr

/-- The policy engine (R369 to R373). -/
structure Policy where
  tick     : Nat := 0                          -- ticks since the windows restarted
  rules    : List (Nat × RuleSt) := []         -- image rules by number
  house    : List (Nat × RuleSt) := []         -- house rules: 16 h + instance
  nrules   : Nat := 0
  lastRule : Nat := 0
  lastAct  : Nat := 0
  qovr     : Vector (Option Nat) 8 := Vector.replicate 8 none
  deriving DecidableEq, Repr

/-- An event as raised (R377): its values in the order its chapter names them, before they are laid out as bytes. -/
structure Event where
  code   : Nat
  sev    : Nat
  inst   : Nat := 0xFFF
  vals   : List Nat := []
  flags  : Nat := 0
  optime : Nat := 0
  pwrcyc : Nat := 0
  rep    : Nat := 0             -- REPEAT
  deriving DecidableEq, Repr

/-- A record in a slot: its SEQ and the event (Table 15-1). -/
structure Rec where
  seq : Nat
  ev  : Event
  deriving DecidableEq, Repr

/-- The slot a record is being written to: area 0 general, 1 severity 7, 2 SRAM ring, 3 none (R379, R386). -/
structure Slot where
  area : Nat
  idx  : Nat
  rec_ : Rec
  deriving DecidableEq, Repr

/-- A recorder bank (R384, R393, R394): 0 OK, 1 RESYNC, 2 LOST; its records by slot, and its region map. -/
structure Bank where
  st      : Nat := 0
  gen     : List (Nat × Rec) := []      -- general area, slot to record
  sev7    : List (Nat × Rec) := []      -- severity-7 area
  regions : List (Nat × Nat) := []      -- logical region to physical, where not the identity
  writes  : List (Nat × Nat) := []      -- write counts of physical regions
  dead    : List Nat := []              -- physical regions found lasting
  lasting : List Nat := []              -- OPTIME of lasting regions of the last 24 h
  resync  : Option Nat := none          -- logical region being resynchronised
  deriving DecidableEq, Repr

/-- The last-gasp store (Table 15-7). -/
structure LastGasp where
  valid    : Bool := false
  consumed : Bool := false
  optime   : Nat := 0
  pwrcyc   : Nat := 0
  lost     : Nat := 0            -- LOSTCNT
  rec_     : Event := { code := 0, sev := 0 }
  deriving DecidableEq, Repr

/-- One statistic (R380): bins of a histogram, or an extreme. -/
structure Stat where
  bins : List Nat := []
  min  : Nat := 0
  minO : Nat := 0
  minP : Nat := 0
  max  : Nat := 0
  maxO : Nat := 0
  maxP : Nat := 0
  n    : Nat := 0                -- SAMPLES
  last : Option Nat := none      -- last field value, for DELTA
  deriving DecidableEq, Repr

/-- The MRAM and the Pilot's store (R384, R378, R389): what survives power loss. -/
structure Mram where
  bankA   : Bank := {}
  bankB   : Bank := {}
  optime  : Nat := 0
  pwrcyc  : Nat := 0
  gasp    : LastGasp := {}
  stats   : List (Nat × Stat) := []     -- statistics as written: i histogram i, 64 + i extreme i
  defCrc  : List (Nat × Nat) := []      -- CRC of each definition
  spares  : List Nat := []              -- SRAM rows in the sparing map (R362)
  pwrCnt  : List (Nat × Nat) := []      -- PWR_CNT
  seq     : Nat := 0                    -- last SEQ assigned
  torn    : Option Slot := none         -- the slot that reads an odd SEQ: a write in progress (R379)
  deriving DecidableEq, Repr

/-- The recorder's working state (chapter 15). -/
structure Recorder where
  raised   : List Event := []           -- raised, on the way to the FIFO, oldest first
  fifo     : List Event := []           -- staging FIFO, head first
  writing  : Bool := false              -- a record is being written (to the slot mram.torn)
  ovCnt    : Nat := 0                   -- overflow accumulator
  ovSev    : Nat := 0
  ovCode   : Nat := 0
  head     : Nat := 0                   -- REC_HEAD
  ovw      : Nat := 0                   -- REC_OVWCNT
  scanning : Bool := true
  sev7Full : Bool := false
  volatile : Bool := false
  ring     : List (Nat × Rec) := []     -- SRAM ring
  ringN    : Nat := 0                   -- records written to it
  stats    : List (Nat × Stat) := []    -- statistics in SRAM
  gaspRead : LastGasp := {}             -- REC_LG: the store as read at the last start
  chal     : Bytes := []                -- REC_CHAL
  chalOk   : Bool := false
  chalSrc  : Nat := 0
  chalHead : Nat := 0
  scope    : Nat := 0                   -- SCOPE of the request
  resp     : List Word := List.replicate 8 0
  fails    : Nat := 0
  lockout  : Bool := false
  sev5     : Bool := false              -- an event of severity 5 or higher since the last tick (R373)
  lastSev5 : Nat := 0                   -- highest severity raised, for telemetry
  limits   : List (Nat × Nat) := []     -- rate-limited events: 4096 code + instance, time of the window's first
  deriving DecidableEq, Repr

end Sys2Proof.Machine
end

