-- ==== Sys2Proof/Machine/PartsB.lean ====
section
/-! DEFINITION. The parts of the state, second half: schedule and guardian, switch, signals, CAN, host bridge, monitor. -/

namespace Sys2Proof.Machine

/-- One slot of a slot map: segment, lane letter, slot, owning handle, and whether it is a fallback (R200). -/
structure GdEnt where
  seg   : Fin 2 := 0
  laneB : Bool
  slot  : Nat
  owner : Nat
  fb    : Bool
  deriving DecidableEq, Repr

/-- The critical bytes of a primary sent on a port, kept until the end of the static segment (R196). -/
structure Kept where
  port  : Port
  laneB : Bool
  frame : Bytes            -- header and critical payload as sent
  hops  : Nat
  sent  : Nat              -- train time at which its last block left, ns
  deriving DecidableEq, Repr

/-- A fallback frame waiting for its emission time (R195). -/
structure FoldOut where
  lane  : Nat              -- surviving lane
  at_   : Nat              -- T(FB) + k x D, ns into the cycle
  frame : Bytes
  deriving DecidableEq, Repr

/-- A static frame at an output before it starts (R185): its lane, fabric input, release time in train time, ns, and the frame as it leaves.
`fold`: a fallback that the node emits (R195). -/
structure Relay where
  lane  : Fin 4
  inp   : Nat
  req   : Nat
  late  : Nat := 0         -- what it starts later for want of data from a slower lane (R221)
  good  : Bool
  fold  : Bool := false
  frame : Bytes
  deriving DecidableEq, Repr

/-- An edge rejection (R203): source handle, lane letter, slot. -/
structure Rej where
  src   : Nat
  laneB : Bool
  slot  : Nat
  deriving DecidableEq, Repr

/-- A control frame waiting for the control allowance: its frame and the ports it leaves by (R187). -/
structure Ctl where
  frame : Bytes
  fore  : Bool
  aft   : Bool
  after : Nat := 0         -- not to start before this time, ns (R341)
  deriving DecidableEq, Repr

/-- A dynamic frame waiting for admission at an own minislot (R188). Origin: 0 Ethernet, 1 signal, 2 descriptor, 3 bridge,
4 telemetry, 5 monitor. `inp`: the fabric port it comes from; `laneB`: the lane it is admitted on; `tag`: the origin's own reference. -/
structure DynOut where
  origin : Nat
  inp    : Nat := 15
  laneB  : Bool
  cls    : Nat
  kind   : Nat
  dtype  : Nat
  dest   : Bytes
  body   : Bytes
  tag    : Nat := 0
  seg    : Fin 2 := 0
  waited : Bool := false
  deriving DecidableEq, Repr

/-- Published results of the bound check (Table 8-14). -/
structure Bound where
  valid  : Bool := false
  bad    : Bool := false
  arrive : Nat := 0
  qextra : Nat := 0
  dynuse : Nat := 0
  epoch  : Nat := 0
  cond   : Nat := 0
  row    : Nat := 0
  deriving DecidableEq, Repr

/-- The schedule and the guardian (chapter 8). -/
structure Sched where
  plan     : List GdEnt := []         -- the schedule's slot map of the active table
  gdPlan   : List GdEnt := []         -- the guardian's own copy
  tabFault : Bool := false            -- GD_STAT.TABLEFAULT
  clkFault : Bool := false            -- GD_STAT.CLKFAULT
  oscErr   : Int := 0                 -- GD_STAT.OSCERR, 0.01%
  openA    : Option Nat := none       -- slot whose path is open on lane A
  openB    : Option Nat := none
  shutA    : Nat := 0                 -- when the schedule's close request for it comes, ns (R201)
  shutB    : Nat := 0
  fold     : BitVec 4 := 0            -- SCH_STAT.FOLD
  foldEnd  : BitVec 4 := 0            -- lanes back UP at design mode: folding stops at the next cycle start
  kept     : List Kept := []
  foldOut  : List FoldOut := []
  relays   : List Relay := []         -- relayed frames and fallbacks waiting at an output, oldest first (R185, R195)
  outEnd   : Vector Nat 4 := Vector.replicate 4 0   -- train time at which the last static frame or Lantern of each lane has left, ns
  rejrun   : Nat := 0
  gag      : Bool := false
  gagLeft  : Nat := 0                 -- cycles a gagged master waits
  named    : Bool := false            -- a Lantern of this cycle named an own frame
  ownSent  : Bool := false            -- an own frame was sent in this cycle
  ownWas   : Bool := false            -- ... in the cycle before
  rejNow   : List (Port × Rej) := []  -- edge rejections of this cycle
  rejPrev  : List (Port × Rej) := []  -- of the last, carried in this cycle's Lantern
  quota    : Vector Nat 4 := Vector.replicate 4 0   -- quota left in this cycle, by 2 x segment + lane B
  ctlSent  : Nat := 0                 -- control frames started in this cycle
  ctl      : List Ctl := []
  dyn      : List DynOut := []        -- waiting for admission, oldest first
  seen     : List (Nat × Bool) := []  -- rows with a good primary in this cycle, by row and lane B
  got      : List (Nat × Bool) := []  -- rows with any accepted process or null frame
  nullRx   : List (Nat × Bool) := []
  bound    : Bound := {}
  qmeas    : Nat := 0
  inStatic : Bool := true             -- the static segment of the cycle is under way
  mini     : Nat := 0                 -- minislot under way
  miniNext : Nat := 0                 -- first minislot not yet taken in the cycle last served (R170)
  slotDone : List (Fin 2 × Bool) := []  -- own slots opened in the cycle last served, by segment and lane B (R170)
  shortSaid : List (Fin 2) := []      -- segments with ROW_SHORT raised since activation
  deriving DecidableEq, Repr

end Sys2Proof.Machine
end

