-- ==== Sys2Proof/Machine/PartsC.lean ====
section
/-! DEFINITION. The parts of the state, third part: switch, signal store, CAN channels and the Lamplighter, host bridge,
monitor and telemetry (chapters 9 to 12 and 16). -/

namespace Sys2Proof.Machine

/-! ### Switch (chapter 9) -/

/-- A frame in an output queue (R218, R226): a native frame, or an Ethernet frame from destination address to FCS. -/
structure QFrame where
  frame : Bytes
  eth   : Bool          -- an Ethernet frame
  cls   : Nat
  slot  : Nat           -- its minislot: the order within a class (R189)
  inp   : Nat           -- the fabric port it entered by
  since : Nat           -- ingress or admission time, ns (R226)
  copy  : Bool := false -- a mirror copy (R230)
  id    : Nat := 0      -- identity of the frame; of a copy, the frame it copies
  deriving DecidableEq, Repr

/-- One fabric port as an output. `hst`: SW_PSTATp.HSTATE, 0 UP, 1 HOLD, 2 DOWN, 3 DISABLED (Table 9-9). -/
structure SwPort where
  hst  : Nat := 3
  q    : List QFrame := []
  xoff : BitVec 8 := 0      -- XOFF_TX
  peak : Nat := 0           -- PEAK, in 64-byte cells
  busy : Nat := 0           -- time at which the frame leaving now ends, ns
  held : Nat := 0           -- time at which its hold began, ns (R228)
  deriving DecidableEq, Repr

/-- Pause on one lane (R225): classes paused by the far end, the mask last sent, and whether a change waits. -/
structure Pause where
  rx  : BitVec 8 := 0
  tx  : BitVec 8 := 0
  due : Bool := false
  seq : Nat := 0
  deriving DecidableEq, Repr

/-- An entry of the forwarding database (R213, Table 9-11). -/
structure FdbEnt where
  mac    : Nat
  vid    : Nat
  stat   : Bool
  remote : Bool
  seg    : Bool
  target : Nat
  seen   : Nat              -- time of the last traffic, ns
  deriving DecidableEq, Repr

/-- A frame on its way from an input through the crossbar (R216, R217): `cells` are still to move to every output of `outs`; its head cell
is still requested for the outputs of `want`. Of an input's cells the first 8 stand in the input, the rest behind it at their source. -/
structure FabJob where
  id    : Nat
  stat  : Bool
  cls   : Nat
  cells : Nat
  outs  : List Nat
  want  : List Nat
  deriving DecidableEq, Repr

/-- The crossbar (R216, R217). -/
structure Fabric where
  ins  : List (Nat × List FabJob) := []   -- the frames of each input, head first
  cont : List (Nat × Nat) := []           -- output to the frame started to it
  gptr : List (Nat × Nat) := []           -- grant pointer of an output, 0 where not listed
  aptr : List (Nat × Nat) := []           -- accept pointer of an input
  cur  : Nat := 0                         -- identity of the frame now taken in
  deriving DecidableEq, Repr

/-- The switch core. -/
structure Switch where
  ports : Vector SwPort 20 := Vector.replicate 20 {}
  pause : Vector Pause 4 := Vector.replicate 4 {}
  fdb   : List (Nat × FdbEnt) := []      -- by 4 x set + way
  mirN  : Vector Nat 4 := Vector.replicate 4 0   -- frames matched since enable, per mirror session
  fab   : Fabric := {}
  kept  : List (Nat × QFrame) := []      -- frames an internal port keeps for want of credit, with their output (R224)
  deriving DecidableEq, Repr

/-! ### Signals (chapter 10) -/

/-- One entry of the published snapshot (Table 10-7). -/
structure SgEnt where
  val  : Nat := 0
  st   : Nat := 0           -- state code of Table 10-4
  age  : Nat := 255
  dup  : Bool := false
  fold : Bool := false
  dyn  : Bool := false
  sid  : Nat := 0
  deriving DecidableEq, Repr

/-- What the back buffer holds for one entry since the last flip: the value written, and V of the last field (R237, R245). -/
structure SgBack where
  val  : Option Nat := none
  v    : Option Bool := none
  fold : Bool := false
  dyn  : Bool := false
  deriving DecidableEq, Repr

/-- The RX mappings of one accepted CAN frame, one write group (R237, R252): records still to run and values extracted. -/
structure GwJob where
  chan  : Nat
  data  : Bytes
  stamp : Nat
  todo  : List Nat
  done  : List (Nat × Nat) := []
  deriving DecidableEq, Repr

/-- The signal store and the gateway. -/
structure Signals where
  snap     : List (Nat × SgEnt) := []
  back     : List (Nat × SgBack) := []
  bind     : List (Nat × Nat) := []        -- entry to SID, in force for frames (R246)
  rebind   : Bool := false                 -- a binding waits for its instant
  seq      : Nat := 0                      -- SG_SEQ
  staged   : List (Nat × Nat × Word) := [] -- staged host words: entry, half, word
  ovf      : Bool := false
  hostSet  : List Nat := []                -- HOST entries a commit has written
  canSeen  : List (Nat × Nat) := []        -- CAN entry to the stamp of its last frame
  disabled : List Nat := []                -- own entries withdrawn (R249)
  desc     : List (Nat × Nat) := []        -- 256 x segment + handle to its last descriptor (R247)
  descNew  : Bool := false                 -- a descriptor changed since the last flip
  bindReq  : Bool := false                 -- a binding is due at the next cycle start
  pubs     : List (Nat × Nat) := []        -- group-origin SIDs received in the binding cycle, with the handle
  bindCyc  : Bool := false                 -- the present cycle is a binding cycle
  dynDue   : List Nat := []                -- layout records due in a dynamic signal frame (R244)
  dynAt    : List (Nat × Nat) := []        -- record to the cycle of its last admission
  descDue  : List (Fin 2) := []            -- segments in which the descriptor frame is due (R242)
  descAt   : Vector Nat 2 := Vector.replicate 2 0   -- cycle in which it last became due
  actDesc  : List (Fin 2) := []            -- segments with an activation since the last flip
  noDesc   : List (Fin 2) := []            -- segments with NO_DESCRIPTOR raised since activation
  jobs     : List GwJob := []              -- gateway work, oldest first
  gwLate   : Option (Nat × List ((Fin 8 × Nat) × Bool)) := none   -- TX objects that fired while the gateway's context is rebuilt: cycle, and each with or without a change
  txLast   : List (Nat × Nat) := []        -- last value written per TX record (R253)
  txAt     : List (Nat × Nat) := []        -- cycle of the last transmission caused by change
  epoch    : Nat := 0                      -- SG_BIND.EPOCH
  unbound  : Nat := 0                      -- SG_BIND.UNBOUND
  dupSid   : Nat := 0
  dupKept  : Nat := 0
  dupDrop  : Nat := 0
  dupSaid  : List Nat := []                -- entries for which DUP_SEEN was raised since the binding
  dupFrom  : List (Nat × Nat) := []        -- entry to the lowest handle seen publishing its SID since the binding
  deriving DecidableEq, Repr

/-! ### CAN (chapter 11) -/

/-- An object buffer (Table 11-5). -/
structure OBuf where
  full  : Bool := false
  rtr   : Bool := false
  esi   : Bool := false
  ide   : Bool := false
  fdf   : Bool := false
  brs   : Bool := false
  dlc   : Nat := 0
  id    : Nat := 0
  stamp : Nat := 0
  data  : Bytes := []        -- bytes beyond the end read zero
  deriving DecidableEq, Repr

/-- A message object (Table 11-4): OCFG, OID, OMASK and the status fields of OSTAT. -/
structure CObj where
  cfg    : Word := 0
  oid    : Word := 0
  omask  : Word := 0
  st     : Nat := 0
  coll   : Nat := 0
  follow : Bool := false
  staged : Bool := false     -- a STAGE waits for the frame on the bus
  cancel : Bool := false     -- a cancel came too late (R281)
  ovr    : Bool := false
  pbuf   : Bool := false
  b0     : OBuf := {}
  b1     : OBuf := {}
  deriving DecidableEq, Repr

/-- A frame completion waiting for a visit (R286). -/
structure CanDone where
  frame : CanFrame
  own   : Bool
  obj   : Nat
  fin   : Nat := 0     -- status of an own object not yet written: 3 sent, else its final status; 0 where none waits (R289)
  deriving DecidableEq, Repr

/-- A CAN channel (R268, R284). `st` is CANn_STAT.STATE. -/
structure Chan where
  st      : Nat := 0
  tec     : Nat := 0
  rec_    : Nat := 0
  recov   : Nat := 0
  recSrc  : Nat := 0                       -- source of the recovery command in progress
  fifo    : List (Nat × Nat) := []         -- commands waiting: code, object (R276)
  done    : List CanDone := []
  objs    : List (Nat × CObj) := []
  active  : Option Nat := none             -- object on the bus
  q       : List (Nat × List Word) := []   -- receive-all queue, by index modulo 1,024
  qwr     : Nat := 0
  qrd     : Nat := 0
  qovf    : Bool := false
  seq     : Nat := 0
  lastErr : Word := 0
  tdcv    : Nat := 0
  stop    : Bool := false                  -- goes OFF at the end of the frame on its bus (R87)
  pex     : Bool := false                  -- after a protocol exception: waits for 11 recessive bits (R272)
  ctxAt   : Option Nat := none             -- train time of a context fault: the frame on its way then is lost (R289)
  deriving DecidableEq, Repr

/-- The Lamplighter: spare contexts, users on one, users idle, the last borrower 0 gateway, 1 bridge, 2 recorder (R287, R289). -/
structure Lamp where
  slot   : Nat := 31                       -- slot of the rotation being visited (Table 1-6)
  spares : Nat := 4
  map    : BitVec 11 := 0
  idle   : BitVec 11 := 0
  last   : Nat := 2
  dead   : BitVec 11 := 0                  -- users without a context left
  need   : BitVec 11 := 0                  -- users being rebuilt in a spare
  deriving DecidableEq, Repr

/-! ### Host bridge (chapter 12) -/

/-- A remote transaction that holds a tag (R310). Kinds: 0 read, 1 non-posted write, 2 lock. -/
structure Tag where
  kind   : Nat
  win    : Nat
  addr   : Nat               -- host address
  be     : Nat
  data   : Word
  handle : Nat               -- target
  tseq   : Nat
  answer : Option (Nat × Word) := none   -- code and data, waiting for the host
  held   : Bool := false     -- the host's access is held on it
  deriving DecidableEq, Repr

/-- A request being served at this node (R305, R322). -/
structure HbReq where
  bop   : Nat
  src   : Nat
  smac  : Nat
  win   : Nat
  space : Nat
  tseq  : Nat
  tag   : Nat
  addr  : Nat
  be    : Nat
  order : Nat
  data  : Bytes
  beat  : Nat := 0           -- master accesses completed
  lock  : Bool := false      -- LOCKSEQ
  deriving DecidableEq, Repr

/-- An entry of the late-error log (Table 12-18). -/
structure LateEnt where
  code   : Nat
  win    : Nat
  tseq   : Nat
  handle : Nat
  off    : Nat
  stamp  : Nat
  deriving DecidableEq, Repr

/-- A remote window's run state (Table 12-17). -/
structure WinSt where
  handle  : Nat := 0         -- resolved target, 0 none
  poison  : Bool := false
  late    : Nat := 0
  deriving DecidableEq, Repr

/-- A host access that is held on LBUS (R308, R318, R321). -/
structure Held where
  addr : Nat
  be   : Nat
  data : Word
  lock : Bool
  deriving DecidableEq, Repr

/-- The host bridge. -/
structure Bridge where
  wins    : Vector WinSt 16 := Vector.replicate 16 {}
  tags    : List (Nat × Tag) := []
  tseq    : List (Nat × Nat) := []                    -- target handle to its next TSEQ
  firsts  : List Nat := []                            -- targets already sent a request since reset or rebinding
  sent    : List (Nat × Nat × Nat × Nat) := []        -- target, TSEQ, window, offset of requests, newest first
  applied : List (Nat × Nat) := []                    -- initiator handle to the last TSEQ applied
  inq     : List HbReq := []                          -- incoming MBX and far-bus requests, head first
  log     : List LateEnt := []                        -- oldest first
  logOvf  : Bool := false
  logSaid : Bool := false
  istat   : Nat := 0                                  -- HB_ISTAT bits 4 to 1
  lastErr : Word := 0
  rirq    : Word := 0
  rirqSrc : List (Nat × Nat) := []
  sems    : Vector Nat 32 := Vector.replicate 32 0    -- OWNER
  semSeg  : List (Nat × Nat × Nat) := []              -- semaphore to its holder's window and TSEQ of the LOCK
  held    : Option Held := none
  locked  : Option Nat := none                        -- window of the lock held
  lockWin : Option Nat := none                        -- window of a lock asked for
  denies  : Nat := 0
  bus     : Bool := false                             -- LBR# low
  owns    : Bool := false                             -- the bridge owns LBUS
  gone    : Bool := false                             -- LBG# removed: release after the access under way
  acc     : Bool := false                             -- a master access is under way
  far     : Option HbReq := none                      -- the far-bus lock granted or waiting for the grant
  farOn   : Bool := false
  deriving DecidableEq, Repr

/-! ### Monitor and telemetry (chapter 16) -/

/-- One monitor session: level 0 none, 1 VIEW, 2 SERVICE, and its challenge (R401). -/
structure Sess where
  level   : Nat := 1
  chal    : Option Bytes := none
  deriving DecidableEq, Repr

/-- A remote session served or opened: the other node's segment, handle and UID (R405, R406). -/
structure Far where
  seg    : Fin 2
  handle : Nat
  uid    : Nat
  deriving DecidableEq, Repr

/-- An image being programmed (R404). -/
structure Prog where
  len  : Nat
  data : Bytes
  next : Nat
  deriving DecidableEq, Repr

/-- A command line in the UART's buffer, with its characters (R400). -/
structure HeldLine where
  chars   : Nat
  wakeLow : Bool
  cmd     : MonCmd
  deriving DecidableEq, Repr

/-- The monitor. -/
structure Monitor where
  ses     : Sess := {}
  rem     : Sess := { level := 0 }
  fails   : Nat := 0                    -- consecutive wrong responses to `unlock`
  lockEnd : Option Nat := none          -- time at which the lockout ends, ns
  opening : Bool := false               -- OPEN sent and not yet answered
  served  : Option Far := none
  mseqIn  : Nat := 0                    -- MSEQ of the request being answered
  opened  : Option Far := none
  mseq    : Nat := 0
  waiting : Bool := false               -- a remote command has no LAST frame yet
  prog    : Option Prog := none
  inbuf   : List HeldLine := []         -- lines that wait while a command runs, 256 bytes in all (R400)
  coll    : Nat := 0                    -- resolved collector, 0 none
  telSel  : Option Nat := none          -- telemetry request waiting, with its selector
  telSeq  : Nat := 0
  telEvs  : List Rec := []              -- records written since the previous telemetry frame, newest first
  files   : List (Nat × Bytes × Nat) := []   -- handle to its newest telemetry payload and arrival time
  baud    : Nat := 0
  deriving DecidableEq, Repr

end Sys2Proof.Machine
end

