-- ==== Sys2Proof/Machine/State.lean ====
section
/-! DEFINITION. The whole state of the node, the outcomes other than a next state, and the state after reset. -/

namespace Sys2Proof.Machine

/-- Why a step stops with a fault. No command does: an event whose state does not hold changes nothing, and an access to
an unassigned offset reads zero (R13), so none is raised. Safe. -/
inductive Fault where
  /-- Raised by nothing: kept so that the type has a value. Safe. -/
  | none
  deriving DecidableEq, Repr

/-- Why a step is refused. -/
inductive Refusal where
  /-- The command of this mnemonic has no meaning yet; raised by an arm of `exec` only. Safe. -/
  | notModelled (mnemonic : String)
  deriving DecidableEq, Repr

/-- What an observer outside the sequencers sees leave the node or one of its internal ports. -/
inductive Out where
  | native (lane : Nat) (f : Bytes)                      -- a native frame on a lane (R110)
  | link (lane : Nat) (m : Bytes)                        -- a link message on a lane (R101)
  | tone (p : Port) (cells : List Nat)                   -- a tone Kindle on both lanes of a port: tone in each bit cell, ns (R331, R332)
  | eth (port : Nat) (f : Bytes)                         -- an Ethernet frame on a local port or I1G lane
  | deliver (port : Nat) (f : Bytes)                     -- a native frame handed to an internal port (Table 9-1)
  | can (c : Nat) (f : CanFrame)                         -- start of frame of a CAN frame
  | nvm (op addr len : Nat) (d : Bytes)                  -- an NVM command (Table 4-2, R404)
  | line (s : Ses) (kind : String) (vals : List Nat)     -- a monitor output line (R400)
  | access (err : Nat) (data : Word)                     -- end of a host access: 0 normal, else the error code (R312)
  | spi (code words : Nat) (data : Word)                    -- the status of an SPI target frame (Table 12-4)
  | tdo (bits : List Bool)                               -- bits shifted out of the boundary-scan port, first bit first (R44)
  | master (write : Bool) (addr : Nat) (be : BitVec 4) (v : Word)   -- an access the node makes as LBUS master (R298)
  deriving DecidableEq, Repr

/-- The balls whose level the state fixes between commands (Tables 2-7 and 2-8, R31, R35, R46, R56, R171, R422); none: high impedance. -/
structure Pins where
  irqLow : Bool := false                 -- IRQ# driven low, else released
  synco  : Option Bool := some false
  lfOn   : Bool := false
  v3p3   : Bool := false
  nsck   : Option Bool := some false
  ncs    : Option Bool := some true      -- NCS#: low while a read of the NVM is under way
  mtx    : Option Bool := none           -- an input until the strap has latched
  tdo    : Option Bool := none           -- driven only while a scan shifts
  lbr    : Option Bool := none           -- LBR#
  ends   : Option Bool := none           -- LRDY#, LERR# and LRTY#: driven only within an access
  master : Bool := false                 -- LA, LBE#, LWR# and LRD# driven: the bridge owns LBUS
  sio    : Option Bool := none           -- SIO: driven only within a frame
  deriving DecidableEq, Repr

/-- The OTP key slots: image, monitor and recorder clear keys, blank as shipped (R80, R391, R402). -/
structure Otp where
  img : Option Bytes := none
  mon : Option Bytes := none
  clr : Option Bytes := none
  deriving DecidableEq, Repr

/-- The node. -/
structure State where
  now     : Nat := 0                              -- ns since power was applied
  free    : Nat := 0                              -- free values taken so far: the model's own
  uid     : Nat := Config.uid.toNat
  otp     : Otp := {}
  regs    : List (Nat × Word) := []               -- registers written or counted, where not at reset value
  latHost : List (Nat × Word) := []               -- latched read windows of each requester (R417)
  latMon  : List (Nat × Word) := []
  latFar  : List (Nat × Word) := []
  tables  : List (Nat × Bytes) := []              -- image tables, by 65536 * section type + identifier
  line    : Line := {}
  boot    : Boot := {}
  tap     : Nat := 1                              -- boundary-scan instruction in force (R44)
  bcells  : BitVec 240 := 0                       -- update stage of the 240 boundary cells (Table 2-12)
  lanes   : Vector Lane 4 := Vector.replicate 4 {}
  inaug   : Vector Inaug 2 := Vector.replicate 2 {}
  etb     : Etb := {}
  tb      : TimeBase := {}
  sch     : Sched := {}
  sw      : Switch := {}
  sg      : Signals := {}
  can     : Vector Chan 8 := Vector.replicate 8 {}
  lamp    : Lamp := {}
  hb      : Bridge := {}
  mon     : Monitor := {}
  pilot   : Pilot := {}
  snuf    : Snuffer := {}
  flt     : Faults := {}
  pol     : Policy := {}
  mram    : Mram := {}
  log     : Recorder := {}
  pins    : Pins := {}
  out     : List Out := []                        -- newest first
  pending : List Instr := []                      -- commands waiting, first in first out
  deriving DecidableEq, Repr

/-- The machine right after reset: power applied, the power-on reset of Table 3-17 under way, every register at its reset
value, memory of the recorder empty, no command waiting. DESIGN CHOICE (log 5). DESIGN CHOICE (log 6). -/
def State.reset : State := {}

end Sys2Proof.Machine
end

