-- ==== Sys2Proof/Machine/Ops.lean ====
section
/-! DEFINITION. The operations every chapter shares: registers and counters, free values, events, output, the states of
ports and of the node, and what follows every command (interrupt bits and derived balls). -/

namespace Sys2Proof.Machine

/-! ### Registers -/

/-- The fields of a register, none where no register is assigned (R414, Table 17-9). -/
def desc (off : Nat) : Option Desc :=
  match off / 0x1000 with
  | 0x0 => descGlobal off
  | 0x1 => descLanes off
  | 0x2 => descTopology off
  | 0x3 => descTime off
  | 0x4 => descSchedule off
  | 0x5 => descSwitch off
  | 0x6 => descSignals off
  | 0x7 => descCan off
  | 0x8 => descCan off
  | 0x9 => descBridge off
  | 0xA => descPower off
  | 0xB => descFault off
  | 0xC => descRecorder off
  | 0xD => descMonitor off
  | 0xE => descLocal off
  | _ => none

/-- The reset word of a stored register. -/
def regReset (off : Nat) : Word := BitVec.ofNat 32 ((desc off).map Desc.reset |>.getD 0)

/-- The stored word of a register: RW and RWL fields, W1C bits and counters. -/
def reg (s : State) (off : Nat) : Word := (mget s.regs off).getD (regReset off)

/-- Bits [hi:lo] of a stored register. -/
def regF (s : State) (off hi lo : Nat) : Nat := fld (reg s off) hi lo

/-- Bit `i` of a stored register. -/
def regB (s : State) (off i : Nat) : Bool := bitAt (reg s off) i

/-- Sets the stored word; a word equal to the reset word is not listed. -/
def setReg (s : State) (off : Nat) (v : Word) : State :=
  { s with regs := if v = regReset off then mdel s.regs off else mput s.regs off v }

/-- Adds to a counter that saturates at 0xFFFF_FFFF (Table 5-16 and the other counter tables). -/
def bumpBy (s : State) (off n : Nat) : State :=
  setReg s off (BitVec.ofNat 32 (min 0xFFFFFFFF ((reg s off).toNat + n)))

/-- Adds 1 to a saturating counter. -/
def bump (s : State) (off : Nat) : State := bumpBy s off 1

/-- PWR_CNT counters live in the retained MRAM area (R353). -/
def bumpPwr (s : State) (i : Nat) : State :=
  { s with mram := { s.mram with pwrCnt := mput s.mram.pwrCnt i (min 0xFFFFFFFF ((mget s.mram.pwrCnt i).getD 0 + 1)) } }

/-! ### Free values and output -/

/-- Takes the next free value. -/
def takeFree (s : State) : State := { s with free := s.free + 1 }

/-- Something leaves the node. DESIGN CHOICE (log 102). -/
def emit (s : State) (o : Out) : State := { s with out := o :: s.out }

/-- `n` random bytes (R391, R401). -/
def randomBytes (s : State) (n : Nat) : Bytes := (List.range n).map (fun i => Config.randomByte (1024 * s.free + i))

/-! ### Node and phase -/

/-- The core runs with internal reset released. -/
def coreRun (s : State) : Bool := s.line.core && s.boot.phase != .reset

/-- The configuration is committed and stands (phases COMMITTED, SWITCH_VERIFY and SWITCH_LOAD of Table 4-1). -/
def committed (s : State) : Bool :=
  s.line.core && (s.boot.phase == .committed || s.boot.phase == .switchVerify || s.boot.phase == .switchLoad)

/-- The non-backbone blocks run: committed, and not stopped by a profile switch (Table 4-10). -/
def service (s : State) : Bool :=
  s.line.core && (s.boot.phase == .committed || s.boot.phase == .switchVerify)

/-- EXTEST, HIGHZ or CLAMP is in the instruction register (R46). -/
def bscan (s : State) : Bool := s.tap == 0 || s.tap == 3 || s.tap == 4

/-- The node's own sleep instant has passed (R346). -/
def asleepSoon (s : State) : Bool := s.snuf.pastSi

/-- Unit: milliseconds in ns. -/
def ms (n : Nat) : Nat := n * 1000000

/-! ### Events -/

/-- The FLAGS an event takes when raised: PRECOMMIT before the first commit since the core started (Table 15-1). -/
def eventFlags (s : State) : Nat := if s.boot.everRun then 0 else 8

/-- An event with its stamps (R377, R378). -/
def mkEvent (s : State) (code sev inst : Nat) (vals : List Nat) : Event :=
  { code := code, sev := sev, inst := inst, vals := vals, flags := eventFlags s, optime := s.mram.optime, pwrcyc := s.mram.pwrcyc }

/-- Hands an event to the recorder's intake; nothing is recorded while the core is off or in reset (R388). -/
def raiseEv (s : State) (e : Event) : State :=
  if coreRun s then
    { s with log := { s.log with raised := s.log.raised ++ [e], sev5 := s.log.sev5 || decide (5 ≤ e.sev), lastSev5 := max s.log.lastSev5 e.sev } }
  else s

/-- Raises an event: code, severity, instance, payload values. DEDUCED (log 9). -/
def raise (s : State) (code sev inst : Nat) (vals : List Nat) : State :=
  if coreRun s then raiseEv (bump s 0xC180) (mkEvent s code sev inst vals) else s

/-- Raises an event at most once in `win` ns for one code and instance; the window opens with the event raised. DEDUCED (log 10). -/
def raiseLim (s : State) (win code sev inst : Nat) (vals : List Nat) : State :=
  match mget s.log.limits (4096 * code + inst) with
  | some t => if s.now < t + win then s else
      raise { s with log := { s.log with limits := mput s.log.limits (4096 * code + inst) s.now } } code sev inst vals
  | none => raise { s with log := { s.log with limits := mput s.log.limits (4096 * code + inst) s.now } } code sev inst vals

/-- An event at most once in `win` ns on the whole node, whatever its instance. -/
def raiseOnce (s : State) (win code sev inst : Nat) (vals : List Nat) : State :=
  let go := raise { s with log := { s.log with limits := mput s.log.limits (4096 * code + 0xFFF) s.now } } code sev inst vals
  match mget s.log.limits (4096 * code + 0xFFF) with
  | some t => if s.now < t + win then s else go
  | none => go

/-- The severity-6 clear record of R119: the bits written and the source. -/
def clearRecord (s : State) (code bits src : Nat) : State := raise s code 6 0xFFF [bits, src]

/-- The source code of a requester (Table 0-7). -/
def srcCode : Req → Nat
  | .monitor => 1
  | .host => 3
  | .far => 4

/-! ### Ports and lanes -/

/-- The number of a port: 0 fore, 1 aft (R16). -/
def portNo : Port → Nat
  | .fore => 0
  | .aft => 1

/-- The other port. -/
def otherPort : Port → Port
  | .fore => .aft
  | .aft => .fore

/-- The port of a lane: lanes 0 and 1 fore, lanes 2 and 3 aft (R16). -/
def portOf (l : Fin 4) : Port := if l.val < 2 then .fore else .aft

/-- Lane A of a port. -/
def laneA : Port → Fin 4
  | .fore => 0
  | .aft => 2

/-- Lane B of a port. -/
def laneB : Port → Fin 4
  | .fore => 1
  | .aft => 3

/-- The other lane of the same port. -/
def sisterLane (l : Fin 4) : Fin 4 := if l.val % 2 = 0 then (if l.val = 0 then 1 else 3) else (if l.val = 1 then 0 else 2)

/-- BBn_CFG of a lane. -/
def laneCfg (s : State) (l : Fin 4) : Word := reg s (0x1100 + 0x100 * l.val)

/-- The thresholds of a lane, BBn_THR: the defaults until commit (R94). -/
def laneThr (s : State) (l : Fin 4) : Word := if committed s then reg s (0x110C + 0x100 * l.val) else regReset (0x110C + 0x100 * l.val)

/-- The lane is configured for I1G (R115). -/
def laneI1g (s : State) (l : Fin 4) : Bool := bitAt (laneCfg s l) 0 && fld (laneCfg s l) 3 1 == 4 && committed s

/-- The port is in I1G (R115): its lane A. -/
def portI1g (s : State) (p : Port) : Bool := laneI1g s (laneA p)

/-- The lane is UP. -/
def laneUp (s : State) (l : Fin 4) : Bool := s.lanes[l].st == .up

/-- Any lane of the port is UP. -/
def portAnyUp (s : State) (p : Port) : Bool := laneUp s (laneA p) || laneUp s (laneB p)

/-- The port is LINKED: at least one lane UP, and not in I1G (R108). -/
def portLinked (s : State) (p : Port) : Bool := !portI1g s p && portAnyUp s p

/-- BB_PORTSTAT code of a port (Table 5-17). -/
def portStat (s : State) (p : Port) : Nat := if portI1g s p then 2 else if portLinked s p then 1 else 0

/-- Counter `i` of a lane. -/
def bumpLane (s : State) (l : Fin 4) (i : Nat) : State := bump s (0x1120 + 0x100 * l.val + 4 * i)

/-- Updates one lane. -/
def setLane (s : State) (l : Fin 4) (f : Lane → Lane) : State := { s with lanes := s.lanes.set l (f s.lanes[l]) }

/-- The highest native mode in a mode set of BBn_CFG or a link message: 1 N10, 2 N2G5, 0 none. -/
def highestMode (modes : Nat) : Nat := if modes % 2 = 1 then 1 else if modes / 2 % 2 = 1 then 2 else 0

/-- The native modes a lane sends in its link messages (R94, R100): before commit and in REPEATER both. -/
def laneModes (s : State) (l : Fin 4) : Nat :=
  let m := if committed s then fld (laneCfg s l) 3 1 % 4 else 3
  if s.lanes[l].n10Off && m == 3 && (s.lanes[l].farModes / 2 % 2 == 1) then 2 else m

/-- The lane's design mode: SCH_LANEA.DMODE or SCH_LANEB.DMODE of its letter, 1 N10, 2 N2G5 (R178, Table 8-11); 3 in I1G. -/
def designMode (s : State) (l : Fin 4) : Nat :=
  if laneI1g s l then 3 else fld (reg s (if l.val % 2 = 0 then 0x4004 else 0x4008)) 29 28

/-- The lane is UP at its design mode or above it (R185, R195, R361): N10 is the higher of the native modes. -/
def upAtDesign (s : State) (l : Fin 4) : Bool :=
  laneUp s l && decide (1 ≤ s.lanes[l].mode) && decide (s.lanes[l].mode ≤ designMode s l)

/-! ### The own place in the train -/

/-- The own entry of an inauguration function's active table. -/
def ownEnt (s : State) (g : Fin 2) : Option TopoEnt := s.inaug[g].table.find? (fun e => e.uid == s.uid)

/-- The own handle in a segment, 0 for none. -/
def ownHandle (s : State) (g : Fin 2) : Nat := ((ownEnt s g).map TopoEnt.handle).getD 0

/-- The own position in a segment, 0 for none. -/
def ownPos (s : State) (g : Fin 2) : Nat :=
  match s.inaug[g].table.findIdx? (fun e => e.uid == s.uid) with
  | some i => i + 1
  | none => 0

/-- The node is a segment gateway (R143). -/
def segGw (s : State) : Bool := committed s && regB s 0x2000 9

/-- The segment a port belongs to (R143). -/
def segOf (s : State) (p : Port) : Fin 2 := if segGw s && p == .aft then 1 else 0

/-- Raises an event of a segment: the record of one of the aft segment has SEG set (Table 15-1). -/
def raiseSeg (s : State) (g : Fin 2) (code sev inst : Nat) (vals : List Nat) : State :=
  let e := mkEvent s code sev inst vals
  if coreRun s then raiseEv (bump s 0xC180) { e with flags := e.flags + 16 * g.val } else s

/-- Updates one inauguration function. -/
def setInaug (s : State) (g : Fin 2) (f : Inaug → Inaug) : State := { s with inaug := s.inaug.set g (f s.inaug[g]) }

/-- The port is on the seam. -/
def portSeam (s : State) (p : Port) : Bool := s.lanes[laneA p].seam || s.lanes[laneB p].seam

/-! ### Line feed -/

/-- The mode of a pair as PWR_LFCTL sets it: 0 OFF, 1 FEED, 2 RELAY (Table 3-5). -/
def pairMode (w : Word) (p : Nat) : Nat := let m := fld w (2 * p + 1) (2 * p); if m = 3 then 0 else m

/-- PWR_LFCTL. -/
def lfctl (s : State) : Word := reg s 0xA100

/-- Updates one pair. -/
def setPair (s : State) (p : Fin 4) (f : Pair → Pair) : State :=
  { s with line := { s.line with pairs := s.line.pairs.set p (f s.line.pairs[p]) } }

/-- LF_ON (R56): any pair in FEED, and throughout EMBER and DOZE with BIAS_EN; low in OFF. DEDUCED (log 15). -/
def lfOnRule (s : State) : Bool :=
  s.line.node != .off &&
  ((List.range 4).any (fun p => pairMode (lfctl s) p == 1) || (bitAt (lfctl s) 16 && (s.line.node == .ember || s.line.node == .doze)))

/-- V3P3OUT (Table 2-8): in STARTUP after internal reset release, REPEATER, RUN and DRAIN, unless shed (R48). -/
def v3p3Rule (s : State) : Bool := coreRun s && !s.line.shed

end Sys2Proof.Machine
end

