-- ==== Sys2Proof/Machine/LogOps.lean ====
section
/-! DEFINITION. The recorder's slots and banks: the order of records, the choice of a slot, the start of a write, the
last-gasp store, and the loss of a bank (R379, R383 to R386, R389, R394, R395). -/

namespace Sys2Proof.Machine

/-- Record `a` is older than `b` when the difference of their SEQ, modulo 2^32, lies from 1 to 2^31 - 1 (R379). -/
def older (a b : Rec) : Bool := decide (1 ≤ (b.seq + 2 ^ 32 - a.seq) % 2 ^ 32) && decide ((b.seq + 2 ^ 32 - a.seq) % 2 ^ 32 < 2 ^ 31)

/-- The lowest slot from `k` on that is free (structural on the number of slots left). -/
def freeSlot (m : List (Nat × Rec)) : (left k : Nat) → Option Nat
  | 0, _ => none
  | n + 1, k => if (mget m k).isSome then freeSlot m n (k + 1) else some k

/-- The oldest record of severity `sev` or lower and not 7 (R386). -/
def oldestAtMost (m : List (Nat × Rec)) (sev : Nat) : Option (Nat × Rec) :=
  m.foldl (fun best e =>
    if e.2.ev.sev ≤ sev ∧ e.2.ev.sev ≠ 7 then
      match best with
      | none => some e
      | some b => if older e.2 b.2 then some e else some b
    else best) none

/-- The slot for a record of severity `sev` in an area of `n` slots: a free one, else the oldest it may overwrite (R386). -/
def pickSlot (m : List (Nat × Rec)) (n sev : Nat) : Option (Nat × Bool) :=
  if m.length < n then (freeSlot m n 0).map (fun k => (k, false))
  else (oldestAtMost m sev).map (fun e => (e.1, true))

/-- The bank that serves reads and the slot index: bank A unless it is in RESYNC or LOST and bank B is not lost (R393). -/
def readB (s : State) : Bool := s.mram.bankA.st != 0 && s.mram.bankB.st != 2

/-- The bank served. -/
def rdBank (s : State) : Bank := if readB s then s.mram.bankB else s.mram.bankA

/-- Updates one bank. -/
def setBank (s : State) (b : Bool) (f : Bank → Bank) : State :=
  if b then { s with mram := { s.mram with bankB := f s.mram.bankB } } else { s with mram := { s.mram with bankA := f s.mram.bankA } }

/-- One bank. -/
def bank (s : State) (b : Bool) : Bank := if b then s.mram.bankB else s.mram.bankA

/-- The next SEQ: even, 2 above the last (R379). -/
def nextSeq (s : State) : Nat := (s.mram.seq + 2) % 2 ^ 32

/-- The slot of area and index for a record of severity `sev`, and whether a record is overwritten (R385, R386, R395). -/
def chooseSlot (s : State) (sev : Nat) : Nat × Nat × Bool :=
  if s.log.volatile then
    match pickSlot s.log.ring 7680 sev with
    | some (k, o) => (2, k, o)
    | none => (3, 0, true)
  else if sev = 7 ∧ (rdBank s).sev7.length < 1024 then (1, (freeSlot (rdBank s).sev7 1024 0).getD 0, false)
  else
    match pickSlot (rdBank s).gen 47104 sev with
    | some (k, o) => (0, k, o)
    | none => (3, 0, true)

/-- A slot freed in both banks and the ring: the record it held is gone once a write to it starts. -/
def freeUp (s : State) (area idx : Nat) : State :=
  match area with
  | 0 => setBank (setBank s false (fun b => { b with gen := mdel b.gen idx })) true (fun b => { b with gen := mdel b.gen idx })
  | 1 => setBank (setBank s false (fun b => { b with sev7 := mdel b.sev7 idx })) true (fun b => { b with sev7 := mdel b.sev7 idx })
  | 2 => { s with log := { s.log with ring := mdel s.log.ring idx } }
  | _ => s

/-- Starts the write of one record: it takes the next SEQ and a slot; where no record may be overwritten it is not written, and takes
no SEQ (R379, R385, R386). -/
def beginWrite (s : State) (e : Event) : State :=
  let (area, idx, repl) := chooseSlot s e.sev
  let s1 := if repl then { s with log := { s.log with ovw := (s.log.ovw + 1) % 2 ^ 32 } } else s
  if area = 3 then bump s1 (0xC180 + 4 * 5)
  else
    let s2 := freeUp s1 area idx
    { s2 with
      mram := { s2.mram with seq := nextSeq s, torn := some { area := area, idx := idx, rec_ := { seq := nextSeq s, ev := e } } }
      log := { s2.log with writing := true } }

/-- The event of the overflow accumulator (R383). DEDUCED (log 81). -/
def overflowEvent (s : State) : Event :=
  mkEvent s 0xB001 (max 2 s.log.ovSev) 0xFFF [s.log.ovCnt, s.log.ovSev, s.log.ovCode, s.mram.seq]

/-- The writer takes one entry: REC_OVERFLOW after drops, else the head of the FIFO (R379, R383). -/
def takeEntry (s : State) : State :=
  if 0 < s.log.ovCnt then
    beginWrite (bump { s with log := { s.log with ovCnt := 0, ovSev := 0, ovCode := 0 } } (0xC180 + 4 * 4)) (overflowEvent s)
  else
    match s.log.fifo with
    | [] => s
    | e :: r => beginWrite { s with log := { s.log with fifo := r } } e

/-- The writer takes entries until one is being written, or none is left (structural on a bound of their number). -/
def startWriteN : (left : Nat) → State → State
  | 0, s => s
  | n + 1, s => if s.log.writing || s.log.scanning then s else startWriteN n (takeEntry s)

/-- The writer, when idle, starts its next write. -/
def startWrite (s : State) : State := startWriteN (s.log.fifo.length + 1) s

/-- A write of the last-gasp store (R389). -/
def gaspWrite (s : State) (e : Event) : State :=
  if s.mram.gasp.consumed || !s.mram.gasp.valid || decide (s.mram.gasp.rec_.sev ≤ e.sev) then
    { s with mram := { s.mram with gasp := { s.mram.gasp with valid := true, consumed := false, optime := s.mram.optime, pwrcyc := s.mram.pwrcyc, rec_ := e } } }
  else s

/-- Raises an event that is also written to the last-gasp store (R389). -/
def raiseGasp (s : State) (code sev inst : Nat) (vals : List Nat) : State :=
  gaspWrite (raise s code sev inst vals) (mkEvent s code sev inst vals)

/-- A bank is lost (R394): LOG_MEDIA while the other stands, else the SRAM ring and LOG_MEDIA_LOST (R395). -/
def loseBank (s : State) (b : Bool) (cause : Nat) : State :=
  if (bank s b).st = 2 then s
  else
    let s1 := setBank s b (fun k => { k with st := 2, resync := none })
    if (bank s (!b)).st = 2 then
      raiseGasp { s1 with log := { s1.log with volatile := true } } 0xB003 7 0xFFF []
    else raise s1 0xB002 7 0xFFF [if b then 1 else 0, cause]

/-- The physical regions of a bank that are free (R384): neither mapped nor found lasting. -/
def freeRegions (k : Bank) : List Nat :=
  let used := (List.range 96).map (fun l => (mget k.regions l).getD l)
  (List.range 112).filter (fun p => !used.contains p && !k.dead.contains p)

/-- The physical region of a logical one. -/
def physOf (k : Bank) (l : Nat) : Nat := (mget k.regions l).getD l

/-- The write count of a physical region. -/
def writesOf (k : Bank) (p : Nat) : Nat := (mget k.writes p).getD 0

/-- The slots of a logical region: 512 records each, L2 and L3 severity 7, L4 on the general area (Table 15-6). -/
def copyRegion (src dst : Bank) (l : Nat) : Bank :=
  let inR (base : Nat) (m : List (Nat × Rec)) := m.filter (fun e => decide (base ≤ e.1) && decide (e.1 < base + 512))
  let outR (base : Nat) (m : List (Nat × Rec)) := m.filter (fun e => !(decide (base ≤ e.1) && decide (e.1 < base + 512)))
  let merge (base : Nat) (a b : List (Nat × Rec)) := (inR base a).foldl (fun m e => mput m e.1 e.2) (outR base b)
  if l = 2 ∨ l = 3 then { dst with sev7 := merge (512 * (l - 2)) src.sev7 dst.sev7 }
  else if 4 ≤ l then { dst with gen := merge (512 * (l - 4)) src.gen dst.gen }
  else dst

end Sys2Proof.Machine
end

