-- ==== Sys2Proof/Machine/Frames.lean ====
section
/-! DEFINITION. Native frames (R110 to R112), train time and the cycle (R149, R150, R177, R179), and sending on lanes. -/

namespace Sys2Proof.Machine

/-! ### Train time and the cycle -/

/-- One ns in the units of train time, 2^-32 ns (R149). -/
def nsU : Int := 4294967296

/-- Train time at a counter value, in 2^-32 ns (R149). -/
def ttAt (t : TimeBase) (c : Nat) : Int := t.tt + ((c : Int) - t.base) * nsU + ((c : Int) - t.base) * t.rate / 256

/-- Train time now, whole ns. -/
def ttNow (s : State) : Nat := (ttAt s.tb s.tb.ctr / nsU).toNat

/-- The rate changes: train time runs on without a break. -/
def setRate (t : TimeBase) (r : Int) : TimeBase := { t with tt := ttAt t t.ctr, base := t.ctr, rate := r }

/-- A step: train time changes at once by e (R164). -/
def stepTime (t : TimeBase) (e : Int) : TimeBase := { t with tt := ttAt t t.ctr + e, base := t.ctr }

/-- A SCHEDULE section is committed (R179). -/
def schedCommitted (s : State) : Bool := committed s && s.boot.types.contains 0x50

/-- Cycle length in ns, none until it is known (R178, R179). -/
def cycLen (s : State) : Option Nat :=
  if schedCommitted s then some (125000 * 2 ^ min 5 (regF s 0x4000 2 0))
  else s.tb.clen.map (fun c => 125000 * 2 ^ min 5 c)

/-- The cycle number of the present train time (R150). -/
def cycleNo (s : State) : Nat :=
  match cycLen s with
  | some c => ttNow s / c
  | none => 0

/-- Cycle number `a` is at or after `b`, modulo 2^32 (R150). -/
def cycReached (a b : Nat) : Bool := decide ((a % 2 ^ 32 + 2 ^ 32 - b % 2 ^ 32) % 2 ^ 32 < 2 ^ 31)

/-- P(N) in units of 0.05 ns: max(40 ns, 6 ns + 0.45 ns x (N - 1)), 0 without a table (R167). -/
def precU (s : State) : Nat :=
  let n := s.inaug[(0 : Fin 2)].table.length
  if n = 0 then 0 else max 800 (120 + 9 * (n - 1))

/-! ### Frames -/

/-- The fields of a native frame header (Table 5-8). -/
structure NHdr where
  kind  : Nat
  cls   : Nat
  dyn   : Bool
  crit  : Bool
  fold  : Bool
  src   : Nat
  dtype : Nat
  dest  : Bytes
  cycle : Nat
  slot  : Nat
  len   : Nat
  hops  : Nat
  deriving DecidableEq, Repr

/-- The header's fields, read from bytes 0 to 23. -/
def readHdr (b : Bytes) : NHdr :=
  { kind := byteAt b 0, cls := byteAt b 1 / 32, dyn := (byteAt b 1).testBit 4, crit := (byteAt b 1).testBit 3, fold := (byteAt b 1).testBit 2
    src := byteAt b 2, dtype := byteAt b 3, dest := slice b 4 8, cycle := beAt b 12 4, slot := beAt b 16 2, len := beAt b 18 2, hops := byteAt b 20 }

/-- Bytes 0 to 23 of a frame: the fields, then HCRC over bytes 0 to 21 (R110, R111). -/
def hdrBytes (h : NHdr) : Bytes :=
  let d := [BitVec.ofNat 8 h.kind, BitVec.ofNat 8 (h.cls * 32 + h.dyn.toNat * 16 + h.crit.toNat * 8 + h.fold.toNat * 4),
      BitVec.ofNat 8 h.src, BitVec.ofNat 8 h.dtype] ++ (h.dest ++ List.replicate 8 0#8).take 8 ++
    beBytes 4 (h.cycle % 2 ^ 32) ++ beBytes 2 h.slot ++ beBytes 2 h.len ++ [BitVec.ofNat 8 h.hops, 0#8]
  d ++ beBytes 2 (crc16 d).toNat

/-- A whole frame: header, payload, CRC-32 of the payload (R110, R112). -/
def mkFrame (h : NHdr) (payload : Bytes) : Bytes :=
  hdrBytes { h with len := payload.length } ++ payload ++ beBytes 4 (crc32 payload).toNat

/-- The payload of a frame. -/
def payloadOf (b : Bytes) : Bytes := slice b 24 (beAt b 18 2)

/-- The trailer of a frame. -/
def trailerOf (b : Bytes) : Nat := beAt b (24 + beAt b 18 2) 4

/-- HCRC matches (R111). -/
def hcrcOk (b : Bytes) : Bool := decide (24 ≤ b.length) && decide (beAt b 22 2 = (crc16 (b.take 22)).toNat)

/-- The trailer is the CRC-32 of the payload. -/
def trailerOk (b : Bytes) : Bool := decide (trailerOf b = (crc32 (payloadOf b)).toNat)

/-- The trailer is stomped (R112). -/
def stomped (b : Bytes) : Bool := decide (trailerOf b = (crc32 (payloadOf b) ^^^ 0x5A5AA5A5#32).toNat)

/-- The frame with HOPS incremented and HCRC recomputed (R111). -/
def withHop (b : Bytes) : Bytes :=
  let h := readHdr b
  hdrBytes { h with hops := h.hops + 1 } ++ b.drop 24

/-- The frame with its trailer stomped: the correct CRC of the payload bytes as sent, zero fill after a stopped input included, XOR
0x5A5A_A5A5 (R112, R222). -/
def withStomp (b : Bytes) : Bytes :=
  let n := beAt b 18 2
  let body := b.take (24 + n) ++ List.replicate (24 + n - b.length) 0#8
  body ++ beBytes 4 (crc32 (body.drop 24) ^^^ 0x5A5AA5A5#32).toNat

/-- The lane a control frame or Lantern of a port uses: lane A, or lane B while lane A is not UP. -/
def ctlLane (s : State) (p : Port) : Option (Fin 4) :=
  if laneUp s (laneA p) then some (laneA p) else if laneUp s (laneB p) then some (laneB p) else none

/-! ### What a link carries -/

/-- The port is closed by the seam: on it, or taken off it in the present cycle, whose traffic waits for the next one (R109). -/
def seamShut (s : State) (p : Port) : Bool :=
  portSeam s p || ((s.lanes[laneA p].seamWas || s.lanes[laneB p].seamWas) && (cycLen s).isSome && s.tb.st != .free)

/-- A port newly linked and not yet admitted to the segment (R136). -/
def freshPort (s : State) (p : Port) : Bool := s.inaug[segOf s p].fresh.contains p

/-- The port carries a frame of this KIND and DTYPE: nothing on an I1G port; only Dawn and Kindle across the seam (R109); only hop-mode
Dawn, Lantern and Kindle on a port not yet admitted (R125, R136); train-mode Dawn only between settled nodes (R125). -/
def linkCarries (s : State) (p : Port) (kind dtype : Nat) : Bool :=
  !portI1g s p && (!seamShut s p || kind == 2 || kind == 4) &&
  (!freshPort s p || kind == 1 || kind == 4 || (kind == 2 && dtype == 4)) &&
  (kind != 2 || dtype == 4 || s.inaug[segOf s p].st == .settled)

end Sys2Proof.Machine
end

