-- ==== Sys2Proof/Machine/Plan.lean ====
section
/-! DEFINITION. The slot plan's rows and the settings of the schedule (R177, R178, R180, R181), and the folding of a lost lane's
critical content (R195 to R198). -/

namespace Sys2Proof.Machine

/-- Row r of the slot plan (Table 8-2), none where the table has no such row. -/
def planRow (s : State) (r : Nat) : Option Bytes :=
  let t := (mget s.tables (65536 * 0x50 + 1)).getD []
  if 0 < r ∧ 32 * r + 32 ≤ t.length then some (slice t (32 * r) 32) else none

/-- SCH_LANEA or SCH_LANEB. -/
def schLane (s : State) (laneB : Bool) : Word := reg s (if laneB then 0x4008 else 0x4004)

/-- The design mode of a lane letter: 1 N10, 2 N2G5 (Table 8-11). -/
def dmode (s : State) (laneB : Bool) : Nat := fld (schLane s laneB) 29 28

/-- Block time in ns (Table 8-3). -/
def blockT (mode : Nat) : Nat := if mode = 2 then 120 else 30
/-- H_REL in ns (Table 8-3). -/
def hRel (mode : Nat) : Nat := if mode = 2 then 420 else 210
/-- H_MAX in ns (Table 8-3). -/
def hMax (mode : Nat) : Nat := if mode = 2 then 540 else 240
/-- SLEN in ns. -/
def slenOf (s : State) (laneB : Bool) : Nat := 10 * fld (schLane s laneB) 12 0
/-- DLINK_MAX in ns. -/
def dlinkMax (s : State) : Nat := 10 * regF s 0x4000 15 8
/-- DSTART in ns. -/
def dstart (s : State) : Nat := 10 * regF s 0x400C 18 0
/-- GEND in ns. -/
def gend (s : State) : Nat := 10 * regF s 0x400C 31 24

/-- len: the blocks a frame of `n` payload bytes takes, plus one, in ns (R181, R191). -/
def lenBlocks (mode n : Nat) : Nat := blockT mode * ceilDiv (8 * (28 + n)) 300 + blockT mode

/-- P(N) of a table of n nodes, in 0.05 ns (R167). -/
def precOf (n : Nat) : Nat := if n = 0 then 0 else max 800 (120 + 9 * (n - 1))

/-- The row a node owns in a segment (R180). -/
def ownRow (s : State) (g : Fin 2) : Option Bytes := (ownEnt s g).bind (fun e => planRow s e.slotref)

/-- The whole quota of a row on a lane letter; a row without minislots admits nothing (R188). -/
def rowQuota (row : Option Bytes) (b : Bool) : Nat :=
  match row with
  | some r => if beAt r 16 2 = 0xFFFF ∨ beAt r 20 2 = 0 then 0 else beAt r (if b then 28 else 24) 4
  | none => 0

/-- The index of a segment's quota on a lane letter. -/
def quotaIdx (g : Fin 2) (b : Bool) : Fin 4 := Fin.ofNat 4 (2 * g.val + b.toNat)

/-- A row quota degraded, as it is while any port folds (R199). -/
def degraded (s : State) (q : Nat) : Nat := q * regF s 0x4000 27 24 / 16

/-- Quotas at a cycle start: the row's, degraded while any port folds (R188, R199). -/
def refill (s : State) (g : Fin 2) (b : Bool) : Nat :=
  if s.sch.fold ≠ 0 then degraded s (rowQuota (ownRow s g) b) else rowQuota (ownRow s g) b

/-- Folding starts within a cycle: of each quota what lies beyond its degraded part is gone (R199). -/
def degradeNow (s : State) : State :=
  { s with sch := { s.sch with quota := Vector.ofFn (fun i =>
      let full := rowQuota (ownRow s (if i.val < 2 then 0 else 1)) (decide (i.val % 2 = 1))
      s.sch.quota[i] - (full - degraded s full)) } }

/-- SCH_CNT `i`. -/
def bumpSch (s : State) (i : Nat) : State := bump s (0x4080 + 4 * i)
/-- GD_CNT `i`. -/
def bumpGd (s : State) (i : Nat) : State := bump s (0x4180 + 4 * i)

/-- A schedule or guardian event: lane, port and epoch, then what the event adds (R207). -/
def schEvent (s : State) (code sev lane port : Nat) (more : List Nat) : State :=
  let g : Fin 2 := if segGw s && port == 1 then 1 else 0
  raiseSeg s g code sev lane ([lane, port, s.inaug[g].epoch] ++ more)

/-- The row whose primary on a lane letter is slot z. -/
def rowOfSlot (s : State) (laneB : Bool) (z : Nat) : Option Nat :=
  ((List.range 1023).map (· + 1)).find? (fun r => match planRow s r with
    | some b => beAt b (if laneB then 8 else 0) 2 == z
    | none => false)

/-- The row of a fallback slot on a lane letter, with CRIT of the primary it carries (Table 8-2). -/
def fbRow (s : State) (b : Bool) (z : Nat) : Option (Nat × Nat) :=
  ((List.range 1023).map (· + 1)).findSome? (fun r => match planRow s r with
    | some y => if beAt y (if b then 6 else 14) 2 = z then some (r, beAt y (if b then 4 else 12) 2) else none
    | none => none)

/-- The content of a primary is lost at a port (R198). -/
def foldLost (s : State) (l : Fin 4) (row : Nat) : State :=
  schEvent (bumpSch s 7) 0x5012 7 l.val (portNo (portOf l)) [row]

/-- A primary of lost lane `l` is folded: its fallback waits for T(FB) + k x D on the surviving lane of the port (R195, R196), or
its content is lost (R198). -/
def foldPrimary (s : State) (l : Fin 4) (f : Bytes) : State :=
  let h := readHdr f
  let lostB := decide (l.val % 2 = 1)
  if h.kind ≠ 5 then s
  else
    match (rowOfSlot s lostB h.slot).bind (fun r => (planRow s r).map (fun b => (r, b))) with
    | none => s
    | some (r, b) =>
      let fb := beAt b (if lostB then 14 else 6) 2
      let crit := beAt b (if lostB then 12 else 4) 2
      let carrier := sisterLane l
      let d := dlinkMax s + hMax (dmode s (!lostB))
      let due := fb * slenOf s (!lostB) + h.hops * d
      let at_ := max due (match cycLen s with
        | some c => ttNow s % c
        | none => 0)
      if fb = 0xFFFF ∨ crit = 0 ∨ s.sch.tabFault = true ∨ upAtDesign s carrier = false ∨ dstart s < at_ + blockT (dmode s (!lostB)) * ceilDiv (8 * (28 + crit)) 300 then
        foldLost s l r
      else
        let g := mkFrame { h with fold := true, slot := fb } ((payloadOf f).take crit)
        { s with sch := { s.sch with foldOut := s.sch.foldOut ++ [{ lane := carrier.val, at_ := due, frame := g }] } }

/-- Fallback frames that wait for a lane have no lane left to carry them: lost (R198). -/
def foldDrop (s : State) (l : Fin 4) : State :=
  let b := decide (l.val % 2 = 1)
  let gone := (s.sch.foldOut.filter (fun f => f.lane == l.val)).map FoldOut.frame ++
    (s.sch.relays.filter (fun r => r.lane == l && (readHdr r.frame).fold)).map Relay.frame
  gone.foldl (fun t f => foldLost t (sisterLane l) (((fbRow s b (readHdr f).slot).map Prod.fst).getD 0))
    { s with sch := { s.sch with
      foldOut := s.sch.foldOut.filter (fun f => f.lane != l.val), relays := s.sch.relays.filter (fun r => !(r.lane == l && (readHdr r.frame).fold)) } }

/-- The node starts to fold a lane's critical content (R195, R199): the lane is lost or below its design mode while the other lane of the port
is UP. Primaries whose last block left at or after 2.0 µs before the report are folded at once, then what waits at its output. A lane lost
again goes on being folded. -/
def foldStart (s : State) (l : Fin 4) : State :=
  let bit := BitVec.ofNat 4 (2 ^ l.val)
  let s0 := { s with sch := { s.sch with foldEnd := s.sch.foldEnd &&& ~~~bit } }
  if schedCommitted s && !portI1g s (portOf l) && laneUp s (sisterLane l) && !s.sch.fold.getLsbD l.val then
    let lost := s.sch.kept.filter (fun k => decide (k.port = portOf l) && (k.laneB == decide (l.val % 2 = 1)) && decide (ttNow s ≤ k.sent + 2000))
    let frames := lost.map Kept.frame ++ (s.sch.relays.filter (fun r => r.lane == l && r.good && !(readHdr r.frame).fold)).map Relay.frame
    let rows := frames.map (fun f => (rowOfSlot s (decide (l.val % 2 = 1)) (readHdr f).slot).getD 0)
    let d := foldDrop s0 l
    let s1 := { d with sch := { d.sch with fold := s.sch.fold ||| bit, relays := d.sch.relays.filter (fun r => r.lane != l) } }
    let s2 := if s.sch.fold = 0 then degradeNow s1 else s1
    frames.foldl (fun t f => foldPrimary t l f) (schEvent s2 0x5010 5 l.val (portNo (portOf l)) rows)
  else s0

end Sys2Proof.Machine
end

