-- ==== Sys2Proof/Machine/Queues.lean ====
section
/-! DEFINITION. The switch below its forwarding: the crossbar (R216, R217), output occupancy (R218), mirror copies (R229, R230), frames leaving
on lanes, XOFF and pause frames (R224, R225), and what a lost lane's queue does (R212). -/

namespace Sys2Proof.Machine

/-! ### Ports, counters, occupancy -/

/-- SW_CNT of port p. -/
def bumpSw (s : State) (p i : Nat) : State := bump s (0x5800 + 0x40 * p + 4 * i)
/-- SW_CCNT of class c. -/
def bumpCc (s : State) (c i : Nat) : State := bump s (0x5E00 + 0x10 * c + 4 * i)
/-- Updates one fabric port. -/
def setSw (s : State) (p : Fin 20) (f : SwPort → SwPort) : State :=
  { s with sw := { s.sw with ports := s.sw.ports.set p (f s.sw.ports[p]) } }
/-- Updates the pause state of a lane. -/
def setPause (s : State) (l : Fin 4) (f : Pause → Pause) : State :=
  { s with sw := { s.sw with pause := s.sw.pause.set l (f s.sw.pause[l]) } }

/-- Lane port of a lane. -/
def lanePort (l : Fin 4) : Fin 20 := ⟨l.val, by omega⟩
/-- A lane, where the port number names one. -/
def portLane (p : Fin 20) : Option (Fin 4) := if h : p.val < 4 then some ⟨p.val, h⟩ else none
/-- The cells of a frame (R216). -/
def cellsOf (f : Bytes) : Nat := ceilDiv f.length 64
/-- Cells held by an output-class, mirror copies left out: what XOFF looks at (R224, R230). -/
def occFwd (s : State) (p : Fin 20) (c : Nat) : Nat :=
  ((s.sw.ports[p].q.filter (fun x => x.cls == c && !x.copy)).map (fun x => cellsOf x.frame)).sum
/-- Cells held by an output-class. -/
def occ (s : State) (p : Fin 20) (c : Nat) : Nat := ((s.sw.ports[p].q.filter (fun x => x.cls == c)).map (fun x => cellsOf x.frame)).sum
/-- Cells held by an output. -/
def occAll (s : State) (p : Fin 20) : Nat := (s.sw.ports[p].q.map (fun x => cellsOf x.frame)).sum
/-- Minimum of an output-class, in cells: 16 to the KiB. -/
def qMin (s : State) (c : Nat) : Nat := 16 * regF s (0x5020 + 4 * c) 15 0
/-- Cap of an output-class, in cells: a CLASS_QUOTA override, else SW_QCLASSc.MAX (R218, R371). -/
def qMax (s : State) (c : Nat) : Nat := 16 * (((s.pol.qovr[c]?).getD none).getD (regF s (0x5020 + 4 * c) 31 16))
/-- Free cells of the shared pool, by what each output-class holds (R218). -/
def poolLeft (s : State) (held : Fin 20 → Nat → Nat) : Nat :=
  let mins := (List.range 8).map (qMin s)
  let used := ((List.finRange 20).map (fun p => ((List.range 8).map (fun c => held p c - mins.getD c 0)).sum)).sum
  (131072 - 8192 - 20 * mins.sum) - used
/-- Free cells of the shared pool (R218). -/
def poolFree (s : State) : Nat := poolLeft s (occ s)

/-- The class a map value acts as: 7 acts as 6. -/
def classOf (c : Nat) : Nat := if c = 7 then 6 else c

/-! ### The crossbar (R216, R217) -/

/-- The identity of the frame now taken in moves on. -/
def newFrame (s : State) : State := { s with sw := { s.sw with fab := { s.sw.fab with cur := s.sw.fab.cur + 1 } } }

/-- The frames of an input. -/
def fabIn (f : Fabric) (i : Nat) : List FabJob := (mget f.ins i).getD []

/-- The frames of an input are replaced; an input without frames is not listed. -/
def fabSet (f : Fabric) (i : Nat) (l : List FabJob) : Fabric := { f with ins := if l.isEmpty then mdel f.ins i else mput f.ins i l }

/-- A frame of `cells` cells asks an input for an output; a further output of the same frame makes it multicast. -/
def fabAdd (f : Fabric) (inp out id : Nat) (stat : Bool) (cls cells : Nat) : Fabric :=
  let l := fabIn f inp
  if l.any (fun j => j.id == id) then
    fabSet f inp (l.map (fun j => if j.id = id ∧ !j.outs.contains out then { j with outs := j.outs ++ [out], want := j.want ++ [out] } else j))
  else fabSet f inp (l ++ [{ id := id, stat := stat, cls := cls, cells := cells, outs := [out], want := [out] }])

/-- The level of a request of a frame at an output: a frame already started to it, a static frame, then the class (R217). -/
def fabLevel (f : Fabric) (out : Nat) (j : FabJob) : Nat := if mget f.cont out = some j.id then 9 else if j.stat then 8 else j.cls

/-- The best of several, each a port with its level: highest level, then next from a round-robin pointer (R217). -/
def fabBest (ptr : Nat) (l : List (Nat × Nat)) : Option Nat :=
  (l.foldl (fun b x => match b with
    | none => some x
    | some y => if y.2 < x.2 ∨ (y.2 = x.2 ∧ (x.1 + 20 - ptr) % 20 < (y.1 + 20 - ptr) % 20) then some x else some y) none).map Prod.fst

/-- The input a free output grants among those not yet matched. -/
def fabGrant (f : Fabric) (inUsed : List Nat) (out : Nat) : Option Nat :=
  fabBest ((mget f.gptr out).getD 0) (f.ins.filterMap (fun x => match x.2 with
    | j :: _ => if !inUsed.contains x.1 && j.want.contains out then some (x.1, fabLevel f out j) else none
    | [] => none))

/-- The head cell of an input moves to an output; the cell is done once no output wants it any more. -/
def fabMove (f : Fabric) (i o : Nat) : Fabric :=
  match fabIn f i with
  | [] => f
  | j :: r =>
    let want := j.want.erase o
    let f1 := { f with cont := if j.cells ≤ 1 then mdel f.cont o else mput f.cont o j.id }
    if want ≠ [] then fabSet f1 i ({ j with want := want } :: r)
    else if j.cells ≤ 1 then fabSet f1 i r
    else fabSet f1 i ({ j with cells := j.cells - 1, want := j.outs } :: r)

/-- One request, grant and accept iteration: the inputs and outputs matched so far and those of this iteration. Pointers move on a match of
the first one. -/
def fabIter (first : Bool) (x : Fabric × List Nat × List Nat) : Fabric × List Nat × List Nat :=
  let (f, inUsed, outUsed) := x
  let grants := ((List.range 20).filter (fun o => !outUsed.contains o)).filterMap (fun o => (fabGrant f inUsed o).map (fun i => (o, i)))
  let accepts := (f.ins.map Prod.fst).filterMap (fun i =>
    let mine := (grants.filter (fun g => g.2 == i)).map (fun g => (g.1, ((fabIn f i)[0]?.map (fabLevel f g.1)).getD 0))
    (fabBest ((mget f.aptr i).getD 0) mine).map (fun o => (i, o)))
  accepts.foldl (fun y m =>
    let g := fabMove y.1 m.1 m.2
    ({ g with gptr := if first then mput g.gptr m.2 ((m.1 + 1) % 20) else g.gptr, aptr := if first then mput g.aptr m.1 ((m.2 + 1) % 20) else g.aptr },
     m.1 :: y.2.1, m.2 :: y.2.2)) (f, inUsed, outUsed)

/-- One cell time: three iterations, at most one cell from each input and into each output (R216, R217). DEDUCED (log 111). -/
def cellTime (f : Fabric) : Fabric := if f.ins.isEmpty then f else (fabIter false (fabIter false (fabIter true (f, [], [])))).1

/-- Cells of a frame are still to move to an output. -/
def fabBusy (f : Fabric) (o id : Nat) : Bool := f.ins.any (fun x => x.2.any (fun j => j.id == id && (j.want.contains o || (decide (1 < j.cells) && j.outs.contains o))))

/-- Cell times pass until a frame has crossed to an output. -/
def crossing : (fuel : Nat) → Fabric → (o id : Nat) → Fabric
  | 0, f, _, _ => f
  | n + 1, f, o, id => if fabBusy f o id then crossing n (cellTime f) o id else f

/-- Cell times enough for everything in the crossbar. -/
def fabWork (f : Fabric) : Nat := (f.ins.map (fun x => (x.2.map (fun j => j.cells * j.outs.length)).sum)).sum

/-- A frame has crossed to an output before it leaves there: the cell times that this takes are over. DEDUCED (log 111). -/
def crossed (s : State) (o id : Nat) : State := { s with sw := { s.sw with fab := crossing (fabWork s.sw.fab) s.sw.fab o id } }

/-- The frame now taken in goes straight through the crossbar to an output: the static and control frames, which no queue holds (R217, R223). -/
def passCur (s : State) (inp out : Nat) (stat : Bool) (cls cells : Nat) : State :=
  crossed { s with sw := { s.sw with fab := fabAdd s.sw.fab inp out s.sw.fab.cur stat cls cells } } out s.sw.fab.cur

/-- A frame of one output enters and goes straight through the crossbar. -/
def passFab (s : State) (inp out : Nat) (stat : Bool) (cls cells : Nat) : State := passCur (newFrame s) inp out stat cls cells

/-- The crossbar moves on: a cell time of 25.6 ns has ended at this nanosecond of the counter (R216). -/
def fabTick (s : State) : State :=
  if 10 * s.tb.ctr / 256 ≠ 10 * (s.tb.ctr - 1) / 256 then { s with sw := { s.sw with fab := cellTime s.sw.fab } } else s

/-! ### Times of leaving -/

/-- How long a frame takes to leave, ns: blocks on a lane, wire time on a local port. -/
def leaveTime (s : State) (p : Fin 20) (f : Bytes) : Nat :=
  match portLane p with
  | some l => if laneI1g s l then 8 * (f.length + 20) else blockT s.lanes[l].mode * ceilDiv (8 * f.length) 300
  | none =>
    if p.val ≤ 11 then (if regB s (0xE100 + 0x10 * (p.val - 4)) 1 then 80 else 8) * (f.length + 20)
    else if p.val ≤ 13 then 800 * (f.length + 20) else 0

/-- A lane output may start a dynamic frame of `n` ns now: in the dynamic segment, with its last block leaving GEND before the
end of the cycle (R179, R190); at once while no cycle length is known. -/
def cutoffOk (s : State) (n : Nat) : Bool :=
  match cycLen s with
  | none => true
  | some c => !s.sch.inStatic && decide (ttNow s % c + n + gend s ≤ c)

/-- A frame from fabric port `inp` to a lane is stored whole before it is sent (R220). -/
def stored (s : State) (inp : Nat) (l : Fin 4) : Bool :=
  regB s (0x5100 + 4 * l.val) 0 || regB s (0x5100 + 4 * (inp % 20)) 0 || (match portLane (Fin.ofNat 20 inp) with
    | some i => decide (4 ≤ inp) || laneI1g s i || (s.lanes[i].mode == 2 && s.lanes[l].mode == 1)
    | none => true)

/-! ### Mirroring (R229, R230) -/

/-- A mirror copy is discarded (R230). -/
def mirDrop (s : State) (p : Fin 20) (c : Nat) : State := raiseLim (bumpCc s c 3) 1000000000 0x6050 1 p.val [p.val, c]

/-- FCS of an Ethernet frame: CRC-32, least significant byte first on the wire (IEEE 802.3). PRESUMED (log 54). -/
def ethFcs (b : Bytes) : Bytes := (beBytes 4 (crc32 b).toNat).reverse

/-- The SIDs a native frame names for a SID-range match (R229). -/
def sidMatch (h : NHdr) (first last : Nat) : Bool :=
  (h.dtype == 2 && decide (beAt h.dest 0 4 % 2 ^ 25 ≤ last) && decide (first ≤ beAt h.dest 4 4 % 2 ^ 25)) ||
  ((h.kind == 5 || h.kind == 6) && decide (1 ≤ first / 65536) && decide (first / 65536 ≤ 254) && h.src == first / 65536)

/-- One mirror session selects a frame: its port, class and, for a native frame, its header. -/
def mirSelects (s : State) (n : Nat) (egress : Bool) (p cls : Nat) (h : Option NHdr) : Bool :=
  let cfg := reg s (0x5300 + 0x10 * n)
  let sel := reg s (0x5304 + 0x10 * n)
  let dir := fld cfg 30 29
  bitAt cfg 31 && dir.testBit (if egress then 1 else 0) &&
  (match fld cfg 28 27 with
   | 0 => (fld sel 19 0).testBit p
   | 1 => (fld sel 7 0).testBit cls
   | 2 => (h.map (fun h => sidMatch h (regF s (0x5308 + 0x10 * n) 24 0) (regF s (0x530C + 0x10 * n) 24 0))).getD false
   | _ => false)

/-- The copy of a frame: an Ethernet frame unchanged, a native frame wrapped (R230). -/
def mirCopy (s : State) (n : Nat) (egress : Bool) (p : Nat) (f : Bytes) (eth bad : Bool) (stamp : Nat) : Bytes :=
  if eth then f
  else
    let snap := min 2048 (max 64 (regF s (0x5304 + 0x10 * n) 31 20))
    let da := beBytes 2 (regF s 0x5344 15 0) ++ beBytes 4 (reg s 0x5340).toNat
    let flags := egress.toNat + 2 * (decide (snap < f.length)).toNat + 4 * bad.toNat
    let b := da ++ 0x02#8 :: beBytes 5 (s.uid % 2 ^ 40) ++ [0x88#8, 0xB5#8] ++ [BitVec.ofNat 8 n, BitVec.ofNat 8 p, BitVec.ofNat 8 flags, 0#8] ++ beBytes 8 stamp ++ f.take snap
    b ++ ethFcs b

/-- A copy is queued at the analysis port, or discarded: the port is not UP, or its output-class would pass MAX (R230). -/
def enqueueCopy (s : State) (d : Fin 20) (x : QFrame) : State :=
  if s.sw.ports[d].hst ≠ 0 ∨ qMax s x.cls < occ s d x.cls + cellsOf x.frame then mirDrop s d x.cls
  else
    let t := setSw s d (fun o => { o with q := o.q ++ [x] })
    setSw t d (fun o => { o with peak := max o.peak (occAll t d) })

/-- Every mirror session looks at a frame; the first match and every 2^SAMPLE-th one after it is copied. -/
def mirror (s : State) (egress : Bool) (p cls id : Nat) (f : Bytes) (eth bad : Bool) (stamp : Nat) : State :=
  [0, 1, 2, 3].foldl (fun t (n : Fin 4) =>
    if mirSelects t n.val egress p cls (if eth then none else some (readHdr f)) then
      let k := t.sw.mirN[n]
      let t1 := { t with sw := { t.sw with mirN := t.sw.mirN.set n (k + 1) } }
      let cfg := reg t (0x5300 + 0x10 * n.val)
      if k % 2 ^ fld cfg 23 20 = 0 then
        let d : Fin 20 := Fin.ofNat 20 (4 + fld cfg 26 24)
        enqueueCopy (bumpSw t1 p 15) d
          { frame := mirCopy t n.val egress p f eth bad stamp, eth := true, cls := classOf (fld cfg 19 17), slot := 0, inp := p, since := t.now, copy := true, id := id }
      else t1
    else t) s

/-- The copies of a frame still queued are discarded: one of its cells was found uncorrectable (R232). -/
def dropCopies (s : State) (id : Nat) : State :=
  (List.finRange 20).foldl (fun t p =>
    let gone := t.sw.ports[p].q.filter (fun x => x.copy && x.id == id)
    if gone.isEmpty then t
    else gone.foldl (fun u x => mirDrop u p x.cls) (setSw t p (fun o => { o with q := o.q.filter (fun x => !(x.copy && x.id == id)) }))) s

/-! ### Frames leaving on lanes -/

/-- A frame enters the fabric at an internal port: counted and mirrored there (R208, R229). -/
def enterFab (s : State) (inp : Nat) (f : Bytes) : State :=
  mirror (bumpSw (newFrame s) inp 0) false inp (readHdr f).cls (s.sw.fab.cur + 1) f false false (ttNow s)

/-- A frame leaves on a lane, past the switch: the Lantern. -/
def sendRaw (s : State) (l : Fin 4) (f : Bytes) : State := bumpLane (emit s (.native l.val f)) l 11

/-- A frame of the switch leaves on a lane: counted, as cut through or stored by the fabric port it came from (none: the lane's own MAC), and
as stomped; then mirrored (R113, R220, R229). -/
def sendLane (s : State) (l : Fin 4) (inp : Option Nat) (id : Nat) (f : Bytes) : State :=
  let s1 := bumpSw s l.val 1
  let s2 := match inp with
    | some i => bumpSw s1 l.val (if stored s i l then 3 else 2)
    | none => s1
  let bad := stomped f && !trailerOk f
  let s3 := if bad then bumpLane s2 l 6 else s2
  sendRaw (mirror s3 true l.val (readHdr f).cls id f false bad (ttNow s)) l f

/-- Sends a frame of internal port CTRL out of a port at once, where the link carries it. -/
def sendPort (s : State) (p : Port) (f : Bytes) : State :=
  let h := readHdr f
  if linkCarries s p h.kind h.dtype then
    match ctlLane s p with
    | some l => let s1 := enterFab s 17 f; sendLane (passCur s1 17 l.val false h.cls (cellsOf f)) l (some 17) s1.sw.fab.cur f
    | none => s
  else s

/-- The first TOKEN of the own round has left: the round trip runs from here (R342). -/
def tokenLeft (s : State) (f : Bytes) : State :=
  if s.snuf.init && s.snuf.startAt.isNone && byteAt f 0 == 3 && (readHdr f).dtype == 4 then { s with snuf := { s.snuf with startAt := some s.now } } else s

/-- A control frame leaves now by its ports, as far as it meets the cutoff there; what misses it stays queued until the next dynamic segment,
counted in DYN_CUTOFF (R187, R190). -/
def startNow (s : State) (c : Ctl) : State :=
  let late (p : Port) : Bool := match ctlLane s p with
    | some l => !cutoffOk s (leaveTime s (lanePort l) c.frame)
    | none => false
  let s1 := if c.fore && !late .fore then sendPort s .fore c.frame else s
  let s2 := tokenLeft (if c.aft && !late .aft then sendPort s1 .aft c.frame else s1) c.frame
  if (c.fore && late .fore) || (c.aft && late .aft) then
    bumpSch { s2 with sch := { s2.sch with ctl := { c with fore := c.fore && late .fore, aft := c.aft && late .aft } :: s2.sch.ctl } } 10
  else s2

/-- The node holds a handle in some segment (R187). -/
def hasHandle (s : State) : Bool := ownHandle s 0 != 0 || ownHandle s 1 != 0

/-- A control frame may start at this node: it holds a handle, or the frame is one it relays, whose SRC is another's (R187, R341). -/
def ctlMay (s : State) (c : Ctl) : Bool := hasHandle s || byteAt c.frame 2 != 0

/-- Control frames start outside the allowance: before a cycle length is held, or in the dynamic segment with NMS 0 (R179, R187). -/
def ctlFree (s : State) : Bool := (cycLen s).isNone || (!s.sch.inStatic && regF s 0x4010 11 0 == 0)

/-- A control frame whose wait has ended starts where no allowance binds it (R341). -/
def ctlDue (s : State) : State :=
  if s.sch.ctl.isEmpty || !ctlFree s then s
  else s.sch.ctl.foldl (fun t c => if c.after = t.now ∧ ctlMay t c = true then startNow { t with sch := { t.sch with ctl := t.sch.ctl.erase c } } c else t) s

/-- A control frame waits for the allowance; with NMS 0 it starts at any time of the dynamic segment, and without a cycle length
as soon as the output is free (R179, R187). -/
def queueCtl (s : State) (f : Bytes) (fore aft : Bool) : State :=
  let c : Ctl := { frame := f, fore := fore, aft := aft }
  if (cycLen s).isNone || (ctlFree s && hasHandle s) then startNow s c
  else if fore || aft then { s with sch := { s.sch with ctl := s.sch.ctl ++ [c] } } else s

/-! ### Back-pressure (R224, R225) -/

/-- The mask a lane's far end is paused with: classes that some output holds in XOFF with frames of them that came by the lane. -/
def pauseMask (s : State) (l : Fin 4) : BitVec 8 :=
  BitVec.ofNat 8 (((List.range 8).map (fun c => if (List.finRange 20).any (fun p =>
    s.sw.ports[p].xoff.getLsbD c && s.sw.ports[p].q.any (fun x => x.cls == c && x.inp == l.val && !x.copy)) then 2 ^ c else 0)).sum)

/-- A lane may carry pause frames: UP, its link open to them, not in I1G, PAUSE_EN set, and the node has a handle. -/
def pauseLane (s : State) (l : Fin 4) : Bool :=
  laneUp s l && linkCarries s (portOf l) 8 4 && regB s 0x5000 0 && decide (ownHandle s (segOf s (portOf l)) ≠ 0)

/-- A pause frame of a lane with mask `m` (R225). -/
def pauseFrame (s : State) (l : Fin 4) (m : BitVec 8) : Bytes :=
  mkFrame { kind := 8, cls := 7, dyn := true, crit := false, fold := false, src := ownHandle s (segOf s (portOf l)), dtype := 4, dest := []
            cycle := cycleNo s, slot := 0, len := 0, hops := 0 } ([0x50#8, m, BitVec.ofNat 8 s.sw.pause[l].seq] ++ List.replicate 5 0#8)

/-- A pause frame may leave on a lane now: between DSTART and the cutoff (R190, R225). -/
def pauseOpen (s : State) (l : Fin 4) : Bool := cutoffOk s (blockT s.lanes[l].mode)

/-- A pause frame leaves on a lane (R225). -/
def sendPause (s : State) (l : Fin 4) (m : BitVec 8) : State :=
  bumpSw (sendLane (setPause s l (fun x => { x with tx := m, due := false, seq := (x.seq + 1) % 256 })) l none s.sw.fab.cur (pauseFrame s l m)) l.val 14

/-- A changed mask is sent at once where a pause frame may leave, else at DSTART. -/
def pauseUpdate (s : State) (l : Fin 4) : State :=
  let m := pauseMask s l
  if m = s.sw.pause[l].tx ∧ s.sw.pause[l].due = false then s
  else if !pauseLane s l then setPause s l (fun x => { x with tx := m, due := false })
  else if pauseOpen s l then sendPause s l m
  else setPause s l (fun x => { x with due := true })

/-- At DSTART a changed mask leaves, and every mask with a bit set (R225). -/
def pauseAtStart (s : State) (l : Fin 4) : State :=
  let m := pauseMask s l
  if pauseLane s l && pauseOpen s l && (s.sw.pause[l].due || m != 0) then sendPause s l m else s

/-- One output-class takes its XOFF state: asserted at MAX - HEADROOM or at POOL_XOFF, released 16 KiB below and 64 KiB above. -/
def xoffBit (s : State) (pool : Nat) (p : Fin 20) (c : Nat) : Bool :=
  let n := occFwd s p c
  let lim := qMax s c - 16 * regF s 0x5040 15 0
  let px := 16 * regF s 0x5040 31 16
  if s.sw.ports[p].hst ≠ 0 then false
  else if s.sw.ports[p].xoff.getLsbD c then !(decide (n + 256 ≤ lim) && decide (px + 1024 < pool))
  else decide (lim ≤ n) || decide (pool ≤ px)

/-- Every output-class and every lane's pause after a change of the queues. -/
def xoffUpdate (s : State) : State :=
  let pool := poolLeft s (occFwd s)
  let s1 := { s with sw := { s.sw with ports := Vector.ofFn (fun p =>
    { s.sw.ports[p] with xoff := BitVec.ofNat 8 (((List.range 8).map (fun c => if xoffBit s pool p c then 2 ^ c else 0)).sum)
                         peak := max s.sw.ports[p].peak (occAll s p) }) } }
  [0, 1, 2, 3].foldl pauseUpdate s1

/-- A lost lane's queue moves, class by class and in order, to the tail of the surviving lane's queues of the same port (R212). DEDUCED (log 53). -/
def moveQueue (s : State) (l : Fin 4) : State :=
  let from_ := lanePort l
  let to_ := lanePort (sisterLane l)
  if portI1g s (portOf l) || !laneUp s (sisterLane l) then s
  else
    let q := s.sw.ports[from_].q
    xoffUpdate (setSw (setSw s from_ (fun o => { o with q := [] })) to_ (fun o => { o with q := o.q ++ q }))

end Sys2Proof.Machine
end

