-- ==== Sys2Proof/Machine/TestHooks.lean ====
section
/-! DEFINITION. What the start of a self-test does to the traffic of its unit (Table 14-3, Traffic column). -/

namespace Sys2Proof.Machine

/-- The Lamplighter serves user u: its slots are not idled and it has a context (R289). -/
def lampServes (s : State) (u : Nat) : Bool := !s.lamp.idle.getLsbD u && !s.lamp.dead.getLsbD u

/-- Every TX request of a channel ends: an object on the bus whose cancel came too late reads CANCELLED_AFTER_ERROR, the
others DROPPED, with their follow-on requests (R269, Table 11-10). A frame that has ended keeps the status that waits for it. -/
def canDrop (k : Chan) : Chan :=
  { k with
    active := none
    objs := k.objs.map (fun x =>
      if k.done.any (fun d => d.own && d.fin != 0 && d.obj == x.1) then x
      else if x.2.st = 2 ∧ x.2.cancel = true then (x.1, { x.2 with st := 6, cancel := false, follow := false, staged := false, pbuf := x.2.pbuf != x.2.staged })
      else if bitAt x.2.cfg 30 = true ∧ (x.2.st = 1 ∨ x.2.st = 2) then (x.1, { x.2 with st := 8, cancel := false, follow := false, staged := false })
      else x) }

/-- The test of a CAN channel: off the bus; it then integrates afresh (R359). -/
def canTestStart (s : State) (c : Nat) : State :=
  let k := (s.can[c]?).getD {}
  if k.st = 0 then s else { s with can := s.can.setIfInBounds c { canDrop k with st := 1 } }

/-- The test of the host bridge: open tags end TIMEOUT (R359); an access held on one ends with LERR# (R312). -/
def bridgeTestStart (s : State) : State :=
  let open_ := s.hb.tags.filter (fun x => !x.2.held)
  let s1 := { s with hb := { s.hb with
    held := none, lockWin := if s.hb.held.any Held.lock then none else s.hb.lockWin
    tags := open_.map (fun x => if x.2.answer.isNone then (x.1, { x.2 with answer := some (0x20, 0) }) else x) } }
  match s.hb.held with
  | some h => emit (bump { s1 with hb := { s1.hb with lastErr := BitVec.ofNat 32 (0x20 * 2 ^ 24 + h.addr / 4 % 2 ^ 24) } } 0x9618) (.access 0x20 0)
  | none => s1

end Sys2Proof.Machine
end

