-- ==== Sys2Proof/Machine/FaultOps.lean ====
section
/-! DEFINITION. The fault handler (R355 to R365): detected errors, the fault queue, the start of a test and its outcomes.
The events' payloads carry the unit, the outcome and the code of the first detected error (R376). -/

namespace Sys2Proof.Machine

/-- One unit's state. -/
def fUnit (s : State) (u : Nat) : FUnit := (s.flt.units[u]?).getD {}

/-- Updates one unit. -/
def setUnit (s : State) (u : Nat) (f : FUnit → FUnit) : State :=
  { s with flt := { s.flt with units := s.flt.units.setIfInBounds u (f (fUnit s u)) } }

/-- FLT_CNT `i`. -/
def bumpFlt (s : State) (i : Nat) : State := bump s (0xB080 + 4 * i)

/-- The unit is queued. -/
def queued (s : State) (u : Nat) : Bool := s.flt.queue.any (fun q => q.unit == u)

/-- An entry or test is of the unit in which an error is found; of the SRAM, each row is a unit (R355). -/
def ofUnit (s : State) (u : Nat) (q : QEnt) : Bool := q.unit == u && (u != 0x30 || q.row == s.flt.row)

/-- The unit is under test. -/
def underTest (s : State) (u : Nat) : Bool := s.flt.test.any (fun q => q.unit == u)

/-- A unit number that names a lane. -/
def laneUnit (u : Nat) : Option (Fin 4) := if h : u < 4 then some ⟨u, h⟩ else none

/-- Transient outcomes of the last 24 h of operating time, 8,640 units of 10 s (R358). -/
def recentTrans (s : State) (u : Nat) : List Nat := (fUnit s u).trans.filter (fun t => decide (s.mram.optime ≤ t + 8640))

/-- What starts with the test of the unit at the head of the queue (R359, Table 14-3). -/
def testEffects (s : State) (q : QEnt) : State :=
  let loss := (match laneUnit q.unit with
    | some l => s.lanes[l].st != .up
    | none => false)
  let s1 := { s with flt := { s.flt with test := some q, second := false, lossTest := loss, pdTest := q.code == 0x4021, tUnc := 0, tCrc := 0 } }
  let s2 := bumpFlt s1 1
  if 0x08 ≤ q.unit ∧ q.unit ≤ 0x0F then canTestStart s2 (q.unit - 8)
  else if q.unit = 0x23 then bridgeTestStart s2
  else s2

/-- The lowest deferred unit. -/
def firstDeferred (s : State) : Option Nat := (List.range 50).find? (fun u => (fUnit s u).defer_)

/-- A deferred unit enters the queue when an entry has left it (R357). -/
def undefer (s : State) : State :=
  if s.flt.queue.length < 8 then
    match firstDeferred s with
    | some u =>
      let rows := s.flt.defRows.drop 1
      let s1 := setUnit s u (fun x => { x with defer_ := u == 0x30 && !rows.isEmpty })
      { s1 with flt := { s1.flt with
        queue := s1.flt.queue ++ [{ unit := u, code := (fUnit s u).defCode, row := s.flt.defRows.headD s.flt.row }]
        defRows := if u = 0x30 then rows else s.flt.defRows } }
    | none => s
  else s

/-- The test at the head of the queue starts when none is running (R357); not while the management processor restarts (R366). -/
def startTest (s : State) : State :=
  match s.flt.test, s.flt.queue with
  | none, q :: r => if s.flt.mgmtDown then s else undefer (testEffects { s with flt := { s.flt with queue := r } } q)
  | _, _ => s

/-- A unit asks for a test: it takes an entry, coalesces or is deferred (R357). -/
def enqueue (s : State) (u code : Nat) (ret : Bool) : State :=
  if s.flt.test.any (ofUnit s u) then s
  else if s.flt.queue.any (ofUnit s u) then
    { s with flt := { s.flt with queue := s.flt.queue.map (fun q => if ofUnit s u q then { q with repeats := min 255 (q.repeats + 1) } else q) } }
  else if s.flt.queue.length < 8 then
    startTest { s with flt := { s.flt with queue := s.flt.queue ++ [{ unit := u, code := code, ret := ret, row := if u = 0x30 then s.flt.row else 0 }] } }
  else
    let s1 := bumpFlt (setUnit s u (fun x => { x with defer_ := true, defCode := code })) 4
    let s2 := if u = 0x30 ∧ s.flt.row ∉ s.flt.defRows then { s1 with flt := { s1.flt with defRows := s1.flt.defRows ++ [s.flt.row] } } else s1
    raiseLim s2 1000000000 0xA010 2 u [u, 0, code]

/-- The test of a unit and its queue entries are abandoned (Table 14-10). -/
def dropTests (s : State) (u : Nat) : State :=
  let s1 := { s with flt := { s.flt with queue := s.flt.queue.filter (fun q => q.unit != u) } }
  startTest (if underTest s u then { s1 with flt := { s1.flt with test := none, second := false, lossTest := false, pdTest := false } } else s1)

/-- Retirement of a lane begins: RETIRING is set in its link messages (R361). Causes: 0 test, 1 FAR, 2 POLICY, 3 command. -/
def beginRetire (s : State) (l : Fin 4) (cause : Nat) : State :=
  setLane s l (fun x => { x with retiring := true, retSent := 0, retAt := s.now, retCause := cause })

/-- The lane's first error code is kept for FAULT_RETIRED (R376). -/
def keepCode (s : State) (l : Fin 4) (code : Nat) : State := setUnit s l.val (fun x => { x with code := code })

/-- A lane's UP period ends: one that ends in health BAD keeps N10 out of the modes the lane offers (R100). -/
def endUp (x : Lane) : Lane := { x with n10Off := x.n10Off || (x.st == .up && x.health == 2) }

/-- A lane enters RETIRED and idles its transmitter; REQ and EFF read RETIRED; the schedule folds and its queue moves as on a loss of lock (R361, R212);
no test of it is left. -/
def retireLane (s : State) (l : Fin 4) (cause : Nat) (code : Nat) : State :=
  let s1 := setLane s l (fun x => { endUp x with st := .retired, retiring := false, mode := 0, farRet := 0, farRetAny := false, lossAt := none })
  let s2 := setUnit s1 l.val (fun x => { x with req := 2, held := false })
  moveQueue (foldStart (dropTests (raise s2 0xA003 5 l.val [l.val, 3, code, cause]) l.val) l) l

/-- A unit is held: it stays in use (R360). Reasons: 1 last lane (R361), 2 no spare row (R362), 3 disagreement (R365). -/
def holdUnit (s : State) (u reason code : Nat) : State :=
  raise (setUnit s u (fun x => { x with held := true })) 0xA005 5 u [u, 4, code, reason]

/-- A CAN channel is held off (Table 14-1): OFF, with its requests dropped. -/
def channelOff (s : State) (c : Nat) : State := { s with can := s.can.setIfInBounds c { canDrop ((s.can[c]?).getD {}) with st := 0 } }

/-- A lasting unit without a mask is lost (R360): EFF reads FAULT, and a CAN channel is held off. -/
def loseUnit (s : State) (u code : Nat) : State :=
  let s := if 0x08 ≤ u ∧ u ≤ 0x0F then channelOff s (u - 8) else s
  raise (setUnit s u (fun x => { x with lost := true })) 0xA004 7 u [u, 5, code]

/-- A lasting MRAM region is moved to a free region of its bank, or the bank is lost (R393, R394). -/
def spareRegion (s : State) (b : Bool) (l : Nat) : State :=
  let k := bank s b
  let recent := (s.mram.optime :: k.lasting).filter (fun t => decide (s.mram.optime ≤ t + 8640))
  let s1 := setBank s b (fun k => { k with lasting := recent, dead := physOf k l :: k.dead })
  if l = 0 then loseBank s1 b 2
  else if 8 ≤ recent.length then loseBank s1 b 3
  else
    match freeRegions (bank s1 b) with
    | [] => loseBank s1 b 1
    | p :: _ =>
      raise (setBank (setUnit s1 0x31 (fun x => { x with spared := true })) b (fun k => { k with st := if k.st = 2 then 2 else 1, resync := some l, regions := mput k.regions l p }))
        0xB010 4 0x31 [if b then 1 else 0, l]

/-- The outcome of a test that failed, or that R358 makes lasting (R360 to R362). -/
def lastingOutcome (s : State) (q : QEnt) (r : TestResult) : State :=
  let s1 := bumpFlt s 3
  match laneUnit q.unit with
  | some l => if upAtDesign s1 (sisterLane l) then beginRetire (keepCode s1 l q.code) l 0 else holdUnit s1 q.unit 1 q.code
  | none =>
    if q.unit = 0x30 then
      if s1.flt.remap.contains q.row then
        raise (setUnit { s1 with mram := { s1.mram with spares := q.row :: s1.mram.spares.filter (· != q.row) } } 0x30 (fun x => { x with spared := true }))
          0xA002 4 0x30 [0x30, 2, q.code]
      else
        holdUnit (raise { s1 with flt := { s1.flt with heldRows := q.row :: s1.flt.heldRows } } 0xA030 5 0x30 [0x30, 4, q.code]) q.unit 2 q.code
    else if q.unit = 0x31 then spareRegion s1 r.bankB r.region
    else loseUnit s1 q.unit q.code

/-- The outcome of a test that passed (R360, R363). -/
def transientOutcome (s : State) (q : QEnt) (r : TestResult) : State :=
  let s1 := bumpFlt s 2
  let s2 := setUnit s1 q.unit (fun x => { x with trans := s.mram.optime :: recentTrans s q.unit, lost := false, held := x.held && !q.ret, req := if q.ret then 1 else x.req })
  let s3 := raise s2 0xA001 3 q.unit [q.unit, 1, q.code]
  if q.unit = 0x30 then
    let s4 := { s3 with flt := { s3.flt with heldRows := s3.flt.heldRows.filter (· != q.row) } }
    if s4.mram.spares.contains q.row then s4
    else { s4 with flt := { s4.flt with remap := s4.flt.remap.filter (· != q.row) } }
  else if q.unit = 0x31 then
    setBank s3 r.bankB (fun k => if k.st = 2 ∧ !q.ret then k else { k with st := 1, resync := if q.ret then none else some r.region, dead := if q.ret then [] else k.dead })
  else s3

/-- A test ends with pass or fail; then the next one starts (R357, R360). -/
def endTest (s : State) (q : QEnt) (r : TestResult) : State :=
  let recN := regF s 0xB000 15 12
  let lasting := !r.pass || s.flt.second || (recN != 0 && decide (recN ≤ (recentTrans s q.unit).length))
  let s1 := { s with flt := { s.flt with test := none, second := false, lossTest := false, pdTest := false } }
  startTest (if lasting then lastingOutcome s1 q r else transientOutcome s1 q r)

/-- A detected error is passed to the handler (R356 to R358). A second one in the unit under test ends the test as lasting;
for a lane, only a loss of lock does. Lamplighter contexts and the management processor have their own responses. DEDUCED (log 57). -/
def detect (s : State) (u code : Nat) : State :=
  if coreRun s then
    let s1 := bumpFlt (setUnit s u (fun x => { x with errors := min 255 (x.errors + 1) })) 0
    if (0x10 ≤ u ∧ u ≤ 0x1A) ∨ u = 0x24 then s1
    else
      match s1.flt.test with
      | some q =>
        if ofUnit s1 u q then
          if u < 4 ∧ code ≠ 0x2002 then s1
          else endTest s1 q { pass := false, fars := false, bankB := readB s1, region := 1 }
        else enqueue s1 u code false
      | none => enqueue s1 u code false
  else s

/-- SRAM rows left: 512 less the rows in use or in the sparing map (R355, R362). -/
def sramSpares (s : State) : Nat := 512 - (s.flt.remap ++ s.mram.spares.filter (fun r => !s.flt.remap.contains r)).length

/-- The regions of the SRAM (Table 1-2). -/
inductive SramRegion where
  | buffers | store | canObjects | canQueues | lookup | bridge | management | recorder | lamplighter | reserve
  deriving DecidableEq, Repr

/-- The regions with their rows of 1 KiB, in the order of Table 1-2. DESIGN CHOICE (log 109). -/
def sramMap : List (SramRegion × Nat) :=
  [(.buffers, 8192), (.store, 1024), (.canObjects, 256), (.canQueues, 640), (.lookup, 512), (.bridge, 512), (.management, 2048), (.recorder, 256),
   (.lamplighter, 384)]

/-- The region of a row, found from the given regions on; beyond them lies the sparing reserve. -/
def regionAt : List (SramRegion × Nat) → Nat → SramRegion
  | [], _ => .reserve
  | (g, n) :: r, row => if row < n then g else regionAt r (row - n)

/-- The region of a row. -/
def rowRegion (row : Nat) : SramRegion := regionAt sramMap row

/-- A row of the reserve that serves no other row: spares are taken in ascending order. DESIGN CHOICE (log 109). -/
def spareIdle (s : State) (row : Nat) : Bool := rowRegion row == .reserve && decide (13824 + (512 - sramSpares s) ≤ row)

/-- A row with an uncorrectable or second corrected error is remapped to a spare row at once where one is left, and tested; a row that is held is
left to the owners of its data (R356, R362). -/
def remapRow (s : State) (row code : Nat) : State :=
  let s1 := { s with flt := { s.flt with row := row } }
  if s.flt.heldRows.contains row then s
  else if s.flt.remap.contains row ∨ sramSpares s = 0 then detect s1 0x30 code
  else detect { s1 with flt := { s1.flt with remap := row :: s1.flt.remap } } 0x30 code

/-- An error of lane `l` counts in the window of its test, which ends as lasting at the UNC_BAD-th uncorrectable block or, with the lane in
service, CRC error (Table 14-3). -/
def windowCount (s : State) (l : Fin 4) (unc : Bool) : State :=
  match s.flt.test with
  | none => s
  | some q =>
    if q.unit ≠ l.val then s
    else
      let n := max 1 (fld (laneThr s l) 23 20)
      let s1 := { s with flt := { s.flt with tUnc := s.flt.tUnc + unc.toNat, tCrc := s.flt.tCrc + (!unc).toNat } }
      if n ≤ s1.flt.tUnc ∨ (s1.flt.lossTest = false ∧ n ≤ s1.flt.tCrc) then
        endTest s1 q { pass := false, fars := false, bankB := false, region := 0 }
      else s1

/-- What Table 14-3 measures of a lane at the end of its test: UP again and not in a lower mode after a loss, the link delay in range after
PDELAY_RANGE. -/
def laneMeasured (s : State) (l : Fin 4) : Bool :=
  let x := s.lanes[l]
  (!s.flt.lossTest || (x.st == .up && !(x.modeWas == 1 && x.mode == 2))) && (!s.flt.pdTest || !x.pdBad)

/-- FLT_UNITu.REQ: lanes by BBn_CFG.EN from internal reset release, CAN channels by CANn_CFG.EN once committed, the others ON
from reset release; a retired lane reads RETIRED (R364). -/
def reqState (s : State) (u : Nat) : Nat :=
  if !coreRun s then 0
  else if (fUnit s u).req = 2 then 2
  else if u < 4 then (if regB s (0x1100 + 0x100 * u) 0 then 1 else 0)
  else if 0x08 ≤ u ∧ u ≤ 0x0F then (if service s && regB s (0x7000 + 0x200 * (u - 8)) 0 then 1 else 0)
  else if unitAssigned u then 1 else 0

end Sys2Proof.Machine
end

