-- ==== Sys2Proof/Machine/TimeOps.lean ====
section
/-! DEFINITION. What the time base shares with inauguration: the view and the candidate master (R157), the start and end of
mastering (R159), the return to FREE (R149, R161), and when own slots open (R165). -/

namespace Sys2Proof.Machine

/-- TB_STAT.STATE as a number (Table 7-11). -/
def tstateNo : TState → Nat
  | .free => 0
  | .acquiring => 1
  | .locked => 2
  | .holdover => 3
  | .master => 4

/-- A time event: every payload carries the time state, MUID and STEPS (R176). -/
def timeEvent (s : State) (code sev : Nat) (vals : List Nat) : State :=
  raise s code sev 0xFFF ([tstateNo s.tb.st, s.tb.muid, s.tb.steps] ++ vals)

/-- TB_CNT `i`. -/
def bumpTb (s : State) (i : Nat) : State := bump s (0x3090 + 4 * i)

/-- The view: the active table less the nodes removed under R134 (R157). -/
def view (s : State) (g : Fin 2) : List TopoEnt := s.inaug[g].table.filter (fun e => !s.inaug[g].removed.contains e.uid)

/-- Serving entries: NOSVC and STARTING clear. -/
def serving (e : TopoEnt) : Bool := !e.eflags.testBit 1 && !e.eflags.testBit 2

/-- The segment the node takes its time from (R163). -/
def upSeg (s : State) : Fin 2 := if segGw s && regB s 0x3000 0 then 1 else 0

/-- The candidate: the serving node of lowest position in the view, masters marked failed left out (R157). -/
def candidate (s : State) (g : Fin 2) : Option Nat :=
  ((view s g).find? (fun e => serving e && !s.tb.failed.contains e.uid)).map TopoEnt.uid

/-- The node itself is the candidate of its upstream segment; a segment gateway that masters there is ahead of it (R163). A node in JOINING is not:
the winning train extends its view (R157). DEDUCED (log 41). -/
def isCandidate (s : State) : Bool :=
  s.inaug[upSeg s].st != .joining && !s.tb.gw && decide (candidate s (upSeg s) = some s.uid)

/-- The position a UID has in the view, 0 for none. -/
def viewPos (s : State) (g : Fin 2) (u : Nat) : Nat :=
  match s.inaug[g].table.findIdx? (fun e => e.uid == u) with
  | some i => if s.inaug[g].removed.contains u then 0 else i + 1
  | none => 0

/-- The node starts to master: 0x4010 with its reason; with reason 0 STARTCYC becomes the first cycle that begins at least
80 ms after its first Lantern, which leaves at the next cycle start (R159, R166). A master without a committed SCHEDULE that has accepted
no Lantern takes the cycle length that SCH_CFG.CLEN reads (R178, R179). DEDUCED (log 41). -/
def masterStart (s0 : State) (reason : Nat) : State :=
  let s := if schedCommitted s0 then s0 else { s0 with tb := { s0.tb with clen := some (s0.tb.clen.getD (regF s0 0x4000 2 0)) } }
  let c := (cycLen s).getD 1
  let first := (cycleNo s + 1) * c
  let s1 := { s with tb := { s.tb with
      st := .master, muid := s.uid, steps := 0, reason := none, yield := none, lost := 0, holdcyc := 0, ownHold := 0, holdSaid := false
      startCyc := if reason = 0 then ceilDiv (first + ms 80) c else s.tb.startCyc
      startOk := true, startHit := if reason = 0 then false else s.tb.startHit, joinStep := false } }
  timeEvent (bumpTb s1 4) 0x4010 1 [reason]

/-- A table has been applied: in FREE, the candidate masters with reason 0 when it is the first table since IDLE (R159). -/
def timeOnTable (s : State) : State :=
  match s.tb.tableAt with
  | some _ => s
  | none =>
    let s1 := { s with tb := { s.tb with tableAt := some s.tb.ctr } }
    if s.tb.st == .free && isCandidate s then masterStart s1 0 else s1

/-- A change of the view that makes the node the candidate lets it master from its next cycle start (R159). -/
def timeOnView (s : State) : State :=
  if (s.tb.st == .locked || s.tb.st == .holdover) && isCandidate s && s.tb.reason.isNone then { s with tb := { s.tb with reason := some 2 } } else s

/-- The time base returns to FREE: train time equals the counter (R149, R161). What the SYNCI FIFO and the TAI offset hold stays. -/
def timeFree (s : State) : State :=
  { s with tb := { s.tb with
      st := .free, rate := 0, tt := 0, base := 0, up := none, upLaneB := false, steps := 0, holdcyc := 0, muid := 0, accepted := [], followed := none
      launched := false, holdIn := false, holdRx := 0, ownHold := 0, lost := 0, lastGood := 0, failed := [], lockRun := 0, bigRun := 0
      clen := none, yield := none, tableAt := none, reason := none, startCyc := 0, startOk := false, startHit := false, mismatch := false, holdSaid := false
      served := none, begun := none, ciServed := none, taiv := false, gw := false, gwOn := false, joinStep := false } }

/-- Cycle k is at or past STARTCYC, which lies at most 84 ms ahead of the cycles before it (R165, R166); once reached it stays so. -/
def pastStart (s : State) (k : Nat) : Bool :=
  let ahead := (s.tb.startCyc + 2 ^ 32 - k % 2 ^ 32) % 2 ^ 32
  s.tb.startOk && (s.tb.startHit || decide (ahead = 0) || decide (ms 84 < ahead * (cycLen s).getD 1))

/-- The rule of R165: MASTER, LOCKED, or HOLDOVER within HOLD_N, from STARTCYC on, and no CYCLE_MISMATCH standing. -/
def slotsAllowed (s : State) : Bool :=
  (s.tb.st == .master || s.tb.st == .locked || (s.tb.st == .holdover && decide (s.tb.holdcyc ≤ regF s 0x3000 19 12))) &&
  pastStart s (cycleNo s) && !s.tb.mismatch

/-- The guardian opens own static slots as R165 states, and not while the time base is under test or lost (R356, R360). -/
def slotsOpen (s : State) : Bool := slotsAllowed s && !underTest s 0x20 && !(fUnit s 0x20).lost

/-- With LOCKONLY set, SYNCO is held inactive while the slots are closed (R171). -/
def syncoShut (s : State) : State :=
  if regB s 0x3040 3 && !slotsOpen s then { s with tb := { s.tb with synco := regB s 0x3040 2 } } else s

/-- SYNCO takes its inactive level at a commit; low while MODE is off (R171). -/
def syncoCommit (s : State) : State :=
  { s with tb := { s.tb with synco := regB s 0x3040 2 && (regF s 0x3040 1 0 == 1 || regF s 0x3040 1 0 == 2) } }

/-- The level the node gives SYNCO: low until commit and with MODE off, inactive while LOCKONLY holds it (R171). -/
def syncoLevel (s : State) : Bool :=
  if !committed s || regF s 0x3040 1 0 == 0 || regF s 0x3040 1 0 == 3 then false
  else if regB s 0x3040 3 && !slotsOpen s then regB s 0x3040 2
  else s.tb.synco

/-- The instant's place in the cycle, ns. -/
def ciOfs (s : State) : Nat := 10 * regF s 0x3004 18 0

/-- The latest cycle number whose common instant has passed. -/
def ciLatest (s : State) : Option Nat :=
  match cycLen s with
  | some c => if ciOfs s ≤ ttNow s then some ((ttNow s - ciOfs s) / c) else none
  | none => none

end Sys2Proof.Machine
end

