-- ==== Sys2Proof/Machine/SchedCheck.lean ====
section
/-! DEFINITION. The bound check (R191 to R193). Times are in units of 0.05 ns, so that P(N)
is whole. -/

namespace Sys2Proof.Machine

/-- A frame on its way along one lane letter and direction. -/
structure WFrame where
  row   : Nat
  fb    : Bool
  start : Nat
  req   : Nat
  len   : Nat
  qx    : Nat
  deriving DecidableEq, Repr

/-- One pass of a frame through a node: row, fallback, node, its request there and its end. -/
structure WPass where
  row  : Nat
  fb   : Bool
  node : Nat
  req  : Nat
  fin  : Nat
  deriving DecidableEq, Repr

/-- The walk along one lane letter and direction (R192). -/
structure Walk where
  frames : List WFrame := []
  arrive : Nat := 0
  qx     : Nat := 0
  fail1  : Option Nat := none
  passes : List WPass := []
  deriving DecidableEq, Repr

/-- The own frames of a row on a lane letter: its primary there and the fallback of the other lane, by start (R191). -/
def ownFrames (s : State) (laneB : Bool) (row : Nat) : List WFrame :=
  match planRow s row with
  | none => []
  | some r =>
    let one (i li : Nat) (fb : Bool) : List WFrame :=
      if beAt r i 2 = 0xFFFF then []
      else [{ row := row, fb := fb, start := 20 * (beAt r i 2 * slenOf s laneB), req := 0, len := 20 * lenBlocks (dmode s laneB) (beAt r li 2), qx := 0 }]
    ((if laneB then one 8 10 false ++ one 6 4 true else one 0 2 false ++ one 14 12 true)).mergeSort (fun a b => decide (a.start ≤ b.start))

/-- A frame waits behind the own frames it would meet. -/
def waitOwn (own : List WFrame) (len st : Nat) : Nat :=
  own.foldl (fun st o => if st < o.start + o.len ∧ o.start < st + len then o.start + o.len else st) st

/-- One node of the walk: index, its row, and lambda there (R192). -/
def walkNode (s : State) (laneB : Bool) (p : Nat) (w : Walk) (node : Nat × Nat × Nat) : Walk :=
  let (idx, row, lam) := node
  let m := dmode s laneB
  let d := 20 * (dlinkMax s + hMax m)
  let own := ownFrames s laneB row
  let (_, w1, relayed) := w.frames.foldl (fun (acc : Nat × Walk × List WFrame) f =>
      let st := waitOwn own f.len (max f.req acc.1)
      let f1 := { f with start := st, req := st + d, qx := f.qx + (st - f.req) }
      (st + f.len,
       { acc.2.1 with qx := max acc.2.1.qx f1.qx, arrive := max acc.2.1.arrive (f.req + f.len - 20 * hMax m - 20 * blockT m),
                      passes := { row := f.row, fb := f.fb, node := idx, req := f.req, fin := st + f.len } :: acc.2.1.passes },
       f1 :: acc.2.2)) (lam, w, [])
  let bad := own.find? (fun o => decide (o.start < lam))
  let sent := own.map (fun o => { o with req := o.start + p + d, qx := 0 })
  { w1 with
    frames := (relayed ++ sent).mergeSort (fun a b => decide (a.start ≤ b.start))
    fail1 := if w1.fail1.isSome then w1.fail1 else bad.map WFrame.row
    passes := own.map (fun o => { row := o.row, fb := o.fb, node := idx, req := o.start, fin := o.start + o.len }) ++ w1.passes }

/-- The place of the candidate master that rules 1 and 3 of R157 choose from a table under check (R192): a segment gateway that masters there,
the node itself or the one whose Lanterns it follows, else the lowest eligible one, else position 1. -/
def masterIdx (s : State) (g : Fin 2) (t : List TopoEnt) : Nat :=
  let gw : Option Nat :=
    if segGw s && g != upSeg s then (if s.tb.gwOn then some s.uid else none) else if s.tb.gw && g == upSeg s then some s.tb.muid else none
  ((gw.bind (fun u => t.findIdx? (fun e => e.uid == u))).or (t.findIdx? serving)).getD 0

/-- The nodes of a table: index, row, and lambda = P + k x (DLINK_MAX + 200 ns) + T_L + B (R191). -/
def walkNodes (s : State) (g : Fin 2) (laneB : Bool) (t : List TopoEnt) : List (Nat × Nat × Nat) :=
  let m := dmode s laneB
  let master := masterIdx s g t
  (List.range t.length).map (fun i =>
    let k := if master ≤ i then i - master else master - i
    (i, ((t[i]?).map TopoEnt.slotref).getD 0xFFFF, precOf t.length + 20 * (k * (dlinkMax s + 200) + 3 * blockT m + blockT m)))

/-- The walk of one lane letter, towards higher or lower positions. -/
def walkLane (s : State) (g : Fin 2) (laneB down : Bool) (t : List TopoEnt) : Walk :=
  let ns := walkNodes s g laneB t
  (if down then ns.reverse else ns).foldl (walkNode s laneB (precOf t.length)) {}

/-- Condition 2 fails for a row: its fallback's request at some node lies less than 2.0 µs after the end of the primary
whose content it carries (Table 8-5). -/
def gapFails (prim fb : Walk) : Option Nat :=
  ((fb.passes.filter WPass.fb).find? (fun f =>
    (prim.passes.any (fun q => !q.fb && q.row == f.row && q.node == f.node && decide (f.req < q.fin + 40000))))).map WPass.row

/-- DYNUSE in whole percent, nearest, saturating at 255, over the rows in use (R186, R193). -/
def dynUse (s : State) (t : List TopoEnt) : Nat :=
  let lane (b : Bool) : Nat :=
    let bits := if dmode s b = 2 then 64 else 16
    ((t.filter (fun e => serving e && e.handle != 0)).map (fun e => match planRow s e.slotref with
      | none => 0
      | some r => beAt r (if b then 28 else 24) 4 * bits + beAt r 20 2 * 40 * blockT (dmode s b))).sum
  let dawn := 20 * 10 * regF s 0x4010 19 12 * regF s 0x4010 29 20
  let len := 20 * ((cycLen s).getD 0 - gend s - dstart s)
  if len = 0 then 255 else min 255 ((2 * 100 * (max (lane false) (lane true) + dawn) + len) / (2 * len))

/-- The bound check of a table (R192, R193). DEDUCED (log 46). -/
def boundCheck (s : State) (g : Fin 2) (epoch : Nat) (t : List TopoEnt) : Bound :=
  let a0 := walkLane s g false false t
  let a1 := walkLane s g false true t
  let b0 := walkLane s g true false t
  let b1 := walkLane s g true true t
  let all := [a0, a1, b0, b1]
  let arrive := (all.map Walk.arrive).foldl max 0
  let qx := (all.map Walk.qx).foldl max 0
  let f1 := (all.map Walk.fail1).find? Option.isSome
  let f2 := [gapFails a0 b0, gapFails a1 b1, gapFails b0 a0, gapFails b1 a1].find? Option.isSome
  let f3 := decide (20 * dstart s < arrive + 10000)
  let (cond, row) := match f1, f2 with
    | some r, _ => (1, r.getD 0)
    | none, some r => (2, r.getD 0)
    | none, none => if f3 then (3, 0) else (0, 0)
  { valid := true, bad := cond != 0, arrive := ceilDiv arrive 20, qextra := min 0xFFFF (ceilDiv qx 200), dynuse := dynUse s t, epoch := epoch, cond := cond, row := row }

end Sys2Proof.Machine
end

