-- ==== Sys2Proof/Machine/SignalOps.lean ====
section
/-! DEFINITION. The signal store (R235 to R250, R256): entry definitions, groups, parsing of received frames, binding, the
flip of the buffers, and the groups of own frames. -/

namespace Sys2Proof.Machine

/-! ### Definitions -/

/-- An image table, by section type and identifier. -/
def imgTable (s : State) (type ident : Nat) : Bytes := (mget s.tables (65536 * type + ident)).getD []

/-- SG_CNT `i`. -/
def bumpSg (s : State) (i : Nat) : State := bump s (0x6080 + 4 * i)

/-- An entry definition (Table 10-1). -/
structure SgDef where
  dir   : Nat
  width : Nat
  seg   : Fin 2
  kind  : Nat
  param : Nat
  index : Nat
  extra : Bytes
  deriving DecidableEq, Repr

/-- Reads 16 bytes as a definition. -/
def readDef (b : Bytes) : SgDef :=
  { dir := byteAt b 0, width := byteAt b 1, seg := if (byteAt b 2).testBit 0 then 1 else 0, kind := byteAt b 3
    param := beAt b 4 2, index := beAt b 6 2, extra := slice b 8 8 }

/-- Definition of entry e; entry 0 is the node descriptor (R236). -/
def sgDef (s : State) (e : Nat) : SgDef :=
  if e = 0 then { dir := 1, width := 64, seg := 0, kind := 3, param := 0, index := 0, extra := [] }
  else readDef (slice (imgTable s 0x70 1) (16 * e) 16)

/-- Number of entries the image's table reaches. -/
def sgCount (s : State) : Nat := (imgTable s 0x70 1).length / 16

/-- MAXAGE of a subscribed definition. -/
def maxAge (d : SgDef) : Nat := byteAt d.extra 0

/-- A segment the definition uses: SEG counts only with SEGGW set. -/
def sgSeg (s : State) (d : SgDef) : Fin 2 := if segGw s then d.seg else 0

/-- The published entries: number and definition. -/
def pubDefs (s : State) : List (Nat × SgDef) :=
  (0, sgDef s 0) :: ((List.range (sgCount s)).map (fun e => (e, sgDef s e))).filter (fun x => x.1 != 0 && x.2.dir == 1)

/-- The subscribed entries, ALLPOS blocks spread out: entry, definition, and the position p inside an ALLPOS block, else 0. -/
def subDefs (s : State) : List (Nat × SgDef × Nat) :=
  ((((List.range (sgCount s)).map (fun e => (e, sgDef s e))).filter (fun x => x.1 != 0 && x.2.dir == 2)).map (fun x =>
    if x.2.kind = 3 then (List.range x.2.param).map (fun j => (x.1 + j, x.2, j + 1)) else [(x.1, x.2, 0)])).flatten

/-- The definition a subscribed entry follows: its own, or that of the ALLPOS block it is an element of (R239). -/
def subDefOf (s : State) (e : Nat) : SgDef :=
  let d := sgDef s e
  if d.dir ≠ 0 then d
  else (((List.range (min 254 e)).map (fun i => (i, sgDef s (e - 1 - i)))).find? (fun x => x.2.dir == 2 && x.2.kind == 3 && decide (x.1 + 1 < x.2.param))).elim d Prod.snd

/-- A SID (R235). -/
def mkSid (origin index : Nat) : Nat := 65536 * (origin % 512) + index % 65536

/-- SID of a published entry: under the own handle, or a group or train-wide origin. -/
def pubSid (s : State) (d : SgDef) : Nat :=
  let o := if d.param = 0 then ownHandle s (sgSeg s d) else d.param
  if o = 0 then 0 else mkSid o d.index

/-- One entry of the snapshot. -/
def sgEnt (s : State) (e : Nat) : SgEnt := (mget s.sg.snap e).getD {}

/-- Value bits up to the width. -/
def toWidth (w v : Nat) : Nat := v % 2 ^ w

/-! ### Binding -/

/-- The handle at a position of the active table, if usable (R246). -/
def usableAt (s : State) (g : Fin 2) (pos : Nat) : Option Nat :=
  if pos = 0 then none else
  match s.inaug[g].table[pos - 1]? with
  | some e => if e.handle ≠ 0 ∧ e.eflags.testBit 1 = false then some e.handle else none
  | none => none

/-- The last descriptor of a handle lists a role (R247). -/
def hasRole (s : State) (g : Fin 2) (h role : Nat) : Bool :=
  match mget s.sg.desc (256 * g.val + h) with
  | some d => (List.range 4).any (fun i => d / 2 ^ (16 * i) % 65536 == role)
  | none => false

/-- Positions with a role, other than the own one. -/
def rolePos (s : State) (g : Fin 2) (role : Nat) : List Nat :=
  ((List.range s.inaug[g].table.length).map (· + 1)).filter (fun p =>
    p != ownPos s g && ((usableAt s g p).map (fun h => hasRole s g h role)).getD false)

/-- Distance between two positions. -/
def posDist (a b : Nat) : Nat := if a ≤ b then b - a else a - b

/-- The position nearest the own one; of two equally near, the lower (Table 10-5). -/
def nearest (own : Nat) (l : List Nat) : Option Nat :=
  l.foldl (fun b p => match b with
    | none => some p
    | some q => if posDist own p < posDist own q then some p else some q) none

/-- The handle a resolution by mode finds: 0 ABS, 1 LEAD, 2 REL, 3 ROLE_NEAR (R301, Table 10-5). -/
def resolve (s : State) (g : Fin 2) (mode param : Nat) : Option Nat :=
  match mode with
  | 0 => if 1 ≤ param ∧ param ≤ 254 then some param else none
  | 1 => usableAt s g 1
  | 2 => let p : Int := ownPos s g + signed 16 param
         if ownPos s g ≠ 0 ∧ 1 ≤ p then usableAt s g p.toNat else none
  | _ => (nearest (ownPos s g) (rolePos s g param)).bind (usableAt s g)

/-- The SID a subscribed entry resolves to (Table 10-5). -/
def bindSid (s : State) (d : SgDef) (p : Nat) : Option Nat :=
  let g := sgSeg s d
  let at_ (h : Option Nat) := h.map (fun h => mkSid h d.index)
  match d.kind with
  | 0 => some (mkSid d.param d.index)
  | 1 => at_ (resolve s g 1 0)
  | 2 => at_ (resolve s g 2 d.param)
  | 3 => at_ (usableAt s g p)
  | 4 => at_ ((rolePos s g d.param).head?.bind (usableAt s g))
  | _ => at_ (resolve s g 3 d.param)

/-- The element of an ALLPOS block that stands for the node's own position. -/
def ownElem (s : State) (d : SgDef) (p : Nat) : Bool := d.kind == 3 && p != 0 && p == ownPos s (sgSeg s d)

/-- A binding: every subscribed entry resolves afresh; frames match the new binding from now on, and the published one
changes at the next instant (R246). What an entry's former publisher wrote since the last flip is dropped (R248). -/
def bindAll (s : State) : State :=
  let b := (subDefs s).filterMap (fun x => (bindSid s x.2.1 x.2.2).map (fun sid => (x.1, sid)))
  let b := b.foldl (fun m x => mput m x.1 x.2) []
  { s with sg := { s.sg with
      bind := b, rebind := true, bindReq := false, bindCyc := true, pubs := [], dupFrom := [], dupSaid := []
      back := s.sg.back.filter (fun x => mget b x.1 == mget s.sg.bind x.1 || (sgDef s x.1).dir == 1) } }

/-! ### Groups (R240) -/

/-- A number as n bits, most significant first. -/
def toBits (n v : Nat) : List Bool := (List.range n).map (fun i => v.testBit (n - 1 - i))

/-- Bits, most significant first, as a number. -/
def ofBits (l : List Bool) : Nat := l.foldl (fun a b => 2 * a + b.toNat) 0

/-- Bits packed into whole words, zero padded. -/
def packBits (l : List Bool) : Bytes := beBytes (4 * ceilDiv l.length 32) (ofBits l * 2 ^ (32 * ceilDiv l.length 32 - l.length))

/-- A group of values (V, value) of one width, from an index of an origin (Table 10-2). -/
def groupBytes (origin index width : Nat) (vals : List (Bool × Nat)) : Bytes :=
  let ext := decide (256 ≤ origin)
  beBytes 2 index ++ [BitVec.ofNat 8 vals.length, BitVec.ofNat 8 (128 * ext.toNat + (width - 1))] ++
  (if ext then beBytes 2 origin ++ [0#8, 0#8] else []) ++
  packBits (vals.map (fun x => x.1 :: toBits width (toWidth width x.2))).flatten

/-- A group of a received payload: origin, index, width and its fields. -/
structure RxGroup where
  origin : Nat
  index  : Nat
  width  : Nat
  vals   : List (Bool × Nat)
  badExt : Bool
  deriving DecidableEq, Repr

/-- The next group of a payload and the rest: none at the end marker, at the end, or where it would run past the end (R243). -/
def nextGroup (src : Nat) (b : Bytes) : Option (RxGroup × Bytes) :=
  if b.length < 4 ∨ beAt b 0 4 = 0 then none
  else
    let ext := (byteAt b 3).testBit 7
    let w := byteAt b 3 % 128 + 1
    let n := byteAt b 2
    let hd := if ext then 8 else 4
    let body := 4 * ceilDiv (n * (1 + w)) 32
    if b.length < hd + body then none
    else
      let x := beAt b hd body
      let f (k : Nat) : Bool × Nat :=
        let v := x / 2 ^ (8 * body - (k + 1) * (1 + w)) % 2 ^ (1 + w)
        (v.testBit w, v % 2 ^ w)
      some ({ origin := if ext then beAt b 4 2 else src, index := beAt b 0 2, width := w, vals := (List.range n).map f
              badExt := ext && decide (beAt b 4 2 < 256) }, b.drop (hd + body))

/-- The descriptor's value: ROLE3 down to ROLE0 (R236). -/
def descriptor (s : State) : Nat := (reg s 0x6008).toNat * 2 ^ 32 + (reg s 0x6004).toNat

/-- One received field for a bound entry (R243, R245, R249). -/
def takeField (s : State) (src e : Nat) (group : Bool) (v : Bool) (val : Nat) (fold dyn : Bool) : State :=
  let first := mget s.sg.dupFrom e
  let s1 := match first with
    | some h => if group && h != src && !s.sg.dupSaid.contains e then
        raise { s with sg := { s.sg with dupSaid := e :: s.sg.dupSaid, snap := mput s.sg.snap e { sgEnt s e with dup := true }
                                         dupSid := (mget s.sg.bind e).getD 0, dupKept := min h src, dupDrop := max h src } }
          0x7011 2 0xFFF [(sgSeg s (subDefOf s e)).val, e, (mget s.sg.bind e).getD 0, min h src, max h src]
      else s
    | none => s
  if group && (first.map (fun h => decide (h < src))).getD false then s1
  else
    let old := (mget s1.sg.back e).getD {}
    { s1 with sg := { s1.sg with
        dupFrom := if group then mput s1.sg.dupFrom e src else s1.sg.dupFrom
        back := mput s1.sg.back e { old with val := if v then some val else old.val, v := some v, fold := fold, dyn := dyn } } }

/-- LAYOUT_ERR (R243). -/
def layoutErr (s : State) (g : Fin 2) (src index : Nat) : State := raiseLim (bumpSg s 2) 1000000000 0x7020 2 0xFFF [g.val, src, index]

/-- The groups of a payload, one after the other; `left` bounds their number. -/
def parseGroups (g : Fin 2) (src : Nat) (fold dyn : Bool) : (left : Nat) → State → Bytes → State
  | 0, s, _ => s
  | n + 1, s, b =>
    match nextGroup src b with
    | none => s
    | some (x, rest) =>
      let hits (k : Nat) : List Nat :=
        if 512 ≤ x.origin ∨ 65536 ≤ x.index + k then []
        else (s.sg.bind.filter (fun y => y.2 == mkSid x.origin (x.index + k) && sgSeg s (subDefOf s y.1) == g)).map Prod.fst
      let wrong := (List.range x.vals.length).any (fun k => (hits k).any (fun e => decide (
        (subDefOf s e).width ≠ x.width)))
      if x.badExt || wrong then layoutErr s g src x.index
      else
        let s1 := bumpSg s 1
        let s2 := if x.origin = src ∧ x.index = 0 ∧ x.width = 64 then
            match x.vals with
            | (true, d) :: _ =>
              if s1.inaug[g].table.any (fun e => e.handle == src) ∧ mget s1.sg.desc (256 * g.val + src) ≠ some d then
                { s1 with sg := { s1.sg with desc := mput s1.sg.desc (256 * g.val + src) d, descNew := true } }
              else s1
            | _ => s1
          else s1
        let s3 := if 256 ≤ x.origin ∧ s2.sg.bindCyc = true then
            { s2 with sg := { s2.sg with pubs := s2.sg.pubs ++ (List.range x.vals.length).map (fun k => (mkSid x.origin (x.index + k), src)) } }
          else s2
        let s4 := (List.range x.vals.length).foldl (fun t k =>
          let v := x.vals.getD k (false, 0)
          (hits k).foldl (fun u e => takeField u src e (decide (256 ≤ x.origin)) v.1 v.2 fold dyn) t) s3
        parseGroups g src fold dyn n s4 rest

/-- The gateway parses a frame that GW received with a correct trailer (R243). A null frame writes nothing. -/
def gwParse (s : State) (g : Fin 2) (f : Bytes) : State :=
  let h := readHdr f
  if h.kind = 5 ∧ service s = true then parseGroups g h.src h.fold h.dyn (h.len / 4 + 1) (bumpSg s 0) (payloadOf f) else s

/-! ### The flip (R237, R245) -/

/-- The published state and value of an own entry whose source is not COPY (R250, R252, R256). No field ever arrives for it: its AGE keeps
the reset value of Table 10-7. DEDUCED (log 116). -/
def pubNow (s : State) (inst : Nat) (e : Nat) (d : SgDef) : SgEnt :=
  let old := sgEnt s e
  let v := (((mget s.sg.back e).bind SgBack.val).getD old.val)
  let mk (v : Nat) (ok : Bool) : SgEnt :=
    { val := toWidth d.width v, st := if s.sg.disabled.contains e then 10 else if ok then 8 else 9, sid := pubSid s d }
  if e = 0 then mk (descriptor s) true
  else
    match d.kind with
    | 0 => mk v (s.sg.hostSet.contains e)
    | 1 =>
      let rx := (List.range ((imgTable s 0x70 3).length / 16)).find? (fun r =>
        byteAt (imgTable s 0x70 3) (16 * r) == 1 && beAt (imgTable s 0x70 3) (16 * r + 4) 2 == e)
      let fresh := (rx.map (fun r => beAt (imgTable s 0x70 3) (16 * r + 10) 2)).getD 0
      mk v ((mget s.sg.canSeen e).map (fun t => fresh == 0 || decide (inst ≤ t + ms fresh)) |>.getD false)
    | 2 => mk s.tb.synciLvl.toNat (regF s 0x3044 1 0 == 1)
    | _ => mk (beNat d.extra) true

/-- The state and value a subscribed entry takes (R245, R248); in a yielded train what does not arrive reads stale (R135). -/
def subNow (s : State) (e : Nat) (d : SgDef) : SgEnt :=
  let old := sgEnt s e
  match mget s.sg.bind e with
  | none => { old with val := 0, st := 1, age := 255, fold := false, dyn := false, sid := 0 }
  | some sid =>
    let moved := old.sid != sid || old.st == 0 || old.st == 1
    let b := (mget s.sg.back e).getD {}
    match b.v with
    | some v => { old with val := toWidth d.width (b.val.getD old.val), st := if v then 3 else 5, age := 0, fold := b.fold, dyn := b.dyn, sid := sid }
    | none =>
      let age := if moved then 255 else min 255 (old.age + 1)
      { old with val := toWidth d.width (b.val.getD old.val), st := if moved || old.st == 2 then 2 else if maxAge d < age || s.inaug[sgSeg s d].yielded then 4 else old.st, age := age, sid := sid }

/-- The own position's element takes the own published entry of that index as a field that arrived (Table 10-5). -/
def ownNow (s : State) (snap : List (Nat × SgEnt)) (e : Nat) (d : SgDef) : SgEnt :=
  let old := sgEnt s e
  let sid := mkSid (ownHandle s (sgSeg s d)) d.index
  match (pubDefs s).find? (fun x => x.2.param == 0 && x.2.index == d.index && sgSeg s x.2 == sgSeg s d && x.2.width == d.width) with
  | some (p, _) =>
    let src := (mget snap p).getD {}
    if src.st = 8 then { old with val := src.val, st := 3, age := 0, fold := false, dyn := false, sid := sid } else { old with st := 5, age := 0, sid := sid }
  | none => { old with val := 0, st := 1, age := 255, sid := 0 }

/-- A COPY entry takes what its source takes at this flip (R250). -/
def copyNow (s : State) (snap : List (Nat × SgEnt)) (e : Nat) (d : SgDef) : SgEnt :=
  let src := (mget snap (beAt d.extra 0 2)).getD {}
  { val := toWidth d.width src.val, st := if s.sg.disabled.contains e then 10 else if src.st = 3 then 8 else 9, sid := pubSid s d }

/-- The snapshot after the flip: own sources, subscriptions, own ALLPOS elements, copies, and own elements of copies. -/
def flipSnap (s : State) (inst : Nat) : List (Nat × SgEnt) :=
  let pubs := pubDefs s
  let subs := subDefs s
  let m1 := (pubs.filter (fun x => x.1 == 0 || x.2.kind != 4)).foldl (fun m x => mput m x.1 (pubNow s inst x.1 x.2)) []
  let m2 := (subs.filter (fun x => !ownElem s x.2.1 x.2.2)).foldl (fun m x => mput m x.1 (subNow s x.1 x.2.1)) m1
  let own := subs.filter (fun x => ownElem s x.2.1 x.2.2)
  let m3 := own.foldl (fun m x => mput m x.1 (ownNow s m x.1 x.2.1)) m2
  let m4 := (pubs.filter (fun x => x.1 != 0 && x.2.kind == 4)).foldl (fun m x => mput m x.1 (copyNow s m x.1 x.2)) m3
  own.foldl (fun m x => mput m x.1 (ownNow s m x.1 x.2.1)) m4

/-- Duplicate treatment at a binding (R249): an own group-origin entry that a lower handle publishes too is DISABLED. -/
def dupCheck (s : State) : State :=
  (pubDefs s).foldl (fun t x =>
    let sid := pubSid t x.2
    let own := ownHandle t (sgSeg t x.2)
    if x.2.param < 256 then t
    else
      match t.sg.pubs.find? (fun y => y.1 == sid && decide (y.2 < own)) with
      | some y =>
        if t.sg.disabled.contains x.1 then t
        else raise { t with sg := { t.sg with disabled := x.1 :: t.sg.disabled, dupSid := sid, dupKept := y.2, dupDrop := own } }
          0x7010 5 0xFFF [(sgSeg t x.2).val, x.1, sid, y.2, own]
      | none => { t with sg := { t.sg with disabled := t.sg.disabled.filter (· != x.1) } }) s

/-- The entries that turned from PUB_VALID to PUB_INVALID for age raise MAP_STALE (R252). -/
def mapStale (old s : State) : State :=
  (pubDefs s).foldl (fun t x =>
    if x.1 ≠ 0 ∧ x.2.kind = 1 ∧ (sgEnt old x.1).st = 8 ∧ (sgEnt s x.1).st = 9 then
      let tab := imgTable s 0x70 3
      let r := ((List.range (tab.length / 16)).find? (fun r => byteAt tab (16 * r) == 1 && beAt tab (16 * r + 4) 2 == x.1)).getD 0
      raise (bumpSg t 8) 0x7030 2 (byteAt tab (16 * r + 1)) [(sgSeg s x.2).val, x.1, pubSid s x.2, byteAt tab (16 * r + 1), byteAt tab (16 * r + 2), r]
    else t) s

/-- At the common instant the back buffer becomes the snapshot, SG_SEQ rises, and a waiting binding is published (R237, R246). -/
def flip (s : State) (inst : Nat) : State :=
  let s0 := if s.sg.bindCyc then dupCheck s else s
  let snap := flipSnap s0 inst
  let was := s0.sg.rebind
  let s1 := { s0 with sg := { s0.sg with
      snap := snap, back := [], seq := (s0.sg.seq + 1) % 2 ^ 32, rebind := false, bindCyc := false
      bindReq := s0.sg.bindReq || s0.sg.descNew, descNew := false } }
  let s2 := if was then
      let subs := subDefs s1
      let un := (subs.filter (fun x => (sgEnt s1 x.1).st == 1)).length
      let g := upSegOf s1
      raise { s1 with sg := { s1.sg with epoch := s1.inaug[g].epoch, unbound := un } } 0x7001 0 0xFFF [g.val, s1.inaug[g].epoch, subs.length - un, un]
    else s1
  mapStale s0 s2
where
  /-- The segment whose epoch a binding reports. -/
  upSegOf (s : State) : Fin 2 := if segGw s && regB s 0x3000 0 then 1 else 0

/-! ### Own frames (R241, R242, R244) -/

/-- A layout record (Table 10-3). -/
structure Layout where
  lane   : Nat
  seg    : Fin 2
  first  : Nat
  count  : Nat
  dynper : Nat
  deriving DecidableEq, Repr

/-- Layout record r. -/
def layoutRec (s : State) (r : Nat) : Layout :=
  let b := slice (imgTable s 0x70 2) (8 * r) 8
  { lane := byteAt b 0, seg := if segGw s && (byteAt b 1).testBit 0 then 1 else 0, first := beAt b 2 2, count := beAt b 4 2, dynper := beAt b 6 2 }

/-- Number of layout records. -/
def layoutCount (s : State) : Nat := (imgTable s 0x70 2).length / 8

/-- The group of entries first to first + count - 1, from the snapshot (R241). -/
def entryGroup (s : State) (g : Fin 2) (first count : Nat) : Bytes :=
  let d := sgDef s first
  let o := if d.param = 0 then ownHandle s g else d.param
  groupBytes o d.index d.width ((List.range count).map (fun i => let x := sgEnt s (first + i); (x.st == 8, x.val)))

/-- The descriptor group: 16 bytes. -/
def descGroup (s : State) (g : Fin 2) : Bytes := groupBytes (ownHandle s g) 0 64 [(true, (sgEnt s 0).val)]

/-- The groups a lane's primary would carry in order: the descriptor on the first lane able to carry it, then the records. -/
def laneGroups (s : State) (g : Fin 2) (laneB : Bool) (row : Bytes) : List Bytes :=
  let fits (b : Bool) : Bool := beAt row (if b then 8 else 0) 2 != 0xFFFF && decide (16 ≤ beAt row (if b then 10 else 2) 2)
  let desc := if laneB then fits true && !fits false else fits false
  (if desc then [descGroup s g] else []) ++
  ((((List.range (layoutCount s)).map (layoutRec s)).filter (fun x => decide (x.lane = laneB.toNat) && x.seg == g)).map (fun x => entryGroup s g x.first x.count))

/-- The groups that fit in order, and how many are left out (R241). -/
def fitGroups (len : Nat) : List Bytes → Bytes × Nat
  | [] => ([], 0)
  | a :: r => if a.length ≤ len then let (b, n) := fitGroups (len - a.length) r; (a ++ b, n) else ([], r.length + 1)

/-- No primary of the row can carry the descriptor (R242). -/
def descHomeless (row : Option Bytes) : Bool :=
  match row with
  | none => true
  | some r => !((beAt r 0 2 != 0xFFFF && decide (16 ≤ beAt r 2 2)) || (beAt r 8 2 != 0xFFFF && decide (16 ≤ beAt r 10 2)))

/-! ### Host writes (R256) -/

/-- The word of a HOST entry's half as the next commit would leave it. -/
def hostHalf (s : State) (e half : Nat) : Word :=
  match (s.sg.staged.reverse).find? (fun x => x.1 == e && x.2.1 == half) with
  | some x => x.2.2
  | none =>
    let v := (((mget s.sg.back e).bind SgBack.val).getD (sgEnt s e).val)
    BitVec.ofNat 32 (v / 2 ^ (32 * half))

/-- The staging queue goes to the back buffer as one write group and empties. -/
def commitStaged (s : State) : State :=
  let s1 := s.sg.staged.foldl (fun t x =>
    let e := x.1
    let old := (mget t.sg.back e).getD {}
    let v := old.val.getD (sgEnt t e).val
    let v1 := if x.2.1 = 0 then v / 2 ^ 32 * 2 ^ 32 + x.2.2.toNat else v % 2 ^ 32 + x.2.2.toNat * 2 ^ 32
    { t with sg := { t.sg with
        back := mput t.sg.back e { old with val := some (toWidth (sgDef t e).width v1) }
        hostSet := if t.sg.hostSet.contains e then t.sg.hostSet else e :: t.sg.hostSet } }) s
  { s1 with sg := { s1.sg with staged := [] } }

/-- The entry is a HOST entry of the committed image. -/
def isHostEntry (s : State) (e : Nat) : Bool := e != 0 && (sgDef s e).dir == 1 && (sgDef s e).kind == 0

end Sys2Proof.Machine
end

