-- ==== Sys2Proof/Machine/SwitchOps.lean ====
section
/-! DEFINITION. The switch core (R208 to R234): output buffers and their states, back-pressure, the local bridge, mirroring. -/

namespace Sys2Proof.Machine

/-! ### Taking a frame into an output (R219, R224, R227) -/

/-- A local source: L0 to M1 (R219). -/
def localSource (p : Nat) : Bool := decide (4 ≤ p) && decide (p ≤ 13)

/-- A frame is taken into an output's queue, and asks its input's cells across the crossbar. -/
def takeOut (s : State) (p : Fin 20) (x : QFrame) : State :=
  let s1 := { s with sw := { s.sw with fab := fabAdd s.sw.fab x.inp p.val x.id false x.cls (cellsOf x.frame) } }
  xoffUpdate (setSw s1 p (fun o => { o with q := o.q ++ [x] }))

/-- Credit for an output-class is withheld from an internal source: it is in XOFF, or frames of the source for it still wait (R224). -/
def noCredit (s : State) (p : Fin 20) (x : QFrame) : Bool :=
  decide (14 ≤ x.inp) && (s.sw.ports[p].xoff.getLsbD x.cls || s.sw.kept.any (fun k => k.1 == p.val && k.2.cls == x.cls && k.2.inp == x.inp))

/-- A dynamic frame goes into an output's queue, waits at its internal source for credit, or is discarded as the output's state and the caps
say. DEDUCED (log 51). -/
def enqueueOut (s : State) (p : Fin 20) (x : QFrame) : State :=
  match s.sw.ports[p].hst with
  | 1 => bumpCc (bumpSw s p.val 8) x.cls 0
  | 2 => bumpSw s p.val 9
  | 3 => s
  | _ =>
    if noCredit s p x then { s with sw := { s.sw with kept := s.sw.kept ++ [(p.val, x)] } }
    else if occ s p x.cls + cellsOf x.frame ≤ qMax s x.cls then takeOut s p x
    else if localSource x.inp then raiseLim (bumpSw s x.inp 5) 1000000000 0x6021 2 x.inp [x.inp, x.cls]
    else if poolFree s < cellsOf x.frame then
      let s1 := raise (bumpSw s x.inp 7) 0x6011 5 x.inp [x.inp, x.cls]
      if x.inp < 4 then detect s1 x.inp 0x6011 else s1
    else takeOut (raiseLim (bumpSw s x.inp 6) 1000000000 0x6010 2 x.inp [x.inp, x.cls]) p x

/-- Frames that internal ports kept go on where there is credit again, oldest first (R224). -/
def releaseHeld (s : State) : State :=
  s.sw.kept.foldl (fun t k => enqueueOut t (Fin.ofNat 20 k.1) k.2) { s with sw := { s.sw with kept := [] } }

/-- Frames queued at an output, by class. -/
def perClass (q : List QFrame) : List Nat := (List.range 8).map (fun c => (q.filter (fun x => x.cls == c)).length)

/-- The queue of an output is purged, counted per class in HOLD_PURGE. -/
def purgeOut (s : State) (p : Fin 20) : State :=
  let q := s.sw.ports[p].q
  (q.foldl (fun t x => bumpCc t x.cls 1) (setSw s p (fun o => { o with q := [] })))

/-- SW_HOLDTIME.VALUE. -/
def holdTime (s : State) : Nat := regF s 0x5004 15 0

/-- Copies queued at an output that is not UP are discarded (R230). -/
def copiesGone (s : State) (p : Fin 20) : State :=
  (s.sw.ports[p].q.filter QFrame.copy).foldl (fun t x => mirDrop t p x.cls) (setSw s p (fun o => { o with q := o.q.filter (fun x => !x.copy) }))

/-- An output goes down (Table 9-3); a frame leaving is cut, counted in OUT_ABORT (Table 9-7). -/
def outDown (s : State) (p : Fin 20) : State :=
  if s.sw.ports[p].hst = 0 then
    let s0 := copiesGone (if s.now < s.sw.ports[p].busy then bumpSw s p.val 11 else s) p
    let s1 :=
      if holdTime s = 0 then setSw (purgeOut s0 p) p (fun o => { o with hst := 2, xoff := 0, busy := 0 })
      else
        raise (setSw s0 p (fun o => { o with hst := 1, xoff := 0, busy := 0, held := s.now })) 0x6001 1 p.val (p.val :: perClass s0.sw.ports[p].q)
    releaseHeld (xoffUpdate s1)
  else s

/-- A down output comes back (Table 9-3). -/
def outUp (s : State) (p : Fin 20) : State :=
  match s.sw.ports[p].hst with
  | 0 => s
  | 1 => xoffUpdate (raise (setSw s p (fun o => { o with hst := 0 })) 0x6002 1 p.val [p.val])
  | _ => setSw s p (fun o => { o with hst := 0 })

/-- The hold timer ends (Table 9-3). -/
def outHoldEnd (s : State) (p : Fin 20) : State :=
  if s.sw.ports[p].hst = 1 then
    releaseHeld (xoffUpdate (raise (setSw (purgeOut s p) p (fun o => { o with hst := 2 })) 0x6003 2 p.val (p.val :: perClass s.sw.ports[p].q)))
  else s

/-- A port comes back: a hold whose time has ended is purged first (R228). -/
def outBack (s : State) (p : Fin 20) : State :=
  outUp (if s.sw.ports[p].held + 10000 * holdTime s ≤ s.now then outHoldEnd s p else s) p

/-- An output is disabled by commit or profile switch: its queue is purged. -/
def outDisable (s : State) (p : Fin 20) : State :=
  let s1 := copiesGone s p
  releaseHeld (xoffUpdate (setSw (purgeOut s1 p) p (fun o => { o with hst := 3, xoff := 0, busy := 0 })))

/-! ### Native forwarding (R209 to R212) -/

/-- The port towards a position of the segment (R210). -/
def towards (s : State) (g : Fin 2) (h : Nat) : Option Port :=
  match s.inaug[g].table.findIdx? (fun e => e.handle == h && h != 0), ownEnt s g with
  | some i, some me =>
    let lower := if me.eflags.testBit 0 then Port.aft else Port.fore
    if i + 1 < ownPos s g then some lower else if i + 1 > ownPos s g then some (otherPort lower) else none
  | _, _ => none

/-- The lane of a letter on a port: the surviving one while the letter's own lane is not UP at its design mode (R199, R212). -/
def dynLane (s : State) (p : Port) (b : Bool) : Option (Fin 4) :=
  let l := if b then laneB p else laneA p
  if upAtDesign s l then some l
  else if laneUp s (sisterLane l) then some (sisterLane l)
  else if laneUp s l then some l else none

/-- A frame goes into the queue of a port's lane, where the link carries it (R109, R125, R136, R209). -/
def toPort (s : State) (p : Port) (b : Bool) (x : QFrame) : State :=
  let h := readHdr x.frame
  if linkCarries s p h.kind h.dtype then enqueueOut s (lanePort ((dynLane s p b).getD (if b then laneB p else laneA p))) x else s

/-- NO_ROUTE (R209, R234). -/
def noRoute (s : State) (p dest : Nat) : State := raiseLim (bumpSw s p 4) 1000000000 0x6040 2 p [p, dest]

/-- A frame of a KIND can go on out of a port of the segment: LINKED, and not on the seam but for Dawn and Kindle (R109, R209). -/
def canLeave (s : State) (g : Fin 2) (p : Port) (kind : Nat) : Bool :=
  portLinked s p && decide (segOf s p = g) && (!seamShut s p || kind == 2 || kind == 4)

/-- A frame with DTYPE 0 goes to the port towards its handle, or has no route (Table 9-2). -/
def toHandle (s : State) (g : Fin 2) (b : Bool) (x : QFrame) : State :=
  let h := readHdr x.frame
  let d := beAt h.dest 0 1
  match towards s g d with
  | some q => if canLeave s g q h.kind then toPort s q b x else noRoute s x.inp d
  | none => noRoute s x.inp d

/-- A frame of the node's own enters at internal or local port `inp` and goes to the port towards its handle, or to every port (R209). -/
def originate (s : State) (g : Fin 2) (b : Bool) (x0 : QFrame) : State :=
  let s1 := if 14 ≤ x0.inp then enterFab s x0.inp x0.frame else newFrame s
  let x := { x0 with id := s1.sw.fab.cur }
  let h := readHdr x.frame
  if h.dtype = 0 then toHandle s1 g b x
  else
    let go (t : State) (p : Port) : State := if portLinked t p && decide (segOf t p = g) then toPort t p b x else t
    go (go s1 .fore) .aft

/-- A member of a group (R211). -/
def groupMember (s : State) (n : Nat) : Bool := decide (n < 4096) && (byteAt (imgTable s 0x60 2) (4 * n + 3)).testBit 0

/-- The DTYPE and DEST address this node (Table 9-2). -/
def addressedHere (s : State) (g : Fin 2) (h : NHdr) : Bool :=
  match h.dtype with
  | 0 => decide (beAt h.dest 0 1 = ownHandle s g) && decide (ownHandle s g ≠ 0)
  | 1 => groupMember s (beAt h.dest 0 2)
  | _ => true

/-! ### The local bridge (R213 to R215) -/

/-- The fabric port of a bridge port: L0 to M1 are 4 to 13; the I1G lane is lane A of its port. -/
def bridgePort (s : State) (bp : Nat) : Nat := if bp < 10 then bp + 4 else if portI1g s .fore then 0 else 2

/-- The node has an I1G lane. -/
def hasI1g (s : State) : Bool := portI1g s .fore || portI1g s .aft

/-- The word of the VLAN table for a VID. -/
def vlanWord (s : State) (v : Nat) : Word := BitVec.ofNat 32 (beAt (imgTable s 0x60 3) (4 * v) 4)

/-- Bridge port `bp` (11 BACKBONE) is a member of a VLAN. -/
def vlanHas (w : Word) (bp : Nat) : Bool := bitAt w 31 && bitAt w bp

/-- The FDB set of an address and VID (R213). -/
def fdbSet (mac vid : Nat) : Nat := (crc16 (beBytes 6 mac ++ beBytes 2 vid)).toNat % 1024

/-- The entries of an address and VID, with their indexes: one, or static ones that differ in segment (R214). -/
def fdbFind (s : State) (mac vid : Nat) : List (Nat × FdbEnt) := s.sw.fdb.filter (fun x => x.2.mac == mac && x.2.vid == vid)

/-- A source address is learned (R213): against a local port, the I1G lane, or the handle of a received message frame. `inp`: the fabric port. -/
def fdbLearn (s : State) (inp mac vid : Nat) (remote seg : Bool) (target : Nat) : State :=
  let put (t : State) (i : Nat) : State :=
    { t with sw := { t.sw with fdb := mput t.sw.fdb i { mac := mac, vid := vid, stat := false, remote := remote, seg := seg, target := target, seen := t.now } } }
  if !regB s 0x5000 2 || (mac / 2 ^ 40).testBit 0 || (fdbFind s mac vid).any (fun x => x.2.stat && x.2.seg == seg) then s
  else
    match (fdbFind s mac vid).find? (fun x => !x.2.stat) with
    | some (i, e) =>
      if e.remote = remote ∧ e.target = target ∧ e.seg = seg then put s i else raise (put s i) 0x6031 1 inp [inp, target, vid]
    | none =>
      let ways := (List.range 4).map (fun w => 4 * fdbSet mac vid + w)
      match ways.find? (fun i => (mget s.sw.fdb i).isNone) with
      | some i => put s i
      | none =>
        let old := ways.filterMap (fun i => (mget s.sw.fdb i).bind (fun e => if !e.stat && decide (e.seen + 1000000000 ≤ s.now) then some (i, e) else none))
        match old.foldl (fun b x => match b with
            | none => some x
            | some y => if x.2.seen < y.2.seen then some x else some y) (none : Option (Nat × FdbEnt)) with
        | some (i, _) => put s i
        | none => raiseLim s 1000000000 0x6030 2 inp [inp, target, vid]

/-- An Ethernet frame carries an 802.1Q tag. -/
def tagged (f : Bytes) : Bool := beAt f 12 2 == 0x8100

/-- The frame with its tag, or without, and a new FCS where it changed. DEDUCED (log 55). -/
def retag (f : Bytes) (vid pcp : Nat) (untag : Bool) : Bytes :=
  if tagged f then
    if untag then let b := f.take 12 ++ (f.take (f.length - 4)).drop 16; b ++ ethFcs b else f
  else if untag then f
  else let b := f.take 12 ++ [0x81#8, 0x00#8] ++ beBytes 2 (8192 * pcp + vid) ++ (f.take (f.length - 4)).drop 12; b ++ ethFcs b

/-- Class of a PCP (SW_PCPMAP). -/
def pcpClass (s : State) (pcp : Nat) : Nat := classOf (fld (reg s 0x500C) (3 * pcp + 2) (3 * pcp))

/-- A frame that the row's whole quota can never hold is discarded as soon as it is due (R188). -/
def dynOversize (s : State) (x : DynOut) : State :=
  raiseLim (bumpSch s 11) 1000000000 0x5042 2 0xFFF [x.laneB.toNat, 0, s.inaug[x.seg].epoch, x.kind, x.body.length]

/-- A dynamic frame waits for admission (R188). DEDUCED (log 79). -/
def pushDyn (s : State) (x : DynOut) : State :=
  if rowQuota (ownRow s x.seg) x.laneB < 28 + x.body.length then dynOversize s x
  else { s with sch := { s.sch with dyn := s.sch.dyn ++ [x] } }

/-- Frames discarded by the local bridge. -/
def inDiscard (s : State) (inp : Nat) : State := bumpSw s inp 5

/-- BACKBONE: the frame is encapsulated and waits for admission (R215); a frame that no payload can hold is discarded. -/
def encapsulate (s : State) (inp dtype handle cls : Nat) (seg : Bool) (f : Bytes) : State :=
  if 2048 < f.length then inDiscard s inp
  else
    pushDyn s { origin := 0, inp := inp, laneB := bitAt (reg s 0x5008) cls, cls := cls, kind := 7, dtype := dtype
                dest := if dtype = 0 then [BitVec.ofNat 8 handle] else [], body := f, seg := if seg then 1 else 0 }

/-- A frame goes out of bridge port `bp` as the VLAN's untag masks say; on the I1G lane with at most 1,522 bytes (R116). -/
def bridgeOut (s : State) (w : Word) (vid pcp cls bp inp : Nat) (f : Bytes) : State :=
  let untag := if bp < 10 then bitAt w (12 + bp) else bitAt w 22
  let g := retag f vid pcp untag
  if bp = 10 ∧ 1522 < g.length then inDiscard s inp
  else enqueueOut s (Fin.ofNat 20 (bridgePort s bp)) { frame := g, eth := true, cls := cls, slot := 0, inp := inp, since := s.now, id := s.sw.fab.cur }

/-- A frame for an address of the forwarding database goes to the target of one of its entries (R213 to R215). -/
def bridgeTo (s : State) (w : Word) (vid pcp cls bp inp : Nat) (seg : Bool) (f : Bytes) (e : FdbEnt) : State :=
  if e.remote then
    if bp = 10 ∨ (bp = 11 ∧ (e.seg = seg ∨ segGw s = false)) then s
    else if !s.inaug[(if e.seg then 1 else 0 : Fin 2)].table.any (fun t => t.handle == e.target) then noRoute s inp e.target
    else if !bitAt w 11 then inDiscard s inp
    else encapsulate s inp 0 e.target cls e.seg (retag f vid pcp false)
  else if e.target = bp ∨ (e.target = 10 ∧ bp = 11) then s
  else if !vlanHas w e.target || (e.target == 10 && !hasI1g s) then inDiscard s inp
  else bridgeOut s w vid pcp cls e.target inp f

/-- A flood: every member port of the VLAN but the ingress port, and BACKBONE, in both segments of a gateway, where FLOOD_BB is set. -/
def bridgeFlood (s : State) (w : Word) (vid pcp cls bp inp : Nat) (seg : Bool) (f : Bytes) : State :=
  let s1 := ((List.range 11).filter (fun q => q != bp && vlanHas w q && (decide (q < 10) || (bp != 11 && hasI1g s)))).foldl
    (fun t q => bridgeOut t w vid pcp cls q inp f) s
  let enc (t : State) (to_ : Bool) : State := encapsulate t inp 3 0 cls to_ (retag f vid pcp false)
  if !bitAt w 11 || !regB s 0x5000 1 || bp == 10 then s1
  else if bp = 11 then (if segGw s then enc s1 (!seg) else s1)
  else if segGw s then enc (enc s1 false) true else enc s1 false

/-- The VLAN and PCP a frame has at bridge port `bp`: its tag's, else the port's PVID and DPCP (R213, R215). -/
def bridgeTag (s : State) (bp : Nat) (f : Bytes) : Nat × Nat :=
  let tci := beAt f 14 2
  let vlan := reg s (0xE108 + 0x10 * bp)
  (if tagged f && tci % 4096 != 0 then tci % 4096 else if bp < 10 then fld vlan 11 0 else 1,
   if tagged f then tci / 8192 else if bp < 10 then fld vlan 27 25 else 0)

/-- The local bridge takes a frame in at bridge port `bp` (11 BACKBONE, with its SRC handle and segment). -/
def bridgeIn (s : State) (bp inp src : Nat) (seg : Bool) (f : Bytes) : State :=
  let (vid, pcp) := bridgeTag s bp f
  let w := vlanWord s vid
  if (bp < 10 && regB s (0xE108 + 0x10 * bp) 24 && !tagged f) || !vlanHas w bp then inDiscard s inp
  else
    let da := beAt f 0 6
    let s1 := if bp = 11 then fdbLearn s inp (beAt f 6 6) vid true seg src else fdbLearn s inp (beAt f 6 6) vid false false bp
    let cls := pcpClass s pcp
    let found := fdbFind s1 da vid
    if (da / 2 ^ 40).testBit 0 || found.isEmpty then bridgeFlood s1 w vid pcp cls bp inp seg f
    else found.foldl (fun t x => bridgeTo t w vid pcp cls bp inp seg f x.2) s1

/-! ### Delivery (R211) -/

/-- A frame passes fabric port GW at once, as the store takes it: counted and mirrored there, or discarded while GW is down (R208, R227). -/
def toGw (s : State) (g : Fin 2) (inp : Nat) (stat : Bool) (f : Bytes) : State :=
  let h := readHdr f
  match s.sw.ports[(15 : Fin 20)].hst with
  | 0 =>
    let s1 := passFab s inp 15 stat h.cls (cellsOf f)
    gwParse (mirror (bumpSw (bumpSw s1 15 1) 15 3) true 15 h.cls s1.sw.fab.cur f false false (ttNow s)) g f
  | 1 => if stat then bumpSw s 15 10 else bumpCc (bumpSw s 15 8) h.cls 0
  | 2 => if stat then bumpSw s 15 10 else bumpSw s 15 9
  | _ => s

/-- A frame delivered here goes to an internal port by its KIND, or to the local bridge. -/
def deliverHere (s : State) (g : Fin 2) (inp : Nat) (f : Bytes) : State :=
  let h := readHdr f
  let q (p : Fin 20) : State := enqueueOut s p { frame := f, eth := false, cls := h.cls, slot := h.slot, inp := inp, since := s.now, id := s.sw.fab.cur }
  match h.kind with
  | 2 | 3 | 4 => q 17
  | 5 | 6 => toGw s g inp false f
  | 8 => q 16
  | 7 =>
    let e := payloadOf f
    if beAt e 12 2 = 0x88B6 then q 14
    else if service s then
      if ethFcs (e.take (e.length - 4)) = e.drop (e.length - 4) then bridgeIn s 11 inp h.src (g == 1) e else inDiscard s inp
    else s
  | _ => s

/-- A dynamic frame from a lane is delivered and forwarded (Table 9-2). -/
def switchFrame (s : State) (l : Fin 4) (good : Bool) (f : Bytes) : State :=
  let h := readHdr f
  let p := portOf l
  let g := segOf s p
  let b := decide (l.val % 2 = 1)
  let s1 := if good && addressedHere s g h then deliverHere s g l.val f else s
  let x : QFrame := { frame := withHop f, eth := false, cls := h.cls, slot := h.slot, inp := l.val, since := s.now, id := s.sw.fab.cur }
  match h.dtype with
  | 0 => if addressedHere s g h then s1 else toHandle s1 g b x
  | 4 => s1
  | _ => if canLeave s g (otherPort p) h.kind && (!seamShut s p || h.kind == 2 || h.kind == 4) then toPort s1 (otherPort p) b x else s1

/-! ### The commands of chapter 9 -/

/-- LOCAL_FRAME_RX on bridge port bp: 0 to 9 L0 to M1, 10 the I1G lane (R213, R215, R227). -/
def localFrameRx (s : State) (bp : Fin 11) (f : Bytes) (stamp : Nat) : State :=
  let p := bridgePort s bp.val
  let up := match s.sw.ports[Fin.ofNat 20 p].hst with | 0 => true | _ => false
  let on := if bp.val < 10 then regB s (0xE100 + 0x10 * bp.val) 0 else hasI1g s
  if service s && on && up && s.line.therm != 2 && !s.line.shed then
    let s1 := bumpSw (newFrame s) p 0
    let s2 := mirror s1 false p (pcpClass s (bridgeTag s bp.val f).2) s1.sw.fab.cur f true false stamp
    let lim := if bp.val < 10 then regF s (0xE100 + 0x10 * bp.val) 15 4 else 1522
    if f.length < 18 ∨ lim < f.length ∨ ethFcs (f.take (f.length - 4)) ≠ f.drop (f.length - 4) then inDiscard s2 p
    else bridgeIn s2 bp.val p 0 false f
  else s

/-- The frame an output serves next: highest class not paused, then lowest SLOT, then the oldest (R189, R225). -/
def nextOut (paused : BitVec 8) (q : List QFrame) : Option (Nat × QFrame) :=
  ((List.range q.length).filterMap (fun i => (q[i]?).map (fun x => (i, x)))).foldl (fun b x =>
    if paused.getLsbD x.2.cls then b
    else match b with
      | none => some x
      | some y => if y.2.cls < x.2.cls ∨ (y.2.cls = x.2.cls ∧ x.2.slot < y.2.slot) then some x else some y) none

/-- Lifetime of a class in ns, 0 for none (R226). -/
def lifeOf (s : State) (c : Nat) : Nat := 100000 * fld (reg s (if c < 4 then 0x5014 else 0x5018)) (8 * (c % 4) + 7) (8 * (c % 4))

/-- A queue index is removed. -/
def dropAt (q : List QFrame) (i : Nat) : List QFrame := q.take i ++ q.drop (i + 1)

/-- The frame leaves: on the wire, or to the internal port (R222, R231). DESIGN CHOICE (log 56). -/
def leaveOut (s : State) (p : Fin 20) (x : QFrame) : State :=
  let s0 := setSw s p (fun o => { o with busy := s.now + leaveTime s p x.frame })
  let s1 := bumpSw (bumpSw s0 p.val 1) p.val 3
  let s2 := if x.copy then s1 else mirror s1 true p.val x.cls x.id x.frame x.eth (!x.eth && stomped x.frame) (ttNow s)
  match portLane p with
  | some l => if x.eth then emit s2 (.eth (20 + l.val) x.frame) else sendLane s0 l (some x.inp) x.id x.frame
  | none => emit s2 (if p.val ≤ 13 then .eth p.val x.frame else .deliver p.val x.frame)

/-- The bytes of cell c of a frame are what an uncorrectable cell reads as: free (R222). -/
def badBytes (s : State) (c : Nat) (f : Bytes) : Bytes := f.take (64 * c) ++ (randomBytes s 64).take (f.length - 64 * c) ++ f.drop (64 * c + 64)

/-- The last four bytes of a frame, its FCS, are inverted (R222). -/
def fcsInverted (f : Bytes) : Bytes := f.take (f.length - 4) ++ (f.drop (f.length - 4)).map (fun b => ~~~b)

/-- Cell c of the frame at the head of an output is found uncorrectable: a frame that has begun leaves stomped, or with its FCS inverted; another
is discarded, as is one for an internal port, which is checked whole (R220, R222). Its copies go too, and the row of the cell is remapped. -/
def cellError (s : State) (p : Fin 20) (x : QFrame) (c : Nat) : State :=
  let s1 := raise (bumpSw s p.val 12) 0x6070 3 p.val [p.val, x.cls]
  let bad := badBytes s c x.frame
  let s2 :=
    if c = 0 ∨ 13 < p.val then (if x.copy then mirDrop s1 p x.cls else s1)
    else leaveOut s1 p { x with frame := if x.eth then fcsInverted bad else withStomp bad }
  remapRow (takeFree (dropCopies s2 x.id)) (Config.choice s.free % 8192) 0x6070

/-- OUTPUT_DEQUEUE: the head frame is age-checked and leaves or is dropped (R226, R190, R222). `badCell`: the cell of it that is found
uncorrectable, if one is. -/
def outputDequeue (s : State) (p : Fin 20) (badCell : Option Nat) : State :=
  let o := s.sw.ports[p]
  let paused := match portLane p with
    | some l => s.sw.pause[l].rx
    | none => 0
  if !coreRun s || o.hst != 0 then s
  else
    match nextOut paused o.q with
    | none => s
    | some (i, x) =>
      let gone := setSw (crossed s p.val x.id) p (fun o => { o with q := dropAt o.q i })
      if lifeOf s x.cls ≠ 0 ∧ x.since + lifeOf s x.cls < s.now ∧ x.copy = false then
        releaseHeld (xoffUpdate (raiseLim (bumpCc gone x.cls 2) 1000000000 0x6020 2 p.val [p.val, x.cls]))
      else if p.val < 4 && !x.eth && !cutoffOk s (leaveTime s p x.frame) then bumpSch s 10
      else
        releaseHeld (xoffUpdate (match badCell with
          | some c => if c < cellsOf x.frame then cellError gone p x c else leaveOut gone p x
          | none => leaveOut gone p x))

/-- PAUSE_FRAME_RX: the classes of the mask stop starting frames; others are released (R225). -/
def pauseFrameRx (s : State) (l : Fin 4) (f : Bytes) : State :=
  let h := readHdr f
  let b := payloadOf f
  if laneUp s l && hcrcOk f && trailerOk f && h.kind == 8 && h.len == 8 && byteAt b 0 == 0x50 then
    bumpSw (setPause s l (fun x => { x with rx := BitVec.ofNat 8 (byteAt b 1) })) l.val 13
  else s

/-- PAUSE_REFRESH: every 100 µs while any bit is set (R225). -/
def pauseRefresh (s : State) (l : Fin 4) : State :=
  if s.sw.pause[l].tx ≠ 0 ∧ pauseLane s l = true ∧ pauseOpen s l = true then sendPause s l s.sw.pause[l].tx else s

/-- PAUSE_EXPIRY: C + 10 µs without a pause frame clear every class (R225). -/
def pauseExpiry (s : State) (l : Fin 4) : State := setPause s l (fun x => { x with rx := 0 })

/-- PAUSE_STUCK: a class paused by the neighbour for 100 ms (R225). -/
def pauseStuck (s : State) (l : Fin 4) (c : Fin 8) : State :=
  if s.sw.pause[l].rx.getLsbD c.val then raise s 0x6012 3 l.val [l.val, c.val] else s

/-- A local port is enabled and not shed. -/
def lePortOn (s : State) (n : Nat) : Bool := service s && regB s (0xE100 + 0x10 * n) 0 && s.line.therm != 2 && !s.line.shed

/-- PORT_DOWN: a local port's PHY reports no link, a lane port became an END, or an internal port stops (R227). -/
def portDown (s : State) (p : Fin 20) : State :=
  let s1 := if 4 ≤ p.val ∧ p.val ≤ 13 ∧ s.sw.ports[p].hst = 0 then raise s 0x6061 1 p.val [p.val] else s
  let up := match portLane p with
    | some l => if laneI1g s l then false else portLinked s (portOf l)
    | none => false
  if up then s else outDown s1 p

/-- PORT_UP: a port comes back (R227, R228). -/
def portUp (s : State) (p : Fin 20) : State :=
  let ok := match portLane p with
    | some l => if laneI1g s l then laneUp s l else portLinked s (portOf l)
    | none =>
      if p.val ≤ 13 then lePortOn s (p.val - 4)
      else if p.val = 16 ∨ p.val = 17 then coreRun s && !s.flt.mgmtDown
      else if p.val = 19 then false else service s
  if ok && s.sw.ports[p].hst != 0 then
    let s1 := outBack s p
    if 4 ≤ p.val ∧ p.val ≤ 13 then raise s1 0x6060 0 p.val [p.val] else s1
  else s

/-- HOLD_EXPIRY (R227). -/
def holdExpiry (s : State) (p : Fin 20) : State := outHoldEnd s p

/-- FDB_AGE_OUT: a learned entry without traffic for AGE seconds leaves (R213); AGE 0 never ages. -/
def fdbAgeOut (s : State) (i : Nat) : State :=
  match mget s.sw.fdb i with
  | some e => if e.stat ∨ regF s 0x5010 15 0 = 0 then s else { s with sw := { s.sw with fdb := mdel s.sw.fdb i } }
  | none => s

/-- Static entries of the image take their ways (R214): the lowest free way of each set. -/
def loadStaticFdb (s : State) : State :=
  let t := imgTable s 0x60 4
  (List.range (min 512 (t.length / 16))).foldl (fun s k =>
    let b := slice t (16 * k) 16
    let fl := byteAt b 8
    if fl.testBit 0 then
      let e : FdbEnt := { mac := beAt b 0 6, vid := beAt b 6 2 % 4096, stat := true, remote := fl.testBit 1, seg := fl.testBit 2, target := byteAt b 9, seen := s.now }
      match ((List.range 4).map (fun w => 4 * fdbSet e.mac e.vid + w)).find? (fun i => (mget s.sw.fdb i).isNone) with
      | some i => { s with sw := { s.sw with fdb := mput s.sw.fdb i e } }
      | none => s
    else s) { s with sw := { s.sw with fdb := [] } }

/-- Learned entries that name a handle that has left the table leave the FDB at the ACTCYC (R213). -/
def fdbOnTable (s : State) : State :=
  { s with sw := { s.sw with fdb := s.sw.fdb.filter (fun x => x.2.stat || !x.2.remote ||
      s.inaug[(if x.2.seg then 1 else 0 : Fin 2)].table.any (fun t => t.handle == x.2.target)) } }

end Sys2Proof.Machine
end

