-- ==== Sys2Proof/Machine/HostOps.lean ====
section
/-! DEFINITION. What every register access shares: byte enables (R416), the end of a host access (R295, R312), and the clear
registers of R119. -/

namespace Sys2Proof.Machine

/-- The result of a write or command: 0 done, else a code of Table 12-10; `retry` stands for LRTY#. -/
abbrev WRes := State × Nat

/-- LRTY# in a result. -/
def retry : Nat := 0x100

/-- A result that is still to come: the access is held on LBUS (R318, R321). -/
def hold : Nat := 0x200

/-- The mask of the enabled bytes. -/
def beMask (be : BitVec 4) : Word :=
  (if be.getLsbD 0 then 0xFF#32 else 0) ||| (if be.getLsbD 1 then 0xFF00#32 else 0) ||| (if be.getLsbD 2 then 0xFF0000#32 else 0) ||| (if be.getLsbD 3 then 0xFF000000#32 else 0)

/-- The word as written: bytes not enabled act as 0. -/
def maskBe (be : BitVec 4) (v : Word) : Word := v &&& beMask be

/-- The old word with the enabled bytes replaced. -/
def mergeBe (be : BitVec 4) (old v : Word) : Word := (old &&& ~~~beMask be) ||| (v &&& beMask be)

/-- A byte-enable pattern is contiguous: its set bits form one run (R294). -/
def contiguous (be : BitVec 4) : Bool :=
  [1, 2, 4, 8, 3, 6, 12, 7, 14, 15].contains be.toNat

/-- HB_CNT `i`. -/
def bumpHb (s : State) (i : Nat) : State := bump s (0x9600 + 4 * i)

/-- LRDY# with the data. -/
def lrdy (s : State) (v : Word) : State := emit s (.access 0 v)

/-- LRTY#. -/
def lrty (s : State) : State := emit (bumpHb s 5) (.access retry 0)

/-- LERR#: the code and word address go to HB_LASTERR (R312). -/
def lerr (s : State) (code addr : Nat) : State :=
  let s1 := bumpHb { s with hb := { s.hb with lastErr := BitVec.ofNat 32 (code * 2 ^ 24 + addr / 4 % 2 ^ 24) } } 6
  emit s1 (.access code 0)

/-- The access of a host ends with the result. DEDUCED (log 101). -/
def endAccess (addr : Nat) (r : WRes) : State :=
  if r.2 = hold then r.1 else if r.2 = 0 then lrdy r.1 0 else if r.2 = retry then lrty r.1 else lerr r.1 r.2 addr

/-- A write by one requester ends: the local host's access ends on its bus; monitor and far writes are answered by the
commands that brought them. -/
def endWrite (req : Req) (off : Nat) (r : WRes) : State :=
  match req with
  | .host => endAccess off r
  | _ => r.1

/-- Registers return to their reset value. -/
def clearRegs (s : State) (p : Nat → Bool) : State := { s with regs := s.regs.filter (fun e => !p e.1) }

/-- A counter clear: with ALL set every counter of the group returns to 0; the write raises the severity-6 clear record either way (R119).
DEDUCED (log 11). -/
def clearCounters (s : State) (req : Req) (code : Nat) (v : Word) (p : Nat → Bool) : State :=
  clearRecord (if bitAt v 0 then clearRegs s p else s) code v.toNat (srcCode req)

/-- BB_CNTCLR (R119): bit n clears every counter of lane n; the write raises the record, with no bit set too. DEDUCED (log 11). -/
def bbClear (s : State) (req : Req) (v : Word) : State :=
  let b := v.toNat % 16
  clearRecord (clearRegs s (fun o => (List.range 4).any (fun l => b.testBit l && inGroup o (0x1120 + 0x100 * l) 12))) 0x20FF b (srcCode req)

end Sys2Proof.Machine
end

