-- ==== Sys2Proof/Machine/BridgeOps.lean ====
section
/-! DEFINITION. The host bridge as initiator (chapter 12): windows and their targets, bridge messages, tags, remote reads and
writes, locks, interrupt messages, the late-error log, and the stop of a profile switch. -/

namespace Sys2Proof.Machine

/-! ### Windows -/

/-- HB_WINn_CFG. -/
def winCfg (s : State) (n : Nat) : Word := reg s (0x9200 + 0x20 * n)
/-- Size of window n in bytes (R300). -/
def winSize (s : State) (n : Nat) : Nat := 2 ^ (12 + fld (winCfg s n) 27 24)
/-- First host address of window n. -/
def winBase (s : State) (n : Nat) : Nat := 4096 * regF s (0x9204 + 0x20 * n) 25 12
/-- HB_WINn_ROFS. -/
def winRofs (s : State) (n : Nat) : Nat := regF s (0x920C + 0x20 * n) 23 0
/-- SPACE: 0 REG, 1 SIG, 2 MBX. -/
def winSpace (s : State) (n : Nat) : Nat := fld (winCfg s n) 23 22
/-- ORDER: 0 BYTE, 1 WORD32, 2 HALF16. -/
def winOrder (s : State) (n : Nat) : Nat := fld (winCfg s n) 21 20
/-- The bridge serves windows and requests: HB_CFG.EN. -/
def hbOn (s : State) : Bool := regB s 0x9000 0
/-- Window n is enabled. -/
def winOn (s : State) (n : Nat) : Bool := hbOn s && bitAt (winCfg s n) 31
/-- The window a host address lies in (R300). -/
def winAt (s : State) (a : Nat) : Option Nat :=
  (List.range 16).find? (fun n => winOn s n && decide (winBase s n ≤ a) && decide (a < winBase s n + winSize s n))
/-- The resolved target of a window, 0 for none. -/
def winHandle (s : State) (n : Nat) : Nat := ((s.hb.wins[n]?).getD {}).handle
/-- Updates one window's run state. -/
def setWin (s : State) (n : Nat) (f : WinSt → WinSt) : State :=
  { s with hb := { s.hb with wins := s.hb.wins.setIfInBounds n (f ((s.hb.wins[n]?).getD {})) } }
/-- A bridge event: window or region, handle, TSEQ and status (R327). -/
def hbEvent (s : State) (code sev win handle tseq status : Nat) : State := raise s code sev win [win, handle, tseq, status]
/-- A bridge event raised at most once per second. -/
def hbEventLim (s : State) (code sev inst win handle tseq status : Nat) : State :=
  raiseLim s 1000000000 code sev inst [win, handle, tseq, status]
/-- HB_ISTAT bit `i` is set. -/
def setIstat (s : State) (i : Nat) : State := { s with hb := { s.hb with istat := s.hb.istat ||| 2 ^ i } }
/-- The windows and requests are closed by a profile switch (R87). -/
def hbClosed (s : State) : Bool := s.boot.phase == .switchLoad

/-- The windows resolve (R301): at the same points as signal binding. A handle that becomes a target takes FIRST (R306). -/
def winBind (s : State) : State :=
  (List.range 16).foldl (fun t n =>
    if !winOn t n then setWin t n (fun w => { w with handle := 0 })
    else
      let tgt := reg t (0x9208 + 0x20 * n)
      let h := (resolve t 0 (fld tgt 31 30) (fld tgt 15 0)).getD 0
      let h := if h = ownHandle t 0 then 0 else h
      let t1 := if h ≠ winHandle t n then { t with hb := { t.hb with firsts := t.hb.firsts.filter (· != h) } } else t
      let t2 := setWin t1 n (fun w => { w with handle := h })
      if h = 0 then hbEvent t2 0x9001 2 n 0 0 0 else t2) s

/-! ### Messages (R304 to R306) -/

/-- One LBUS word on the wire (Table 12-6). -/
def wireOf (order : Nat) (w : Word) : Bytes :=
  let b := beBytes 4 w.toNat
  match order with
  | 0 => b.reverse
  | 1 => b
  | _ => slice b 2 2 ++ slice b 0 2

/-- The LBUS word of four wire bytes. -/
def unwire (order : Nat) (b : Bytes) : Word :=
  BitVec.ofNat 32 (match order with
    | 0 => beNat (b.take 4).reverse
    | 1 => beNat (b.take 4)
    | _ => beNat (slice b 2 2 ++ slice b 0 2))

/-- Bits [39:0] of the UID of a handle. -/
def handleMac (s : State) (h : Nat) : Nat :=
  ((s.inaug[(0 : Fin 2)].table.find? (fun e => e.handle == h)).map (fun e => e.uid % 2 ^ 40)).getD 0

/-- The fields of a bridge header (Table 12-8). -/
structure HbHdr where
  bop    : Nat
  lock   : Bool := false
  first  : Bool := false
  order  : Nat := 1
  win    : Nat
  space  : Nat
  tseq   : Nat
  tag    : Nat := 0xFF
  status : Nat := 0
  addr   : Nat
  be     : Nat := 15
  deriving DecidableEq, Repr

/-- A bridge message as an Ethernet frame (R305). -/
def bridgeBody (s : State) (mac : Nat) (h : HbHdr) (d : Bytes) : Bytes :=
  let b := 0x02#8 :: beBytes 5 (mac % 2 ^ 40) ++ 0x02#8 :: beBytes 5 (s.uid % 2 ^ 40) ++ [0x88#8, 0xB6#8] ++
    [BitVec.ofNat 8 h.bop, BitVec.ofNat 8 (h.lock.toNat + 2 * h.first.toNat + 4 * h.order), BitVec.ofNat 8 h.win, BitVec.ofNat 8 h.space] ++
    beBytes 2 h.tseq ++ [BitVec.ofNat 8 h.tag, BitVec.ofNat 8 h.status] ++ beBytes 4 (h.addr % 2 ^ 24) ++ [BitVec.ofNat 8 h.be, 0#8] ++ beBytes 2 d.length ++ d
  let p := b ++ List.replicate (60 - b.length) 0#8
  p ++ ethFcs p

/-- Class of bridge messages. -/
def bClass (s : State) : Nat := classOf (regF s 0x9000 6 4)

/-- A bridge message waits for admission (R188, R305). -/
def sendBridge (s : State) (handle mac : Nat) (h : HbHdr) (d : Bytes) : State :=
  pushDyn s { origin := 3, inp := 14, laneB := bitAt (reg s 0x5008) (bClass s), cls := bClass s, kind := 7, dtype := 0, dest := [BitVec.ofNat 8 handle], body := bridgeBody s mac h d, tag := h.win }

/-- Outgoing bridge messages queued. -/
def outQ (s : State) : List DynOut := s.sch.dyn.filter (fun x => x.origin == 3)

/-- Nothing can be sent: the outgoing queue of 256 messages is full (R308), or the bridge is under test (Table 14-3). -/
def bridgeBusy (s : State) : Bool := decide (256 ≤ (outQ s).length) || underTest s 0x23

/-- The next TSEQ towards a target. -/
def nextTseq (s : State) (h : Nat) : Nat := (mget s.hb.tseq h).getD 0

/-- A request leaves for a window's target: TSEQ, FIRST and the record of R306. -/
def sendReq (s : State) (n bop tag addr be : Nat) (d : Bytes) (off : Nat) : State :=
  let h := winHandle s n
  let q := nextTseq s h
  let s1 := sendBridge s h (handleMac s h)
    { bop := bop, lock := decide (s.hb.locked = some n), first := !s.hb.firsts.contains h, order := winOrder s n, win := n, space := winSpace s n
      tseq := q, tag := tag, addr := addr, be := be } d
  let mine := (s.hb.sent.filter (fun x => x.1 == h)).take 255
  { s1 with hb := { s1.hb with
      tseq := mput s1.hb.tseq h ((q + 1) % 65536), firsts := if s1.hb.firsts.contains h then s1.hb.firsts else h :: s1.hb.firsts
      sent := (h, q, n, off) :: (mine ++ s.hb.sent.filter (fun x => x.1 != h)) } }

/-- Own handle and own minislots are there (Table 12-10, NOPATH). -/
def hasPath (s : State) : Bool :=
  ownHandle s 0 != 0 && (match ownRow s 0 with
    | some r => beAt r 16 2 != 0xFFFF && beAt r 20 2 != 0
    | none => false)

/-- The byte enables a window accepts (Table 12-7). -/
def sizeOk (space order be : Nat) : Bool :=
  if space = 2 ∧ order = 0 then [1, 2, 4, 8, 3, 12, 15].contains be
  else if space = 2 ∧ order = 2 then [3, 12, 15].contains be
  else be == 15

/-- What refuses an access at the initiator, in order (R294, R300, R301, R304, R315, R325, Table 12-10); 0 for none. -/
def remoteRefuse (s : State) (addr be : Nat) (write : Bool) : Nat × Nat :=
  if hbClosed s then (0x05, 0)
  else
    match winAt s addr with
    | none => (0x02, 0)
    | some n =>
      if !sizeOk (winSpace s n) (winOrder s n) be then (0x01, n)
      else if winHandle s n = 0 then (0x03, n)
      else if write && ((s.hb.wins[n]?).getD {}).poison then (0x04, n)
      else if !hasPath s then (0x07, n)
      else (0, n)

/-! ### Tags (R310, R311) -/

/-- The lowest free tag. -/
def freeTag (s : State) : Option Nat := (List.range 64).find? (fun t => (mget s.hb.tags t).isNone)
/-- A tag is freed. -/
def dropTag (s : State) (t : Nat) : State := { s with hb := { s.hb with tags := mdel s.hb.tags t } }
/-- A tag is taken. -/
def putTag (s : State) (t : Nat) (x : Tag) : State := { s with hb := { s.hb with tags := mput s.hb.tags t x } }

/-- A tag's request leaves: READ, NPWRITE or LOCK. -/
def openTag (s : State) (t kind n addr be : Nat) (v : Word) (tofs : Nat) (d : Bytes) (off : Nat) (held : Bool) : State :=
  let h := winHandle s n
  let s1 := putTag s t { kind := kind, win := n, addr := addr, be := be, data := v, handle := h, tseq := nextTseq s h, held := held }
  sendReq s1 n (match kind with
    | 0 => 3
    | 1 => 2
    | _ => 5) t tofs be d off

/-- The open read tag an access matches, in window, address and byte enables (R310). It completes from its target whatever has become of the
window since (R325). -/
def readTag (s : State) (addr be : Nat) : Option (Nat × Tag) :=
  s.hb.tags.find? (fun x => x.2.kind == 0 && winAt s addr == some x.2.win && x.2.addr == addr && x.2.be == be)

/-- A host read in the remote region: the result code and the data (R310). -/
def remoteRead (s : State) (addr be : Nat) : WRes × Word :=
  match readTag s addr be with
  | some (t, x) =>
    match x.answer with
    | some (c, d) => ((dropTag s t, c), d)
    | none => ((s, retry), 0)
  | none =>
    let (c, n) := remoteRefuse s addr be false
    if c ≠ 0 then ((s, c), 0)
    else
      match if bridgeBusy s then none else freeTag s with
      | none => ((s, retry), 0)
      | some t =>
        let off := addr - winBase s n
        ((bumpHb (openTag s t 0 n addr be 0 (winRofs s n + off) [] off false) 2, retry), 0)

/-- The delayed non-posted write that an identical access repeats (R321). -/
def writeTag (s : State) (addr be : Nat) (v : Word) : Option (Nat × Tag) :=
  s.hb.tags.find? (fun x => x.2.kind == 1 && x.2.addr == addr && x.2.be == be && x.2.data == v)

/-- A non-posted write takes a tag and is held, or goes on as a delayed transaction (R308, R321). -/
def npWrite (s : State) (n addr be : Nat) (v : Word) (canHold : Bool) : WRes :=
  match if bridgeBusy s then none else freeTag s with
  | none => (s, retry)
  | some t =>
    let off := addr - winBase s n
    let s1 := bumpHb (openTag s t 1 n addr be v (winRofs s n + off) (wireOf (winOrder s n) v) off canHold) 1
    if canHold then ({ s1 with hb := { s1.hb with held := some { addr := addr, be := be, data := v, lock := false } } }, hold) else (s1, retry)

/-- The last outgoing message takes one more word (R308): an MBX PWRITE of the same window that ends just before the address, every
byte enabled, of at most 60 bytes so far. -/
def mergeInto (s : State) (n tofs : Nat) (v : Word) : Option State :=
  match (outQ s).getLast? with
  | none => none
  | some x =>
    let b := x.body
    let len := beAt b 28 2
    if byteAt b 14 = 1 ∧ byteAt b 16 = n ∧ byteAt x.dest 0 = winHandle s n ∧ byteAt b 17 = 2 ∧ byteAt b 26 = 15 ∧ len ≤ 60 ∧ beAt b 22 4 + len = tofs then
      let d := slice b 30 len ++ wireOf (winOrder s n) v
      let h := b.take 28 ++ beBytes 2 d.length ++ d
      let p := h ++ List.replicate (60 - h.length) 0#8
      let y := { x with body := p ++ ethFcs p }
      some { s with sch := { s.sch with dyn := (s.sch.dyn.reverse.erase x).reverse ++ [y] } }
    else none

/-- A host write in the remote region (R308). `merge`: it arrives within 8 tCLK of the write before it. -/
def remoteWrite (s : State) (addr be : Nat) (v : Word) (merge canHold : Bool) : WRes :=
  match writeTag s addr be v with
  | some (t, x) =>
    match x.answer with
    | some (c, _) => (dropTag s t, c)
    | none => (s, retry)
  | none =>
  let (c, n) := remoteRefuse s addr be true
  if c ≠ 0 then (s, c)
  else if bitAt (winCfg s n) 19 || decide (s.hb.locked = some n) then npWrite s n addr be v canHold
  else
    let off := addr - winBase s n
    let tofs := winRofs s n + off
    match if merge && winSpace s n == 2 && be == 15 then mergeInto s n tofs v else none with
    | some s1 => (s1, 0)
    | none =>
      if bridgeBusy s then (s, retry)
      else (bumpHb (sendReq s n 1 0xFF tofs be (wireOf (winOrder s n) v) off) 0, 0)

/-! ### Late errors (R314, R315) -/

/-- An entry of the late-error log, or LATE_LOST where it is full. -/
def logLate (s : State) (e : LateEnt) : State :=
  if s.hb.log.length < 16 then { s with hb := { s.hb with log := s.hb.log ++ [e] } }
  else
    let s1 := bumpHb { s with hb := { s.hb with logOvf := true } } 8
    if s1.hb.logSaid then s1 else hbEvent { s1 with hb := { s1.hb with logSaid := true } } 0x9012 2 e.win e.handle e.tseq e.code

/-- A LATE of a window: log, HB_ISTAT.LATE, event, count, poison. `known`: the record of R306 still named its window. -/
def lateFor (s : State) (e : LateEnt) (known : Bool) : State :=
  let s1 := setIstat (logLate s e) 2
  let s2 := hbEventLim s1 0x9010 2 e.win e.win e.handle e.tseq e.code
  if known then
    let was := ((s2.hb.wins[e.win]?).getD {}).poison
    let s3 := setWin s2 e.win (fun w => { w with late := min 0xFFFF (w.late + 1), poison := w.poison || bitAt (winCfg s e.win) 16 })
    if !was && bitAt (winCfg s e.win) 16 then hbEvent s3 0x9011 5 e.win e.handle e.tseq e.code else s3
  else s2

/-- HB_LECLR (R314). -/
def lateClear (s : State) (req : Req) (v : Word) : State :=
  clearRecord (if bitAt v 0 then { s with hb := { s.hb with log := [], logOvf := false, logSaid := false } } else s) 0x90FE v.toNat (srcCode req)

/-! ### Locks of this node (R318, R320) -/

/-- The open lock tag. -/
def lockTag (s : State) : Option (Nat × Tag) := s.hb.tags.find? (fun x => x.2.kind == 2)

/-- LOCKM 1 and 2 in a LOCK or UNLOCK: the spec names no field for it. Bits [23:5] of ADDR, above the semaphore, are a free value.
DESIGN CHOICE (log 75). -/
def lockAddr (s : State) (n : Nat) : Nat :=
  fld (winCfg s n) 4 0 + 32 * (Config.standardNat 12 [fld (winCfg s n) 18 17] % 2 ^ 19)

/-- LOCK is sent under a free tag; `held`: the host's access waits on it. -/
def sendLock (s : State) (n t : Nat) (v : Word) (held : Bool) : State := openTag s t 2 n 0x902C 15 v (lockAddr s n) [] 0xFFFFFF held

/-- HB_LOCK.ACQ (R318, R320, R321). -/
def lockAcq (s : State) (v : Word) (canHold : Bool) : WRes :=
  let n := fld v 3 0
  match s.hb.lockWin with
  | some m =>
    if m ≠ n then (s, retry)
    else
      match lockTag s with
      | some (t, x) =>
        match x.answer with
        | some (c, _) => ({ dropTag s t with hb := { (dropTag s t).hb with lockWin := none, denies := 0 } }, c)
        | none => (s, retry)
      | none => (s, retry)
  | none =>
    if s.hb.locked.isSome then (s, 0x17)
    else if hbClosed s then (s, 0x05)
    else if !winOn s n then (s, 0x02)
    else if winHandle s n = 0 then (s, 0x03)
    else if !hasPath s then (s, 0x07)
    else if fld (winCfg s n) 18 17 = 0 then (s, 0x21)
    else
      match if bridgeBusy s then none else freeTag s with
      | none => (s, retry)
      | some t =>
        let s1 := sendLock { s with hb := { s.hb with lockWin := some n, denies := 0 } } n t v canHold
        if canHold then ({ s1 with hb := { s1.hb with held := some { addr := 0x902C, be := 15, data := v, lock := true } } }, hold) else (s1, retry)

/-- HB_LOCK.REL sends UNLOCK and ends at once (R318). -/
def lockRel (s : State) (v : Word) : State :=
  let n := fld v 3 0
  if s.hb.locked = some n then
    let s1 := sendReq s n 6 0xFF (lockAddr s n) 15 [] 0xFFFFFF
    { s1 with hb := { s1.hb with locked := none } }
  else s

/-- A write of HB_LOCK (Table 12-16). -/
def lockWrite (s : State) (v : Word) (canHold : Bool) : WRes :=
  if bitAt v 8 then lockAcq s v canHold else if bitAt v 9 then (if underTest s 0x23 then (s, retry) else (lockRel s v, 0)) else (s, 0)

/-- HB_IRQSEND (R316). -/
def irqSendGo (s : State) (v : Word) : WRes :=
  let n := fld v 3 0
  if hbClosed s then (s, 0x05)
  else if !winOn s n then (s, 0x02)
  else if winHandle s n = 0 then (s, 0x03)
  else if !hasPath s then (s, 0x07)
  else if bridgeBusy s then (s, retry)
  else (sendReq s n 4 0xFF (fld v 8 4) 15 [] 0xFFFFFF, 0)

/-! ### Answers (R310, R311, R313, R320) -/

/-- The held access ends with a code. -/
def endHeld (s : State) (c : Nat) : State :=
  match s.hb.held with
  | some h => endAccess h.addr ({ s with hb := { s.hb with held := none } }, c)
  | none => s

/-- A tag is answered: the access held on it ends, else the answer waits for the host's retry (R313). -/
def answerTag (s : State) (t : Nat) (x : Tag) (c : Nat) (d : Word) : State :=
  if x.held then
    let s1 := dropTag s t
    endHeld (if x.kind = 2 then { s1 with hb := { s1.hb with lockWin := none, denies := 0 } } else s1) c
  else putTag s t { x with answer := some (c, d) }

/-- An answer without an open tag is discarded and counted (R311). -/
def lateAnswer (s : State) : State := bumpHb s 9

/-- The open tag an answer names: the tag, its kind, its target, and no answer yet. -/
def answers (s : State) (b : Bytes) (src kind : Nat) : Option (Nat × Tag) :=
  match mget s.hb.tags (byteAt b 20) with
  | some x => if x.kind = kind ∧ x.handle = src ∧ x.tseq = beAt b 18 2 ∧ x.answer.isNone then some (byteAt b 20, x) else none
  | none => none

/-- The Ethernet frame of a bridge message for this node: KIND 0x07 with a good trailer, type 0x88B6 and the own address (R305). -/
def bridgeMsg (f : Bytes) : Option Bytes :=
  let e := payloadOf f
  if hcrcOk f && trailerOk f && byteAt f 0 == 7 && beAt e 12 2 == 0x88B6 && decide (30 ≤ e.length) then some e else none

/-- The message names this node by its UID (R305). -/
def forUs (s : State) (b : Bytes) : Bool := decide (beAt b 0 6 = 0x02 * 2 ^ 40 + s.uid % 2 ^ 40)

/-- Takes an answer: it goes to its tag or is discarded. -/
def takeAnswer (s : State) (f : Bytes) (bop kind : Nat) (k : State → Nat → Tag → Bytes → State) : State :=
  match bridgeMsg f with
  | none => s
  | some b =>
    if !forUs s b ∨ byteAt b 14 ≠ bop then s
    else
      match answers s b (readHdr f).src kind with
      | some (t, x) => k s t x b
      | none => lateAnswer s

/-- WACK_RX (R308, R313). -/
def wackRx (s : State) (f : Bytes) : State := takeAnswer s f 0x81 1 (fun s t x b => answerTag s t x (byteAt b 21) 0)

/-- RDATA_RX (R310). -/
def rdataRx (s : State) (f : Bytes) : State :=
  takeAnswer s f 0x83 0 (fun s t x b => answerTag s t x (byteAt b 21) (unwire (winOrder s x.win) (slice b 30 4)))

/-- LOCKACK_RX (R318, R320). -/
def lockackRx (s : State) (f : Bytes) : State :=
  takeAnswer s f 0x85 2 (fun s t x b =>
    let c := byteAt b 21
    if c = 0 then answerTag { s with hb := { s.hb with locked := some x.win, denies := 0 } } t x 0 0
    else if c = 0x17 then
      let s1 := bumpHb { s with hb := { s.hb with denies := s.hb.denies + 1 } } 10
      if max 1 (regF s 0x9000 15 12) ≤ s1.hb.denies then
        answerTag (hbEvent (setIstat s1 1) 0x9030 2 x.win x.handle x.tseq 0x21) t x 0x21 0
      else
        let s2 := dropTag s1 t
        if x.held then endHeld s2 retry else s2
    else answerTag s t x c 0)

/-- LOCK_RETRY_TIMER (R320). Where the window has lost its target meanwhile, the attempt ends: the repeated ACQ then finds why.
DEDUCED (log 76). -/
def lockRetryTimer (s : State) : State :=
  match s.hb.lockWin, lockTag s, freeTag s with
  | some n, none, some t =>
    if hbClosed s ∨ winHandle s n = 0 then { s with hb := { s.hb with lockWin := none, denies := 0 } }
    else sendLock s n t (BitVec.ofNat 32 (256 + n)) false
  | _, _, _ => s

/-- LATE_RX (R314, R315): a LOST entry is filled from the record of R306; LOCK_BROKEN ends the lock held (R319). -/
def lateRx (s : State) (f : Bytes) (stamp : Nat) : State :=
  match bridgeMsg f with
  | none => s
  | some b =>
    if !forUs s b ∨ byteAt b 14 ≠ 0x90 then s
    else
      let src := (readHdr f).src
      let q := beAt b 18 2
      let code := byteAt b 21
      let (win, off, known) := if code = 0x16 then
          match s.hb.sent.find? (fun x => x.1 == src && x.2.1 == q) with
          | some x => (x.2.2.1, x.2.2.2, true)
          | none => (0xF, 0xFFFFFF, false)
        else (byteAt b 16 % 16, beAt b 22 4 % winSize s (byteAt b 16 % 16), true)
      let at_ := (ttAt s.tb stamp / nsU).toNat
      let s1 := lateFor s { code := code, win := win, tseq := q, handle := src, off := off, stamp := at_ } known
      if code = 0x18 ∧ s1.hb.locked.isSome then setIstat { s1 with hb := { s1.hb with locked := none } } 1 else s1

/-- TAG_TIMEOUT (R311). -/
def tagTimeout (s : State) (t : Fin 64) : State :=
  match mget s.hb.tags t.val with
  | some x =>
    if x.answer.isSome then s
    else
      let s1 := hbEventLim (setIstat (bumpHb s 7) 4) 0x9020 2 0xFFF x.win x.handle x.tseq 0x20
      answerTag s1 t.val x 0x20 0
  | none => s

/-- DELAYED_DISCARD (R311). DEDUCED (log 78). -/
def delayedDiscard (s : State) (t : Fin 64) : State :=
  match mget s.hb.tags t.val with
  | some x =>
    match x.answer with
    | some (c, _) =>
      let s1 := dropTag (setIstat (bumpHb s 9) 3) t.val
      let s2 := if x.kind = 2 then { s1 with hb := { s1.hb with lockWin := none, denies := 0 } } else s1
      hbEventLim s2 0x9021 1 0xFFF x.win x.handle x.tseq c
    | none => s
  | none => s

/-- The stop of a profile switch (R87, Table 12-14): tags end CLOSED, answers are discarded, and queued posted writes are lost with
one log entry per window, code CLOSED, with the first TSEQ lost. -/
def bridgeClose (s : State) : State :=
  let lost := (outQ s).filter (fun x => byteAt x.body 14 == 1)
  let s1 := { s with
    sch := { s.sch with dyn := s.sch.dyn.filter (fun x => x.origin != 3) }
    hb := { s.hb with tags := (s.hb.tags.filter (fun x => x.2.answer.isNone)).map (fun x => (x.1, { x.2 with answer := some (0x05, 0), held := false })) } }
  let s2 := { endHeld s1 0x05 with hb := { (endHeld s1 0x05).hb with
    tags := match s.hb.held with
      | some _ => s1.hb.tags.filter (fun x => !(s.hb.tags.any (fun y => y.1 == x.1 && y.2.held)))
      | none => s1.hb.tags
    lockWin := match s.hb.held with
      | some h => if h.lock then none else s.hb.lockWin
      | none => s.hb.lockWin } }
  (List.range 16).foldl (fun t n =>
    match lost.find? (fun x => byteAt x.body 16 == n) with
    | some x => setIstat (logLate t { code := 0x05, win := n, tseq := beAt x.body 18 2, handle := byteAt x.dest 0
                                      off := beAt x.body 22 4 % winSize t n, stamp := ttNow t }) 2
    | none => t) s2

end Sys2Proof.Machine
end

