-- ==== Sys2Proof/Machine/CanOps.lean ====
section
/-! DEFINITION. The CAN channels (R261 to R285): objects, commands, fault confinement, the receive-all queue, and the gateway's
side of them (R251 to R253). -/

namespace Sys2Proof.Machine

/-! ### Channels -/

/-- Updates one channel. -/
def setChan (s : State) (c : Fin 8) (f : Chan → Chan) : State := { s with can := s.can.set c (f s.can[c]) }
/-- CANn_CNT `i`. -/
def bumpCan (s : State) (c : Fin 8) (i : Nat) : State := bump s (0x7180 + 0x200 * c.val + 4 * i)
/-- CANn_CFG. -/
def canCfg (s : State) (c : Fin 8) : Word := reg s (0x7000 + 0x200 * c.val)
/-- A CAN event: channel, STATE, TEC, REC, then the object and identifier where they apply (R292). -/
def canEvent (s : State) (c : Fin 8) (code sev : Nat) (more : List Nat) : State :=
  raise s code sev c.val ([c.val, s.can[c].st, s.can[c].tec, s.can[c].rec_] ++ more)
/-- The same, at most once per 1 s. -/
def canEventLim (s : State) (c : Fin 8) (code sev : Nat) (more : List Nat) : State :=
  raiseLim s 1000000000 code sev c.val ([c.val, s.can[c].st, s.can[c].tec, s.can[c].rec_] ++ more)
/-- The channel takes part in the bus: ACTIVE, PASSIVE or LISTEN. -/
def canOnBus (k : Chan) : Bool := k.st == 2 || k.st == 3 || k.st == 6
/-- The channel may transmit: ACTIVE or PASSIVE. -/
def canTx (k : Chan) : Bool := k.st == 2 || k.st == 3

/-- Mode of a channel's transceiver. -/
inductive XcvrMode where
  | off | normal | receiveOnly
  deriving DecidableEq, Repr
/-- The transceiver's mode follows the channel (Table 11-1); shedding switches it off (R48, R65). -/
def canMode (s : State) (c : Fin 8) : XcvrMode :=
  if s.can[c].st = 0 ∨ s.line.shed = true ∨ s.line.therm = 2 then .off
  else if bitAt (canCfg s c) 2 ∧ (s.can[c].st = 1 ∨ s.can[c].st = 6) then .receiveOnly
  else .normal

/-- A message object; one the image does not list is disabled. -/
def objOf (s : State) (c : Fin 8) (o : Nat) : CObj := (mget s.can[c].objs o).getD {}
/-- Updates one object. -/
def setObj (s : State) (c : Fin 8) (o : Nat) (f : CObj → CObj) : State :=
  match mget s.can[c].objs o with
  | some x => setChan s c (fun k => { k with objs := mput k.objs o (f x) })
  | none => s
/-- The primary buffer. -/
def primBuf (x : CObj) : OBuf := if x.pbuf then x.b1 else x.b0
/-- The shadow buffer. -/
def shadBuf (x : CObj) : OBuf := if x.pbuf then x.b0 else x.b1
/-- Writes buffer 1 or 0. -/
def setBuf (x : CObj) (one : Bool) (b : OBuf) : CObj := if one then { x with b1 := b } else { x with b0 := b }
/-- The object is a TX object. -/
def isTx (x : CObj) : Bool := bitAt x.cfg 30
/-- Data bytes a DLC gives (R273). -/
def dlcLen (fdf : Bool) (d : Nat) : Nat :=
  if d ≤ 8 then d else if fdf then [12, 16, 20, 24, 32, 48, 64].getD (d - 9) 64 else 8

/-- The channel leaves the bus for good: transceiver OFF, objects and queue dropped (Table 11-3). DEDUCED (log 63). -/
def canOff (s : State) (c : Fin 8) : State :=
  setChan s c (fun k => { k with st := 0, objs := [], q := [], qrd := k.qwr, fifo := [], done := [], active := none, stop := false, pex := false, ctxAt := none })

/-- The frame on the bus has ended: a stop that waited for it takes effect (R87). -/
def canStopNow (s : State) (c : Fin 8) : State := if s.can[c].stop then canOff s c else s

/-! ### Requests and completions (Table 11-6) -/

/-- A REQUEST, by the host, the gateway or a trigger: with a swap, or without (R279). A channel that may not transmit drops it (R269); an
object the image leaves disabled sends nothing. DEDUCED (log 62). -/
def requestObj (s : State) (c : Fin 8) (o : Nat) (swap : Bool) : State :=
  let x := objOf s c o
  if !bitAt x.cfg 31 then s
  else if x.st = 2 then setObj s c o (fun x => { x with follow := true })
  else
    let s1 := setObj s c o (fun x => { x with pbuf := x.pbuf != swap, coll := 0, st := if canTx s.can[c] then 1 else 8 })
    if canTx s.can[c] then s1 else bumpCan s1 c 12

/-- The object returns to PENDING after lost arbitration or an error: what waited for the frame takes effect now. -/
def returnPending (s : State) (c : Fin 8) (o : Nat) : State :=
  setChan (setObj s c o (fun x => { x with st := 1, pbuf := x.pbuf != (x.follow || x.staged), follow := false, staged := false })) c (fun k => { k with active := none })

/-- The frame's last attempt has ended with a final status (R278). -/
def completeObj (s : State) (c : Fin 8) (o st : Nat) : State :=
  let x := objOf s c o
  let s1 := setChan (setObj s c o (fun x => { x with st := st, cancel := false, follow := false, staged := false })) c (fun k => { k with active := none })
  if x.follow then requestObj s1 c o true
  else if x.staged then setObj s1 c o (fun x => { x with pbuf := !x.pbuf })
  else s1

/-- The attempt on the bus ends the object's frame with a status: written now, or, while the channel's context is rebuilt, at a visit after it
(R289). 3 is success, 5 where a cancel came too late. -/
def finishObj (s : State) (c : Fin 8) (o st : Nat) (f : CanFrame) : State :=
  if lampServes s c.val then completeObj s c o (if st = 3 ∧ (objOf s c o).cancel = true then 5 else st)
  else setChan s c (fun k => { k with active := none, done := k.done ++ [{ frame := f, own := true, obj := o, fin := st }] })

/-- Fault confinement after a change of TEC or REC (Table 11-3, R269). PRESUMED (log 61). -/
def canConfine (s : State) (c : Fin 8) : State :=
  let k := s.can[c]
  if canTx k && decide (255 < k.tec) then
    canEvent (setChan s c (fun k => { canDrop k with st := 4 })) c 0x8002 5 []
  else if k.st = 2 ∧ (127 < k.tec ∨ 127 < k.rec_) then canEvent (setChan s c (fun k => { k with st := 3 })) c 0x8001 2 []
  else if k.st = 3 ∧ k.tec ≤ 127 ∧ k.rec_ ≤ 127 then canEvent (setChan s c (fun k => { k with st := 2 })) c 0x8004 1 []
  else s

/-! ### Object commands (R276, R281) -/

/-- One command taken by the channel: 1 REQUEST, 2 STAGE, 3 CANCEL, 4 RELEASE. `early`: a cancel reaches the channel before the
sample point of the first control-field bit (R281). DEDUCED (log 62). -/
def canCommand (s : State) (c : Fin 8) (cmd o : Nat) (early : Bool) : State :=
  let x := objOf s c o
  match cmd with
  | 1 => requestObj s c o true
  | 2 => if x.st = 2 then setObj s c o (fun x => { x with staged := true }) else setObj s c o (fun x => { x with pbuf := !x.pbuf })
  | 3 =>
    let s1 := bumpCan s c 9
    if x.st = 1 then setObj s1 c o (fun x => { x with st := 4 })
    else if x.st = 2 then
      if early && !x.cancel && s.can[c].active == some o then
        setChan (setObj s1 c o (fun x => { x with st := 4, follow := false, pbuf := x.pbuf != x.staged, staged := false })) c (fun k => { k with active := none })
      else setObj s1 c o (fun x => { x with cancel := true, follow := false })
    else s1
  | 4 =>
    setObj s c o (fun x =>
      let y := setBuf x x.pbuf { primBuf x with full := false }
      let z := if (shadBuf y).full then { y with pbuf := !y.pbuf } else y
      { z with st := z.b0.full.toNat + z.b1.full.toNat })
  | _ => s

/-- The write of an object command is refused: FIFO full, a GWOWN object, or the wrong direction (R276). -/
def canRefused (s : State) (c : Fin 8) (cmd o : Nat) : Bool :=
  let x := objOf s c o
  decide (16 ≤ s.can[c].fifo.length) || bitAt x.cfg 23 || (cmd == 4 && isTx x) || (decide (1 ≤ cmd) && decide (cmd ≤ 3) && !isTx x)

/-- A write of CANn_OBJCTL: the command enters the FIFO, or ends READONLY and is counted in CMD_REJECT. -/
def canObjctl (s : State) (c : Fin 8) (v : Word) : WRes :=
  let cmd := fld v 10 8
  let o := fld v 6 0
  if cmd = 0 ∨ 4 < cmd then (s, 0)
  else if canRefused s c cmd o then (bumpCan s c 11, 6)
  else (setChan s c (fun k => { k with fifo := k.fifo ++ [(cmd, o)] }), 0)

/-- An object command written and taken in one step: behind commands that still wait it only enters the FIFO. -/
def canObjCmd (s : State) (c : Fin 8) (cmd o : Nat) (early : Bool) : WRes :=
  if canRefused s c cmd o then (bumpCan s c 11, 6)
  else if s.can[c].fifo = [] ∧ lampServes s c.val = true then (canCommand s c cmd o early, 0)
  else (setChan s c (fun k => { k with fifo := k.fifo ++ [(cmd, o)] }), 0)

/-! ### Sending -/

/-- The frame an object sends from its primary buffer (R277). -/
def txFrame (s : State) (c : Fin 8) (o : Nat) : CanFrame :=
  let x := objOf s c o
  let b := primBuf x
  let fdf := bitAt x.cfg 28
  let rtr := bitAt x.cfg 26 && !fdf
  { ide := bitAt x.cfg 29, fdf := fdf, brs := bitAt x.cfg 27, rtr := rtr, esi := s.can[c].st == 3 && fdf, id := fld x.oid 28 0, dlc := b.dlc
    data := if rtr then [] else (b.data ++ List.replicate 64 0#8).take (dlcLen fdf b.dlc), stamp := 0 }

/-- The arbitration key of an object: its leading 11 bits, then base before extended, then the rest of the identifier, then
its number (R278). -/
def arbKey (o : Nat) (x : CObj) : Nat :=
  let id := fld x.oid 28 0
  if bitAt x.cfg 29 then ((id / 2 ^ 18 * 2 + 1) * 2 ^ 18 + id % 2 ^ 18) * 128 + o else (id % 2 ^ 11 * 2 * 2 ^ 18) * 128 + o

/-- The PENDING object whose frame wins arbitration. -/
def canChoose (k : Chan) : Option Nat :=
  ((k.objs.filter (fun x => isTx x.2 && x.2.st == 1)).foldl (fun b x =>
    match b with
    | none => some (x.1, arbKey x.1 x.2)
    | some y => if arbKey x.1 x.2 < y.2 then some (x.1, arbKey x.1 x.2) else some y) (none : Option (Nat × Nat))).map Prod.fst

/-- The channel starts a frame when the bus is idle (R278). -/
def canStart (s : State) (c : Fin 8) : State :=
  if canTx s.can[c] && s.can[c].active.isNone && !s.can[c].stop && !s.can[c].pex && canMode s c == .normal then
    match canChoose s.can[c] with
    | some o => emit (setChan (setObj s c o (fun x => { x with st := 2 })) c (fun k => { k with active := some o })) (.can c.val (txFrame s c o))
    | none => s
  else s

/-! ### Receiving -/

/-- An RX object accepts a frame (R274). -/
def canAccepts (x : CObj) (f : CanFrame) : Bool :=
  bitAt x.cfg 31 && !isTx x && (bitAt x.cfg 29 == f.ide) &&
  decide ((BitVec.ofNat 29 f.id ^^^ BitVec.ofNat 29 (fld x.oid 28 0)) &&& BitVec.ofNat 29 (fld x.omask 28 0) = 0#29) &&
  (!bitAt x.omask 30 || bitAt x.cfg 28 == f.fdf) && (!bitAt x.omask 29 || bitAt x.cfg 26 == f.rtr)

/-- The buffer a frame fills (Table 11-5). -/
def bufOf (f : CanFrame) (full : Bool) : OBuf :=
  { full := full, rtr := f.rtr, esi := f.esi, ide := f.ide, fdf := f.fdf, brs := f.brs, dlc := f.dlc, id := f.id, stamp := f.stamp
    data := f.data.take (dlcLen f.fdf f.dlc) }

/-- Little-endian words of data bytes, as LBUS carries them. -/
def dataWord (d : Bytes) (w : Nat) : Word :=
  BitVec.ofNat 32 (byteAt d (4 * w) + 256 * byteAt d (4 * w + 1) + 65536 * byteAt d (4 * w + 2) + 16777216 * byteAt d (4 * w + 3))

/-- A queue entry (Table 11-8). -/
def queueEntry (f : CanFrame) (seq : Nat) (own : Bool) (o : Option Nat) : List Word :=
  let d := f.data.take (dlcLen f.fdf f.dlc)
  [BitVec.ofNat 32 f.stamp, BitVec.ofNat 32 (f.stamp / 2 ^ 32),
   BitVec.ofNat 32 (2 ^ 31 * f.ide.toNat + 2 ^ 30 * f.fdf.toNat + 2 ^ 29 * f.brs.toNat + f.id),
   BitVec.ofNat 32 (seq % 65536 * 65536 + o.getD 0 * 512 + 256 * o.isSome.toNat + 128 * f.rtr.toNat + 64 * f.esi.toNat + 32 * own.toNat + f.dlc)] ++
  (List.range 16).map (dataWord d)

/-- Entries the host owns (R284). -/
def qFill (k : Chan) : Nat := (k.qwr + 2048 - k.qrd) % 2048

/-- The RX mapping records on an object, in the table's order (R252). -/
def rxRecords (s : State) (c : Fin 8) (o : Nat) : List Nat :=
  let t := imgTable s 0x70 3
  (List.range (t.length / 16)).filter (fun r => byteAt t (16 * r) == 1 && byteAt t (16 * r + 1) == c.val && byteAt t (16 * r + 2) == o)

/-- A frame goes into the object that accepts it, and its RX records into the gateway's work (R252, R275). -/
def storeObj (s : State) (c : Fin 8) (o : Nat) (f : CanFrame) : State :=
  let x := objOf s c o
  let prim := !(primBuf x).full
  let lost := (primBuf x).full && (shadBuf x).full
  let s1 := setObj s c o (fun x =>
    let y := setBuf x (if prim then x.pbuf else !x.pbuf) (bufOf f true)
    { y with ovr := y.ovr || lost, st := y.b0.full.toNat + y.b1.full.toNat })
  let s2 := if lost then canEventLim (bumpCan s1 c 7) c 0x8021 1 [o, f.id] else s1
  match rxRecords s c o with
  | [] => s2
  | r => { s2 with sg := { s2.sg with jobs := s2.sg.jobs ++ [{ chan := c.val, data := f.data.take (dlcLen f.fdf f.dlc), stamp := f.stamp, todo := r, done := [] }] } }

/-- A frame goes to the object that accepts it and to the receive-all queue (R274, R275, R283, R284). -/
def canDeliver (s : State) (c : Fin 8) (d : CanDone) : State :=
  let s0 := setChan s c (fun k => { k with seq := (k.seq + 1) % 65536 })
  let hit := if d.own then none else ((s0.can[c].objs.find? (fun x => canAccepts x.2 d.frame)).map Prod.fst)
  let s1 := match hit with
    | some o => storeObj s0 c o d.frame
    | none => s0
  if bitAt (canCfg s c) 3 && (!d.own || bitAt (canCfg s c) 4) then
    if 1024 ≤ qFill s1.can[c] then
      canEventLim (setChan (bumpCan s1 c 6) c (fun k => { k with qovf := true })) c 0x8020 2 [d.frame.id]
    else
      setChan s1 c (fun k => { k with q := mput k.q (k.qwr % 1024) (queueEntry d.frame s.can[c].seq d.own hit), qwr := (k.qwr + 1) % 2048 })
  else s1

/-- One completion is committed (R286): a status that waited for it first (R289); a frame that failed goes nowhere else. -/
def canStore (s : State) (c : Fin 8) (d : CanDone) : State :=
  let late := completeObj s c d.obj (if d.fin = 3 ∧ (objOf s c d.obj).cancel = true then 5 else d.fin)
  if d.fin = 0 then canDeliver s c d
  else if d.fin = 3 then canDeliver { late with can := late.can.set c { late.can[c] with active := s.can[c].active } } c d
  else { late with can := late.can.set c { late.can[c] with active := s.can[c].active } }

/-! ### Windows and queue registers -/

/-- A write in the CAN message memory window (R273, R277): DLC and data of a TX object's shadow buffer, and OVR. -/
def canWindowWrite (s : State) (off : Nat) (be : BitVec 4) (v : Word) : WRes :=
  let c : Fin 8 := Fin.ofNat 8 (off / 0x8000)
  let o := off / 0x100 % 128
  let a := off % 0x100
  let x := objOf s c o
  if a < 0x20 then
    (if a = 0x0C ∧ bitAt (maskBe be v) 5 = true ∧ isTx x = false then setObj s c o (fun x => { x with ovr := false }) else s, 0)
  else if 0xE0 ≤ a then (s, 0)
  else
    let one := decide (0x80 ≤ a)
    let b := (a - 0x20) % 0x60
    let buf := if one then x.b1 else x.b0
    if 0x50 ≤ b then (s, 0)
    else if !isTx x || bitAt x.cfg 23 || one == x.pbuf then (bumpCan s c 11, 6)
    else if b = 0 then (setObj s c o (fun x => setBuf x one { buf with dlc := if be.getLsbD 0 then fld v 3 0 else buf.dlc }), 0)
    else if b < 0x10 then (s, 0)
    else
      let d := (buf.data ++ List.replicate 64 0#8).take 64
      let w := mergeBe be (dataWord d ((b - 0x10) / 4)) v
      (setObj s c o (fun x => setBuf x one { buf with data := d.take (b - 0x10) ++ (beBytes 4 w.toNat).reverse ++ d.drop (b - 0x10 + 4) }), 0)

/-- A read in the CAN message memory window (Tables 11-4 and 11-5). -/
def canWindowRead (s : State) (off : Nat) : Word :=
  let c : Fin 8 := Fin.ofNat 8 (off / 0x8000)
  let x := objOf s c (off / 0x100 % 128)
  let a := off % 0x100
  if a = 0 then x.cfg
  else if a = 4 then x.oid
  else if a = 8 then x.omask
  else if a = 0xC then BitVec.ofNat 32 (2 ^ 24 * min 255 x.coll + 64 * x.follow.toNat + 32 * x.ovr.toNat + 16 * x.pbuf.toNat + x.st)
  else if a < 0x20 ∨ 0xE0 ≤ a then 0
  else
    let y := if 0x80 ≤ a then x.b1 else x.b0
    let b := (a - 0x20) % 0x60
    if b = 0 then BitVec.ofNat 32 (2 ^ 31 * y.full.toNat + 128 * y.rtr.toNat + 64 * y.esi.toNat + y.dlc)
    else if b = 4 then BitVec.ofNat 32 (2 ^ 31 * y.ide.toNat + 2 ^ 30 * y.fdf.toNat + 2 ^ 29 * y.brs.toNat + y.id)
    else if b = 8 then BitVec.ofNat 32 y.stamp
    else if b = 0xC then BitVec.ofNat 32 (y.stamp / 2 ^ 32)
    else if b < 0x50 then dataWord y.data ((b - 0x10) / 4)
    else 0

/-- A write of CANn_QPTR.QRD: a later value up to QWR frees the entries; any other is ignored and counted (R284). -/
def canQueueAck (s : State) (c : Fin 8) (qrd : Nat) : State :=
  let k := s.can[c]
  let d := (qrd + 2048 - k.qrd) % 2048
  if 1 ≤ d ∧ d ≤ qFill k then setChan s c (fun k => { k with qrd := qrd }) else bumpCan s c 11

/-- The words CANn_QIDX latches: zeros for an index the host does not own (R283). -/
def canQueueRead (k : Chan) (i : Nat) : List Word :=
  if (i + 1024 - k.qrd % 1024) % 1024 < qFill k then (mget k.q i).getD (List.replicate 20 0) else List.replicate 20 0

/-- A recovery command (R270). -/
def canRecover (s : State) (c : Fin 8) (src : Nat) : State :=
  if s.can[c].st = 4 then setChan s c (fun k => { k with st := 5, recov := 0, recSrc := src })
  else canEvent s c 0x8005 1 [src]

/-! ### The gateway's side (R251 to R253) -/

/-- Position of the k-th bit of a field: with ORDER 1 bits rise; with ORDER 0 they fall through the byte and go on at bit 7 of
the next. -/
def bitPos (order1 : Bool) (start k : Nat) : Nat :=
  if order1 then start + k
  else
    let n := 8 * (start / 8) + (7 - start % 8) + k
    8 * (n / 8) + (7 - n % 8)

/-- The field of a record in data bytes as a number whose bit b is data bit b. -/
def fieldGet (d : Nat) (order1 : Bool) (start len : Nat) : Nat :=
  ((List.range len).map (fun k => if d.testBit (bitPos order1 start k) then 2 ^ (if order1 then k else len - 1 - k) else 0)).sum

/-- Sets the bits of a field. -/
def fieldPut (d : Nat) (order1 : Bool) (start len v : Nat) : Nat :=
  (List.range len).foldl (fun d k =>
    let b := bitPos order1 start k
    let on := v.testBit (if order1 then k else len - 1 - k)
    if on == d.testBit b then d else if on then d + 2 ^ b else d - 2 ^ b) d

/-- Data bytes as a number whose bit b is data bit b. -/
def dataNat (d : Bytes) : Nat := beNat d.reverse

/-- A mapping record. -/
structure MapRec where
  dir    : Nat
  chan   : Nat
  obj    : Nat
  flags  : Nat
  entry  : Nat
  start  : Nat
  len    : Nat
  period : Nat
  phase  : Nat
  mingap : Nat
  deriving DecidableEq, Repr

/-- Reads record r of table 0x0003. -/
def mapRec (s : State) (r : Nat) : MapRec :=
  let b := slice (imgTable s 0x70 3) (16 * r) 16
  { dir := byteAt b 0, chan := byteAt b 1, obj := byteAt b 2, flags := byteAt b 3, entry := beAt b 4 2, start := beAt b 6 2, len := byteAt b 8
    period := beAt b 10 2, phase := beAt b 12 2, mingap := beAt b 14 2 }

/-- The highest data byte a record covers. -/
def topByte (m : MapRec) : Nat := ((List.range m.len).map (fun k => bitPos (m.flags.testBit 0) m.start k / 8)).foldl max 0

/-- The smallest DLC whose data length holds n bytes. -/
def dlcFor (fdf : Bool) (n : Nat) : Nat := ((List.range 16).find? (fun d => decide (n ≤ dlcLen fdf d))).getD (if fdf then 15 else 8)

/-- The gateway's REQUEST for an object: its shadow buffer is written and the request made; a frame not yet sent is overwritten (R253).
DESIGN CHOICE (log 65). -/
def gwRequest (s : State) (c : Fin 8) (o entry : Nat) (d : Bytes) (dlc : Nat) : State :=
  let x := objOf s c o
  let s1 := if x.st = 1 ∨ x.st = 2 then
      raiseLim (bumpSg s 10) 1000000000 0x7031 1 0xFFF [(sgSeg s (subDefOf s entry)).val, entry, (sgEnt s entry).sid, c.val, o]
    else s
  let s2 := setObj s1 c o (fun x => setBuf x (!x.pbuf) { shadBuf x with dlc := dlc, data := d })
  bumpSg (requestObj s2 c o true) 7

/-- The TX records of an object. -/
def txRecords (s : State) (c o : Nat) : List (Nat × MapRec) :=
  ((List.range ((imgTable s 0x70 3).length / 16)).map (fun r => (r, mapRec s r))).filter (fun x => x.2.dir == 2 && x.2.chan == c && x.2.obj == o)

/-- The entry of a record is FRESH or PUB_VALID. -/
def entryGood (s : State) (e : Nat) : Bool := (sgEnt s e).st == 3 || (sgEnt s e).st == 8

/-- An object fires at the instant of cycle k (R253), and whether by a change. `old`: the snapshot before the flip. -/
def gwFires (s : State) (old : List (Nat × SgEnt)) (k : Nat) (co : Fin 8 × Nat) : Option Bool :=
  let (c, o) := co
  let recs := txRecords s c.val o
  let changed (m : MapRec) : Bool := m.flags.testBit 3 && decide (((mget old m.entry).getD {}).val ≠ (sgEnt s m.entry).val) &&
    (match mget s.sg.txAt (128 * c.val + o) with
     | some t => decide (t + m.mingap ≤ k)
     | none => true)
  let byTime := recs.any (fun x => x.2.period != 0 && k % x.2.period == x.2.phase)
  let byChange := recs.any (fun x => changed x.2)
  if byTime || byChange then some byChange else none

/-- Every TX record of an object that fired is written from the snapshot, and transmission requested once; STOP withholds it (R253). -/
def gwSend (k : Nat) (s : State) (x : (Fin 8 × Nat) × Bool) : State :=
  let ((c, o), byChange) := x
  let recs := txRecords s c.val o
  if recs.any (fun x => !entryGood s x.2.entry && x.2.flags / 2 % 4 == 1) then bumpSg s 9
  else
    let value (x : Nat × MapRec) : Nat :=
      if entryGood s x.2.entry then (sgEnt s x.2.entry).val
      else if x.2.flags / 2 % 4 = 2 then 2 ^ x.2.len - 1
      else (mget s.sg.txLast x.1).getD (Config.standardNat 20 [s.free, x.1] % 2 ^ x.2.len)
    let d := recs.foldl (fun d x => fieldPut d (x.2.flags.testBit 0) x.2.start x.2.len (value x)) 0
    let fdf := bitAt (objOf s c o).cfg 28
    let n := min (if fdf then 64 else 8) ((recs.map (fun x => topByte x.2 + 1)).foldl max 0)
    let s1 := gwRequest s c o ((recs.head?.map (fun x => x.2.entry)).getD 0) ((beBytes 64 d).reverse.take n) (dlcFor fdf n)
    takeFree { s1 with sg := { s1.sg with
      txLast := recs.foldl (fun m x => mput m x.1 (value x)) s1.sg.txLast
      txAt := if byChange then mput s1.sg.txAt (128 * c.val + o) k else s1.sg.txAt } }

/-- Every object a TX record serves, once each. -/
def gwObjects (s : State) : List (Fin 8 × Nat) :=
  (((List.range ((imgTable s 0x70 3).length / 16)).map (mapRec s)).filter (fun m => m.dir == 2)).foldl (fun l m =>
    let x : Fin 8 × Nat := (Fin.ofNat 8 m.chan, m.obj)
    if l.contains x then l else l ++ [x]) []

/-- Every TX mapping at the instant of cycle k. While the gateway's context is rebuilt its slots run idle: the records wait (R289). -/
def gwFire (old : List (Nat × SgEnt)) (k : Nat) (s : State) : State :=
  let l := (gwObjects s).filterMap (fun co => (gwFires s old k co).map (fun b => (co, b)))
  if lampServes s 8 then l.foldl (gwSend k) s else { s with sg := { s.sg with gwLate := some (k, l) } }

/-- What waited for the gateway's context is written. -/
def gwResume (s : State) : State :=
  match s.sg.gwLate with
  | some (k, l) => l.foldl (gwSend k) { s with sg := { s.sg with gwLate := none } }
  | none => s

/-- The common-instant triggers of every channel (R279). -/
def canTriggers (s : State) : State :=
  (List.finRange 8).foldl (fun t c =>
    ((t.can[c].objs.filter (fun x => bitAt x.2.cfg 31 && isTx x.2 && bitAt x.2.cfg 24 && !bitAt x.2.cfg 23)).map Prod.fst).foldl (fun u o =>
      if (objOf u c o).st = 1 ∨ (objOf u c o).st = 2 then bumpCan u c 10 else requestObj u c o false) t) s

end Sys2Proof.Machine
end

