-- ==== Sys2Proof/Machine/Can.lean ====
section
/-! DEFINITION. The commands of CAN channels and the Lamplighter (chapter 11), and of the gateway and the host's side of the
signal store (R252, R254, R256). -/

namespace Sys2Proof.Machine

/-- The transceivers are powered and a configuration stands (Table 11-1, R48, R65). A channel that a profile switch has stopped is OFF. -/
def canLive (s : State) : Bool := committed s && !s.line.shed && s.line.therm != 2

/-- REC after a frame received without error: one less, or a value from 119 to 127 (ISO 11898-1). -/
def recGood (s : State) (r : Nat) : Nat := if 127 < r then 119 + Config.choice s.free % 9 else r - 1

/-- CAN_FRAME_VALID (R264, R271, R272, R274, R289): the frame is counted and waits for a visit. With FDEN clear an FD frame is a
protocol exception and never becomes valid. The frame on its way when its context failed is lost. -/
def canFrameValid (s : State) (c : Fin 8) (f : CanFrame) : State :=
  let k := s.can[c]
  if !canLive s || !canOnBus k || k.pex || (f.fdf && !bitAt (canCfg s c) 1) then s
  else
    let s1 := bumpCan s c 0
    let s2 := if k.st = 6 then s1
      else canConfine (setChan (takeFree s1) c (fun k => { k with rec_ := recGood s k.rec_ })) c
    let lost := (k.ctxAt.map (fun t => decide (f.stamp < t))).getD false
    let s3 := if lost then bumpCan s2 c 13 else setChan s2 c (fun k => { k with done := k.done ++ [{ frame := f, own := false, obj := 0 }] })
    canStopNow (setChan s3 c (fun k => { k with ctxAt := none })) c

/-- CAN_VISIT (R286, R290): one command, then one completion; on an idle bus the next frame starts. A cancel that finds its object on
the bus reaches the channel before or after the sample point as the bus has it: free. -/
def canVisit (s : State) (c : Fin 8) (busIdle : Bool) : State :=
  if service s && s.can[c].st != 0 && lampServes s c.val then
    let s1 := match s.can[c].fifo with
      | [] => s
      | (cmd, o) :: r => canCommand (takeFree (setChan s c (fun k => { k with fifo := r }))) c cmd o (Config.choice s.free % 2 == 0)
    let s2 := match s1.can[c].done with
      | [] => s1
      | d :: r => canStore (setChan s1 c (fun k => { k with done := r })) c d
    if busIdle then canStart s2 c else s2
  else s

/-- CAN_TX_SUCCESS (R267, R278, R281, R282, R285). -/
def canTxSuccess (s : State) (c : Fin 8) (stamp tdcv : Nat) : State :=
  match s.can[c].active with
  | none => s
  | some o =>
    if canLive s && canTx s.can[c] then
      let f := { txFrame s c o with stamp := stamp }
      let s1 := setObj (bumpCan s c 1) c o (fun x => setBuf { x with coll := 0 } x.pbuf { bufOf f (primBuf x).full with data := (primBuf x).data, dlc := (primBuf x).dlc })
      let s2 := setChan s1 c (fun k => { k with
        tec := k.tec - 1
        tdcv := if f.fdf && f.brs && regB s (0x7008 + 0x200 * c.val) 31 then tdcv % 128 else k.tdcv
        done := if lampServes s c.val then k.done ++ [{ frame := f, own := true, obj := o }] else k.done })
      canStopNow (canConfine (finishObj s2 c o 3 f) c) c
    else s

/-- CAN_ARB_LOST (R278): the object returns to PENDING, or FAILED with ONESHOT; one cancelled too late is never sent again. -/
def canArbLost (s : State) (c : Fin 8) : State :=
  match s.can[c].active with
  | none => s
  | some o =>
    let x := objOf s c o
    let s1 := bumpCan s c 2
    canStopNow (if x.cancel then finishObj s1 c o 6 (txFrame s c o) else if bitAt x.cfg 25 then finishObj s1 c o 9 (txFrame s c o) else returnPending s1 c o) c

/-- A bus error of the channel: counted, fed into fault confinement, and settled for the object on the bus (R264, R269, R278, R281, R282). -/
def canErr (s : State) (c : Fin 8) (code field : Nat) (tx hard : Bool) : State :=
  let k := s.can[c]
  let s1 := setChan (bumpCan s c (if tx then 3 else 4)) c (fun k => { k with lastErr := BitVec.ofNat 32 (16 * (field % 16) + 8 * tx.toNat + code % 8) })
  if k.st = 6 then s1
  else
    match tx, k.active with
    | true, some o =>
      let x := objOf s c o
      let up := if code = 4 ∧ k.st = 3 ∧ hard = false then 0 else 8
      let s2 := setChan s1 c (fun k => { k with tec := min 511 (k.tec + up) })
      let coll := decide (code = 1) && decide (1 ≤ field) && decide (field ≤ 3)
      let n := fld (canCfg s c) 27 24
      let hit := coll && n != 0 && decide (n ≤ x.coll + 1)
      let s3 := if coll then setObj (bumpCan s2 c 8) c o (fun x => { x with coll := min 255 (x.coll + 1) }) else s2
      let s4 := if hit then canEvent s3 c 0x8010 5 [o, fld x.oid 28 0] else s3
      if 255 < s4.can[c].tec then canStopNow (canConfine s4 c) c
      else
        let s5 := if x.cancel then finishObj s4 c o 6 (txFrame s c o)
          else if bitAt x.cfg 25 then finishObj s4 c o 9 (txFrame s c o)
          else if hit then finishObj s4 c o 7 (txFrame s c o)
          else returnPending s4 c o
        canStopNow (canConfine s5 c) c
    | _, _ => canStopNow (canConfine (setChan s1 c (fun k => { k with rec_ := min 255 (k.rec_ + if hard then 8 else 1) })) c) c

/-- CAN_BUS_ERROR (R264). `hard`: the case for which ISO 11898-1 adds 8 to REC, or counts a passive node's missing ACK. -/
def canBusError (s : State) (c : Fin 8) (code field : Nat) (tx hard : Bool) : State :=
  if canLive s && canOnBus s.can[c] && !s.can[c].pex && (!tx || s.can[c].active.isSome) then canErr s c code field tx hard else s

/-- CAN_INTEGRATED (R272, Table 11-3): 11 consecutive recessive bits. In RECOVERING they are one sequence of the 128; a channel that waits
after a protocol exception takes part again. DEDUCED (log 117). -/
def canIntegrated (s : State) (c : Fin 8) : State :=
  if canLive s && s.can[c].st == 1 && !underTest s (8 + c.val) && !(fUnit s (8 + c.val)).lost then
    setChan s c (fun k => { k with st := if bitAt (canCfg s c) 2 then 6 else 2 })
  else if canLive s && s.can[c].st == 5 then setChan s c (fun k => { k with recov := min 127 (k.recov + 1) })
  else setChan s c (fun k => { k with pex := false })

/-- CAN_RECOVERED (Table 11-3). -/
def canRecovered (s : State) (c : Fin 8) : State :=
  if canLive s && s.can[c].st == 5 then
    let s1 := setChan s c (fun k => { k with st := 2, tec := 0, rec_ := 0, recov := 128 })
    canEvent s1 c 0x8003 6 [s.can[c].recSrc]
  else s

/-- CANn_CMD (R270, R419): a host write with the wrong MAGIC is rejected. -/
def canCmdWrite (s : State) (c : Fin 8) (src : Nat) (v : Word) : State :=
  if bitAt v 0 then
    if fld v 31 16 = 0x6E0F then canRecover s c src else canEvent s c 0x8005 1 [src]
  else s

/-- DOM_TIMEOUT (R263): the frame in progress counts as erred, and the channel reports a detected error. Where in the frame the
release falls is free. -/
def domTimeout (s : State) (c : Fin 8) : State :=
  if canLive s && canTx s.can[c] then
    let s1 := canErr (takeFree s) c 1 (Config.choice s.free % 7) s.can[c].active.isSome true
    detect (canEvent s1 c 0x8030 3 []) (8 + c.val) 0x8030
  else s

/-- BUS_STUCK (R263): not a detected error of the node. -/
def busStuck (s : State) (c : Fin 8) : State :=
  if canLive s && s.can[c].st != 0 then canEvent s c 0x8031 5 [] else s

/-- PROTOCOL_EXCEPTION (R272). -/
def protocolException (s : State) (c : Fin 8) : State :=
  if canLive s && canOnBus s.can[c] then canEventLim (setChan (bumpCan s c 5) c (fun k => { k with pex := true })) c 0x8022 1 [] else s

/-! ### The Lamplighter (R289) -/

/-- LL_CONTEXT_FAULT: a detected error of the context; its user is idled, the march test decides whether it moves to a spare, and
without one a CAN channel goes OFF. DEDUCED (log 64). -/
def llContextFault (s : State) (u : Fin 11) (marchFails : Bool) : State :=
  if coreRun s && lampServes s u.val then
    let bit := BitVec.ofNat 11 (2 ^ u.val)
    let s0 := detect s (0x10 + u.val) 0x8040
    let s1 := if h : u.val < 8 then setChan s0 ⟨u.val, h⟩ (fun k => { k with ctxAt := if canOnBus k && k.active.isNone then some (ttNow s) else none }) else s0
    if marchFails && s.lamp.spares == 0 then
      let s2 := raise { s1 with lamp := { s1.lamp with dead := s1.lamp.dead ||| bit } } 0x8041 5 u.val [u.val]
      let s3 := bumpFlt (setUnit s2 (0x10 + u.val) (fun x => { x with lost := true })) 3
      if h : u.val < 8 then setUnit (canOff s3 ⟨u.val, h⟩) (8 + u.val) (fun x => { x with lost := true }) else s3
    else
      { s1 with lamp := { s1.lamp with
          idle := s1.lamp.idle ||| bit
          spares := if marchFails then s1.lamp.spares - 1 else s1.lamp.spares
          need := if marchFails then s1.lamp.need ||| bit else s1.lamp.need } }
  else s

/-- LL_REBUILD_DONE: the user's state is rebuilt and its slots resume; in a spare with LL_SPARED, else as a transient (R289, R360). -/
def llRebuildDone (s : State) (u : Fin 11) : State :=
  if s.lamp.idle.getLsbD u.val then
    let bit := BitVec.ofNat 11 (2 ^ u.val)
    let s1 := { s with lamp := { s.lamp with idle := s.lamp.idle &&& ~~~bit, need := s.lamp.need &&& ~~~bit } }
    if s.lamp.need.getLsbD u.val then
      let s2 := bump { s1 with lamp := { s1.lamp with map := s1.lamp.map ||| bit } } (0x8040 + 4 * 4)
      raise (bumpFlt (setUnit s2 (0x10 + u.val) (fun x => { x with spared := true })) 3) 0x8040 4 u.val [u.val]
    else
      raise (bumpFlt (setUnit s1 (0x10 + u.val) (fun x => { x with trans := s.mram.optime :: recentTrans s (0x10 + u.val) })) 2)
        0xA001 3 (0x10 + u.val) [0x10 + u.val, 1, 0x8040]
  else s

/-! ### The gateway and the host's side of the store -/

/-- GATEWAY_MAPPING_TASK (R252, R254): the oldest frame's next RX record extracts its field; with its last record the frame's
write group enters the back buffer (R237). -/
def gatewayMappingTask (s : State) : State :=
  if service s && lampServes s 8 then
    match s.sg.jobs with
    | [] => s
    | j :: rest =>
      match j.todo with
      | [] => { s with sg := { s.sg with jobs := rest } }
      | r :: more =>
        let m := mapRec s r
        let v := fieldGet (dataNat j.data) (m.flags.testBit 0) m.start m.len
        let done := j.done ++ [(m.entry, v)]
        let s1 := bumpSg s 6
        if more = [] then
          { s1 with sg := { s1.sg with
              jobs := rest
              back := done.foldl (fun b x => mput b x.1 { (mget b x.1).getD {} with val := some x.2 }) s1.sg.back
              canSeen := done.foldl (fun b x => mput b x.1 j.stamp) s1.sg.canSeen } }
        else { s1 with sg := { s1.sg with jobs := { j with todo := more, done := done } :: rest } }
  else s

/-- A write of the signal store window by the local host (R255, R256, R87): only VAL_LO and VAL_HI of HOST entries; enabled bytes
replace those of the word as it would be committed. While a profile switch stops the store it ends CLOSED. -/
def sigWrite (s : State) (off : Nat) (be : BitVec 4) (v : Word) : WRes :=
  let e := off / 16 % 65536
  let a := off % 16
  if s.boot.phase == .switchLoad then (s, 5)
  else if !committed s || 8 ≤ a || !isHostEntry s e then (bumpSg s 11, 6)
  else if 1024 ≤ s.sg.staged.length then
    let s1 := bumpSg { s with sg := { s.sg with ovf := true } } 11
    (raise s1 0x7040 2 0xFFF [(sgSeg s (subDefOf s e)).val, e, (sgEnt s e).sid], 6)
  else
    let half := a / 4
    let w := mergeBe be (hostHalf s e half) v
    let s1 := { s with sg := { s.sg with staged := s.sg.staged ++ [(e, half, w)] } }
    (if half = 0 ∧ regB s 0x6000 0 = true then commitStaged s1 else s1, 0)

/-- SG_HCOMMIT.GO (R256). -/
def hostCommitGo (s : State) (v : Word) : State := if bitAt v 0 && service s then commitStaged s else s

end Sys2Proof.Machine
end

