-- ==== Sys2Proof/Machine/RecorderOps.lean ====
section
/-! DEFINITION. The event recorder (chapter 15): intake and coalescing, the end of a write, the start-up scan, statistics, reading,
clearing, and the banks. -/

namespace Sys2Proof.Machine

/-- REC_CNT `i`. -/
def bumpRec (s : State) (i : Nat) : State := bump s (0xC180 + 4 * i)

/-! ### Intake (R382, R383) -/

/-- A drop: the accumulator counts it and keeps the highest severity and the first CODE. -/
def dropEvent (s : State) (e : Event) : State :=
  bumpRec { s with log := { s.log with
    ovCnt := s.log.ovCnt + 1, ovSev := max s.log.ovSev e.sev, ovCode := if s.log.ovCnt = 0 then e.code else s.log.ovCode } } 3

/-- The event coalesces with a waiting entry (R382). -/
def coalesces (e w : Event) : Bool := w.inst == e.inst && w.code == e.code && w.sev == e.sev && decide (w.rep < 65535)

/-- The first waiting entry the event coalesces with gains 1 REPEAT. -/
def addRepeat (e : Event) : List Event → List Event
  | [] => []
  | w :: r => if coalesces e w then { w with rep := w.rep + 1 } :: r else w :: addRepeat e r

/-- The newest entry of severity `sev` is dropped: it, and the list without it. -/
def dropNewest (sev : Nat) (l : List Event) : Option Event × List Event :=
  match l.reverse.span (fun e => e.sev != sev) with
  | (a, e :: r) => (some e, (a ++ r).reverse)
  | (_, []) => (none, l)

/-- One event enters the staging FIFO of 512 entries (R382, R383). -/
def intake (s : State) (e : Event) : State :=
  if s.log.fifo.any (coalesces e) then bumpRec { s with log := { s.log with fifo := addRepeat e s.log.fifo } } 2
  else if s.log.fifo.length < 512 then { s with log := { s.log with fifo := s.log.fifo ++ [e] } }
  else
    let low := (s.log.fifo.map Event.sev).foldl min 7
    if low < e.sev then
      match dropNewest low s.log.fifo with
      | (some d, r) => dropEvent { s with log := { s.log with fifo := r ++ [e] } } d
      | (none, _) => dropEvent s e
    else dropEvent s e

/-- EVENT_INTAKE: the oldest event on its way enters the FIFO, and an idle writer starts (R382). -/
def eventIntake (s : State) : State :=
  match s.log.raised with
  | [] => s
  | e :: r => startWrite (intake { s with log := { s.log with raised := r } } e)

/-! ### The end of a write (R379, R385, R393, R395) -/

/-- The logical region of a slot (Table 15-6). -/
def regionOf (area idx : Nat) : Nat := if area = 1 then 2 + idx / 512 else 4 + idx / 512

/-- A record is placed in one bank. -/
def placeIn (k : Bank) (area idx : Nat) (r : Rec) : Bank :=
  if area = 1 then { k with sev7 := mput k.sev7 idx r } else { k with gen := mput k.gen idx r }

/-- A physical region's write count rises by 1. -/
def countWrite (k : Bank) (l : Nat) : Bank := { k with writes := mput k.writes (physOf k l) (writesOf k (physOf k l) + 1) }

/-- One bank takes the record where it is not lost and the write verified. -/
def placeBank (s : State) (b : Bool) (ok : Bool) (sl : Slot) (r : Rec) : State :=
  if (bank s b).st = 2 then s
  else
    let s1 := setBank s b (fun k => countWrite k (regionOf sl.area sl.idx))
    if ok then setBank s1 b (fun k => placeIn k sl.area sl.idx r) else detect (bumpRec s1 6) 0x31 0

/-- The record counts as written: REC_HEAD, the telemetry's records, SEV7_FULL (R379, R385, R409). -/
def recordDone (s : State) (r : Rec) : State :=
  let s1 := bumpRec { s with log := { s.log with head := r.seq }, mon := { s.mon with telEvs := r :: s.mon.telEvs } } 1
  if 1024 ≤ (rdBank s1).sev7.length ∧ s1.log.sev7Full = false then raise { s1 with log := { s1.log with sev7Full := true } } 0xB006 5 0xFFF [] else s1

/-- The write under way ends in its slot. DEDUCED (log 80). -/
def finishWrite (s : State) (okA okB : Bool) (sl : Slot) : State :=
  let s0 := { s with mram := { s.mram with torn := none } }
  if sl.area = 2 then
    let r : Rec := { sl.rec_ with ev := { sl.rec_.ev with flags := sl.rec_.ev.flags ||| 2 } }
    let n := s.log.ringN + 1
    let s1 := { s0 with log := { s0.log with ring := mput s0.log.ring sl.idx r, ringN := n } }
    let s2 := if n % 64 = 0 then { s1 with mram := { s1.mram with gasp := { s1.mram.gasp with lost := n } } } else s1
    recordDone (bumpRec s2 7) r
  else
    let inA := okA && s.mram.bankA.st != 2
    let inB := okB && s.mram.bankB.st != 2
    let one := inA != inB
    let r : Rec := { sl.rec_ with ev := { sl.rec_.ev with flags := sl.rec_.ev.flags ||| (if one then 4 else 0) } }
    let s1 := placeBank (placeBank s0 false okA sl r) true okB sl r
    if inA || inB then recordDone s1 r else s1

/-- RECORD_WRITE_DONE (R379). `okA`, `okB`: the bank's copy verified. -/
def recordWriteDone (s : State) (okA okB : Bool) : State :=
  if s.log.writing then
    let s1 := { s with log := { s.log with writing := false } }
    startWrite (match s.mram.torn with
      | some sl => finishWrite s1 okA okB sl
      | none => s1)
  else s

/-- The FIFO is written out before the core rails go off (R396, Table 15-10): structural on a bound of the records. -/
def flushLogN : (left : Nat) → State → State
  | 0, s => s
  | n + 1, s =>
    if s.log.writing then flushLogN n (recordWriteDone s true true)
    else if s.log.raised ≠ [] then flushLogN n (eventIntake s)
    else if s.log.fifo ≠ [] ∨ 0 < s.log.ovCnt then flushLogN n (startWrite s)
    else s

/-- The recorder staging is written to MRAM (Table 13-8). -/
def flushLog (s : State) : State := flushLogN (3 * (s.log.raised.length + s.log.fifo.length) + 4) s

/-- OPTIME_TICK: one 10 s unit of operating time (R378). -/
def optimeTick (s : State) : State :=
  if s.line.core then { s with mram := { s.mram with optime := s.mram.optime + 1 } } else s

/-! ### The start-up scan (R388) -/

/-- RECORDER_SCAN_DONE (R388, R389). A write cut short by power loss is completed or cleared: which, the state of its slots in the
two banks decides, a free value. -/
def recorderScanDone (s : State) : State :=
  if coreRun s && s.log.scanning then
    let s1 := match s.mram.torn with
      | some sl =>
        let t := takeFree { s with mram := { s.mram with torn := none } }
        if sl.area < 2 ∧ Config.choice s.free % 2 = 1 then
          setBank (setBank t false (fun k => if k.st = 2 then k else placeIn k sl.area sl.idx sl.rec_)) true (fun k => if k.st = 2 then k else placeIn k sl.area sl.idx sl.rec_)
        else t
      | none => s
    let recs := ((rdBank s1).gen ++ (rdBank s1).sev7).map Prod.snd
    let head := (recs.foldl (fun b r => match b with
      | none => some r
      | some x => if older x r then some r else some x) (none : Option Rec)).map Rec.seq
    let both := s1.mram.bankA.st == 2 && s1.mram.bankB.st == 2
    let s2 := { s1 with
      mram := { s1.mram with seq := head.getD s1.mram.seq }
      log := { s1.log with scanning := false, head := head.getD 0, volatile := both, sev7Full := decide (1024 ≤ (rdBank s1).sev7.length) } }
    let g := s2.mram.gasp
    if g.valid && !g.consumed then
      beginWrite { s2 with mram := { s2.mram with gasp := { g with consumed := true } } } { g.rec_ with flags := g.rec_.flags ||| 1 }
    else startWrite s2
  else s

/-! ### Records and statistics as bytes (Tables 15-1, 15-3, 15-7) -/

/-- The 12 payload bytes of a record. REC_OVERFLOW is laid out by R383; the others as their chapters' own layout. PRESUMED (log 13). -/
def payloadBytes (e : Event) : Bytes :=
  if e.code = 0xB001 then
    beBytes 4 (e.vals.getD 0 0) ++ [BitVec.ofNat 8 (e.vals.getD 1 0), 0#8] ++ beBytes 2 (e.vals.getD 2 0) ++ beBytes 4 (e.vals.getD 3 0)
  else (List.range 12).map (Config.payloadByte e.code e.vals)

/-- A record as 32 bytes (Table 15-1). -/
def recBytes (seq : Nat) (e : Event) : Bytes :=
  beBytes 4 seq ++ beBytes 2 e.code ++ [BitVec.ofNat 8 e.sev, BitVec.ofNat 8 e.flags] ++ beBytes 2 e.rep ++
  beBytes 2 (e.code / 4096 * 4096 + e.inst % 4096) ++ beBytes 4 e.optime ++ beBytes 4 e.pwrcyc ++ payloadBytes e

/-- The last-gasp store as 64 bytes (Table 15-7). -/
def gaspBytes (g : LastGasp) : Bytes :=
  let b := (if g.valid then [0x4C#8, 0x47#8] else [0#8, 0#8]) ++ [BitVec.ofNat 8 g.consumed.toNat, 0#8] ++ beBytes 4 g.optime ++ beBytes 4 g.pwrcyc ++
    beBytes 4 g.lost ++ (if g.valid then recBytes 0 g.rec_ else List.replicate 32 0#8) ++ List.replicate 12 0#8
  b ++ (if g.valid then beBytes 4 (crc32 b).toNat else List.replicate 4 0#8)

/-- Word w of a byte string, byte 4w in bits [31:24]. -/
def wordAt (b : Bytes) (w : Nat) : Word := BitVec.ofNat 32 (beAt (b ++ List.replicate (4 * w + 4 - b.length) 0#8) (4 * w) 4)

/-- The 8 words a read of a slot latches (R390). The bytes of a slot being written are a free value. -/
def slotWords (s : State) (area idx : Nat) : List Word :=
  let none_ := List.replicate 8 (0 : Word)
  let of_ (r : Rec) := (List.range 8).map (wordAt (recBytes r.seq r.ev))
  match s.mram.torn with
  | some t =>
    if t.area = area ∧ t.idx = idx ∧ s.log.writing = true then
      BitVec.ofNat 32 (t.rec_.seq - 1) :: (List.range 7).map (fun w => BitVec.ofNat 32 (Config.choice (8 * s.free + w)))
    else match area with
      | 0 => ((mget (rdBank s).gen idx).map of_).getD none_
      | 1 => ((mget (rdBank s).sev7 idx).map of_).getD none_
      | 2 => ((mget s.log.ring idx).map of_).getD none_
      | _ => none_
  | none => match area with
    | 0 => ((mget (rdBank s).gen idx).map of_).getD none_
    | 1 => ((mget (rdBank s).sev7 idx).map of_).getD none_
    | 2 => ((mget s.log.ring idx).map of_).getD none_
    | _ => none_

/-- Latched words of a requester: set `n` words from `off`. DEDUCED (log 7). -/
def setLatch (s : State) (req : Req) (off : Nat) (ws : List Word) : State :=
  let put (m : List (Nat × Word)) := (List.range ws.length).foldl (fun m i => mput m (off + 4 * i) (ws.getD i 0)) m
  match req with
  | .host => { s with latHost := put s.latHost }
  | .monitor => { s with latMon := put s.latMon }
  | .far => { s with latFar := put s.latFar }

/-- A latched word. -/
def getLatch (s : State) (req : Req) (off : Nat) : Word :=
  (mget (match req with
    | .host => s.latHost
    | .monitor => s.latMon
    | .far => s.latFar) off).getD 0

/-- The index registers of latched windows are held for each requester too (R417): kept under their own offset. -/
def setIdx (s : State) (req : Req) (off : Nat) (be : BitVec 4) (v : Word) : State :=
  setLatch s req off [mergeBe be (getLatch s req off) v]

/-- A write of REC_RIDX latches one slot (R390); its reserved bits and BUSY take nothing (R10, R13). -/
def recRidx (s : State) (req : Req) (be : BitVec 4) (v : Word) : State :=
  let s1 := setIdx s req 0xC020 be (v &&& 0xC000FFFF)
  let x := getLatch s1 req 0xC020
  takeFree (setLatch s1 req 0xC040 (slotWords s (fld x 31 30) (fld x 15 0)))

/-- The 16 words of a statistic (R390, Table 15-3). -/
def statWords (s : State) (ext : Bool) (i : Nat) : List Word :=
  let w (n : Nat) : Word := BitVec.ofNat 32 n
  let x := (mget s.log.stats (if ext then 64 + i else i)).getD {}
  if ext then [w x.min, w x.minO, w x.minP, w x.max, w x.maxO, w x.maxP, w x.n] ++ List.replicate 9 0
  else (List.range 16).map (fun k => w (x.bins.getD k 0))

/-- A write of REC_SIDX latches one histogram or extreme (R390); its reserved bits take nothing (R13). -/
def recSidx (s : State) (req : Req) (be : BitVec 4) (v : Word) : State :=
  let s1 := setIdx s req 0xC060 be (v &&& 0x8000007F)
  let x := getLatch s1 req 0xC060
  setLatch s1 req 0xC080 (statWords s (bitAt x 31) (fld x 6 0))

/-! ### Statistics (R380, R381) -/

/-- A default definition (Table 15-4): DELTA, LOG and SIGNED clear, a 16-bit field at bit 0 or 16. -/
def defStat (bit width src period base step : Nat) : Bytes :=
  [1#8, BitVec.ofNat 8 bit, BitVec.ofNat 8 width, 0#8] ++ beBytes 2 src ++ beBytes 2 period ++ beBytes 4 base ++ beBytes 4 step

/-- The default definitions, of a node without a RECORDER section (Table 15-4). -/
def defaultStat (ext : Bool) (i : Nat) : Bytes :=
  match ext, i with
  | false, 0 => defStat 16 16 0xA004 1000 2000 300
  | false, 1 => defStat 0 16 0xA004 1000 0 120
  | true, 0 => defStat 16 16 0xA004 100 0 0
  | true, 1 => defStat 0 16 0xA004 100 0 0
  | true, 2 => defStat 16 16 0x1108 100 0 0
  | true, 3 => defStat 16 16 0x1208 100 0 0
  | true, 4 => defStat 16 16 0x1308 100 0 0
  | true, 5 => defStat 16 16 0x1408 100 0 0
  | _, _ => List.replicate 16 0#8

/-- The definition of a statistic in force. -/
def statDef (s : State) (ext : Bool) (i : Nat) : Bytes :=
  if committed s && s.boot.types.contains 0xC0 then
    slice ((mget s.tables (65536 * 0xC0 + (if ext then 2 else 1))).getD [] ++ List.replicate (16 * i + 16) 0#8) (16 * i) 16
  else defaultStat ext i

/-- The bin of a sample (R380). -/
def binOf (d : Bytes) (v : Nat) : Nat :=
  let base := beAt d 8 4
  let step := beAt d 12 4
  if v < base then 0
  else if (byteAt d 0).testBit 2 then ((List.range 14).find? (fun i => decide (v < base * 2 ^ (i + 1)))).elim 15 (· + 1)
  else ((List.range 14).find? (fun i => decide (v < base + (i + 1) * step))).elim 15 (· + 1)

/-- A sample `v` of a field of width `w` goes into a statistic. -/
def addSample (s : State) (d : Bytes) (ext : Bool) (x : Stat) (w v0 : Nat) : Stat :=
  let fl := byteAt d 0
  let delta := fl.testBit 1
  let v := if delta then (v0 + 2 ^ w - (x.last.getD v0) % 2 ^ w) % 2 ^ w else v0
  let y := { x with last := if delta then some v0 else none }
  if delta && x.last.isNone then y
  else if ext then
    let lt (a b : Nat) : Bool := if fl.testBit 3 then decide (signed w a < signed w b) else decide (a < b)
    let sx (a : Nat) : Nat := if fl.testBit 3 then unsigned 32 (signed w a) else a
    let y1 := if x.n = 0 || lt v (x.min % 2 ^ w) then { y with min := sx v, minO := s.mram.optime, minP := s.mram.pwrcyc } else y
    let y2 := if x.n = 0 || lt (x.max % 2 ^ w) v then { y1 with max := sx v, maxO := s.mram.optime, maxP := s.mram.pwrcyc } else y1
    { y2 with n := min 0xFFFFFFFF (x.n + 1) }
  else
    let b := binOf d v
    { y with bins := (List.range 16).map (fun i => if i = b then min 0xFFFFFFFF (x.bins.getD i 0 + 1) else x.bins.getD i 0) }

/-- A statistic samples its field; `read` reads a register without effect. -/
def sampleStat (s : State) (read : Nat → Word) (ext : Bool) (i : Nat) : State :=
  let d := statDef s ext i
  if coreRun s && (byteAt d 0).testBit 0 then
    let k := if ext then 64 + i else i
    let v := (read (beAt d 4 2)).toNat / 2 ^ byteAt d 1 % 2 ^ byteAt d 2
    { s with log := { s.log with stats := mput s.log.stats k (addSample s d ext ((mget s.log.stats k).getD {}) (byteAt d 2) v) } }
  else s

/-- STAT_FLUSH: the statistics are written to MRAM (R381). -/
def statFlush (s : State) : State :=
  if coreRun s then { s with mram := { s.mram with stats := s.log.stats } } else s

/-- The CRC-32 of a definition with no content, which MRAM holds before any other was stored. DEDUCED (log 82). -/
def noDefCrc : Nat := (crc32 (List.replicate 16 0#8)).toNat

/-- At a commit, a definition whose CRC differs from the stored one resets its statistic (R381). -/
def statCommit (s : State) : State :=
  ((List.range 192).foldl (fun t k =>
    let ext := decide (64 ≤ k)
    let i := if 64 ≤ k then k - 64 else k
    let c := (crc32 (statDef t ext i)).toNat
    if (mget t.mram.defCrc k).getD noDefCrc = c then t
    else raise { t with
      log := { t.log with stats := mdel t.log.stats k }
      mram := { t.mram with stats := mdel t.mram.stats k, defCrc := mput t.mram.defCrc k c } } 0xB007 6 0xFFF [ext.toNat, i]) s)

/-! ### Clearing (R391, R392) -/

/-- CLEAR_REJECT with its reason (Table 15-8). DEDUCED (log 83). -/
def clearReject (s : State) (reason src : Nat) : State := raise (bumpRec s 9) 0xB005 6 0xFFF [reason, src]

/-- A request for a challenge: SCOPE and the source. -/
def clearRequest (s : State) (scope src : Nat) : State :=
  if src = 3 ∧ regB s 0xC000 0 = false then clearReject s 1 src
  else if s.log.lockout then clearReject s 4 src
  else if s.otp.clr.isNone then clearReject s 5 src
  else takeFree { s with log := { s.log with chal := randomBytes s 16, chalOk := true, chalSrc := src, chalHead := s.log.head, scope := scope } }

/-- The records a clear removes. -/
def clearedBy (scope : Nat) (r : Rec) : Bool := if r.ev.sev = 7 then scope.testBit 1 else scope.testBit 0

/-- A bank after a clear. -/
def clearBank (scope : Nat) (k : Bank) : Bank :=
  { k with gen := k.gen.filter (fun e => !clearedBy scope e.2), sev7 := k.sev7.filter (fun e => !clearedBy scope e.2) }

/-- A clear that passed (R392): REC_CLEAR is the first record after it; `more` is the initiator of a remote session (R406). -/
def clearGo (s : State) (scope0 src : Nat) (more : List Nat) : State :=
  let both := s.mram.bankA.st == 2 && s.mram.bankB.st == 2
  let scope := if both then scope0 / 16 % 2 * 16 else scope0
  let horizon := s.mram.seq
  let all := (rdBank s).gen ++ (rdBank s).sev7
  let n := (all.filter (fun e => clearedBy scope e.2)).length + (if scope.testBit 4 then s.log.ring.length else 0) +
    (match s.mram.torn with
      | some t => if clearedBy scope t.rec_ && decide (t.area < 2) then 1 else 0
      | none => 0)
  let keep (m : List (Nat × Stat)) := m.filter (fun e => !((decide (e.1 < 64) && scope.testBit 2) || (decide (64 ≤ e.1) && scope.testBit 3)))
  let s1 := setBank (setBank s false (clearBank scope)) true (clearBank scope)
  let s2 := { s1 with
    mram := { s1.mram with
      stats := keep s1.mram.stats
      torn := match s1.mram.torn with
        | some t => if (clearedBy scope t.rec_ && decide (t.area < 2)) || (scope.testBit 4 && t.area == 2) then none else some t
        | none => none }
    log := { s1.log with
      stats := keep s1.log.stats, ring := if scope.testBit 4 then [] else s1.log.ring
      sev7Full := s1.log.sev7Full && !scope.testBit 1 } }
  let s3 := bumpRec (bumpRec s2 8) 0
  startWrite { s3 with log := { s3.log with fifo := mkEvent s3 0xB004 6 0xFFF ([scope0, src, horizon, n] ++ more) :: s3.log.fifo } }

/-- The response is checked (R391): challenge, UID, SCOPE and REC_HEAD under the clear key. -/
def clearRespond (s : State) (scope src : Nat) (more : List Nat) (resp : Bytes) : State :=
  if src = 3 ∧ regB s 0xC000 0 = false then clearReject s 1 src
  else if s.log.lockout then clearReject s 4 src
  else
    match s.otp.clr with
    | none => clearReject s 5 src
    | some key =>
      if !s.log.chalOk then clearReject s 2 src
      else
        let m := s.log.chal ++ beBytes 8 s.uid ++ [BitVec.ofNat 8 s.log.scope] ++ beBytes 4 s.log.chalHead
        let s1 := { s with log := { s.log with chalOk := false } }
        if scope = s.log.scope ∧ hmac key m = resp then clearGo { s1 with log := { s1.log with fails := 0 } } scope src more
        else
          let n := s.log.fails + 1
          clearReject { s1 with log := { s1.log with fails := min 255 n, lockout := decide (3 ≤ n) } } 3 src

/-- The response words as bytes. -/
def respBytes (s : State) : Bytes := (s.log.resp.map (fun w => beBytes 4 w.toNat)).flatten

/-- A write of REC_CLRCTL (R391, R419). -/
def clrctl (s : State) (req : Req) (v : Word) : State :=
  if fld v 31 16 ≠ 0xB7C1 then s
  else if bitAt v 8 then clearRequest s (fld v 4 0) (srcCode req)
  else if bitAt v 9 then clearRespond s (fld v 4 0) (srcCode req) [] (respBytes s)
  else s

/-- CLEAR_CHALLENGE_EXPIRY (R391). -/
def clearChallengeExpiry (s : State) : State := { s with log := { s.log with chalOk := false } }

/-- CLEAR_LOCKOUT_END (R391). -/
def clearLockoutEnd (s : State) : State := if s.log.lockout then { s with log := { s.log with lockout := false, fails := 0 } } else s

/-! ### Banks (R393 to R395, R387) -/

/-- LOG_RESYNC_DONE: the bank holds the other's content again (R393). -/
def logResyncDone (s : State) (b : Bool) : State :=
  if (bank s b).st = 1 then
    let src := bank s (!b)
    let s1 := setBank s b (fun k =>
      let k1 := if src.st = 2 then k else match k.resync with
        | some l => copyRegion src k l
        | none => { k with gen := src.gen, sev7 := src.sev7 }
      { k1 with st := 0, resync := none })
    raise { s1 with log := { s1.log with volatile := false } } 0xB011 1 0xFFF [b.toNat]
  else s

/-- BANK_NO_ANSWER: no access answered for 1 ms (R394). -/
def bankNoAnswer (s : State) (b : Bool) : State := if coreRun s then loseBank s b 4 else s

/-- WEAR_LEVEL_COPY_DONE: the map switches to the least-written free region, where the copy went (R387). -/
def wearLevelCopyDone (s : State) (b : Bool) (l dest : Nat) : State :=
  let k := bank s b
  if coreRun s && regB s 0xB004 4 && decide (l < 96) && (freeRegions k).contains dest && (freeRegions k).all (fun p => decide (writesOf k dest ≤ writesOf k p)) &&
      k.st == 0 && !underTest s 0x31 && decide (writesOf k dest + 2 ^ 24 ≤ writesOf k (physOf k l)) then
    setBank s b (fun k => { k with regions := if l = dest then mdel k.regions l else mput k.regions l dest, writes := mput k.writes dest (writesOf k dest + 1) })
  else s

end Sys2Proof.Machine
end

