-- ==== Sys2Proof/Machine/Power.lean ====
section
/-! DEFINITION. Line power and supervision (chapter 3): the power die's thresholds, the line-feed controller, thermal
supervision, power-on reset, RESET# and the straps. -/

namespace Sys2Proof.Machine

/-! ### Line feed -/

/-- The payload of a line-power event of a pair: pair, VF, LPn, I (R59). -/
def lfVals (p : Nat) (m : LfMeas) : List Nat := [p, m.vf, m.lpn, m.i]

/-- The payload of a line-power event of pair p with the values last measured (R59). -/
def lfSeen (s : State) (p : Fin 4) : List Nat := [p.val, s.line.vf, s.line.lpn[p].toNat, s.line.cur[p].toNat]

/-- The payload of a line-power event of the whole node: no pair, VF, VLB and the sum of the shunt currents (R59). DESIGN CHOICE (log 105). -/
def nodeVals (s : State) : List Nat := [0xF, s.line.vf, s.line.vlb.toNat, (s.line.cur.toList.map BitVec.toNat).sum]

/-- The feed rail is accepted: VF of 36 V to 60 V, in 10 mV units (Table 3-3). -/
def railAccepted (vf : Nat) : Bool := decide (3600 ≤ vf) && decide (vf ≤ 6000)

/-- VF is measured (Table 3-6): RAIL_OK, and LF_VF at ground (R36). -/
def measuredVf (s : State) (vf : Nat) : State := { s with line := { s.line with vf := vf, railOk := railAccepted vf, vfGnd := vf == 0 } }

/-- The line-feed controller measures pair p: VF, LPn and I (Tables 3-6 and 3-8). -/
def measured (s : State) (p : Fin 4) (m : LfMeas) : State :=
  let s1 := measuredVf s m.vf
  { s1 with line := { s1.line with lpn := s1.line.lpn.set p (BitVec.ofNat 16 m.lpn), cur := s1.line.cur.set p (BitVec.ofNat 8 (min 0xFF m.i)) } }

/-- The port of a pair is in I1G, where its pairs are held off (R117); in EMBER and DOZE as of the Pilot's copy. DESIGN CHOICE (log 107). -/
def pairI1g (s : State) (p : Fin 4) : Bool := if s.line.core then portI1g s (portOf p) else s.pilot.cfg.i1g.contains (portOf p)

/-- The FETs of pair p are held off whatever its mode: line overvoltage (R48), LF_VF at ground (R36), a port in I1G (R117). -/
def pairHeldOff (s : State) (p : Fin 4) : Bool := s.line.ov || s.line.vfGnd || pairI1g s p

/-- A pair whose mode is FEED or RELAY enters soft start; a FEED pair stays off while the rail is not accepted (R52), every pair
while it is held off. -/
def startPair (s : State) (p : Fin 4) : State :=
  let mode := pairMode (lfctl s) p.val
  let off := setPair s p (fun x => { x with st := .off, sink := false })
  if mode = 0 || s.line.ov || pairI1g s p then off
  else if mode = 1 && !s.line.railOk then raise off 0x1104 5 p.val (lfSeen s p)
  else if s.line.vfGnd then off
  else setPair s p (fun x => { x with st := .softStart, sink := false })

/-- PWR_LFCTL.RETRIES. -/
def lfRetries (s : State) : Nat := fld (lfctl s) 19 17

/-- A trip turns the pair off, is counted, and starts the retry wait; after RETRIES consecutive trips the pair latches off (R52). DEDUCED (log 14). -/
def tripPair (s : State) (p : Fin 4) (m : LfMeas) : State :=
  let n := s.line.pairs[p].trips + 1
  let s1 := raise s 0x1101 3 p.val (lfVals p.val m)
  if max 1 (lfRetries s) ≤ n then
    raise (setPair s1 p (fun x => { x with st := .latched, trips := n, latch := true, sink := false })) 0x1102 5 p.val (lfVals p.val m)
  else setPair s1 p (fun x => { x with st := .retryWait, trips := n, sink := false })

/-- The state of one pair. -/
def pairSt (s : State) (p : Fin 4) : LfSt := s.line.pairs[p].st

/-- FETs conduct: SOFT_START, ON or LIMIT. -/
def conducting (st : LfSt) : Bool := st == .softStart || st == .on || st == .limit

/-- Does something to every pair in turn. -/
def eachPair (s : State) (f : State → Fin 4 → State) : State := [0, 1, 2, 3].foldl f s

/-- Every FEED or RELAY pair goes off; a latched pair is off already and stays latched. -/
def pairsOff (s : State) : State :=
  eachPair s (fun t p => if pairMode (lfctl t) p.val = 0 || pairSt t p == .latched then t else setPair t p (fun x => { x with st := .off, sink := false }))

/-- After a measurement: with LF_VF at ground the whole controller is off (R36). -/
def grounded (s : State) : State := if s.line.vfGnd then pairsOff s else s

/-- The pair's behaviour in EMBER and DOZE (Table 3-2): FEED at bias or off, RELAY held on. A latched pair stays off (R52), as does one
held off. -/
def emberPair (s : State) (p : Fin 4) : State :=
  let mode := pairMode (lfctl s) p.val
  if mode = 0 || pairSt s p == .latched then s
  else if pairHeldOff s p then setPair s p (fun x => { x with st := .off, sink := false })
  else if mode = 1 then setPair s p (fun x => { x with st := if bitAt (lfctl s) 16 then .bias else .off, sink := false })
  else setPair s p (fun x => { x with st := .on, sink := false })

/-- A RELAY pair at the sleep instant (R337, Table 3-2): held on, unless it is latched, waits for a retry or is held off. -/
def holdRelay (s : State) (p : Fin 4) : State :=
  if pairMode (lfctl s) p.val = 2 && pairSt s p != .retryWait then emberPair s p else s

/-- The rail is on the pairs: the core runs, or the node has committed to wake (Table 3-2, R337). -/
def feeding (s : State) : Bool := s.line.core || (s.line.node == .doze && s.pilot.committed)

/-- A pair that was held off resumes: through soft start, or with its EMBER behaviour (Tables 3-2 and 3-3). -/
def resumePair (s : State) (p : Fin 4) : State := if feeding s then startPair s p else emberPair s p

/-- The pairs at a commit to wake, and at a start after an unplanned fall (R337, Table 3-2): a FEED pair still at the rail stays there, one
at bias or off soft-starts; a held RELAY pair passes to ON. -/
def wakePairs (s : State) : State :=
  eachPair s (fun t p =>
    if pairMode (lfctl t) p.val = 1 && (pairSt t p == .bias || pairSt t p == .off) then startPair t p else holdRelay t p)

/-- PWR_LFCTL takes a new value (R55): a pair whose mode is unchanged keeps running, one whose mode changes leaves its old
mode at once and soft-starts if its new mode is FEED or RELAY. -/
def applyLfctl (s : State) (v : Word) : State :=
  let s1 := setReg s 0xA100 v
  eachPair s1 (fun t p =>
    if pairMode (lfctl s) p.val = pairMode v p.val then t
    else startPair (setPair t p (fun x => { x with st := .off, trips := 0, latch := false, sink := false })) p)

/-! ### Core on and off -/

/-- What survives internal reset: the Pilot, the line-feed controller with PWR_LFCTL and the power-die supervision (R68, R337); MRAM and OTP,
which hold their contents; and the boundary-scan port, which only TRST# and TCK reset (R44). DESIGN CHOICE (log 106). Every other block is
in its reset state. -/
def dropCore (s : State) : State :=
  { State.reset with
    now := s.now, free := s.free, uid := s.uid, otp := s.otp, tap := s.tap, bcells := s.bcells, out := s.out, pending := s.pending
    line := s.line, pilot := s.pilot, mram := s.mram
    regs := s.regs.filter (fun e => e.1 == 0xA100)
    boot := { ({} : Boot) with everRun := s.boot.everRun } }

/-- The core rails go off and the node is in EMBER. -/
def coreOff (s : State) : State :=
  let d := dropCore s
  { d with line := { d.line with node := .ember, core := false, por := false, shed := false }
           boot := {} }

/-- Time in DOZE up to now joins what the next start adds to OPTIME (R378). -/
def addDoze (s : State) : State := { s with pilot := { s.pilot with dozeTime := s.pilot.dozeTime + (s.now - s.pilot.dozeFrom), dozeFrom := s.now } }

/-- The core rails start (Table 3-17), with the pairs brought to the rail unless the node comes from OFF: a start of the core is counted, DOZE time joins OPTIME (R378), and the wake record of
R352 is settled: zero after a start from OFF, source LINE after one with SLEPT clear. -/
def startCore (s : State) : State :=
  let units := s.pilot.dozeTime / 10000000000
  let fresh := s.line.fromOff
  let s0 := { s with
    line := { s.line with node := .startup, core := true, por := true, fromOff := false, shed := false }
    boot := {}
    mram := { s.mram with pwrcyc := s.mram.pwrcyc + 1, optime := s.mram.optime + units }
    pilot := { s.pilot with
      slept := false, committed := false, wakeRun := !fresh, dozeTime := 0, armed := false
      latch := if s.pilot.slept || s.line.node == .doze then s.pilot.latch else {}
      dozes := if s.pilot.slept || s.line.node == .doze then s.pilot.dozes else 0
      asleep := if s.pilot.slept then min 0xFFFFFFFF ((s.now - s.pilot.sleptAt) / 1000000000) else 0 } }
  if fresh then s0 else wakePairs s0

/-- The last of the eight strap samples (R32). -/
def lastSample {α : Type} (d : α) (l : List α) : α := l.getLast?.getD d

/-- All samples agree (R33). -/
def steady {α : Type} [DecidableEq α] (l : List α) : Bool :=
  match l with
  | [] => true
  | a :: r => r.all (fun x => x == a)

/-- Internal reset is released (R32, R67, Table 4-1): the straps latch, the lanes leave reset, the counter starts from zero,
the sequencer enters NVM_WAIT, the outputs MGMT, CTRL and REC come up, lasting SRAM rows are remapped (R362) and the recorder begins its scan (R388). -/
def releaseReset (s : State) (st : Straps) : State :=
  let unst := !(steady st.psel && steady st.mtx)
  let s1 := { s with
    line := { s.line with node := .startup, por := false, resetLow := false }
    boot := { s.boot with phase := .nvmWait, psel := (lastSample 0#2 st.psel).toNat, lbus := lastSample true st.mtx,
                          unstable := unst, active := (lastSample 0#2 st.psel).toNat }
    lanes := s.lanes.map (fun x => { x with st := .detect })
    tb := {}
    sw := { s.sw with ports := s.sw.ports.mapIdx (fun i x => if 16 ≤ i && i ≤ 18 then { x with hst := 0 } else x) }
    flt := { s.flt with remap := s.mram.spares, sStart := s.now, mStart := s.now }
    log := { s.log with scanning := true, gaspRead := s.mram.gasp, stats := s.mram.stats } }
  if unst then raise s1 0xC040 1 0xFFF (st.psel.map BitVec.toNat ++ st.mtx.map Bool.toNat) else s1

/-! ### The commands of chapter 3 -/

/-- PILOT_START (R48, R328). -/
def pilotStart (s : State) : State :=
  if s.line.node == .off then
    { s with
      line := { s.line with node := .ember, fromOff := true, core := false, por := false, uvlo := false, pairs := Vector.replicate 4 {} }
      pilot := {}
      regs := [] }
  else s

/-- PILOT_STOP (R48, R328): from EMBER or DOZE the node is OFF and the retained configuration is lost. -/
def pilotStop (s : State) : State :=
  if s.line.node == .ember || s.line.node == .doze then
    { s with
      line := { s.line with node := .off, fromOff := true, core := false, por := false, uvlo := false, thermOff := false, ov := false, pairs := Vector.replicate 4 {} }
      pilot := {}
      regs := [] }
  else s

/-- UVLO_RISING (R48, R328): the core rails start from EMBER with SLEPT clear. Where the core still runs, VLB has recovered after a power-fail
warning, and what was shed returns. DESIGN CHOICE (log 17). -/
def uvloRising (s : State) : State :=
  let s1 := { s with line := { s.line with uvlo := true, shed := false } }
  if s.line.node == .ember && !s.pilot.slept && !s.line.thermOff then startCore s1 else s1

/-- POWER_ON_RESET_END (R67, R32). -/
def powerOnResetEnd (s : State) (resetHigh : Bool) (st : Straps) : State :=
  if s.line.core && s.line.por then
    if resetHigh then releaseReset s st
    else { s with line := { s.line with por := false, resetLow := true } }
  else s

/-- RESET_ASSERT: RESET# low for 10 µs or longer (R68, R328); no effect in OFF, EMBER and DOZE. -/
def resetAssert (s : State) : State :=
  if s.line.core then
    let d := dropCore s
    { d with line := { d.line with node := .startup, resetLow := true } }
  else s

/-- RESET_RELEASE: the rising edge of RESET# (R32, R67, R68). -/
def resetRelease (s : State) (st : Straps) : State :=
  if s.line.core && s.line.resetLow then
    if s.line.por then { s with line := { s.line with resetLow := false } } else releaseReset s st
  else s

/-- UVLO_FALLING (R48, R328): core rails off, EMBER with SLEPT clear; the pairs take their EMBER behaviour (Table 3-2). -/
def uvloFalling (s : State) : State :=
  let s1 := { s with line := { s.line with uvlo := false } }
  if s.line.core then
    let s2 := eachPair (coreOff s1) emberPair
    { s2 with pilot := { s2.pilot with slept := false, committed := false } }
  else s1

/-- LINE_OV (R48): FEED and RELAY pairs off. -/
def lineOv (s : State) (m : LfMeas) : State :=
  if s.line.node == .off || s.line.ov then s
  else
    let s1 := raise (measuredVf s m.vf) 0x1121 5 0xFFF (lfVals 0xF m)
    pairsOff { s1 with line := { s1.line with ov := true } }

/-- LINE_OV_CLEAR (R48): FEED and RELAY pairs resume through soft start; a latched pair stays off (R52). -/
def lineOvClear (s : State) : State :=
  if s.line.ov then
    eachPair { s with line := { s.line with ov := false } } (fun t p =>
      if pairMode (lfctl t) p.val = 0 || pairSt t p == .latched then t else resumePair t p)
  else s

/-- The die temperature as GL_TEMP holds it (Table 17-5). -/
def setTemp (s : State) (t : Int) : State := { s with line := { s.line with temp := BitVec.ofInt 8 t } }

/-- THERMAL_WARN at 120 °C (R65). -/
def thermalWarn (s : State) (t : Int) : State :=
  if coreRun s && s.line.therm == 0 then
    let s1 := setTemp s t
    raise { s1 with line := { s1.line with therm := 1 } } 0x1130 2 0xFFF (nodeVals s1)
  else s

/-- THERMAL_RESTORE: 1 s below 115 °C (R65). -/
def thermalRestore (s : State) (t : Int) : State :=
  if coreRun s && s.line.therm != 0 then
    let s1 := setTemp s t
    { s1 with line := { s1.line with therm := 0 } }
  else s

/-- THERMAL_OFF at 145 °C (R65, R389): last-gasp record, core rails off. DEDUCED (log 16). -/
def thermalOff (s : State) (t : Int) : State :=
  if s.line.core then
    let s1 := setTemp s t
    let s2 := raiseGasp s1 0x1132 7 0xFFF (nodeVals s1)
    let s3 := eachPair (coreOff s2) emberPair
    { s3 with
      line := { s3.line with thermOff := true, therm := 0 }
      pilot := { s3.pilot with slept := false, committed := false } }
  else s

/-- THERMAL_RESTART below 110 °C (R65): through power-on reset, where VLB and the sleep latch let the core run: a node that has not slept, or
one committed to wake. -/
def thermalRestart (s : State) (t : Int) : State :=
  if s.line.thermOff then
    let s1 := setTemp { s with line := { s.line with thermOff := false } } t
    if !s.line.uvlo then s1
    else if s.line.node == .ember then (if s.pilot.slept then s1 else startCore s1)
    else if s.line.node == .doze && (s.pilot.committed || !s.pilot.slept) then startCore (addDoze s1)
    else s1
  else s

/-- RAIL_RECHECK, every 1 s (Table 3-3): pairs held off soft-start once the rail is accepted. -/
def railRecheck (s : State) (m : LfMeas) : State :=
  if s.line.node == .off then s
  else eachPair (grounded (measuredVf s m.vf)) (fun t p =>
    if pairMode (lfctl t) p.val != 0 && pairSt t p == .off && feeding t then startPair t p else t)

/-- A trip of pair p with its measurement. -/
def tripMeasured (s : State) (p : Fin 4) (m : LfMeas) : State := grounded (tripPair (measured s p m) p m)

/-- SOFT_START_DONE: LPn within 1 V of the rail (Table 3-3). -/
def softStartDone (s : State) (p : Fin 4) : State :=
  if pairSt s p == .softStart then setPair s p (fun x => { x with st := .on, trips := 0 }) else s

/-- SOFT_START_TIMEOUT: not reached within 100 ms, a trip (Table 3-3). -/
def softStartTimeout (s : State) (p : Fin 4) (m : LfMeas) : State :=
  if pairSt s p == .softStart then tripMeasured s p m else s

/-- LF_LIMIT: the pair enters the power limit or foldback outside soft start (R52, R59). -/
def lfLimit (s : State) (p : Fin 4) (m : LfMeas) : State :=
  if pairSt s p == .on then
    grounded (raise (setPair (measured s p m) p (fun x => { x with st := .limit })) 0x1100 2 p.val (lfVals p.val m))
  else s

/-- LIMIT_TIMER_EXPIRY: in the power limit for 10 ms (Table 3-3). -/
def limitTimerExpiry (s : State) (p : Fin 4) (m : LfMeas) : State :=
  if pairSt s p == .limit then tripMeasured s p m else s

/-- FAST_TRIP: I above 5.0 A (Table 3-3). -/
def fastTrip (s : State) (p : Fin 4) (m : LfMeas) : State :=
  if conducting (pairSt s p) then tripMeasured s p m else s

/-- RETRY_WAIT_EXPIRY: 1 s after a trip, soft start (Table 3-3). -/
def retryWaitExpiry (s : State) (p : Fin 4) (m : LfMeas) : State :=
  if pairSt s p == .retryWait then grounded (resumePair (measured s p m) p) else s

/-- LF_REVERSE: more than 50 mA towards the rail for 100 µs (R53). -/
def lfReverse (s : State) (p : Fin 4) (m : LfMeas) : State :=
  if conducting (pairSt s p) && pairMode (lfctl s) p.val != 0 then
    grounded (raise (setPair (measured s p m) p (fun x => { x with st := .source })) 0x1103 1 p.val (lfVals p.val m))
  else s

/-- SOURCE_RETURN: LPn more than 1 V below the rail for 10 ms (R53). -/
def sourceReturn (s : State) (p : Fin 4) (m : LfMeas) : State :=
  if pairSt s p == .source then grounded (resumePair (measured s p m) p) else s

/-- A W1C of PWR_LFSTAT.LATCH bits: each latched pair restarts through soft start if its mode is not OFF (Table 3-6). -/
def clearLatches (s : State) (bits : Nat) : State :=
  eachPair s (fun t p =>
    if bits.testBit p.val && t.line.pairs[p].latch then
      let t1 := setPair t p (fun x => { x with latch := false, trips := 0 })
      if t.line.pairs[p].st == .latched then resumePair t1 p else t1
    else t)

end Sys2Proof.Machine
end

