-- ==== Sys2Proof/Machine/InaugOps.lean ====
section
/-! DEFINITION. Inauguration (chapter 6): Dawn frames, priority, the numbering of a run and of a change, and the
application of a table. -/

namespace Sys2Proof.Machine

/-! ### Dawn frames -/

/-- TOP_CNT `i`. -/
def bumpTop (s : State) (i : Nat) : State := bump s (0x2040 + 4 * i)

/-- A 0x3xxx event: the payload carries the segment, 0 fore, 1 aft (R143). -/
def topEvent (s : State) (g : Fin 2) (code sev : Nat) (vals : List Nat) : State := raiseSeg s g code sev 0xFFF (g.val :: vals)

/-- The priority tuple of a run, compared by lead-cab flag, rank and UID (R124). -/
def tupleLt (a b : RunId) : Bool :=
  decide (a.cab < b.cab) || (decide (a.cab = b.cab) && (decide (a.rank < b.rank) || (decide (a.rank = b.rank) && decide (a.luid < b.luid))))

/-- A leader: committed, and so eligible (R124). -/
def eligible (s : State) : Bool := committed s

/-- The node's own tuple with its run number (R124). -/
def ownTuple (s : State) (g : Fin 2) : RunId :=
  { cab := regF s 0x2004 0 0, rank := regF s 0x2000 7 0, luid := s.uid, run := s.inaug[g].run }

/-- RUN `a` is newer than `b`: later modulo 2^16 (Table 6-1, wrapping). -/
def newer16 (a b : Nat) : Bool := let d := (a + 65536 - b % 65536) % 65536; decide (0 < d) && decide (d < 32768)

/-- The common part of a Dawn payload (Table 6-1). -/
def dawnCommon (sub dflags : Nat) (r : RunId) (epoch : Nat) : Bytes :=
  [BitVec.ofNat 8 sub, BitVec.ofNat 8 dflags] ++ beBytes 2 r.run ++ [BitVec.ofNat 8 r.cab, BitVec.ofNat 8 r.rank] ++ beBytes 8 r.luid ++ beBytes 2 epoch

/-- A Dawn frame: KIND 0x02, traffic class 7 (R125). -/
def dawnFrame (s : State) (g : Fin 2) (dtype : Nat) (dest : Bytes) (hops : Nat) (payload : Bytes) : Bytes :=
  mkFrame { kind := 2, cls := 7, dyn := false, crit := false, fold := false, src := ownHandle s g, dtype := dtype, dest := dest,
            cycle := cycleNo s, slot := 0, len := 0, hops := hops } payload

/-- A Dawn payload has its subtype's length and zero reserved bytes (R127). -/
def dawnValid (p : Bytes) : Bool :=
  let sub := byteAt p 0
  let fl := byteAt p 1
  decide (16 ≤ p.length) && decide (fl < 4) && (sub == 3 || fl == 0) && decide (byteAt p 4 < 2) &&
  (match sub with
   | 1 => decide (p.length = 16)
   | 2 => decide (16 < p.length) && decide ((p.length - 16) % 16 = 0) && decide ((p.length - 16) / 16 ≤ 126) &&
          (List.range ((p.length - 16) / 16)).all (fun i => decide (beAt p (16 + 16 * i + 14) 2 = 0) && decide (byteAt p (16 + 16 * i + 10) < 8))
   | 3 => decide (24 ≤ p.length) && decide ((p.length - 24) % 16 = 0) && decide (byteAt p 23 = 0) && decide (byteAt p 21 < 3) &&
          decide (1 ≤ byteAt p 22) && decide (byteAt p 22 ≤ 3) &&
          (List.range ((p.length - 24) / 16)).all (fun i => decide (beAt p (24 + 16 * i + 14) 2 = 0) && decide (byteAt p (24 + 16 * i + 11) = 0))
   | 4 => decide (p.length = 24)
   | 5 => decide (p.length = 20) && decide (beAt p 17 3 = 0)
   | 6 => decide (p.length = 28) && decide (beAt p 25 3 = 0)
   | _ => false)

/-- The run a Dawn payload names (Table 6-1). -/
def dawnRun (p : Bytes) : RunId := { cab := byteAt p 4 % 2, rank := byteAt p 5, luid := beAt p 6 8, run := beAt p 2 2 }

/-- The report bodies of a REPORT (Table 6-3). -/
def readReports (p : Bytes) : List RepBody :=
  (List.range ((p.length - 16) / 16)).map (fun i =>
    let b := slice p (16 + 16 * i) 16
    { uid := beAt b 0 8, handle := byteAt b 8, dist := byteAt b 9, ports := byteAt b 10, nflags := byteAt b 11, rank := byteAt b 12, rqsrc := byteAt b 13 })

/-- A report body as bytes (Table 6-3). -/
def repBytes (r : RepBody) : Bytes :=
  beBytes 8 r.uid ++ [BitVec.ofNat 8 r.handle, BitVec.ofNat 8 r.dist, BitVec.ofNat 8 r.ports, BitVec.ofNat 8 r.nflags, BitVec.ofNat 8 r.rank,
    BitVec.ofNat 8 r.rqsrc, 0#8, 0#8]

/-- The topology entries of an ASSIGN part (Table 6-4). -/
def readEntries (p : Bytes) : List TopoEnt :=
  (List.range ((p.length - 24) / 16)).map (fun i =>
    let b := slice p (24 + 16 * i) 16
    { uid := beAt b 0 8, handle := byteAt b 8, eflags := byteAt b 9, rank := byteAt b 10, slotref := beAt b 12 2 })

/-- A topology entry as bytes (Table 6-4). -/
def entBytes (e : TopoEnt) : Bytes :=
  beBytes 8 e.uid ++ [BitVec.ofNat 8 e.handle, BitVec.ofNat 8 e.eflags, BitVec.ofNat 8 e.rank, 0#8] ++ beBytes 2 e.slotref ++ [0#8, 0#8]

/-- The whole table of an ASSIGN, in position order. -/
def assignTable (a : Assign) : List TopoEnt := (a.got.map Prod.snd).flatten

/-- An ASSIGN of a table, in parts of up to 126 entries. -/
def mkAssign (r : RunId) (replan ring : Bool) (epoch actcyc : Nat) (t : List TopoEnt) : Assign :=
  let parts := max 1 (ceilDiv t.length 126)
  { run := r, replan := replan, ring := ring, epoch := epoch, actcyc := actcyc, n := t.length, parts := parts
    got := (List.range parts).map (fun i => (i, (t.drop (126 * i)).take 126)) }

/-- The payload of one part of an ASSIGN (Table 6-2). -/
def assignPart (a : Assign) (i : Nat) (ents : List TopoEnt) : Bytes :=
  dawnCommon 3 (a.replan.toNat + 2 * a.ring.toNat) a.run a.epoch ++ beBytes 4 (a.actcyc % 2 ^ 32) ++
  [BitVec.ofNat 8 a.n, BitVec.ofNat 8 i, BitVec.ofNat 8 a.parts, 0#8] ++ (ents.map entBytes).flatten

/-! ### Ports and sending -/

/-- A port of the segment is LINKED. -/
def segLinked (s : State) (g : Fin 2) (p : Port) : Bool := portLinked s p && decide (segOf s p = g)

/-- The LINKED ports of the segment. -/
def segPorts (s : State) (g : Fin 2) : List Port := [Port.fore, Port.aft].filter (segLinked s g)

/-- The link carries static content of the active table: admitted, off the seam, and some serving row names a slot; none while the own train
has yielded, nor while the node has no train time and so no cycle (R135, R187). DEDUCED (log 31). -/
def linkStatic (s : State) (g : Fin 2) (p : Port) : Bool :=
  schedCommitted s && s.tb.st != .free && !s.inaug[g].fresh.contains p && !seamShut s p && !s.inaug[g].yielded &&
  s.inaug[g].table.any (fun e => serving e && ((planRow s e.slotref).map (fun r => beAt r 0 2 != 0xFFFF || beAt r 8 2 != 0xFFFF)).getD false)

/-- A hop-mode Dawn frame goes out of a port: at once on a link that carries no static content of the active table, else in
the control allowance (R187). -/
def sendHop (s : State) (g : Fin 2) (p : Port) (f : Bytes) : State :=
  if linkStatic s g p then queueCtl s f (p == .fore) (p == .aft) else sendPort s p f

/-- A train-mode Dawn frame goes out of every LINKED port of the segment that is admitted, in the control allowance (R125, R187). -/
def sendTrain (s : State) (g : Fin 2) (f : Bytes) : State :=
  queueCtl s f (segLinked s g .fore && !freshPort s .fore) (segLinked s g .aft && !freshPort s .aft)

/-- NFLAGS of the node (Table 6-3). -/
def ownNflags (s : State) (g : Fin 2) (replan : Bool) : Nat :=
  (eligible s).toNat + 2 * (s.boot.phase == .repeater).toNat + 4 * (!committed s && s.boot.phase != .repeater).toNat +
  8 * regF s 0x2004 0 0 + 16 * regF s 0x2004 1 1 + 32 * s.inaug[g].stale.toNat +
  64 * ((portI1g s .fore || portI1g s .aft) && regB s 0x2000 11).toNat + 128 * replan.toNat

/-- The node's own report body; ARRIVAL names port `arr` (Table 6-3). -/
def ownReport (s : State) (g : Fin 2) (dist : Nat) (arr : Port) (replan : Bool) (src : Nat) : RepBody :=
  { uid := s.uid, handle := ownHandle s g, dist := dist
    ports := (segLinked s g .fore).toNat + 2 * (segLinked s g .aft).toNat + 4 * portNo arr
    nflags := ownNflags s g replan, rank := regF s 0x2000 7 0, rqsrc := if replan then src else 0 }

/-- A REPORT payload under a run and epoch. -/
def reportPayload (r : RunId) (epoch : Nat) (bodies : List RepBody) : Bytes := dawnCommon 2 0 r epoch ++ (bodies.map repBytes).flatten

/-- A REPORT goes back in hop mode out of a port (Table 6-2). -/
def sendReport (s : State) (g : Fin 2) (p : Port) (r : RunId) (bodies : List RepBody) : State :=
  sendHop s g p (dawnFrame s g 4 [] 0 (reportPayload r s.inaug[g].epoch bodies))

/-! ### The leader -/

/-- The leader's entry of a table. -/
def leaderOf (t : List TopoEnt) : Option TopoEnt := t.find? (fun e => e.eflags.testBit 4)

/-- This node leads. -/
def isLeader (s : State) (g : Fin 2) : Bool := decide ((leaderOf s.inaug[g].table).map TopoEnt.uid = some s.uid)

/-- The priority tuple of an entry. -/
def entTuple (e : TopoEnt) : RunId := { cab := if e.eflags.testBit 3 then 1 else 0, rank := e.rank, luid := e.uid, run := 0 }

/-- The run the node's own frames name: its table's present leader, under the number of that table's run (Table 6-1). -/
def tableRun (s : State) (g : Fin 2) : RunId :=
  match leaderOf s.inaug[g].table with
  | some e => { entTuple e with run := s.inaug[g].tabRun.run }
  | none => s.inaug[g].tabRun

/-- The serving entry of highest tuple (R124, R134). -/
def topEnt (t : List TopoEnt) : Option TopoEnt :=
  (t.filter serving).foldl (fun b e => match b with
    | none => some e
    | some x => if tupleLt (entTuple x) (entTuple e) then some e else some x) none

/-- The lead port: TOP_LEAD.DIR while CAB is 1, else TOP_CFG.LDIR (R124). -/
def leadPort (s : State) : Port :=
  if (if regB s 0x2004 0 then regB s 0x2004 1 else regB s 0x2000 8) then .aft else .fore

/-- The row of a position in a cold run or full replan: row p for position p (R182). -/
def rowFor (s : State) (p : Nat) (nosvc : Bool) : Nat := if !nosvc && (planRow s p).isSome then p else 0xFFFF

/-- Flag bits of an entry (Table 6-4). -/
def eflagsOf (orient nosvc starting cab leader etbn : Bool) : Nat :=
  orient.toNat + 2 * nosvc.toNat + 4 * starting.toNat + 8 * cab.toNat + 16 * leader.toNat + 32 * etbn.toNat

/-- With the flag `bit` set or cleared. -/
def withFlag (e : TopoEnt) (bit : Nat) (v : Bool) : TopoEnt :=
  { e with eflags := if v then e.eflags ||| 2 ^ bit else (e.eflags ||| 2 ^ bit) - 2 ^ bit }

/-- Gives the ETB node role to the node with an ETB port nearest position 1 (R145). -/
def giveEtb (t : List TopoEnt) (etb : List Nat) : List TopoEnt :=
  match t.find? (fun e => etb.contains e.uid) with
  | some x => t.map (fun e => withFlag e 5 (e.uid == x.uid))
  | none => t.map (fun e => withFlag e 5 false)

/-- What reports say of the ETB ports of their nodes is taken down: the UIDs last reported with ETB set (R145). -/
def noteEtb (l : List Nat) (bodies : List RepBody) : List Nat :=
  bodies.foldl (fun l b => if b.nflags.testBit 6 then (if l.contains b.uid then l else b.uid :: l) else l.filter (· != b.uid)) l

/-- The nodes that may hold the ETB role as this leader knows them: those reported, the present holder, and the node itself (R145). -/
def etbNodes (s : State) (g : Fin 2) : List Nat :=
  s.inaug[g].etb ++ (s.inaug[g].table.filter (fun e => e.eflags.testBit 5 && e.uid != s.uid)).map TopoEnt.uid ++
  (if (ownNflags s g false).testBit 6 then [s.uid] else [])

/-- A UID stands in several of the reports: two nodes carry it (R132). DEDUCED (log 112). -/
def uidTwice (l : List RepBody) (u : Nat) : Bool := decide (1 < (l.filter (fun r => r.uid == u)).length)

/-- One node of a run as the leader places it: its report, and whether it stands before the leader. -/
def placed (before : Bool) (r : RepBody) : TopoEnt :=
  let arrAft := r.ports.testBit 2
  -- the port towards lower positions: the arrival port behind the leader, the other one before it
  let lowerAft := if before then !arrAft else arrAft
  { uid := r.uid, handle := 0, eflags := eflagsOf lowerAft (r.nflags.testBit 1) (r.nflags.testBit 2) (r.nflags.testBit 3) false false
    rank := r.rank, slotref := 0xFFFF }

/-- Reports of one side in order of DIST. -/
def byDist (l : List RepBody) : List RepBody := l.mergeSort (fun a b => decide (a.dist ≤ b.dist))

/-- The table of a cold run (R124, R130): chain or ring order from the leader's lead port, handles and rows by position. -/
def coldTable (s : State) (g : Fin 2) : List TopoEnt :=
  let x := s.inaug[g]
  let lp := leadPort s
  let side (p : Port) := byDist ((x.reports.filter (fun e => decide (e.1 = p))).map Prod.snd)
  let me : TopoEnt := { uid := s.uid, handle := 0, eflags := eflagsOf (lp == .aft) false false (regB s 0x2004 0) true false, rank := regF s 0x2000 7 0, slotref := 0xFFFF }
  let ahead := ((side lp).reverse).map (placed true)
  let behind := (side (otherPort lp)).map (placed false)
  let order := if x.back.isSome then me :: (behind ++ ahead) else ahead ++ [me] ++ behind
  let reps := x.reports.map Prod.snd
  let etb := noteEtb [] reps ++ (if (ownNflags s g false).testBit 6 then [s.uid] else [])
  giveEtb ((List.range order.length).map (fun i =>
    let e := order.getD i me
    let nosvc := e.eflags.testBit 1 || uidTwice reps e.uid || decide (254 ≤ i)
    { withFlag e 1 nosvc with handle := if i < 254 then i + 1 else 0, slotref := rowFor s (i + 1) nosvc })) etb

/-- The reports of one side of a chain are complete: DIST 1, 2, ... without a gap, and the outermost node's outward port END (R130). -/
def sideComplete (s : State) (g : Fin 2) (p : Port) : Bool :=
  let l := byDist ((s.inaug[g].reports.filter (fun e => decide (e.1 = p))).map Prod.snd)
  if segLinked s g p then
    match l.getLast? with
    | none => false
    | some r => ((List.range l.length).all (fun i => decide ((l.getD i r).dist = i + 1))) &&
        !(if r.ports.testBit 2 then r.ports.testBit 0 else r.ports.testBit 1)
  else l.isEmpty

/-- The run's reports are complete (R130). -/
def reportsComplete (s : State) (g : Fin 2) : Bool :=
  match s.inaug[g].back with
  | some h => decide (h ≤ s.inaug[g].reports.length)
  | none => sideComplete s g .fore && sideComplete s g .aft

/-! ### Changes of a settled train: what the leader takes in -/

/-- Dawn handling runs: internal reset released and the management processor up (R138, R366). -/
def dawnUp (s : State) : Bool := coreRun s && !s.flt.mgmtDown

/-- A change joins those waiting for the next ASSIGN, once (R136). -/
def addChange (s : State) (g : Fin 2) (c : Change) : State :=
  if s.inaug[g].changes.contains c then s else setInaug s g (fun x => { x with changes := x.changes ++ [c] })

/-- A replan request at the leader: accepted as a change, or rejected with its reason (R139). -/
def leaderReplan (s : State) (g : Fin 2) (src handle : Nat) : State :=
  let x := s.inaug[g]
  let reason := if x.st != .settled then 1 else if x.pending.isSome || x.issue.isSome || !x.changes.isEmpty || x.reorder then 2 else if s.line.node == .drain then 4 else 0
  if reason = 0 then addChange (setInaug s g (fun x => { x with repSrc := src, repHandle := handle })) g { kind := 128, src := src }
  else topEvent s g 0x3021 1 [reason, src, handle]

/-- An entry as a report of its node's own state leaves it; NOSVC given for a UID clash or beyond position 254 stays (R132). -/
def reported (t : List TopoEnt) (e : TopoEnt) (r : RepBody) : TopoEnt :=
  let nosvc := r.nflags.testBit 1 || e.handle == 0 || decide (1 < (t.filter (fun f => f.uid == e.uid)).length)
  withFlag (withFlag (withFlag { e with rank := r.rank } 1 nosvc) 2 (r.nflags.testBit 2)) 3 (r.nflags.testBit 3)

/-- The table with a node's own state as reported. -/
def withReport (t : List TopoEnt) (r : RepBody) : List TopoEnt := t.map (fun e => if e.uid = r.uid then reported t e r else e)

/-- The node that orders positions after a report, and whether its aft port leads towards lower ones: the new leader by the CABDIR it reports,
or this leader, still highest, by its own lead port (R124, R134). -/
def orderBy (s : State) (t : List TopoEnt) (r : RepBody) : Option (Nat × Bool) :=
  let top := (topEnt (withReport t r)).map TopoEnt.uid
  if top ≠ some r.uid then none
  else if r.uid = s.uid then some (s.uid, leadPort s == .aft)
  else if r.nflags.testBit 3 then some (r.uid, r.nflags.testBit 4) else none

/-- The orientation bit of a node in a table. -/
def orientOf (t : List TopoEnt) (u : Nat) : Bool := ((t.find? (fun e => e.uid == u)).map (fun e => e.eflags.testBit 0)).getD false

/-- A node at an end of the chain reports both its ports LINKED, with no newcomer behind one of them. -/
def closes (x : Inaug) (r : RepBody) : Bool :=
  let pos := (x.table.findIdx? (fun e => e.uid == r.uid)).getD 1
  !x.ring && decide (2 ≤ x.table.length) && r.ports % 4 == 3 && (decide (pos = 0) || decide (pos + 1 = x.table.length)) &&
  !x.changes.any (fun c => (c.kind == 1 || c.kind == 32) && c.uid == r.uid)

/-- The leader takes a REPORT of a settled train: newcomers, a replan request, a missed ASSIGN, ring closure, or a change
of one node's own state (R131, R134, R136, R137, R139, R145). -/
def leaderReport (s0 : State) (g : Fin 2) (bodies : List RepBody) : State :=
  let s := setInaug s0 g (fun x => { x with etb := noteEtb x.etb bodies })
  let x := s.inaug[g]
  match bodies with
  | [] => s
  | r :: joins =>
    if !joins.isEmpty then
      if joins.all (fun j => x.table.any (fun e => e.uid == j.uid) || x.changes.any (fun c => c.reps.any (fun b => b.uid == j.uid && b.dist == j.dist))) then s
      else addChange s g { kind := if joins.any (fun j => j.handle != 0) then 32 else 1, uid := r.uid, reps := r :: joins }
    else if r.nflags.testBit 7 then leaderReplan s g r.rqsrc r.handle
    else if r.nflags.testBit 5 then setInaug s g (fun x => { x with missed := x.active.map (fun a => { a with actcyc := 0 }) })
    else
      match x.table.find? (fun e => e.uid == r.uid) with
      | none => s
      | some e =>
        if closes x r then
          let other := (x.table.filter (fun f => f.uid != r.uid)).any (fun f => x.closing.contains f.uid)
          let s1 := setInaug s g (fun x => { x with closing := r.uid :: x.closing })
          if other then addChange s1 g { kind := 4 } else s1
        else
          let moves := decide ((topEnt (withReport x.table r)).map TopoEnt.uid ≠ (leaderOf x.table).map TopoEnt.uid)
          let turns := ((orderBy s x.table r).map (fun o => orientOf x.table o.1 != o.2)).getD false
          if turns || moves then addChange s g { kind := 16, uid := r.uid, reps := [r] }
          else if reported x.table e r ≠ e ∨ giveEtb x.table (etbNodes s g) ≠ x.table then
            addChange s g { kind := 64, uid := r.uid, reps := [r] }
          else s

/-- A REPORT about the node's own train goes to the leader: in train mode, or straight in at the leader itself (Table 6-2). -/
def reportUp (s : State) (g : Fin 2) (bodies : List RepBody) : State :=
  if isLeader s g then leaderReport s g bodies
  else
    match leaderOf s.inaug[g].table with
    | some l => sendTrain s g (dawnFrame s g 0 [BitVec.ofNat 8 l.handle] 0 (reportPayload (tableRun s g) s.inaug[g].epoch bodies))
    | none => s

/-- The node reports a change of its own state, with DIST 0; one not settled, or whose management processor restarts, reports once it can
(Table 6-2, R131, R138, R146). -/
def reportOwn (s : State) (g : Fin 2) (replan : Bool) (src : Nat) : State :=
  if s.inaug[g].st == .idle || s.inaug[g].st == .listen then s
  else if dawnUp s && s.inaug[g].st == .settled then reportUp s g [ownReport s g 0 .fore replan src]
  else setInaug s g (fun x => { x with owes := true })

/-- A report that is owed leaves (R131, R146). -/
def payReport (s : State) (g : Fin 2) : State :=
  if s.inaug[g].owes && dawnUp s && s.inaug[g].st == .settled then reportOwn (setInaug s g (fun x => { x with owes := false })) g false 0 else s

/-! ### Applying a table -/

/-- The seam ports a table gives this node: in a ring the link between positions N and 1 (R109, R123). -/
def seamPorts (s : State) (ring : Bool) (t : List TopoEnt) : List Port :=
  if ring then
    match t.findIdx? (fun e => e.uid == s.uid) with
    | some i =>
      let aft := ((t[i]?).map (fun e => e.eflags.testBit 0)).getD false
      (if i = 0 then [if aft then Port.aft else Port.fore] else []) ++ (if i + 1 = t.length then [if aft then Port.fore else Port.aft] else [])
    | none => []
  else []

/-- Marks the seam on the lanes of the segment's ports; what it leaves carries traffic from the next cycle (R109). -/
def setSeam (s : State) (g : Fin 2) (ps : List Port) : State :=
  { s with lanes := Vector.ofFn (fun l => if segOf s (portOf l) = g then
      { s.lanes[l] with seam := ps.contains (portOf l), seamWas := !ps.contains (portOf l) && (s.lanes[l].seam || s.lanes[l].seamWas) }
    else s.lanes[l]) }

/-- The slot map of a segment's table: every row in use gives its primaries and fallbacks to its owner (R180, R200). -/
def slotMap (s : State) (g : Fin 2) (t : List TopoEnt) : List GdEnt :=
  (t.map (fun e =>
    match planRow s e.slotref with
    | none => []
    | some r =>
      let one (b : Bool) (i : Nat) (fb : Bool) : List GdEnt := if beAt r i 2 = 0xFFFF then [] else [{ seg := g, laneB := b, slot := beAt r i 2, owner := e.handle, fb := fb }]
      one false 0 false ++ one true 6 true ++ one true 8 false ++ one false 14 true)).flatten

/-- The copies of the schedule and of the guardian take a segment's slot map (R200). -/
def takeMap (s : State) (g : Fin 2) (t : List TopoEnt) : State :=
  let m := s.sch.plan.filter (fun e => e.seg != g) ++ slotMap s g t
  { s with sch := { s.sch with plan := m, gdPlan := s.sch.gdPlan.filter (fun e => e.seg != g) ++ slotMap s g t } }

/-- Departures recorded when an activated table removes nodes (R122). -/
def departures (x : Inaug) (t : List TopoEnt) (replan : Bool) : List (Nat × Nat) :=
  if replan then []
  else (x.departed.filter (fun d => !t.any (fun e => e.uid == d.1))) ++
    ((x.table.filter (fun e => !t.any (fun f => f.uid == e.uid))).map (fun e => (e.uid, e.handle)))

/-- The active table becomes that of an ASSIGN: view, seam, schedule and guardian copies, and what depends on the place in the train (R131,
R136). Nodes lost, and a ring that broke, since the ASSIGN was issued stay out of the view. -/
def applyTable (s : State) (g : Fin 2) (a : Assign) : State :=
  let t := assignTable a
  let x := s.inaug[g]
  let change := x.st == .settled
  let late := change && a.ring && x.broke.isSome
  let s1 := setInaug s g (fun x => { x with
    st := .settled, epoch := a.epoch, table := t, ring := a.ring && !late, broke := if late then x.broke else none, pending := none, parts := none
    removed := if change then x.removed.filter (fun u => t.any (fun e => e.uid == u)) else []
    departed := departures x t a.replan, stale := false, fresh := [], tabRun := a.run, joins := [], joinTuple := none, closing := [], restarts := 0
    active := some a, yielded := false, merging := false, seen := x.seen.filter (fun e => e.1 == a.epoch) })
  let s2 := setSeam s1 g (seamPorts s (a.ring && !late) t)
  let s2a := takeMap s2 g t
  let s3 := { s2a with sch := { s2a.sch with
    bound := if g = upSeg s then { s2a.sch.bound with valid := false } else s2a.sch.bound, rejrun := 0, shortSaid := s2a.sch.shortSaid.filter (· != g) } }
  let s4 := { s3 with sg := { s3.sg with bindReq := true, actDesc := g :: s3.sg.actDesc.filter (· != g), noDesc := s3.sg.noDesc.filter (· != g) } }
  payReport (timeOnView (if g = upSeg s then timeOnTable s4 else s4)) g

/-- The inauguration function returns to IDLE: handle, retained handles and table are discarded, the seam is cleared and the
time base, which follows this segment, is FREE (Table 6-5, R149, R161). The run number runs on. DEDUCED (log 33). -/
def toIdle (s : State) (g : Fin 2) : State :=
  let s1 := setSeam (setInaug s g (fun x => { ({} : Inaug) with run := x.run })) g []
  if g = upSeg s then syncoShut (timeFree s1) else s1

/-- The IDLE rows of Table 6-5: a train of one at commit with both ports END, else LISTEN. -/
def idleRows (s : State) (g : Fin 2) : State :=
  if s.inaug[g].st == .idle then
    if segPorts s g ≠ [] then setInaug s g (fun x => { x with st := .listen })
    else if committed s then
      let e : TopoEnt := { uid := s.uid, handle := 1, eflags := eflagsOf (leadPort s == .aft) false false (regB s 0x2004 0) true ((ownNflags s g false).testBit 6)
                           rank := regF s 0x2000 7 0, slotref := rowFor s 1 false }
      applyTable s g (mkAssign (ownTuple s g) false false 1 0 [e])
    else s
  else s

/-! ### Runs -/

/-- The PROBE is relayed out of the opposite port, once a run (R129). -/
def relayProbe (s : State) (g : Fin 2) (p : Port) (f : Bytes) : State :=
  let q := otherPort p
  if segLinked s g q && !s.inaug[g].relayed.contains q then
    sendHop (setInaug s g (fun x => { x with relayed := q :: x.relayed })) g q (withHop f)
  else s

/-- A run is adopted: REPORT goes back, PROBE is relayed (Table 6-5, R129). -/
def adoptRun (s : State) (g : Fin 2) (p : Port) (f : Bytes) (r : RunId) : State :=
  let d := (readHdr f).hops + 1
  let s1 := setInaug s g (fun x => { x with
    st := .follow, adopted := some r, upPort := p, dist := d, relayed := [], parts := none, seen := [], pending := none, issue := none, changes := [] })
  relayProbe (sendReport s1 g p r [ownReport s1 g d p false 0]) g p f

/-- Reports complete: the table is built and ASSIGN is sent in all parts on every LINKED port, with ACTCYC 0 (R130, R131). -/
def sendAssign (s : State) (g : Fin 2) (a : Assign) (ps : List Port) (hop : Bool) : State :=
  a.got.foldl (fun t x =>
    let pl := assignPart a x.1 x.2
    if hop then ps.foldl (fun u p => sendHop u g p (dawnFrame u g 4 [] 0 pl)) t
    else sendTrain t g (dawnFrame t g 3 [] 0 pl)) s

/-- The leader settles the cold run: epoch 1 begins (R131, R147). -/
def settleRun (s : State) (g : Fin 2) (a : Assign) : State :=
  topEvent (setInaug (applyTable s g a) g (fun x => { x with reports := [], sent := none, confirms := [], etb := noteEtb [] (s.inaug[g].reports.map Prod.snd) })) g 0x3001 0 [a.n, s.uid, a.ring.toNat]

/-- Every node of the table but the leader has confirmed. -/
def confirmsComplete (s : State) (g : Fin 2) (a : Assign) : Bool :=
  (assignTable a).all (fun e => e.uid == s.uid || s.inaug[g].confirms.contains e.uid)

/-- SCH_CHECK_FAIL at a cold inauguration or a full replan: the table is issued all the same (R193). -/
def topSchedFail (s : State) (b : Bound) : State := schEvent s 0x5001 5 0xFFF 0 [b.epoch, b.cond, b.row]

/-- NO_SPARE for every position without a row that is not NOSVC (R135, R182). -/
def noSpare (s : State) (g : Fin 2) (t : List TopoEnt) : State :=
  (t.filter (fun e => !e.eflags.testBit 1 && e.slotref == 0xFFFF)).foldl (fun u e => topEvent u g 0x3014 5 [e.uid]) s

/-- A completed set of reports leads to the table and its ASSIGN (R130, R132, R182). -/
def tryComplete (s : State) (g : Fin 2) : State :=
  let x := s.inaug[g]
  if x.st == .conduct && x.sent.isNone && reportsComplete s g then
    let t := coldTable s g
    let a := mkAssign (ownTuple s g) false x.back.isSome 1 0 t
    let reps := x.reports.map Prod.snd
    let clash := reps.any (fun r => uidTwice reps r.uid)
    let s1 := setInaug s g (fun x => { x with sent := some a, confirms := [], resends := 0 })
    let s2 := if clash then topEvent s1 g 0x3031 7 [] else s1
    let s3 := if 254 < t.length then topEvent s2 g 0x3030 5 [] else s2
    let s4 := noSpare s3 g t
    let b := boundCheck s4 g 1 t
    let s4 := if schedCommitted s4 && b.bad then topSchedFail s4 b else s4
    let s5 := sendAssign s4 g a (segPorts s4 g) true
    if confirmsComplete s5 g a then settleRun s5 g a else s5
  else s

/-- PROBE is sent on every LINKED port: a new run; without any, its reports are complete (Table 6-5, R130). -/
def newRun (s : State) (g : Fin 2) : State :=
  let s1 := setInaug s g (fun x => { x with
    st := .conduct, run := (x.run + 1) % 65536, reports := [], back := none, sent := none, confirms := [], resends := 0, adopted := none })
  let f := dawnFrame s1 g 4 [] 0 (dawnCommon 1 0 (ownTuple s1 g) s.inaug[g].epoch)
  tryComplete ((segPorts s1 g).foldl (fun t p => sendHop t g p f) (bumpTop s1 0)) g

/-- A restart of the leader's run: RESTARTS, RUN_RESTART; the fourth in one cold inauguration raises RUN_OVERRUN (R133, R147). -/
def restartRun (s : State) (g : Fin 2) : State :=
  let s1 := topEvent (bumpTop (setInaug s g (fun x => { x with restarts := x.restarts + 1 })) 1) g 0x3002 1 []
  newRun (if s.inaug[g].restarts = 3 then topEvent s1 g 0x3004 2 [] else s1) g

end Sys2Proof.Machine
end

