-- ==== Sys2Proof/Machine/Inaug.lean ====
section
/-! DEFINITION. The commands of inauguration and renumbering (chapter 6): runs, changes of a settled train, replans, the
topology window and the ETB node. -/

namespace Sys2Proof.Machine

/-- Dawn work: none without internal reset released; it waits while the management processor restarts (R138, R366). -/
def dawnOr (s : State) (w : DawnWork) (k : State → State) : State :=
  if !coreRun s then s
  else if s.flt.mgmtDown then { s with flt := { s.flt with dawn := s.flt.dawn ++ [w] } }
  else k s

/-- A Dawn frame of subtype `sub` is taken, or counted in DISCARDS (R127); an own frame that comes back in train mode is discarded (R126). -/
def takeDawn (s : State) (p : Port) (f : Bytes) (sub : Nat) (k : State → Bytes → State) : State :=
  dawnOr s (.frame p sub f) (fun s =>
    let b := payloadOf f
    let h := readHdr f
    if h.dtype ≠ 4 ∧ h.src ≠ 0 ∧ h.src = ownHandle s (segOf s p) then s
    else if dawnValid b && byteAt b 0 == sub then k s b else bumpTop s 6)

/-- The tuple an incoming run is compared with: the adopted run, the active table's leader once settled, else the own tuple
when eligible (R128). -/
def heldTuple (s : State) (g : Fin 2) : Option RunId :=
  match s.inaug[g].st, s.inaug[g].adopted, leaderOf s.inaug[g].table with
  | .settled, _, some e => some (entTuple e)
  | .follow, some r, _ => some r
  | _, _, _ => if eligible s then some (ownTuple s g) else none

/-- Higher than what the node holds (R128). -/
def higherRun (s : State) (g : Fin 2) (r : RunId) : Bool := ((heldTuple s g).map (fun h => tupleLt h r)).getD true

/-- Lower than what the node holds (R128). -/
def lowerRun (s : State) (g : Fin 2) (r : RunId) : Bool := ((heldTuple s g).map (fun h => tupleLt r h)).getD false

/-! ### Lost and found ends -/

/-- A ring turned so that it starts at a node. DEDUCED (log 34). -/
def rotateTo (t : List TopoEnt) (u : Nat) : List TopoEnt :=
  let i := (t.findIdx? (fun e => e.uid == u)).getD 0
  t.drop i ++ t.take i

/-- The node on the higher-position side of the link at a port of the node with index `i`; it names a link, of a chain and of
a ring, whichever of its two ends reports it (R123). -/
def linkStart (t : List TopoEnt) (i : Nat) (p : Port) : Nat :=
  let e : Option TopoEnt := t[i]?
  let low := (e.map (fun e => e.eflags.testBit 0)).getD false == (p == .aft)
  ((t[if low then i else (i + 1) % t.length]?).map TopoEnt.uid).getD 0

/-- The node of a table that lost a neighbour at a port where its handle does not tell: of the lost node's neighbours without a handle, the
one whose port faces it. -/
def lostBy (t : List TopoEnt) (lost : Nat) (p : Port) : Option Nat :=
  match t.findIdx? (fun e => e.uid == lost) with
  | none => none
  | some j => (([j - 1, j + 1].filter (fun i => i != j)).filterMap (fun i => (t[i]?).map (fun e => (i, e)))).findSome? (fun x =>
      if x.2.handle = 0 ∧ (x.2.eflags.testBit 0 == (p == .aft)) = decide (j < x.1) then some x.2.uid else none)

/-- Of nodes in order, those beyond the link from `i` to `j`. -/
def beyondLink (t : List TopoEnt) (i j : Nat) : List Nat :=
  (((List.range t.length).filter (fun k => if i < j then decide (j ≤ k) else decide (k ≤ j))).filterMap (fun k => t[k]?)).map TopoEnt.uid

/-- The nodes beyond a lost link leave the view (R134): the link lies between the reporting node and its lost neighbour, at a
port of the reporter. In a ring nothing is removed: the ring opens, and both its ends report the same link. The node of
highest tuple that remains is the leader's successor. A neighbour that only the pending table holds leaves the view of that one; newcomers not
yet taken into a table are dropped. -/
def lostLink (s0 : State) (g : Fin 2) (reporter lost : Nat) (p : Port) : State :=
  let s := setInaug s0 g (fun x => { x with changes := x.changes.filter (fun c => !((c.kind == 1 || c.kind == 32) && c.reps.any (fun r => r.uid == lost && r.dist != 0))) })
  let x := s.inaug[g]
  let tab := if x.table.any (fun e => e.uid == lost) then x.table else (x.pending.map assignTable).getD x.table
  match tab.findIdx? (fun e => e.uid == reporter) with
  | none => s
  | some k =>
    let start := linkStart tab k p
    if x.ring then
      let seam := decide (((x.table[0]?).map TopoEnt.uid) = some start)
      let s1 := setSeam (setInaug s g (fun x => { x with ring := false, broke := some start })) g []
      if isLeader s g then addChange s1 g { kind := 8, uid := if seam then 0 else start } else s1
    else if x.broke = some start then s
    else
      let view := match x.broke with
        | some u => rotateTo tab u
        | none => tab
      match view.findIdx? (fun e => e.uid == reporter), view.findIdx? (fun e => e.uid == lost) with
      | some i, some j =>
        let uids := beyondLink view i j
        let rest := x.table.filter (fun e => !(x.removed ++ uids).contains e.uid)
        let old := ((leaderOf x.table).map TopoEnt.uid).getD 0
        let s1 := setInaug s g (fun x => { x with removed := x.removed ++ uids })
        if uids.contains old then
          match topEnt rest with
          | some n =>
            let s2 := setInaug s1 g (fun x => { x with table := x.table.map (fun e => withFlag e 4 (e.uid == n.uid)), oldLeader := old })
            timeOnView (if n.uid = s.uid then addChange (setInaug s2 g (fun x => { x with issue := none, pending := none })) g { kind := 2 + 16, uid := lost } else s2)
          | none => timeOnView s1
        else timeOnView (if isLeader s1 g then addChange s1 g { kind := 2, uid := lost } else s1)
      | _, _ => s

/-- A node in FOLLOW reports a change of its ports to the leader of its run, with DIST 0 (Table 6-2, Table 6-5). -/
def portChange (s : State) (g : Fin 2) : State :=
  match s.inaug[g].adopted with
  | some r => if segLinked s g s.inaug[g].upPort then sendReport s g s.inaug[g].upPort r [ownReport s g 0 s.inaug[g].upPort false 0] else s
  | none => s

/-- LEAVE: the lost neighbour and the port (Table 6-2). -/
def sendLeave (s : State) (g : Fin 2) (p : Port) (far : Nat) : State :=
  sendTrain s g (dawnFrame s g 3 [] 0 (dawnCommon 6 0 (tableRun s g) s.inaug[g].epoch ++ beBytes 8 far ++ [BitVec.ofNat 8 (portNo p), 0#8, 0#8, 0#8]))

/-- A port of the segment has become an END (R108, Table 6-5, R134). -/
def endLost (s : State) (p : Port) (far : Nat) : State :=
  let g := segOf s p
  let s0 := setInaug s g (fun x => { x with
    fresh := x.fresh.filter (· != p), announce := x.announce.filter (· != p), joins := if x.fresh.contains p then [] else x.joins })
  match s.inaug[g].st with
  | .settled => lostLink (sendLeave s0 g p far) g s.uid far p
  | .listen => if segPorts s0 g = [] then idleRows (toIdle s0 g) g else s0
  | .conduct => if s.inaug[g].sent.isNone then restartRun s0 g else s0
  | .follow => portChange s0 g
  | _ => s0

/-- A port of the segment becomes an END. -/
def inaugEndLost (s : State) (p : Port) (far : Nat) : State := dawnOr s (.lost p far) (fun s => endLost s p far)

/-- ANNOUNCE across a newly linked port (Table 6-2). -/
def sendAnnounce (s : State) (g : Fin 2) (p : Port) : State :=
  let x := s.inaug[g]
  sendHop s g p (dawnFrame s g 4 [] 0 (dawnCommon 5 0 (tableRun s g) x.epoch ++ [BitVec.ofNat 8 x.table.length, 0#8, 0#8, 0#8]))

/-- A port of the segment has become LINKED (R108, Table 6-5). DEDUCED (log 52). -/
def endFound (s : State) (p : Port) (far : Nat) : State :=
  let g := segOf s p
  match s.inaug[g].st with
  | .idle => idleRows s g
  | .settled =>
    if s.inaug[g].table.any (fun e => e.uid == far) then reportOwn (setInaug s g (fun x => { x with fresh := p :: x.fresh })) g false 0
    else sendAnnounce (setInaug s g (fun x => { x with fresh := p :: x.fresh, announce := p :: x.announce })) g p
  | .conduct => if s.inaug[g].sent.isNone then restartRun s g else s
  | .follow => portChange s g
  | _ => s

/-- A port of the segment becomes LINKED. -/
def inaugEndFound (s : State) (p : Port) (far : Nat) : State := dawnOr s (.found p far) (fun s => endFound s p far)

/-! ### Commands of runs -/

/-- LISTEN_TIMEOUT (Table 6-5). -/
def listenTimeout (s : State) (g : Fin 2) : State :=
  dawnOr s (.listen g) (fun s => if s.inaug[g].st == .listen && eligible s then newRun s g else s)

/-- PROBE_RX (Table 6-5, R129). -/
def probeRx (s : State) (p : Port) (f : Bytes) : State :=
  takeDawn s p f 1 (fun s b =>
    let g := segOf s p
    let r := dawnRun b
    let x := s.inaug[g]
    match x.st with
    | .listen => if lowerRun s g r then s else adoptRun s g p f r
    | .conduct =>
      if r.luid = s.uid then
        if r.run = x.run ∧ x.sent.isNone then tryComplete (setInaug s g (fun x => { x with back := some (readHdr f).hops })) g else s
      else if higherRun s g r then adoptRun (topEvent (bumpTop s 2) g 0x3003 0 []) g p f r
      else s
    | .follow =>
      match x.adopted with
      | some a =>
        if tupleLt a r || (decide (a.luid = r.luid) && newer16 r.run a.run) then adoptRun s g p f r
        else if a.luid = r.luid ∧ a.run = r.run then relayProbe s g p f
        else s
      | none => adoptRun s g p f r
    | .settled =>
      if x.epoch = 1 ∧ (leaderOf x.table).map TopoEnt.uid = some r.luid ∧ newer16 r.run x.tabRun.run = true ∧ r.luid ≠ s.uid then adoptRun s g p f r else s
    | _ => s)

/-- Towards the leader of the adopted run, or of the winning train. -/
def relayUp (s : State) (g : Fin 2) (p up : Port) (f : Bytes) : State :=
  if p ≠ up ∧ segLinked s g up = true then sendHop s g up (withHop f) else s

/-- The reports of joining nodes behind a newly linked port are complete: no gap, and the last one's outward port END. -/
def joinsComplete (l : List RepBody) : Bool :=
  match (byDist l).getLast? with
  | none => false
  | some r => ((List.range l.length).all (fun i => decide (((byDist l).getD i r).dist = i + 1))) &&
      !(if r.ports.testBit 2 then r.ports.testBit 0 else r.ports.testBit 1)

/-- A report taken earlier in the run, with what its node has since reported of its own state. -/
def newState (bodies : List RepBody) (r : RepBody) : RepBody :=
  match bodies.find? (fun b => b.dist == 0 && b.uid == r.uid) with
  | some b => { r with nflags := b.nflags, rank := b.rank }
  | none => r

/-- REPORT_RX (Table 6-5, R130, R131, R134, R137, R139). -/
def reportRx (s : State) (p : Port) (f : Bytes) : State :=
  takeDawn s p f 2 (fun s b =>
    let g := segOf s p
    let r := dawnRun b
    let x := s.inaug[g]
    let bodies := readReports b
    match x.st with
    | .conduct =>
      if r.luid = s.uid ∧ r.run = x.run then
        let moved := bodies.any (fun n => x.reports.any (fun e => e.2.uid == n.uid && (e.2.dist == n.dist || n.dist == 0) && e.2.ports % 4 != n.ports % 4))
        if moved && x.sent.isNone then restartRun s g
        else
          let new_ := (bodies.filter (fun n => n.dist != 0 && !x.reports.any (fun e => e.1 == p && e.2.uid == n.uid && e.2.dist == n.dist))).map (fun n => (p, n))
          tryComplete (setInaug s g (fun x => { x with reports := x.reports.map (fun e => (e.1, newState bodies e.2)) ++ new_ })) g
      else s
    | .follow =>
      match x.adopted with
      | some a => if a.luid = r.luid ∧ a.run = r.run then relayUp s g p x.upPort f else s
      | none => s
    | .joining => relayUp s g p x.joinPort f
    | .settled =>
      if x.fresh.contains p then
        let joins := x.joins ++ bodies.filter (fun n => n.dist != 0 && !x.joins.any (fun e => e.uid == n.uid && e.dist == n.dist))
        let s1 := setInaug s g (fun x => { x with joins := joins, announce := x.announce.filter (· != p), merging := x.merging || joins.any (fun j => j.handle != 0) })
        if joinsComplete joins then reportUp s1 g (ownReport s1 g 0 p false 0 :: byDist joins) else s1
      else if isLeader s g then leaderReport s g bodies
      else s
    | _ => s)

/-- A part of an ASSIGN is added to what is being assembled; the whole is answered once every part is there (Table 6-2, R126). -/
def addPart (x : Inaug) (b : Bytes) : Inaug × Option Assign :=
  let r := dawnRun b
  let ep := beAt b 14 2
  let base : Assign :=
    match x.parts with
    | some a => if a.epoch = ep ∧ a.run = r then a else
        { run := r, replan := (byteAt b 1).testBit 0, ring := (byteAt b 1).testBit 1, epoch := ep, actcyc := beAt b 16 4, n := byteAt b 20, parts := byteAt b 22, got := [] }
    | none =>
        { run := r, replan := (byteAt b 1).testBit 0, ring := (byteAt b 1).testBit 1, epoch := ep, actcyc := beAt b 16 4, n := byteAt b 20, parts := byteAt b 22, got := [] }
  let a := { base with got := mput base.got (byteAt b 21) (readEntries b) }
  ({ x with parts := some a }, if a.parts ≤ a.got.length then some a else none)

/-- Own UID is in the table of an ASSIGN. -/
def ownIn (s : State) (a : Assign) : Bool := (assignTable a).any (fun e => e.uid == s.uid)

/-- What a table brings: the kinds of TOPO_CHANGE, the counts joined and left (R147). A new leader, or a new order of the nodes that
stay without a ring break, is a leader change, including reversal. Newcomers are a merge where the node knows that they held handles. Bit 6: no
node joins or leaves, and entries change. DEDUCED (log 32). -/
def changeKinds (x : Inaug) (t : List TopoEnt) (ring : Bool) : Nat × Nat × Nat :=
  let joined := (t.filter (fun e => !x.table.any (fun f => f.uid == e.uid))).length
  let left := (x.table.filter (fun e => !t.any (fun f => f.uid == e.uid))).length
  let open_ := !ring && (x.ring || x.broke.isSome)
  let both (u v : List TopoEnt) : List Nat := (u.filter (fun e => v.any (fun f => f.uid == e.uid))).map TopoEnt.uid
  let lead := decide ((leaderOf t).map TopoEnt.uid ≠ (leaderOf x.table).map TopoEnt.uid) || (x.oldLeader != 0) || (!open_ && both t x.table != both x.table t)
  let seen := (if joined = 0 then 0 else if x.merging then 32 else 1) + 2 * (decide (0 < left)).toNat + 4 * (ring && !x.ring).toNat + 8 * open_.toNat + 16 * lead.toNat
  let k := if x.st = .joining then (if x.yielded then 32 else 1) else if x.kinds % 64 ≠ 0 then x.kinds % 64 else seen
  let same := decide (joined = 0) && decide (left = 0) && (decide (k = 0) || x.table.any (fun e => !t.contains e))
  (k + 64 * same.toNat, joined, left)

/-- This node leads by a table it did not order: it issues its own ASSIGN next, unless the order is already that of its active cab (R134). -/
def mustOrder (s : State) (g : Fin 2) : Bool :=
  !regB s 0x2004 0 || orientOf s.inaug[g].table s.uid != (leadPort s == .aft) || (s.inaug[g].ring && ownPos s g != 1)

/-- An ASSIGN of a change takes effect, at the start of ACTCYC or on receipt: its table, TOPO_CHANGE, and what a new leader owes (R134, R136,
R137, R140). -/
def takeTable (s : State) (g : Fin 2) (a : Assign) : State :=
  let x := s.inaug[g]
  let (kinds, joined, left) := changeKinds x (assignTable a) a.ring
  let led := isLeader s g
  let s1 := applyTable s g a
  let leads := isLeader s1 g
  let s2 := setInaug s1 g (fun y => { y with
    issue := none, kinds := 0, reorder := !led && leads && x.st == .settled && mustOrder s1 g
    oldLeader := if !leads then 0 else if led then y.oldLeader else ((leaderOf x.table).map TopoEnt.uid).getD 0
    repSrc := if a.replan then 0 else y.repSrc, repHandle := if a.replan then 0 else y.repHandle })
  let s3 := topEvent (bumpTop s2 3) g 0x3010 1 [kinds, a.epoch, joined, left]
  if a.replan then
    let s4 := bumpTop s3 5
    if led then topEvent s4 g 0x3020 6 [x.repSrc, x.repHandle] else s4
  else s3

/-- At the start of ACTCYC the pending ASSIGN is applied (R136). -/
def activate (s : State) (g : Fin 2) (k : Nat) : State :=
  match s.inaug[g].pending with
  | some a => if cycReached k a.actcyc then takeTable s g a else s
  | none => s

/-- A whole ASSIGN waits for its ACTCYC, or is applied on receipt. -/
def holdAssign (s : State) (g : Fin 2) (w : Assign) : State :=
  if w.actcyc = 0 then takeTable s g w else setInaug s g (fun y => { y with pending := if y.pending.isSome then y.pending else some w })

/-- ASSIGN_RX (Table 6-5, R126, R131, R136, R137): the first copy of each epoch and part is acted on, later ones are ignored. DEDUCED (log 35). -/
def assignRx (s : State) (p : Port) (f : Bytes) : State :=
  takeDawn s p f 3 (fun s b =>
    let g := segOf s p
    let x := s.inaug[g]
    let r := dawnRun b
    let key := (beAt b 14 2, byteAt b 21)
    let (x1, whole) := addPart x b
    let taken := setInaug s g (fun _ => { x1 with seen := key :: x.seen })
    if x.seen.contains key then s
    else
      match x.st with
      | .follow =>
        match x.adopted with
        | some a =>
          if a.luid = r.luid ∧ a.run = r.run then
            let s1 := relayUp taken g p (otherPort p) f
            match whole with
            | some w =>
              if ownIn s w then
                let s2 := applyTable s1 g w
                sendHop s2 g x.upPort (dawnFrame s2 g 4 [] 0 (dawnCommon 4 0 r w.epoch ++ beBytes 8 s.uid))
              else s1
            | none => s1
          else s
        | none => s
      | .settled =>
        if newer16 (beAt b 14 2) x.epoch then
          match whole with
          | some w => holdAssign (x.fresh.foldl (fun t q => sendAssign t g w [q] true) taken) g w
          | none => taken
        else s
      | .joining =>
        let s1 := relayUp taken g p (otherPort p) f
        match whole with
        | some w => if ownIn s w then holdAssign s1 g w else s1
        | none => s1
      | _ => s)

/-- CONFIRM_RX (Table 6-5, R131). -/
def confirmRx (s : State) (p : Port) (f : Bytes) : State :=
  takeDawn s p f 4 (fun s b =>
    let g := segOf s p
    let x := s.inaug[g]
    let r := dawnRun b
    match x.st, x.sent with
    | .conduct, some a =>
      if r.luid = s.uid ∧ r.run = x.run then
        let s1 := setInaug s g (fun x => { x with confirms := beAt b 16 8 :: x.confirms.filter (· != beAt b 16 8) })
        if confirmsComplete s1 g a then settleRun s1 g a else s1
      else s
    | .follow, _ => relayUp s g p x.upPort f
    | .settled, _ => relayUp s g p x.upPort f
    | _, _ => s)

/-- ANNOUNCE_RX (Table 6-5, R128). -/
def announceRx (s : State) (p : Port) (f : Bytes) : State :=
  takeDawn s p f 5 (fun s b =>
    let g := segOf s p
    let x := s.inaug[g]
    let r := dawnRun b
    let join (s : State) (yields : Bool) : State :=
      let d := (readHdr f).hops + 1
      let s1 := setInaug s g (fun x => { x with
        st := .joining, joinPort := p, joinTuple := some r, farN := byteAt b 16, announce := [], changes := [], issue := none, pending := none, joins := []
        reports := [], sent := none, adopted := none, seen := [], parts := none, reorder := false, yielded := x.yielded || yields
        fresh := if yields || x.fresh.contains p then x.fresh else p :: x.fresh })
      let s1 := if yields && g = upSeg s && s.tb.st != .free && s.tb.st != .master then { s1 with tb := { s1.tb with joinStep := true } } else s1
      let s2 := sendReport s1 g p r [ownReport s1 g d p false 0]
      if segLinked s2 g (otherPort p) then sendHop s2 g (otherPort p) (withHop f) else s2
    match x.st with
    | .listen | .conduct | .follow => join s false
    | .settled =>
      if higherRun s g r then join (topEvent s g 0x3012 1 [r.luid]) true
      else setInaug s g (fun x => { x with merging := x.merging || x.fresh.contains p })
    | _ => s)

/-- LEAVE_RX (R134). -/
def leaveRx (s : State) (p : Port) (f : Bytes) : State :=
  takeDawn s p f 6 (fun s b =>
    let g := segOf s p
    if s.inaug[g].st == .settled then
      let q : Port := if byteAt b 24 = 0 then .fore else .aft
      let by_ := if (readHdr f).src = 0 then lostBy s.inaug[g].table (beAt b 16 8) q
        else (s.inaug[g].table.find? (fun e => e.handle == (readHdr f).src)).map TopoEnt.uid
      match by_ with
      | some u => lostLink s g u (beAt b 16 8) q
      | none => s
    else s)

/-- RUN_TIMEOUT: reports incomplete 50 ms after PROBE (Table 6-5). -/
def runTimeout (s : State) (g : Fin 2) : State :=
  dawnOr s (.run g) (fun s => if s.inaug[g].st == .conduct && s.inaug[g].sent.isNone then restartRun s g else s)

/-- CONFIRM_TIMEOUT: CONFIRMs incomplete 20 ms after ASSIGN (Table 6-5). -/
def confirmTimeout (s : State) (g : Fin 2) : State :=
  dawnOr s (.confirm g) (fun s =>
    match s.inaug[g].sent with
    | some a =>
      if s.inaug[g].st == .conduct then
        if s.inaug[g].resends < 3 then sendAssign (setInaug s g (fun x => { x with resends := x.resends + 1 })) g a (segPorts s g) true
        else restartRun s g
      else s
    | none => s)

/-- FOLLOW_TIMEOUT: no ASSIGN within 150 ms of adopting (Table 6-5). -/
def followTimeout (s : State) (g : Fin 2) : State :=
  dawnOr s (.follow g) (fun s =>
    if s.inaug[g].st == .follow then setInaug s g (fun x => { x with st := .listen, adopted := none, parts := none, seen := [] }) else s)

/-- JOINING_TIMEOUT: no ASSIGN with the own UID within 100 ms (Table 6-5). -/
def joiningTimeout (s : State) (g : Fin 2) : State :=
  dawnOr s (.joining g) (fun s =>
    if s.inaug[g].st == .joining && s.inaug[g].pending.isNone then
      setInaug s g (fun x => { x with st := .listen, joinTuple := none, parts := none, seen := [] })
    else s)

/-- ANNOUNCE_REPEAT, every 10 ms until a REPORT or a higher ANNOUNCE arrives (Table 6-5). -/
def announceRepeat (s : State) (p : Port) : State :=
  dawnOr s (.announce p) (fun s =>
    if s.inaug[segOf s p].st == .settled && s.inaug[segOf s p].announce.contains p then sendAnnounce s (segOf s p) p else s)

/-! ### The leader's ASSIGN of a change -/

/-- A table in the opposite order, orientation bits turned. -/
def reversed (t : List TopoEnt) : List TopoEnt := t.reverse.map (fun e => withFlag e 0 (!e.eflags.testBit 0))

/-- The handle of a newcomer: the one it last held if still free, else the lowest free, else the oldest retained one (R122). -/
def newHandle (dep : List (Nat × Nat)) (t : List TopoEnt) (u : Nat) : Nat :=
  let used := t.map TopoEnt.handle
  let last := ((dep.find? (fun d => d.1 == u)).map Prod.snd).filter (fun h => !used.contains h)
  let lowest := ((List.range 254).map (· + 1)).find? (fun h => !used.contains h && !dep.any (fun d => d.2 == h))
  let oldest := (dep.find? (fun d => !used.contains d.2)).map Prod.snd
  ((last.or lowest).or oldest).getD 0

/-- The first spare row, ascending, with which the table passes the bound check (R135, R182, R193). -/
def newRow (s : State) (g : Fin 2) (t : List TopoEnt) (place : Nat → List TopoEnt) : Nat :=
  let rows := ((mget s.tables (65536 * 0x50 + 1)).getD []).length / 32
  let spare := ((List.range rows).filter (fun r => decide (0 < r))).filter (fun r => !t.any (fun e => e.slotref == r))
  (spare.find? (fun r => !(boundCheck s g 0 (place r)).bad)).getD 0xFFFF

/-- One newcomer is placed before or behind the present table. -/
def addNode (s : State) (g : Fin 2) (dep : List (Nat × Nat)) (before : Bool) (twice : Nat → Bool) (t : List TopoEnt) (r : RepBody) : List TopoEnt :=
  let nosvc := r.nflags.testBit 1 || twice r.uid || decide (254 ≤ t.length)
  let e0 := withFlag { placed before r with handle := if t.length < 254 then newHandle dep t r.uid else 0 } 1 nosvc
  let put (row : Nat) : List TopoEnt := if before then { e0 with slotref := row } :: t else t ++ [{ e0 with slotref := row }]
  if nosvc then put 0xFFFF else put (newRow s g t put)

/-- Newcomers behind a port of one node join at the end that port faces (R125, Table 6-3). -/
def joinNodes (s : State) (g : Fin 2) (dep : List (Nat × Nat)) (t : List TopoEnt) (bodies : List RepBody) : List TopoEnt :=
  match bodies with
  | [] => t
  | r :: js =>
    let anchor := t.find? (fun e => e.uid == r.uid)
    let before := ((anchor.map (fun e => e.eflags.testBit 0)).getD false) == r.ports.testBit 2
    (byDist (js.filter (fun j => !t.any (fun e => e.uid == j.uid)))).foldl (addNode s g dep before (uidTwice js)) t

/-- A full replan: position p holds handle p and row p; beyond 254 nodes there is neither handle nor service (R132, R139, R182). -/
def replanned (s : State) (t : List TopoEnt) : List TopoEnt :=
  t.mapIdx (fun i e =>
    let nosvc := e.eflags.testBit 1 || decide (254 ≤ i)
    { withFlag e 1 nosvc with handle := if i < 254 then i + 1 else 0, slotref := rowFor s (i + 1) nosvc })

/-- The node that orders positions in a change, and whether its aft port leads towards lower ones: as the report of a leader change says; a
successor, a break and a replan by this leader's own lead port (R124, R134). -/
def changeOrder (s : State) (t : List TopoEnt) (c : Change) : Option (Nat × Bool) :=
  match c.reps with
  | r :: _ => if c.kind = 16 then orderBy s t r else none
  | [] => if c.kind / 16 % 2 = 1 ∨ c.kind = 8 ∨ c.kind = 128 then some (s.uid, leadPort s == .aft) else none

/-- The table and ring flag after one change. -/
def applyChange (s : State) (g : Fin 2) (acc : List TopoEnt × Bool) (c : Change) : List TopoEnt × Bool :=
  let (t, ring) := acc
  let t1 := if c.kind % 2 = 1 ∨ c.kind / 32 % 2 = 1 then joinNodes s g s.inaug[g].departed t c.reps else t
  let t2 := if c.kind / 64 % 2 = 1 ∨ c.kind = 16 then c.reps.foldl withReport t1 else t1
  let ring2 := if c.kind = 4 then true else if c.kind = 8 ∨ c.kind / 2 % 2 = 1 then false else ring
  -- a break of another link than the seam: positions run from the new ends
  let t3 := if c.kind = 8 ∧ c.uid ≠ 0 then rotateTo t2 c.uid else t2
  let order := changeOrder s t3 c
  let t4 := match order with
    | some (u, aft) => if t3.any (fun e => e.uid == u) && orientOf t3 u != aft then reversed t3 else t3
    | none => t3
  -- in a ring the leader becomes position 1 at every leader change it orders, and at a full replan (R124)
  let t5 := match order with
    | some (u, _) => if ring2 ∧ c.kind ≠ 8 then rotateTo t4 u else t4
    | none => t4
  (if c.kind = 128 then replanned s t5 else t5, ring2)

/-- The table the waiting changes lead to, with the leader of highest tuple and the ETB role (R124, R134, R145). A replan is worked in last: its
handles and rows follow the positions that every other change leaves (R139). -/
def changedTable (s : State) (g : Fin 2) : List TopoEnt × Bool :=
  let x := s.inaug[g]
  let t0 := x.table.filter (fun e => !x.removed.contains e.uid)
  let (t, ring) := (x.changes.filter (fun c => c.kind != 128) ++ x.changes.filter (fun c => c.kind == 128)).foldl (applyChange s g) (t0, x.ring)
  let lead := ((topEnt t).map TopoEnt.uid).getD s.uid
  (giveEtb (t.map (fun e => withFlag e 4 (e.uid == lead))) (etbNodes s g), ring)

/-- The leader issues the ASSIGN of the waiting changes: new epoch, ACTCYC the cycle of sending plus 4 (R136). -/
def issueChange (s : State) (g : Fin 2) : State :=
  let x := s.inaug[g]
  if isLeader s g && x.st == .settled && x.pending.isNone && x.issue.isNone && (!x.changes.isEmpty || x.reorder) then
    let x0 := if x.reorder then { x with changes := x.changes ++ [{ kind := 16 }] } else x
    let s0 := setInaug s g (fun _ => x0)
    let (t, ring) := changedTable s0 g
    let replan := x0.changes.any (fun c => c.kind == 128)
    let kinds := (x0.changes.map (fun c => c.kind % 64)).foldl (fun a b => a ||| b) 0
    let a := mkAssign { ownTuple s g with run := x.tabRun.run } replan ring ((x.epoch + 1) % 65536) ((cycleNo s + 4) % 2 ^ 32) t
    let s1 := setInaug s0 g (fun y => { y with changes := [], reorder := false, issue := some a, pending := some a, kinds := kinds })
    let s2 := noSpare s1 g (if replan then t else t.filter (fun e => !x.table.any (fun f => f.uid == e.uid)))
    let s2 := if x0.changes.any (fun c => c.reps.any (fun r => r.dist != 0 && uidTwice (c.reps.drop 1) r.uid)) then topEvent s2 g 0x3031 7 [] else s2
    let s3 := if 254 < t.length then topEvent s2 g 0x3030 5 [] else s2
    let s4 := if x.oldLeader ≠ 0 then topEvent (setInaug s3 g (fun y => { y with oldLeader := 0 })) g 0x3011 1 [x.oldLeader, s.uid] else s3
    let b := boundCheck s4 g a.epoch t
    let s5 := if replan && b.bad then topSchedFail s4 b else s4
    x.fresh.foldl (fun u q => sendAssign u g a [q] true) (sendAssign s5 g a (segPorts s5 g) false)
  else s

/-- The leader's dynamic segment: the waiting changes, the repeats of an ASSIGN up to ACTCYC, and a missed one once more (R136, R137). -/
def leaderDynamic (s : State) (g : Fin 2) : State :=
  if dawnUp s then
    let x := s.inaug[g]
    let s1 := match x.missed with
      | some a => sendAssign (setInaug s g (fun y => { y with missed := none })) g a (segPorts s g) false
      | none => s
    match x.issue with
    | some a => x.fresh.foldl (fun u q => sendAssign u g a [q] true) (sendAssign s1 g a (segPorts s1 g) false)
    | none => issueChange s1 g
  else s

/-- A node that the Lantern's EPOCH shows to have missed the ASSIGN keeps its table and reports STALE (R137). -/
def missedAssign (s : State) (g : Fin 2) (lanternEpoch : Nat) : State :=
  let x := s.inaug[g]
  if x.st == .settled && x.pending.isNone && !x.stale && newer16 lanternEpoch x.epoch then
    let s1 := topEvent (bumpTop (setInaug s g (fun y => { y with stale := true, parts := none })) 4) g 0x3013 3 [x.epoch, lanternEpoch]
    reportOwn s1 g false 0
  else s

/-- A replan is requested at this node (R139). -/
def requestReplan (s : State) (g : Fin 2) (src : Nat) : State :=
  dawnOr s (.replan g src) (fun s =>
    if s.inaug[g].st != .settled then topEvent s g 0x3021 1 [1, src, ownHandle s g]
    else if s.line.node == .drain then topEvent s g 0x3021 1 [4, src, ownHandle s g]
    else if isLeader s g then leaderReplan s g src (ownHandle s g)
    else reportUp s g [ownReport s g 0 .fore true src])

/-- TOP_CMD with its fields as written (R139, R419). In a segment gateway it acts on the segment that TOP_CTL.SEGSEL shows. DESIGN CHOICE
(log 113). -/
def topCmd (s : State) (src : Nat) (v : Word) : State :=
  let g : Fin 2 := if segGw s && regB s 0x2018 0 then 1 else 0
  if bitAt v 0 then
    if fld v 31 16 = 0x7E9D ∧ (src ≠ 3 ∨ regB s 0x2000 10 = true) then requestReplan s g src
    else topEvent s g 0x3021 1 [3, src, ownHandle s g]
  else s

/-- A write of TOP_LEAD is reported to the leader within 1 ms (R146). -/
def topLead (s : State) (v : Word) : State :=
  let s1 := setReg s 0x2004 (BitVec.ofNat 32 (v.toNat % 4))
  reportOwn (reportOwn s1 0 false 0) 1 false 0

/-! ### The ETB node (R144, R145) -/

/-- The ETB lane: an I1G lane with ETB_EN set. -/
def etbOn (s : State) : Bool := (portI1g s .fore || portI1g s .aft) && regB s 0x2000 11

/-- A second node of the segment holds the ETB role: this one stays silent (R145). -/
def etbSilent (s : State) : Bool :=
  etbOn s && s.inaug[(0 : Fin 2)].table.any (fun e => e.eflags.testBit 5 && e.uid != s.uid)

/-- The role follows the active table: 0x3041 when it goes to another node (R145). -/
def etbRole (s : State) : State :=
  if !etbOn s then { s with etb := { s.etb with st := 0 } }
  else if etbSilent s then
    if s.etb.st = 3 then s else topEvent { s with etb := { s.etb with st := 3 } } 0 0x3041 5 []
  else if s.etb.st = 0 ∨ s.etb.st = 3 then { s with etb := { s.etb with st := 1 } } else s

/-- The I1G lane's port number for output: lane number of the ETB lane. -/
def etbLane (s : State) : Nat := if portI1g s .fore then 0 else 2

/-- ETB_FRAME_RX: HELLO and TOPOLOGY frames take part in the standard's inauguration (R144): its results are those of
IEC 61375-2-5, free here; a new inauguration counter raises ETB_INAUG. A TOPOLOGY frame taken makes STATE inaugurated. PRESUMED (log 36). -/
def etbFrameRx (s : State) (f : TtdpFrame) : State :=
  if etbOn s && s.etb.st != 3 && s.etb.st != 0 then
    let arg := f.topology.toNat :: f.bytes.map BitVec.toNat
    let inaug := Config.standardNat 1 (s.free :: s.etb.inaug :: arg)
    let s1 := { takeFree s with etb := { s.etb with
        heard := f.bytes :: s.etb.heard, inaug := inaug, topo := Config.standardNat 2 (s.free :: arg) % 2 ^ 32
        nodes := Config.standardNat 3 (s.free :: arg) % 256, ownId := 1 + Config.standardNat 4 (s.free :: arg) % 63
        st := if f.topology then 2 else s.etb.st
        dir := if f.topology then (List.range (Config.standardNat 5 (s.free :: arg) % 1024)).map (fun i => BitVec.ofNat 32 (Config.standardNat 6 (s.free :: i :: arg))) else s.etb.dir } }
    if inaug % 256 = s.etb.inaug % 256 then s1 else topEvent s1 0 0x3040 1 [inaug]
  else s

/-- ETB_HELLO_TIMER: a TTDP HELLO or TOPOLOGY frame leaves, its octets those of the standard (R144); its length is fixed here. PRESUMED (log 36). -/
def etbHelloTimer (s : State) : State :=
  if etbOn s && s.etb.st != 3 && s.etb.st != 0 then
    emit (takeFree s) (.eth (20 + etbLane s) ((List.range 64).map (Config.standardByte 1 [s.free])))
  else s

/-- TTDP_HELLO_TIMEOUT: the neighbour is no longer heard; the standard's inauguration runs again (R144). -/
def ttdpHelloTimeout (s : State) : State :=
  if etbOn s && s.etb.st != 3 && s.etb.st != 0 then
    let inaug := Config.standardNat 7 [s.free, s.etb.inaug]
    let s1 := { takeFree s with etb := { s.etb with heard := [], st := 1, nodes := 0, dir := [], inaug := inaug } }
    if inaug % 256 = s.etb.inaug % 256 then s1 else topEvent s1 0 0x3040 1 [inaug]
  else s

/-! ### After a restart of the management processor (R138, R366) -/

/-- A piece of Dawn work that waited. -/
def dawnWork (s : State) : DawnWork → State
  | .frame p 1 f => probeRx s p f
  | .frame p 2 f => reportRx s p f
  | .frame p 3 f => assignRx s p f
  | .frame p 4 f => confirmRx s p f
  | .frame p 5 f => announceRx s p f
  | .frame p _ f => leaveRx s p f
  | .listen g => listenTimeout s g
  | .run g => runTimeout s g
  | .confirm g => confirmTimeout s g
  | .follow g => followTimeout s g
  | .joining g => joiningTimeout s g
  | .announce p => announceRepeat s p
  | .found p far => inaugEndFound s p far
  | .lost p far => inaugEndLost s p far
  | .replan g src => requestReplan s g src

/-- What waited is done, in order, and what is owed is reported. -/
def dawnResume (s : State) : State :=
  payReport (payReport (s.flt.dawn.foldl dawnWork { s with flt := { s.flt with dawn := [] } }) 0) 1

end Sys2Proof.Machine
end

