-- ==== Sys2Proof/Machine/Lanes.lean ====
section
/-! DEFINITION. Backbone lanes (chapter 5): the states of a lane, its health and equalisers, link messages and peer delay
(R152 to R154), losses and coupler ends. -/

namespace Sys2Proof.Machine

/-- A lane event: lane, mode, SNR, far UID (R120); the mode is the lane's at that moment, none after a loss. DESIGN CHOICE (log 110). -/
def laneEvent (s : State) (l : Fin 4) (code sev : Nat) (more : List Nat) : State :=
  raiseSeg s (segOf s (portOf l)) code sev l.val ([l.val, s.lanes[l].mode, s.lanes[l].snr, s.lanes[l].farUid] ++ more)

/-- Uncorrectable blocks of a lane, each a detected error that counts in the window of its test, one after another. -/
def detectMany : (n : Nat) → State → Fin 4 → State
  | 0, s, _ => s
  | n + 1, s, l => detectMany n (windowCount (detect s l.val 0) l true) l

/-- `n` uncorrectable blocks of a lane: counted, and each a detected error (R107). -/
def uncBlocks (s : State) (l : Fin 4) (n : Nat) : State :=
  detectMany n (setLane (bumpBy s (0x1124 + 0x100 * l.val) n) l (fun x => { x with unc := x.unc + n })) l

/-- The modes allowed at both ends; the far end's are taken as the own ones until a link message brought them. -/
def commonModes (s : State) (l : Fin 4) : Nat :=
  let m := laneModes s l
  let f := if s.lanes[l].farModes = 0 then m else s.lanes[l].farModes
  (m % 2) * (f % 2) + 2 * ((m / 2 % 2) * (f / 2 % 2))

/-- A lane enters DETECT: its measurements start again (R153). -/
def toDetect (x : Lane) : Lane :=
  { endUp x with
    st := .detect, mode := 0, again := false, fallback := false, farFallback := false, heldSeen := false, unc := 0, fecErr := 0, low := false
    lossAt := none, byEnd := false, rseq := none, rxs := 0, txLog := [], pdWait := none, delays := [], ratios := [], exch := 0, delay := 0, nrr := 0
    pdBad := false, rateBad := false, dlOver := false, farRet := 0, farRetAny := false, farModes := 0 }

/-- DETECT_ENERGY: energy for 1.0 ms with no HELD message in it (Table 5-4). -/
def detectEnergy (s : State) (l : Fin 4) (heldSeen : Bool) : State :=
  if coreRun s && s.lanes[l].st == .detect && !heldSeen then
    let c := commonModes s l
    setLane s l (fun x => { x with st := .train, heldSeen := false
                                   mode := if laneI1g s l then 3 else if c = 0 then highestMode (laneModes s l) else highestMode c })
  else s

/-- TRAIN_DONE (Table 5-4). -/
def trainDone (s : State) (l : Fin 4) : State :=
  if coreRun s && s.lanes[l].st == .train then setLane s l (fun x => { x with st := .lock }) else s

/-- A failed margin: the lower common mode, or HELD with reason 2 (Table 5-4). -/
def failedMargin (s : State) (l : Fin 4) : State :=
  if s.lanes[l].mode = 1 ∧ commonModes s l / 2 % 2 = 1 then
    setLane s l (fun x => { x with st := .train, mode := 2, again := false, fallback := true, farFallback := false })
  else laneEvent (setLane s l (fun x => { x with st := .held })) l 0x2008 5 [2]

/-- TRAIN_TIMEOUT: 14 ms without the margin, or the far end requests fallback (Table 5-4). -/
def trainTimeout (s : State) (l : Fin 4) : State :=
  if coreRun s && s.lanes[l].st == .train then failedMargin s l else s

/-- LOCK_TIMEOUT: 0.5 ms in LOCK; the same mode once more, then a failed margin (Table 5-4). -/
def lockTimeout (s : State) (l : Fin 4) : State :=
  if coreRun s && s.lanes[l].st == .lock then
    if s.lanes[l].again then failedMargin s l else setLane s l (fun x => { x with st := .train, again := true })
  else s

/-- LOCK_ACHIEVED: the identity of the far end is checked (R102). -/
def lockAchieved (s : State) (l : Fin 4) (msg : Bytes) : State :=
  if coreRun s && s.lanes[l].st == .lock then
    if laneI1g s l then setLane s l (fun x => { x with st := .check })
    else if byteAt msg 0 ≠ 0x4C then s
    else
      let uid := beAt msg 4 8
      let t := s.lanes[sisterLane l]
      let s1 := setLane s l (fun x => { x with farUid := uid, farModes := byteAt msg 2 % 4, farFlags := byteAt msg 3 })
      if byteAt msg 1 % 2 ≠ l.val % 2 then laneEvent (setLane s1 l (fun x => { x with st := .held })) l 0x2007 5 []
      else if t.st = .up ∧ t.farUid ≠ uid then laneEvent (setLane s1 l (fun x => { x with st := .held })) l 0x2008 5 [1]
      else setLane s1 l (fun x => { x with st := .check })
  else s

/-- A native lane whose port's other lane is UP names another far UID than that lane (R102). -/
def otherFar (s : State) (l : Fin 4) : Bool := !laneI1g s l && laneUp s (sisterLane l) && s.lanes[sisterLane l].farUid != s.lanes[l].farUid

/-- The lanes of a port that are UP below their design mode beside the other one are folded (R185, R195). -/
def foldBelow (s : State) (p : Port) : State :=
  [laneA p, laneB p].foldl (fun t l => if laneUp t l && !upAtDesign t l && !t.sch.fold.getLsbD l.val then foldStart t l else t) s

/-- CHECK_DONE: the lane enters UP and is offered to the switch and the schedule (Table 5-4, R108, R199), unless the other lane has come UP
meanwhile with another far UID (R102). -/
def checkDone (s : State) (l : Fin 4) : State :=
  if coreRun s && s.lanes[l].st == .check then
    if otherFar s l then laneEvent (setLane s l (fun x => { x with st := .held })) l 0x2008 5 [1]
    else
    let p := portOf l
    let first := !portAnyUp s p
    let s1 := setLane s l (fun x => { x with st := .up, health := 0, goodRun := 0, unc := 0, fecErr := 0, again := false, fallback := false })
    let s2 := laneEvent s1 l 0x2001 0 []
    if laneI1g s l then etbRole (outUp s2 (lanePort l))
    else
      let s3 := if s1.lanes[l].mode ≠ highestMode (commonModes s1 l) ∧ commonModes s1 l ≠ 0 then laneEvent s2 l 0x2003 5 [] else s2
      let s4 := if s3.sch.fold.getLsbD l.val && upAtDesign s3 l then
          { s3 with sch := { s3.sch with foldEnd := s3.sch.foldEnd ||| BitVec.ofNat 4 (2 ^ l.val) } }
        else s3
      let s4 := foldBelow s4 p
      if first then
        let s5 := raiseSeg s4 (segOf s4 p) 0x2010 1 l.val [l.val, s1.lanes[l].mode, s1.lanes[l].snr, s1.lanes[l].farUid]
        inaugEndFound (outUp (outUp s5 (lanePort (laneA p))) (lanePort (laneB p))) p s1.lanes[l].farUid
      else s4
  else s

/-- CHECK_FAIL: an uncorrectable block in CHECK counts as a failed margin (Table 5-4, R107). DEDUCED (log 30). -/
def checkFail (s : State) (l : Fin 4) : State :=
  if coreRun s && s.lanes[l].st == .check then failedMargin (detect (bumpLane s l 1) l.val 0) l else s

/-- Losses of lock within the last 60 s. -/
def recentLosses (s : State) (l : Fin 4) : List Nat := s.lanes[l].losses.filter (fun t => decide (s.now ≤ t + 60000000000))

/-- A loss within the last 1.0 ms (R106). -/
def nearLoss (s : State) (t : Option Nat) : Bool := (t.map (fun t => decide (s.now ≤ t + ms 1))).getD false

/-- The port has lost its last UP lane and is an END (R108): 0x2011 with the mode and far UID of lane l before; fallbacks that wait are lost
unless both lanes were lost within 1.0 ms (R198); no fold left, both outputs down, and inauguration told. -/
def portEnds (s : State) (l : Fin 4) (was : Lane) : State :=
  let p := portOf l
  let m := BitVec.ofNat 4 (2 ^ (laneA p).val + 2 ^ (laneB p).val)
  let s0 := if nearLoss s s.lanes[sisterLane l].lossAt then s else foldDrop (foldDrop s (laneA p)) (laneB p)
  let s1 := { s0 with sch := { s0.sch with
    fold := s.sch.fold &&& ~~~m, foldEnd := s.sch.foldEnd &&& ~~~m
    foldOut := s0.sch.foldOut.filter (fun f => f.lane != (laneA p).val && f.lane != (laneB p).val)
    relays := s0.sch.relays.filter (fun r => portOf r.lane != p) } }
  let s2 := raiseSeg s1 (segOf s1 p) 0x2011 1 l.val [l.val, was.mode, was.snr, was.farUid]
  inaugEndLost (outDown (outDown s2 (lanePort (laneA p))) (lanePort (laneB p))) p was.farUid

/-- A native lane has left UP: its port's other lane carries on (R195, R212), or the port is an END. -/
def leftUp (s : State) (l : Fin 4) (was : Lane) : State := if laneUp s (sisterLane l) then moveQueue (foldStart s l) l else portEnds s l was

/-- The other lane of a port whose last UP lane is lost: its own loss within 1.0 ms is part of the coupler end, which supersedes a retirement
that the loss began (R106, R108, R361). -/
def joinEnd (s : State) (x : Lane) : Lane :=
  if nearLoss s x.lossAt then { x with byEnd := true, st := if x.st == .retired then .downWait else x.st } else x

/-- LOSS_OF_LOCK (R106, R107, R108, R195, R361): `corr` and `idleUnc` are the corrected bits and the uncorrectable blocks outside frames since
the last health window. The loss of an I1G lane, alone on its port, is the loss of a lane and no coupler end. DEDUCED (log 29). -/
def lossOfLock (s : State) (l : Fin 4) (corr idleUnc : Nat) : State :=
  let x := s.lanes[l]
  if !coreRun s || x.st != .up then s
  else
    let s0 := uncBlocks (bumpBy s (0x1120 + 0x100 * l.val) corr) l idleUnc
    let other := laneUp s0 (sisterLane l)
    if x.farRetAny && decide (s.now ≤ x.farRetAt + ms 1) && other then
      setLane (retireLane s0 l 1 0x2002) l (fun y => { y with lossAt := some s.now })
    else
      let s1 := setLane s0 l (fun y => { endUp y with
        st := .downWait, modeWas := y.mode, uncWas := y.unc, mode := 0, losses := s.now :: recentLosses s l, lossAt := some s.now, byEnd := false })
      if laneI1g s l then etbRole (outDown s1 (lanePort l))
      else if other then leftUp s1 l x
      else
        let s2 := setLane (setLane s1 l (fun y => { y with byEnd := true })) (sisterLane l) (joinEnd s)
        let back := s1.lanes[sisterLane l].st == .retired && s2.lanes[sisterLane l].st == .downWait
        leftUp (if back then setUnit s2 (sisterLane l).val (fun u => { u with req := 1 }) else s2) l x

/-- LOSS_CLASSIFY, 1.0 ms after a loss: a coupler end, or a lane loss that counts as a detected error (R106, R107). -/
def lossClassify (s : State) (l : Fin 4) : State :=
  match s.lanes[l].lossAt with
  | none => s
  | some _ =>
    let s1 := setLane s l (fun x => { x with lossAt := none })
    if s.lanes[l].byEnd || s.lanes[l].st == .retired then s1 else detect (laneEvent (bumpLane s1 l 7) l 0x2002 2 []) l.val 0x2002

/-- DOWN_WAIT_EXPIRY (Table 5-4, R107). -/
def downWaitExpiry (s : State) (l : Fin 4) : State :=
  if coreRun s && s.lanes[l].st == .downWait then
    let n := fld (laneThr s l) 27 24
    if n ≠ 0 ∧ n ≤ (recentLosses s l).length then laneEvent (setLane s l (fun x => { x with st := .held })) l 0x2006 5 []
    else setLane s l toDetect
  else s

/-- HELD_EXIT (Table 5-4). -/
def heldExit (s : State) (l : Fin 4) : State :=
  if coreRun s && s.lanes[l].st == .held then setLane s l toDetect else s

/-- LANE_N10_REOFFER, after 24 h in UP (R100). -/
def laneN10Reoffer (s : State) (l : Fin 4) : State :=
  if s.lanes[l].st == .up then setLane s l (fun x => { x with n10Off := false }) else s

/-- HEALTH_WINDOW (R105). `maxMargin`: the highest SNR margin of the window, in 0.1 dB; `corr`: its corrected bits; `idleUnc`: its
uncorrectable blocks outside frames. -/
def healthWindow (s : State) (l : Fin 4) (maxMargin : Int) (snr corr idleUnc : Nat) : State :=
  if coreRun s && s.lanes[l].st == .up then
    let t := laneThr s l
    let s0 := uncBlocks (bumpBy s (0x1120 + 0x100 * l.val) corr) l idleUnc
    let unc := s.lanes[l].unc + idleUnc
    let bad := decide (maxMargin < (fld t 15 8 : Nat)) || decide (max 1 (fld t 23 20) ≤ unc)
    let marg := decide (maxMargin < (fld t 7 0 : Nat)) || decide (10 ^ min 6 (fld t 19 16) < corr)
    let was := s.lanes[l].health
    let good := if bad || marg then 0 else s.lanes[l].goodRun + 1
    let h := if bad then 2 else if marg then 1 else if 10 ≤ good then 0 else was
    let s2 := setLane s0 l (fun x => { x with health := h, goodRun := good, unc := 0, fecErr := 0, snr := snr % 65536, corr := min 0xFFFF (corr / 4) })
    if h = 2 ∧ was ≠ 2 then laneEvent s2 l 0x2005 3 []
    else if h = 1 ∧ was ≠ 1 then laneEvent s2 l 0x2004 2 []
    else s2
  else s

/-- A tap moves towards the wanted value by at most one step of 1/64 (R104). -/
def tapStep (old want : Int) : Int := if old < want then old + 1 else if want < old then old - 1 else old

/-- EQ_ADAPT (R104, R368): enabled by FLT_BGCFG.EQADAPT, and frozen while the margin, in 0.1 dB, is below MARG_BAD. -/
def eqAdapt (s : State) (l : Fin 4) (margin : Int) (want : List Int) (ffe : Bytes) : State :=
  if coreRun s && s.lanes[l].st == .up && !laneI1g s l && regB s 0xB004 2 then
    if margin < (fld (laneThr s l) 15 8 : Nat) then setLane s l (fun x => { x with low := true })
    else setLane s l (fun x => { x with
      low := false
      taps := (List.range x.taps.length).map (fun i => tapStep (x.taps.getD i 0) (want.getD i (x.taps.getD i 0)))
      ffeReq := (List.range 3).map (fun i => signed 8 (byteAt ffe i)) })
  else s

/-! ### Link messages (R101, R152) -/

/-- The lane exchanges link messages: native, from DETECT onwards. -/
def linkOn (s : State) (l : Fin 4) : Bool :=
  coreRun s && !laneI1g s l && s.lanes[l].st != .disabled && s.lanes[l].st != .retired

/-- A 48-bit stamp. -/
def stamp48 (t : Nat) : Nat := t % 2 ^ 48

/-- The link message a lane sends next (Table 5-5, Table 7-1). -/
def linkMsg (s : State) (l : Fin 4) : Bytes :=
  let x := s.lanes[l]
  let held := x.st == .downWait || x.st == .held
  let flags := x.fallback.toNat + 2 * x.seam.toNat + 4 * (s.boot.phase == .repeater).toNat + 8 * x.retiring.toNat + 16 * held.toNat
  [0x4C#8, BitVec.ofNat 8 ((if 2 ≤ l.val then 128 else 0) + l.val % 2), BitVec.ofNat 8 (laneModes s l), BitVec.ofNat 8 flags] ++ beBytes 8 s.uid ++
  x.ffeReq.map (fun v => BitVec.ofNat 8 (unsigned 8 v)) ++ [0#8] ++ beBytes 2 x.snr ++
  [BitVec.ofNat 8 ((x.seq + 1) % 256), BitVec.ofNat 8 (x.rseq.getD 0)] ++ beBytes 6 ((x.txLog.head?.map Prod.snd).getD 0) ++ beBytes 6 x.rxs ++ [0#8, 0#8, 0#8, 0#8, 0#8]

/-- LINK_MESSAGE_TX: the message leaves with its transmit stamp (R101, R152, R361). -/
def linkMessageTx (s : State) (l : Fin 4) (stamp : Nat) : State :=
  if linkOn s l then
    let s1 := emit s (.link l.val (linkMsg s l))
    setLane s1 l (fun x => { x with
      seq := (x.seq + 1) % 256, txLog := (((x.seq + 1) % 256, stamp48 stamp) :: x.txLog).take 256, ffeReq := [0, 0, 0]
      retSent := if x.retiring then x.retSent + 1 else x.retSent })
  else s

/-- The difference of two 48-bit stamps. -/
def diff48 (a b : Nat) : Int := ((a + 2 ^ 48 - b) % 2 ^ 48 : Nat)

/-- Link delay and neighbour rate ratio after one more exchange, tB3 known (R153). -/
def pdelayUpdate (x : Lane) (w : PdWait) (tB3 : Nat) : Lane :=
  let ratios := ((tB3, w.tA4) :: x.ratios).take 1024
  let old := ratios.getLast?.getD (tB3, w.tA4)
  let dA := diff48 w.tA4 old.2
  let dB := diff48 tB3 old.1
  let nrr : Int := if dA = 0 then 0 else (dB - dA) * 2 ^ 40 / dA
  let back := diff48 tB3 w.tB2
  let d : Int := (diff48 w.tA4 w.tA1 * nsU - (back * nsU + back * nrr / 256)) / 2
  let delays := (d :: x.delays).take 256
  { x with ratios := ratios, delays := delays, exch := x.exch + 1, nrr := nrr, delay := delays.sum / (delays.length : Nat), pdWait := none }

/-- Both values of a lane are valid and in range: it may carry Lanterns (R153, R154). -/
def pdValid (s : State) (l : Fin 4) : Bool := decide (1024 ≤ s.lanes[l].exch) && !s.lanes[l].pdBad && !s.lanes[l].rateBad

/-- The ranges of R154 and R194 after an update. -/
def pdelayCheck (s : State) (l : Fin 4) : State :=
  let x := s.lanes[l]
  if x.exch < 1024 then s
  else
    let bad := decide (x.delay < 0) || decide (1500 * nsU < x.delay)
    let rate := decide ((200 * 2 ^ 40 : Int) < x.nrr * 1000000) || decide (x.nrr * 1000000 < -(200 * 2 ^ 40 : Int))
    let far := schedCommitted s && decide ((dlinkMax s : Int) * nsU < x.delay)
    let s1 := setLane s l (fun x => { x with pdBad := bad, rateBad := rate, dlOver := far })
    let s2 := if bad && !x.pdBad then detect (timeEvent s1 0x4021 3 [l.val]) l.val 0x4021 else s1
    let s3 := if rate && !x.rateBad then timeEvent s2 0x4022 5 [l.val] else s2
    if far && !x.dlOver then schEvent s3 0x5041 5 l.val (portNo (portOf l)) [(x.delay / nsU).toNat] else s3

/-- LINK_MESSAGE_RX (R101, R153, R361). In DOWN_WAIT and HELD the lane does not act on its far end's frames (R100). -/
def linkMessageRx (s : State) (l : Fin 4) (msg : Bytes) (stamp : Nat) : State :=
  let x := s.lanes[l]
  if !linkOn s l || x.st == .downWait || x.st == .held || msg.length != 37 || byteAt msg 0 != 0x4C then s
  else
    let flags := byteAt msg 3
    let seq := byteAt msg 18
    let ret := flags.testBit 3
    let done := match x.pdWait, x.rseq with
      | some w, some r => if seq = (r + 1) % 256 then pdelayUpdate x w (beAt msg 20 6) else { x with pdWait := none }
      | _, _ => x
    let sent := x.txLog.find? (fun e => e.1 == byteAt msg 19)
    let y : Lane := { done with
      farModes := byteAt msg 2 % 4, farFlags := flags, farUid := beAt msg 4 8, farSnr := beAt msg 16 2, farFallback := flags.testBit 0, heldSeen := flags.testBit 4
      ffe := (List.range 3).map (fun i => x.ffe.getD i 0 + signed 8 (byteAt msg (12 + i)))
      rseq := some seq, rxs := stamp48 stamp
      pdWait := sent.map (fun e => { tA1 := e.2, tB2 := beAt msg 26 6, tA4 := stamp48 stamp })
      farRet := if ret then x.farRet + 1 else 0, farRetAny := x.farRetAny || ret, farRetAt := if ret then s.now else x.farRetAt }
    let s1 := setLane s l (fun _ => y)
    let s2 := if done.exch ≠ x.exch then pdelayCheck s1 l else s1
    if 3 ≤ y.farRet ∧ x.st = .up then retireLane s2 l 1 0 else s2

end Sys2Proof.Machine
end

