-- ==== Sys2Proof/Machine/Sched.lean ====
section
/-! DEFINITION. The schedule and the guardian (chapter 8): own static slots, fallbacks, minislots, dynamic signal frames, the
guardian's copy, and the bound check. -/

namespace Sys2Proof.Machine

/-! ### The guardian -/

/-- Every originating path is closed: a table or clock fault, the guardian under test or lost, the schedule lost (R200, R201, R356, R360). -/
def gdClosed (s : State) : Bool :=
  s.sch.tabFault || s.sch.clkFault || underTest s 0x21 || (fUnit s 0x21).lost || (fUnit s 0x22).lost

/-- CRC-32 of a copy of the slot plan; its layout is the node's own (R200). DESIGN CHOICE (log 49). -/
def planCrc (p : List GdEnt) : Nat :=
  Config.standardNat 9 (p.map (fun e => e.laneB.toNat + 2 * e.fb.toNat + 4 * e.slot + 65536 * e.owner)) % 2 ^ 32

/-- GUARDIAN_TABLE_CHECK (R200). -/
def guardianTableCheck (s : State) : State :=
  if committed s && decide (s.sch.plan ≠ s.sch.gdPlan) && !s.sch.tabFault then
    detect (schEvent { s with sch := { s.sch with tabFault := true } } 0x5032 5 0xFFF 0 [planCrc s.sch.plan, planCrc s.sch.gdPlan]) 0x21 0x5032
  else s

/-- A blocked or overrun slot request (R201). -/
def gdBlock (s : State) (laneB : Bool) (z : Nat) : State :=
  detect (schEvent (bumpGd s 6) 0x5030 3 laneB.toNat 0 [z]) 0x22 0x5030

/-- GUARDIAN_CLOSE_TIMEOUT (R201): the path is closed by the guardian's own count. -/
def guardianCloseTimeout (s : State) (laneB : Bool) : State :=
  match (if laneB then s.sch.openB else s.sch.openA) with
  | some z => gdBlock { s with sch := if laneB then { s.sch with openB := none } else { s.sch with openA := none } } laneB z
  | none => s

/-! ### Own static slots -/

/-- The node may take actions tied to the present cycle number: it is the latest one served (R170), and its sleep instant has not passed (R346). -/
def cycleOpen (s : State) : Bool := !s.snuf.pastSi && decide (s.tb.served = some (cycleNo s))

/-- A frame starts on a port: LINKED, admitted, and not on the seam (R136, R183). DEDUCED (log 58). -/
def staticPort (s : State) (p : Port) : Bool := portLinked s p && !seamShut s p && !freshPort s p

/-- A slot path is open: until the schedule's close request, as the frame's last block leaves; a folding port's fallback slots from their start
until DSTART (R201). DESIGN CHOICE (log 49). -/
def gdOpen (s : State) : Bool :=
  (s.sch.openA.isSome && decide (s.now < s.sch.shutA)) || (s.sch.openB.isSome && decide (s.now < s.sch.shutB)) ||
  (s.sch.inStatic && (List.finRange 4).any (fun m => s.sch.fold.getLsbD m.val && (match cycLen s with
    | some c => s.sch.gdPlan.any (fun e => e.seg == segOf s (portOf m) && e.laneB == decide (m.val % 2 = 0) && e.fb &&
        decide (e.slot * slenOf s e.laneB ≤ ttNow s % c) && decide (ttNow s % c < dstart s))
    | none => false)))

/-- The groups left out of a lane of the row (R241). -/
def leftOut (s : State) (g : Fin 2) (b : Bool) (row : Bytes) : Nat :=
  let len := if beAt row (if b then 8 else 0) 2 = 0xFFFF then 0 else beAt row (if b then 10 else 2) 2
  (fitGroups len (laneGroups s g b row)).2

/-- ROW_SHORT, once per activation, at the first frame built (R241). DEDUCED (log 60). -/
def rowShort (s : State) (g : Fin 2) (row : Bytes) : State :=
  if s.sch.shortSaid.contains g then s
  else
    let s1 := { s with sch := { s.sch with shortSaid := g :: s.sch.shortSaid } }
    [false, true].foldl (fun t b =>
      let n := leftOut s g b row
      if n = 0 then t else raise (bumpBy t (0x6080 + 4 * 3) n) 0x7021 2 0xFFF [g.val, ((ownEnt s g).map TopoEnt.slotref).getD 0, b.toNat, n]) s1

/-- Signals are held by a profile switch, or none are committed (R87, R184). -/
def signalsHeld (s : State) : Bool := !service s || !s.boot.types.contains 0x70

/-- The frame of an own slot: process, or null where the payload holds no group (R183, R184). -/
def slotFrame (s : State) (g : Fin 2) (b : Bool) (row : Bytes) (ready : Bool) : Bytes :=
  let len := beAt row (if b then 10 else 2) 2
  let groups := (fitGroups len (laneGroups s g b row)).1
  let null := !ready || signalsHeld s || groups.isEmpty
  let h : NHdr := { kind := if null then 6 else 5, cls := classOf (regF s 0x6000 14 12), dyn := false
                    crit := !null && decide (1 ≤ beAt row (if b then 12 else 4) 2), fold := false, src := ownHandle s g, dtype := 3, dest := []
                    cycle := cycleNo s, slot := beAt row (if b then 8 else 0) 2, len := 0, hops := 0 }
  mkFrame h (if null then [] else groups ++ List.replicate (len - groups.length) 0#8)

/-- What a lane's output remembers of a static frame that starts at train time `start`, ns: when it has left, the critical bytes of a primary for
folding, and the wait since its release (R194 to R196). -/
def outSent (s : State) (l : Fin 4) (f : Bytes) (req start : Nat) (keep : Bool) : State :=
  let h := readHdr f
  let b := decide (l.val % 2 = 1)
  let crit := match (rowOfSlot s b h.slot).bind (planRow s) with
    | some r => beAt r (if b then 12 else 4) 2
    | none => 0
  let gone := start + lenBlocks (dmode s b) h.len - blockT (dmode s b)
  let kept : Kept := { port := portOf l, laneB := b, frame := f.take (24 + crit), hops := h.hops, sent := gone }
  { s with sch := { s.sch with
    outEnd := s.sch.outEnd.set l gone, kept := if keep then s.sch.kept ++ [kept] else s.sch.kept, qmeas := max s.sch.qmeas (min 0xFFFF ((start - req) / 10)) } }

/-- A primary leaves by a port on its lane letter, or is folded at once (R183, R195, R196). -/
def sendPrimary (s : State) (p : Port) (b : Bool) (f : Bytes) : State :=
  let l := if b then laneB p else laneA p
  let h := readHdr f
  if s.sch.fold.getLsbD l.val then foldPrimary s l f
  else if upAtDesign s l then
    let s1 := outSent (sendLane (passCur s 15 l.val true h.cls (cellsOf f)) l (some 15) s.sw.fab.cur f) l f (ttNow s) (ttNow s) (decide (h.kind = 5))
    { s1 with sch := { s1.sch with ownSent := true } }
  else s

/-! ### Frames that wait behind the node's own (R185) -/

/-- The lane a port's Lantern takes: A, or B while A is not UP or has no valid link delay (R156, R174). -/
def lanternLane (s : State) (p : Port) : Option (Fin 4) :=
  if laneUp s (laneA p) && pdValid s (laneA p) then some (laneA p)
  else if laneUp s (laneB p) && pdValid s (laneB p) then some (laneB p) else none

/-- The node's Lantern of the cycle has still to leave on a lane. -/
def lanternDue (s : State) (l : Fin 4) : Bool :=
  let g := segOf s (portOf l)
  s.sch.inStatic && ownHandle s g != 0 && !s.snuf.pastSi && g == upSeg s && s.tb.st != .free && !s.tb.launched && lanternLane s (portOf l) == some l

/-- Lambda: P(N) + STEPS x (DLINK_MAX + 200 ns) + T_L + B, ns (R185). -/
def lambdaNs (s : State) (b : Bool) : Nat := ceilDiv (precU s) 20 + s.tb.steps * (dlinkMax s + 200) + 4 * blockT (dmode s b)

/-- Own static frames still to start on a lane in this cycle: their starts within it, ns. -/
def ownAhead (s : State) (l : Fin 4) : List Nat :=
  let p := portOf l
  let g := segOf s p
  let b := decide (l.val % 2 = 1)
  if !(schedCommitted s && slotsOpen s && !s.sch.gag && !gdClosed s && cycleOpen s && staticPort s p && upAtDesign s l) then []
  else
    (s.sch.foldOut.filter (fun f => f.lane == l.val && (readHdr f.frame).hops == 0)).map FoldOut.at_ ++
    (match ownRow s g with
     | some row =>
       let z := beAt row (if b then 8 else 0) 2
       if z = 0xFFFF ∨ ownHandle s g = 0 ∨ s.inaug[g].yielded = true ∨ s.sch.slotDone.contains (g, b) = true ∨ s.sch.fold.getLsbD l.val = true then []
       else [z * slenOf s b]
     | none => [])

/-- When a static frame may start at its output, in train time, ns; none while it waits for the node's Lantern or for its next own static
frame there (R185, rules 1 to 4). DEDUCED (log 47). -/
def relayAt (s : State) (r : Relay) : Option Nat :=
  let b := decide (r.lane.val % 2 = 1)
  let st := max (r.req + r.late) (s.sch.outEnd[r.lane] + blockT (dmode s b))
  match cycLen s with
  | none => some (r.req + r.late)
  | some c =>
    let base := ttNow s - ttNow s % c
    let due := lanternDue s r.lane
    if due ∧ ttNow s < base + lambdaNs s b ∧ st < base + lambdaNs s b then none
    else if (ownAhead s r.lane).any (fun t => decide (ttNow s ≤ base + t) && decide (base + t < st + lenBlocks (dmode s b) (readHdr r.frame).len)) then none
    else some st

/-- A fallback leaves, or its content is lost where it cannot leave by DSTART or the guardian's paths are closed (R195, R198, R201, Table 8-7). -/
def foldSend (s : State) (r : Relay) (start : Nat) : State :=
  let l := r.lane
  let h := readHdr r.frame
  let b := decide (l.val % 2 = 1)
  let row := ((fbRow s b h.slot).map Prod.fst).getD 0
  let place := match cycLen s with
    | some c => start % c
    | none => 0
  if h.hops = 0 ∧ (s.sch.gag = true ∨ slotsOpen s = false) then s
  else if s.sch.inStatic = false ∨ upAtDesign s l = false ∨ gdClosed s = true ∨ dstart s < place + blockT (dmode s b) * ceilDiv (8 * r.frame.length) 300 then
    foldLost s (sisterLane l) row
  else if !s.sch.gdPlan.any (fun e => e.seg == segOf s (portOf l) && e.laneB == b && e.slot == h.slot && e.fb) then
    foldLost (gdBlock s b h.slot) (sisterLane l) row
  else
    let s1 := enterFab s 15 r.frame
    let s2 := outSent (sendLane (passCur s1 15 l.val true h.cls (cellsOf r.frame)) l (some 15) s1.sw.fab.cur r.frame) l r.frame r.req start false
    bumpSch { s2 with sch := { s2.sch with ownSent := s2.sch.ownSent || decide (h.hops = 0) } } 4

/-- A relayed static frame starts: on its lane, folded where that lane is lost, or lost (R185, R195, R198, R227). -/
def relayOut (s : State) (r : Relay) (start : Nat) : State :=
  let m := r.lane
  let h := readHdr r.frame
  let b := decide (m.val % 2 = 1)
  if r.fold then foldSend s r start
  else if !portLinked s (portOf m) then bumpSw s m.val 10
  else if s.sch.fold.getLsbD m.val then
    if h.fold then foldLost s m (((fbRow s b h.slot).map Prod.fst).getD 0) else if r.good then foldPrimary s m r.frame else s
  else if upAtDesign s m then
    let s1 := passFab s r.inp m.val true h.cls (cellsOf r.frame)
    outSent (sendLane s1 m (some r.inp) s1.sw.fab.cur r.frame) m r.frame r.req start (r.good && h.kind == 5 && !h.fold)
  else s

/-- The static frames of a lane's output start in the order of their arrival, as far as they may (R185). -/
def relayRun : (fuel : Nat) → State → (m : Fin 4) → State
  | 0, s, _ => s
  | n + 1, s, m =>
    match s.sch.relays.find? (fun r => r.lane == m) with
    | none => s
    | some r =>
      match relayAt s r with
      | none => s
      | some t => relayRun n (relayOut { s with sch := { s.sch with relays := s.sch.relays.erase r } } r t) m

/-- Every output's static frames start, as far as they may. -/
def relayAll (s : State) : State := ([0, 1, 2, 3] : List (Fin 4)).foldl (fun t m => relayRun t.sch.relays.length t m) s

/-- A static frame comes to an output and starts, or waits behind those before it. -/
def relayAdd (s : State) (r : Relay) : State := relayRun (s.sch.relays.length + 1) { s with sch := { s.sch with relays := s.sch.relays ++ [r] } } r.lane

/-- The guardian accepts the schedule's request for a slot: own in its copy, in time, and the time base allows it (R201). -/
def gdAccepts (s : State) (g : Fin 2) (b : Bool) (z : Nat) (gdOfs : Int) : Bool :=
  s.sch.gdPlan.any (fun e => e.seg == g && e.laneB == b && e.slot == z && e.owner == ownHandle s g && !e.fb) &&
  decide (200 * gdOfs.natAbs ≤ z * slenOf s b + 20000)

/-- One own slot of a segment (R183, R184, R201). -/
def ownSlot (s : State) (g : Fin 2) (b : Bool) (row : Bytes) (ready : Bool) (gdOfs : Int) : State :=
  let z := beAt row (if b then 8 else 0) 2
  if gdClosed s then s
  else if !gdAccepts s g b z gdOfs then gdBlock s b z
  else
    let s1 := rowShort s g row
    let f := slotFrame s1 g b row ready
    let s2 := if ready then s1 else raiseLim (bumpSch s1 1) 1000000000 0x5040 2 0xFFF [b.toNat, 0, s.inaug[g].epoch, z]
    let ps := [Port.fore, Port.aft].filter (fun p => staticPort s2 p && decide (segOf s2 p = g))
    let s3 := ps.foldl (fun t p => sendPrimary t p b f) (enterFab s2 15 f)
    let shut := s.now + lenBlocks (dmode s b) (readHdr f).len - blockT (dmode s b)
    let s4 := { s3 with sch := if b then { s3.sch with openB := some z, shutB := shut } else { s3.sch with openA := some z, shutA := shut } }
    relayAll (if (readHdr f).kind = 5 ∧ ps.any (fun p => upAtDesign s2 (if b then laneB p else laneA p)) = true then bumpSch s4 0 else s4)

/-- STATIC_SLOT_START: the node's own slot on a lane letter starts (R183). A segment gateway sends in the segment whose slot it is now. A slot is taken
once in a cycle (R170), and not while the own train has yielded (R135). -/
def staticSlotStart (s : State) (b ready : Bool) (gdOfs : Int) : State :=
  if schedCommitted s && slotsOpen s && !s.sch.gag && cycleOpen s then
    ([0, 1] : List (Fin 2)).foldl (fun t g =>
      if g = 1 ∧ segGw s = false then t
      else
        match ownRow s g with
        | none => t
        | some row =>
          let z := beAt row (if b then 8 else 0) 2
          let here := !segGw s || (match cycLen s with
            | some c => decide (ttNow s % c / slenOf s b = z)
            | none => false)
          if z = 0xFFFF ∨ here = false ∨ ownHandle s g = 0 ∨ t.sch.slotDone.contains (g, b) = true ∨ t.inaug[g].yielded = true then t
          else ownSlot { t with sch := { t.sch with slotDone := (g, b) :: t.sch.slotDone } } g b row ready gdOfs) s
  else s

/-- The fallback waiting for a lane whose instant comes first. -/
def nextFold (s : State) (l : Fin 4) : Option FoldOut :=
  let w := s.sch.foldOut.filter (fun f => f.lane == l.val)
  w.find? (fun f => w.all (fun g => decide (f.at_ ≤ g.at_)))

/-- A fallback that waited for lane `l`, as it comes to the output there (R195). -/
def fallbackOf (s : State) (l : Fin 4) (f : FoldOut) : Relay :=
  let base := match cycLen s with
    | some c => ttNow s - ttNow s % c
    | none => 0
  { lane := l, inp := 15, req := max (base + f.at_) (ttNow s), good := true, fold := true, frame := f.frame }

/-- FALLBACK_EMIT: the oldest fallback that waits for surviving lane `l` comes to that output, where the forwarding rules of static frames let it
start (R195, R198, Table 8-7). -/
def fallbackEmit (s : State) (l : Fin 4) : State :=
  match nextFold s l with
  | none => s
  | some f => relayAdd { s with sch := { s.sch with foldOut := s.sch.foldOut.erase f } } (fallbackOf s l f)

/-! ### The dynamic segment -/

/-- Minislot m is one of a row's own (R188). DEDUCED (log 48). -/
def ownMini (row : Option Bytes) (m : Nat) : Bool :=
  match row with
  | some r =>
    let f := beAt r 16 2
    let st := beAt r 18 2
    f != 0xFFFF && decide (f ≤ m) && (m - f) % max 1 st == 0 && decide ((m - f) / max 1 st < beAt r 20 2)
  | none => false

/-- The class of dynamic signal frames (Table 10-10). -/
def dynClass (s : State) : Nat := classOf (regF s 0x6000 10 8)

/-- The segment of a layout record. -/
def layoutSeg (s : State) (r : Nat) : Fin 2 := (layoutRec s r).seg

/-- A dynamic signal frame of a segment as it would be admitted: a record's group, or the descriptor's (R242, R244). -/
def signalFrame (s : State) (g : Fin 2) (rec_ : Option Nat) : DynOut :=
  let o := ownHandle s g
  let (origin, body, first, last) := match rec_ with
    | some r =>
      let x := layoutRec s r
      let d := sgDef s x.first
      let org := if d.param = 0 then o else d.param
      (1, entryGroup s g x.first x.count, mkSid org d.index, mkSid org (d.index + x.count - 1))
    | none => (2, descGroup s g, mkSid o 0, mkSid o 0)
  { origin := origin, laneB := bitAt (reg s 0x5008) (dynClass s), cls := dynClass s, kind := 5, dtype := 2, dest := beBytes 4 first ++ beBytes 4 last
    body := body, tag := rec_.getD 0, seg := g }

/-- Record r is due at the flip of cycle k: a value changed in it, or DYNPER cycles have passed (R244). `old`: the snapshot before it. -/
def recDue (s : State) (old : List (Nat × SgEnt)) (k r : Nat) : Bool :=
  let x := layoutRec s r
  (List.range x.count).any (fun i =>
    decide (((mget old (x.first + i)).getD {}).val ≠ (sgEnt s (x.first + i)).val) || decide (((mget old (x.first + i)).getD {}).st ≠ (sgEnt s (x.first + i)).st)) ||
  (x.dynper != 0 && (match mget s.sg.dynAt r with
    | some a => decide (a + x.dynper ≤ k)
    | none => true))

/-- A due record waits for its row's next own minislot; one whose row can never carry it is discarded at once (R188, R244). -/
def dueRec (s : State) (r : Nat) : State :=
  let g := layoutSeg s r
  let x := signalFrame s g (some r)
  if rowQuota (ownRow s g) x.laneB < 28 + x.body.length then dynOversize s x
  else if s.sg.dynDue.contains r then bumpSg s 5
  else { s with sg := { s.sg with dynDue := s.sg.dynDue ++ [r] } }

/-- The descriptor frame of a segment becomes due where no primary of the row can carry the descriptor; NO_DESCRIPTOR where no minislot can
either, once per activation (R242). -/
def descDueAt (s : State) (old : List (Nat × SgEnt)) (k : Nat) (g : Fin 2) : State :=
  let row := ownRow s g
  let act := s.sg.actDesc.contains g
  let s1 := { s with sg := { s.sg with actDesc := s.sg.actDesc.filter (· != g) } }
  let moved := decide (((mget old 0).getD {}).val ≠ (sgEnt s 0).val)
  if descHomeless row && decide (ownHandle s g ≠ 0) && (act || moved || decide (s.sg.descAt[g] + 64 ≤ k)) then
    let s2 := { s1 with sg := { s1.sg with descAt := s1.sg.descAt.set g k } }
    if rowQuota row (bitAt (reg s 0x5008) (dynClass s)) < 28 + 16 then
      if s.sg.noDesc.contains g then s2
      else raise { s2 with sg := { s2.sg with noDesc := g :: s2.sg.noDesc } } 0x7022 5 0xFFF [g.val, 0, 0, ((ownEnt s g).map TopoEnt.slotref).getD 0xFFFF]
    else { s2 with sg := { s2.sg with descDue := if s2.sg.descDue.contains g then s2.sg.descDue else s2.sg.descDue ++ [g] } }
  else s1

/-- What a flip makes due (R242, R244). `old`: the snapshot before it; `k`: the cycle. -/
def dynDueAt (s : State) (old : List (Nat × SgEnt)) (k : Nat) : State :=
  let recs := if regB s 0x6000 1 then (List.range (layoutCount s)).filter (fun r => (layoutRec s r).lane == 2) else []
  let s1 := (recs.filter (recDue s old k)).foldl dueRec s
  let s2 := descDueAt s1 old k 0
  if segGw s then descDueAt s2 old k 1 else s2

/-- The check of a segment's active table is done: 0x5002; the registers show the segment the node takes its time from (R193). -/
def boundsOf (s : State) (g : Fin 2) : State :=
  if s.inaug[g].st == .settled then
    let b := boundCheck s g s.inaug[g].epoch s.inaug[g].table
    schEvent { s with sch := { s.sch with bound := if g = upSeg s then b else s.sch.bound } } 0x5002 1 0xFFF 0 [b.arrive, b.qextra, b.dynuse]
  else s

/-- BOUND_CHECK_DONE: the results of the check of the active table are published (R193); a segment gateway has two. DEDUCED (log 46). -/
def boundCheckDone (s : State) : State :=
  if schedCommitted s then (let s1 := boundsOf s (upSeg s); if segGw s then boundsOf s1 (if upSeg s = 0 then 1 else 0) else s1) else s

end Sys2Proof.Machine
end

