-- ==== Sys2Proof/Machine/Sleep.lean ====
section
/-! DEFINITION. Sleep and wake (chapter 13): the Snuffer round, drain and the sleep instant, wake events and their races, the Kindle in
both forms, and the Pilot's decisions in EMBER and DOZE. -/

namespace Sys2Proof.Machine

/-! ### Snuffer and Kindle frames -/

/-- A Snuffer payload's fields (Table 13-6). -/
structure Snuf where
  sub      : Nat
  ret      : Bool
  dirAft   : Bool
  round    : Nat
  init     : Nat
  vcount   : Nat
  vhandle  : Nat
  vreason  : Nat
  sleepcyc : Nat
  epoch    : Nat
  consent  : Nat
  deriving DecidableEq, Repr

/-- CONSENT as 32 bytes: bit h mod 8 of byte h / 8. -/
def consentBytes (c : Nat) : Bytes := (beBytes 32 c).reverse

/-- Reads a payload. -/
def readSnuf (b : Bytes) : Snuf :=
  { sub := byteAt b 0, ret := (byteAt b 1).testBit 0, dirAft := (byteAt b 1).testBit 1, round := beAt b 2 2, init := byteAt b 4, vcount := byteAt b 5
    vhandle := byteAt b 6, vreason := byteAt b 7, sleepcyc := beAt b 8 4, epoch := beAt b 12 2, consent := beNat (slice b 16 32).reverse }

/-- A payload of 48 bytes. -/
def snufBytes (x : Snuf) : Bytes :=
  [BitVec.ofNat 8 x.sub, BitVec.ofNat 8 (x.ret.toNat + 2 * x.dirAft.toNat)] ++ beBytes 2 x.round ++
  [BitVec.ofNat 8 x.init, BitVec.ofNat 8 x.vcount, BitVec.ofNat 8 x.vhandle, BitVec.ofNat 8 x.vreason] ++ beBytes 4 (x.sleepcyc % 2 ^ 32) ++
  beBytes 2 x.epoch ++ [0#8, 0#8] ++ consentBytes x.consent

/-- A Snuffer or Kindle frame of this node: traffic class 7, SRC the own handle (R340, R348); a node without one keeps that of the frame it
relays (R341). -/
def snufFrame (s : State) (g : Fin 2) (kind dtype : Nat) (p : Bytes) (src : Nat := 0) : Bytes :=
  mkFrame { kind := kind, cls := 7, dyn := false, crit := false, fold := false, src := if ownHandle s g = 0 then src else ownHandle s g, dtype := dtype, dest := [], cycle := cycleNo s, slot := 0, len := 0, hops := 0 } p

/-- The payload of a good frame of this kind and type and its length, taken by the management processor (R366); SRC 0 is for Dawn alone (R125). -/
def takeKind (s : State) (f : Bytes) (kind dtype len : Nat) (k : State → Bytes → State) : State :=
  let h := readHdr f
  if dawnUp s && hcrcOk f && trailerOk f && h.kind == kind && h.dtype == dtype && h.len == len && h.src != 0 then k s (payloadOf f) else s

/-- A Kindle word (Table 13-4). -/
def kindleWord (src relay : Nat) (abort : Bool) : Bytes :=
  let w := [0x4B#8, BitVec.ofNat 8 (16 * src + 8 * abort.toNat), BitVec.ofNat 8 relay]
  w ++ [crc8 w]

/-- Tone in each bit cell of a word, ns, most significant bit of byte 0 first (Table 13-4). -/
def toneCells (w : Bytes) : List Nat := (w.map (fun b => (List.range 8).map (fun i => if b.getLsbD (7 - i) then 375000 else 125000))).flatten

/-- The bit a cell reads, by the tone it held in ns (R332). -/
def cellBit (n : Nat) : Option Bool :=
  if 250000 < n ∧ n ≤ 500000 then some true else if 50000 ≤ n ∧ n ≤ 250000 then some false else none

/-- The word of 32 cells: any other cell makes it invalid (R332). -/
def readCells (l : List Nat) : Option Bytes :=
  if l.length = 32 ∧ l.all (fun n => (cellBit n).isSome) = true then some (beBytes 4 (ofBits (l.map (fun n => (cellBit n).getD false)))) else none

/-- A word is valid (R332). -/
def wordValid (w : Bytes) : Bool := w.length == 4 && byteAt w 0 == 0x4B && decide (w.getD 3 0 = crc8 (w.take 3))

/-- A tone Kindle is sent on a port (R331). -/
def sendTone (s : State) (p : Port) (w : Bytes) : State := bumpPwr (emit s (.tone p (toneCells w))) 8

/-- Both ports. -/
def bothPorts : List Port := [.fore, .aft]

/-! ### The Pilot's copy (R329) -/

/-- The configuration the Pilot takes at a commit: PWR_WAKECFG, TDROP and the selective-wake registers. DEDUCED (log 86). -/
def pilotCopy (s : State) : State :=
  { s with pilot := { s.pilot with cfg := {
      wake := reg s 0xA020, tdrop := regF s 0xA010 31 24
      sw := Vector.ofFn (fun (n : Fin 8) => (List.range 5).map (fun i => reg s (0xA200 + 0x20 * n.val + 4 * i)))
      i1g := bothPorts.filter (portI1g s) } } }

/-- Selective wake of channel n in the given registers. -/
def swOn (w : List Word) : Bool := bitAt (w.getD 0 0) 31

/-- A frame matches (R335). -/
def swMatch (w : List Word) (f : CanFrame) : Bool :=
  let cfg := w.getD 0 0
  let n := min 8 f.dlc
  let dm (i : Nat) : Nat := fld (w.getD (3 + i / 4) 0) (8 * (i % 4) + 7) (8 * (i % 4))
  !f.fdf && f.ide == bitAt cfg 30 && !f.rtr && (Nat.xor f.id (w.getD 1 0).toNat &&& (w.getD 2 0).toNat) == 0 && f.dlc == fld cfg 19 16 &&
  ((w.getD 3 0 == 0 && w.getD 4 0 == 0) || (List.range n).any (fun i => byteAt f.data i &&& dm i != 0))

/-- The selective-wake registers of a channel while the core runs. -/
def swRegs (s : State) (c : Fin 8) : List Word := (List.range 5).map (fun i => reg s (0xA200 + 0x20 * c.val + 4 * i))

/-! ### Votes and rounds (R339 to R344) -/

/-- A round is in progress at this node: it initiates one, holds a vote, or holds a COMMIT. -/
def inRound (s : State) : Bool := (s.snuf.init && s.snuf.result == 1) || s.snuf.voted || s.snuf.commit || s.snuf.comPend

/-- A matching frame was received within QUIET seconds on a channel with SWEN set. -/
def canActive (s : State) : Bool :=
  let q := regF s 0xA010 23 16
  q != 0 && (List.finRange 8).any (fun c => swOn (swRegs s c) && (match s.snuf.lastSw[c] with
    | some t => decide (s.now ≤ t + 1000000000 * q)
    | none => false))

/-- The veto reason of this node, 0 for none; of several the lowest code (Table 13-7). `mine`: its own round; `epoch`: the TOKEN's.
DEDUCED (log 84). -/
def vetoReason (s : State) (g : Fin 2) (wakeLow mine : Bool) (epoch : Nat) : Nat :=
  if regB s 0xA018 0 then 1
  else if wakeLow && !bscan s then 2
  else if canActive s then 3
  else if s.line.node == .startup then 4
  else if s.boot.phase == .switchVerify || s.boot.phase == .switchLoad then 5
  else if s.inaug[g].pending.isSome || decide (epoch ≠ s.inaug[g].epoch) || (segGw s && !mine) then 6
  else if inRound s then 7
  else if !regB s 0xA010 0 then 8 else 0

/-- The segments of the node. -/
def segs (s : State) : List (Fin 2) := if segGw s then [0, 1] else [0]

/-- CONSENT bits are kept apart by segment: bit h of segment 1 is bit 256 + h. -/
def consentOf (s : State) (g : Fin 2) : Nat := s.snuf.consent / 2 ^ (256 * g.val) % 2 ^ 256

/-- Every handle of the active tables has consented (R342). -/
def allConsent (s : State) : Bool :=
  (segs s).all (fun g => s.inaug[g].table.all (fun e => e.handle == 0 || (consentOf s g).testBit e.handle))

/-- A sleep event: ROUND and the initiator's handle, then what it adds (R354). -/
def sleepEvent (s : State) (code sev : Nat) (more : List Nat) : State := raise s code sev 0xFFF ([s.snuf.round, s.snuf.initH] ++ more)

/-- The node goes to DRAIN at a COMMIT (R345): the Pilot takes its copy and arms its detectors. A REPEATER node only holds the COMMIT. -/
def enterDrain (s : State) (cyc : Nat) : State :=
  let s1 := pilotCopy (bumpPwr s 3)
  { s1 with
    line := { s1.line with node := if s1.line.node == .run then .drain else s1.line.node }
    pilot := { s1.pilot with armed := true, pendTone := none, pendPin := false, pendCan := none, pendWord := none }
    snuf := { s1.snuf with commit := true, voted := false, sleepcyc := cyc % 2 ^ 32, result := 2, aborted := false, pastSi := false, toneEnd := [] } }

/-- The COMMIT frame of a segment (R342). DEDUCED (log 85). -/
def commitFrame (s : State) (g : Fin 2) : Bytes :=
  snufFrame s g 3 3 (snufBytes { sub := 2, ret := false, dirAft := false, round := s.snuf.round, init := ownHandle s g, vcount := 0, vhandle := 0, vreason := 0
                                 sleepcyc := s.snuf.sleepcyc, epoch := s.inaug[g].epoch, consent := consentOf s g })

/-- COMMIT is sent into every segment in the control allowance. -/
def sendCommit (s : State) : State :=
  (segs s).foldl (fun t g => queueCtl t (commitFrame t g) (segLinked t g .fore) (segLinked t g .aft)) s

/-- The initiator commits in cycle kc: SLEEPCYC = kc + 4 + ceil(RTT / C) (R342). -/
def commitNow (s : State) : State :=
  let k := cycleNo s + 4 + (match cycLen s with
    | some c => ceilDiv s.snuf.rtt c
    | none => 0)
  let s1 := enterDrain { s with snuf := { s.snuf with comPend := false, repeatCom := true } } k
  sleepEvent (sendCommit s1) 0x1004 1 [s1.snuf.sleepcyc, s1.snuf.rtt]

/-- The dynamic segment of the initiator: a COMMIT due, or its repeat in every cycle up to SLEEPCYC - 1 (R342). -/
def snufDynamic (s : State) : State :=
  if s.snuf.comPend then commitNow s
  else if s.snuf.repeatCom && s.snuf.commit && !cycReached (cycleNo s) s.snuf.sleepcyc then sendCommit s
  else s

/-- The round ends without a COMMIT. -/
def roundEnd (s : State) (result : Nat) : State :=
  { s with snuf := { s.snuf with result := result, init := false, voted := false, out := [], comPend := false, repeatCom := false } }

/-- Every token has returned: committed, vetoed or timed out (R342). -/
def roundCheck (s : State) : State :=
  if s.snuf.vcount ≠ 0 then roundEnd (sleepEvent s 0x1002 1 [s.snuf.vcount, s.snuf.vhandle, s.snuf.vreason]) 3
  else if s.snuf.out ≠ [] then s
  else if allConsent s then
    let s1 := { s with snuf := { s.snuf with rtt := (s.snuf.startAt.map (s.now - ·)).getD 0, comPend := true, init := false } }
    if s.snuf.startAt.isNone || (ctlFree s1 && (cycLen s1).isSome) then commitNow s1 else s1
  else bumpPwr (roundEnd (sleepEvent s 0x1003 2 []) 4) 9

/-- A token cannot go on out of a port: it is an END, the seam, an I1G port, the end of the segment, or a port not yet admitted (R136). -/
def tokenEnd (s : State) (g : Fin 2) (p : Port) : Bool := !segLinked s g p || seamShut s p || freshPort s p

/-- The veto of the node's own round, in any of its segments; of several the lowest code (R339, R344). -/
def ownVeto (s : State) (wakeLow : Bool) : Nat :=
  ((segs s).map (fun g => vetoReason s g wakeLow true s.inaug[g].epoch)).foldl (fun a b => if a = 0 then b else if b = 0 then a else min a b) 0

/-- A round starts at this node (R339, R341, R344). `src`: the source of Table 0-7. -/
def roundStart (s : State) (wakeLow : Bool) (src : Nat) : State :=
  if !coreRun s then s
  else
    let why := if inRound s then 7 else ownVeto s wakeLow
    if why ≠ 0 then raise s 0x1011 1 0xFFF [why, src]
    else
      let r := (s.snuf.ownRound + 1) % 65536
      let mine := ((segs s).map (fun g => if ownHandle s g = 0 then 0 else 2 ^ (256 * g.val + ownHandle s g))).sum
      let ports := bothPorts.filter (fun p => !tokenEnd s (segOf s p) p)
      let s1 := bumpPwr { s with snuf := { s.snuf with
        round := r, ownRound := r, result := 1, vreason := 0, vcount := 0, vhandle := 0, init := true, initH := ownHandle s 0, startAt := none, out := ports
        consent := mine, voted := true, voteRound := r, aborted := false } } 0
      let s2 := sleepEvent s1 0x1001 0 []
      let s3 := ports.foldl (fun t p =>
        let g := segOf t p
        queueCtl t (snufFrame t g 3 4 (snufBytes { sub := 1, ret := false, dirAft := p == .aft, round := r, init := ownHandle t g, vcount := 0, vhandle := 0
                                                   vreason := 0, sleepcyc := 0, epoch := t.inaug[g].epoch, consent := consentOf t g })) (p == .fore) (p == .aft)) s2
      if ports = [] then roundCheck s3 else s3

/-- A token goes on at the first permitted start at least 50 µs after its arrival (R341). `src`: the SRC it came with. -/
def tokenOn (s : State) (p : Port) (x : Snuf) (src : Nat) : State :=
  { s with sch := { s.sch with ctl := s.sch.ctl ++
      [{ frame := snufFrame s (segOf s p) 3 4 (snufBytes x) src, fore := p == .fore, aft := p == .aft, after := s.now + 50000 }] } }

/-- TOKEN_RX (R341). -/
def tokenRx (s : State) (p : Port) (f : Bytes) (wakeLow : Bool) : State :=
  takeKind s f 3 4 48 (fun s b =>
    let x := readSnuf b
    let g := segOf s p
    let h := ownHandle s g
    let q := otherPort p
    let src := byteAt f 2
    if x.sub ≠ 1 then s
    else if h ≠ 0 ∧ x.init = h then
      if s.snuf.init ∧ x.round = s.snuf.round ∧ x.ret = true ∧ s.snuf.out.contains p = true then
        roundCheck { s with snuf := { s.snuf with
          out := s.snuf.out.filter (· != p), consent := s.snuf.consent ||| (x.consent * 2 ^ (256 * g.val))
          vcount := min 255 (s.snuf.vcount + x.vcount), vhandle := if s.snuf.vhandle = 0 then x.vhandle else s.snuf.vhandle
          vreason := if s.snuf.vreason = 0 then x.vreason else s.snuf.vreason } }
      else s
    else if x.ret then
      let drop := s.snuf.voted && s.snuf.voteRound == x.round && s.snuf.initH == x.init && x.vcount != 0
      let s1 := if drop then { s with snuf := { s.snuf with voted := false } } else s
      if tokenEnd s g q then s1 else tokenOn s1 q x src
    else
      let again := s.snuf.voted && s.snuf.voteRound == x.round && s.snuf.initH == x.init
      let why := if s.line.node == .repeater || again then 0 else vetoReason s g wakeLow false x.epoch
      let (s1, y) :=
        if h = 0 then (s, x)
        else if why = 0 then
          (bumpPwr { s with snuf := { s.snuf with round := x.round, initH := x.init, voted := x.vcount == 0, voteRound := x.round, result := 1, vreason := 0, vcount := 0, vhandle := 0, aborted := false } } 1,
           { x with consent := x.consent ||| 2 ^ h })
        else
          (bumpPwr s 2, { x with vcount := min 255 (x.vcount + 1), vhandle := if x.vhandle = 0 then h else x.vhandle, vreason := if x.vhandle = 0 then why else x.vreason })
      if tokenEnd s1 g q then tokenOn s1 p { y with ret := true } src else tokenOn s1 q y src)

/-- ROUND_RTO_EXPIRY (R341, R342): the initiator times out, a voter drops its vote. -/
def roundRto (s : State) : State :=
  if s.snuf.init && s.snuf.result == 1 then bumpPwr (roundEnd (sleepEvent s 0x1003 2 []) 4) 9
  else if s.snuf.voted then { s with snuf := { s.snuf with voted := false, result := if s.snuf.result = 1 then 4 else s.snuf.result } }
  else s

/-- SNUFFER_COMMIT_RX (R342, R345). An aborted node learns the sleep instant from it (R349). -/
def commitRx (s : State) (p : Port) (f : Bytes) : State :=
  takeKind s f 3 3 48 (fun s b =>
    let x := readSnuf b
    let _ := p
    if x.sub ≠ 2 then s
    else if s.snuf.commit then s
    else if s.line.node == .repeater then enterDrain { s with snuf := { s.snuf with round := x.round, initH := x.init } } x.sleepcyc
    else if s.line.node == .run && s.snuf.voted && s.snuf.voteRound == x.round && s.snuf.initH == x.init then enterDrain s x.sleepcyc
    else if s.snuf.aborted && s.snuf.round == x.round && s.snuf.initH == x.init then { s with snuf := { s.snuf with sleepcyc := x.sleepcyc } }
    else s)

/-! ### Wake events in DRAIN (R347 to R349) -/

/-- The node holds a COMMIT or a vote, and its sleep instant has not passed. -/
def wakeable (s : State) : Bool := coreRun s && !s.snuf.pastSi && (s.snuf.commit || s.snuf.voted)

/-- The round is aborted at this node: back to RUN, with DRAIN_ABORT. DEDUCED (log 87). -/
def abortRound (s : State) (cause chan id : Nat) : State :=
  let s1 := sleepEvent (bumpPwr s 4) 0x1006 1 [cause, chan, id]
  { s1 with
    line := { s1.line with node := if s1.line.node == .drain then .run else s1.line.node }
    pilot := { s1.pilot with armed := false }
    snuf := { s1.snuf with commit := false, voted := false, init := false, comPend := false, repeatCom := false, out := [], result := 5, aborted := true } }

/-- A wake event (R347): the abort, and a Kindle frame at the next permitted start; one that would fall past SI does not leave (R346). -/
def wakeEvent (s : State) (cause chan : Nat) (id : Option Nat) : State :=
  if wakeable s then
    let s1 := abortRound s cause chan (id.getD 0)
    let s2 := { s1 with pilot := { s1.pilot with latch := { src := 6, cause := cause, chan := chan, krelay := 0, idOk := id.isSome, id := id.getD 0 } } }
    bumpPwr ((segs s2).foldl (fun t g =>
      let b := kindleWord cause 0 true ++ beBytes 8 t.uid ++ beBytes 2 t.snuf.round ++ [0#8, 0#8]
      queueCtl t (snufFrame t g 4 3 b) (segLinked t g .fore) (segLinked t g .aft)) s2) 8
  else s

/-- A valid frame of a running channel is a wake event where the channel wakes: any frame with CANEN set and SWEN clear, a matching one
with SWEN set (R347). A matching frame also counts for CAN_ACTIVE (Table 13-7). -/
def wakeByFrame (s : State) (c : Fin 8) (f : CanFrame) : State :=
  let w := swRegs s c
  if swOn w then
    if swMatch w f then
      wakeEvent { s with snuf := { s.snuf with lastSw := s.snuf.lastSw.set c (some s.now) } } 3 c.val (some f.id)
    else s
  else if regB s 0xA020 (16 + c.val) then wakeEvent s 2 c.val none
  else s

/-- KINDLE_FRAME_RX (R342, R347): the round ends; a node in DRAIN returns to RUN without a Kindle frame of its own. -/
def kindleFrameRx (s : State) (p : Port) (f : Bytes) : State :=
  takeKind s f 4 3 16 (fun s b =>
    let _ := p
    let round := beAt b 12 2
    if s.snuf.pastSi then s
    else if s.snuf.commit then
      let s1 := abortRound s 8 0 0
      { s1 with pilot := { s1.pilot with latch := { src := 6, cause := 8 } } }
    else if s.snuf.init && s.snuf.result == 1 && s.snuf.round == round then
      roundEnd (sleepEvent s 0x1002 1 [s.snuf.vcount, s.snuf.vhandle, s.snuf.vreason]) 3
    else if s.snuf.voted && s.snuf.voteRound == round then { s with snuf := { s.snuf with voted := false, comPend := false, result := 3 } }
    else s)

/-- PWR_SLPCMD as written (R339, R347, R419). -/
def slpCmd (s : State) (src : Nat) (v : Word) (wakeLow : Bool) : State :=
  if fld v 31 16 ≠ 0x3C5A then s
  else
    let s1 := if bitAt v 1 then wakeEvent s 7 0 none else s
    if bitAt v 0 && (src != 3 || regB s 0xA010 1) then roundStart s1 wakeLow src else s1

/-- The tone of an aborted node on a port that is an END (R349). -/
def abortTone (s : State) (p : Port) : State :=
  if portI1g s p || portAnyUp s p then s
  else
    let s1 := sendTone s p (kindleWord s.pilot.latch.cause 0 true)
    { s1 with snuf := { s1.snuf with toneEnd := p :: s1.snuf.toneEnd.filter (· != p) } }

/-- A port became an END within 10 ms after the instant an aborted node did not sleep at (R349). -/
def abortEnd (s : State) (p : Port) : State :=
  if s.snuf.aborted && s.snuf.abortAt != 0 && decide (s.now ≤ s.snuf.abortAt + ms 10) && !s.snuf.toneEnd.contains p then abortTone s p else s

/-- SLEEP_INSTANT at the node's own SI (R346, Table 13-8). A node that aborted sends the tone of R349 on its END ports. DEDUCED (log 88). -/
def sleepInstant (s : State) : State :=
  if !coreRun s || s.snuf.pastSi then s
  else if s.snuf.commit then
    let s1 := { s with
      snuf := { s.snuf with pastSi := true, repeatCom := false }
      sch := { s.sch with ctl := [], dyn := [], foldOut := [], kept := [], relays := [] }
      flt := { s.flt with queue := [], defRows := [], test := none, second := false, lossTest := false, pdTest := false, units := s.flt.units.map (fun u => { u with defer_ := false }) } }
    let s2 := (List.finRange 8).foldl (fun t c => if t.can[c].active.isSome then setChan t c (fun k => { k with stop := true }) else canOff t c) s1
    let s3 := { s2 with lanes := s2.lanes.map (fun x => { x with st := if x.st == .retired then .retired else .disabled, mode := 0, lossAt := none }) }
    let s4 := (List.range 10).foldl (fun t n => outDown t (Fin.ofNat 20 (4 + n))) s3
    let s5 := bumpPwr (sleepEvent s4 0x1005 0 []) 5
    let s6 := flushLog s5
    { s6 with mram := { s6.mram with stats := s6.log.stats } }
  else if s.snuf.aborted then
    bothPorts.foldl abortTone
      { s with snuf := { s.snuf with abortAt := s.now, toneEnd := [] }, sch := { s.sch with ctl := s.sch.ctl.filter (fun c => byteAt c.frame 0 != 4) } }
  else s

/-- KINDLE_ABORT_REPEAT: the tone once more, 25 ms later, if the port is still an END (R349). -/
def kindleAbortRepeat (s : State) (p : Port) : State :=
  if coreRun s && s.snuf.toneEnd.contains p then
    let s1 := { s with snuf := { s.snuf with toneEnd := s.snuf.toneEnd.filter (· != p) } }
    if portI1g s1 p || portAnyUp s1 p then s1 else sendTone s1 p (kindleWord s1.pilot.latch.cause 0 true)
  else s

/-! ### EMBER and DOZE (R330 to R336) -/

/-- EMBER is left for DOZE; the error counts start at 0. -/
def enterDoze (s : State) : State :=
  if s.line.node == .ember then
    { s with
      line := { s.line with node := .doze }
      pilot := { s.pilot with dozeFrom := s.now, committed := false, entryTone := false, entryCan := 0, relayed := false, errs := Vector.replicate 8 0 } }
  else s

/-- DOZE is left for EMBER when nothing is left to decide. -/
def dozeBack (s : State) : State :=
  if s.line.node == .doze && !s.pilot.committed && !s.pilot.entryTone && s.pilot.entryCan == 0 then
    let s1 := bumpPwr (addDoze s) 7
    { s1 with line := { s1.line with node := .ember }, pilot := { s1.pilot with dozes := min 255 (s1.pilot.dozes + 1) } }
  else s

/-- The node commits to wake (R333, R334): the source is latched, the tone goes out of every port but the one the word came by. -/
def wakeCommit (s : State) (w : WakeSrc) (word : Bytes) (from_ : Option Port) : State :=
  let s0 := enterDoze s
  if s0.line.node == .doze && !s0.pilot.committed then
    let s1 := bumpPwr { s0 with pilot := { s0.pilot with committed := true, latch := w } } 6
    let ports := bothPorts.filter (fun p => some p != from_ && !s1.pilot.cfg.i1g.contains p)
    wakePairs (ports.foldl (fun t p => sendTone t p word) s1)
  else s0

/-- A wake of this node's own, with KRELAY 0. -/
def wakeOwn (s : State) (w : WakeSrc) : State := wakeCommit s w (kindleWord w.src 0 false) none

/-- A valid word commits (R332, R333): KSRC is copied, KRELAY incremented. -/
def wakeWord (s : State) (p : Port) (w : Bytes) : State :=
  let relay := byteAt w 2
  let abort := (byteAt w 1).testBit 3
  let out := [0x4B#8, w.getD 1 0, BitVec.ofNat 8 (min 255 (relay + 1))]
  wakeCommit s { src := if abort then 6 else 1, cause := if abort then 1 else 0, krelay := relay } (out ++ [crc8 out]) (some p)

/-- The Pilot watches: in EMBER and DOZE, or armed between SI and EMBER. -/
def pilotPend (s : State) : Bool := s.line.core && s.snuf.pastSi

/-- KINDLE_TONE_DETECT (R330). -/
def kindleToneDetect (s : State) (p : Port) : State :=
  if !bitAt s.pilot.cfg.wake 31 || s.pilot.cfg.i1g.contains p then s
  else if pilotPend s then { s with pilot := { s.pilot with pendTone := some p } }
  else
    let s1 := enterDoze s
    if s1.line.node == .doze && !s1.pilot.committed then { s1 with pilot := { s1.pilot with entryTone := true } } else s

/-- CAN_WAKE_DETECT (R330, Table 13-5). -/
def canWakeDetect (s : State) (c : Fin 8) : State :=
  if !bitAt s.pilot.cfg.wake (16 + c.val) then s
  else if pilotPend s then { s with pilot := { s.pilot with pendCan := some c.val } }
  else if s.line.node == .ember || (s.line.node == .doze && !s.pilot.committed) then
    let s1 := enterDoze s
    if swOn s1.pilot.cfg.sw[c] then { s1 with pilot := { s1.pilot with entryCan := s1.pilot.entryCan ||| BitVec.ofNat 8 (2 ^ c.val) } }
    else wakeOwn s1 { src := 2, chan := c.val }
  else s

/-- WAKE_PIN_DETECT: WAKE# low for 1.0 ms (R330, R347); it reads high under a boundary-scan instruction (R46). -/
def wakePinDetect (s : State) : State :=
  if bscan s then s
  else if wakeable s then wakeEvent s 5 0 none
  else if !bitAt s.pilot.cfg.wake 30 then s
  else if pilotPend s then { s with pilot := { s.pilot with pendPin := true } }
  else if s.line.node == .ember || (s.line.node == .doze && !s.pilot.committed) then wakeOwn s { src := 5 }
  else s

/-- LINE_WAKE_TIMER (R336): a line input not in FEED has carried 40 V for 10 s in EMBER with SLEPT set. -/
def lineWakeTimer (s : State) (p : Fin 4) : State :=
  if s.line.node == .ember && s.pilot.slept && pairMode (lfctl s) p.val != 1 then wakeOwn s {} else s

/-- KINDLE_WORD_RX (R332, R347): the cells of the word on each lane of the port; a valid word on either is taken (Table 13-2).
DEDUCED (log 85). -/
def kindleWordRx (s : State) (p : Port) (cellsA cellsB : List Nat) : State :=
  let a := (readCells cellsA).getD []
  let w := if wordValid a then a else (readCells cellsB).getD []
  if !wordValid w then s
  else if wakeable s then (if portAnyUp s p then s else wakeEvent s 1 0 none)
  else if pilotPend s then (if bitAt s.pilot.cfg.wake 31 then { s with pilot := { s.pilot with pendWord := some (p, w) } } else s)
  else if s.line.node == .doze && s.pilot.entryTone then wakeWord s p w
  else s

/-- KINDLE_WORD_TIMEOUT (Table 13-5). -/
def kindleWordTimeout (s : State) : State :=
  if s.line.node == .doze && !s.pilot.committed then dozeBack { s with pilot := { s.pilot with entryTone := false } } else s

/-- SW_FRAME_RX (R335, R347). -/
def swFrameRx (s : State) (c : Fin 8) (e : SwEvent) : State :=
  if wakeable s then
    match e with
    | .frame f => if swOn (swRegs s c) then wakeByFrame s c f else s
    | _ => s
  else if pilotPend s then
    match e with
    | .frame f => if swOn s.pilot.cfg.sw[c] && swMatch s.pilot.cfg.sw[c] f then { s with pilot := { s.pilot with pendCan := some c.val } } else s
    | _ => s
  else if s.line.node == .doze && !s.pilot.committed && swOn s.pilot.cfg.sw[c] then
    let put (t : State) (n : Nat) : State := { t with pilot := { t.pilot with errs := t.pilot.errs.set c n } }
    match e with
    | .skipped => s
    | .frame f =>
      if swMatch s.pilot.cfg.sw[c] f then wakeOwn (put s (s.pilot.errs[c] - 1)) { src := 3, chan := c.val, idOk := true, id := f.id }
      else put s (s.pilot.errs[c] - 1)
    | .error =>
      let n := s.pilot.errs[c] + 1
      if 32 ≤ n then wakeOwn (put s n) { src := 4, chan := c.val } else put s n
  else s

/-- DOZE_TIMEOUT: no dominant edge on any selective-wake channel for DOZETMO (Table 13-5). -/
def dozeTimeout (s : State) : State :=
  if s.line.node == .doze && !s.pilot.committed then dozeBack { s with pilot := { s.pilot with entryCan := 0 } } else s

/-- A committed node starts its core (R336); one shut down by heat only once it has cooled (R65). -/
def wakeStart (s : State) : State :=
  if s.line.node == .doze && s.pilot.committed then
    let s1 := { s with line := { s.line with uvlo := true } }
    if s.line.thermOff then s1 else startCore (addDoze s1)
  else s

/-- KINDLE_TONE_SENT (R336). -/
def kindleToneSent (s : State) : State :=
  if s.pilot.committed then { s with pilot := { s.pilot with relayed := true } } else s

/-- SLEEP_CORE_OFF (Table 13-8): EMBER with SLEPT set; a wake latched since SI leaves it for DOZE at once (R330). -/
def sleepCoreOff (s : State) : State :=
  if s.line.core && s.snuf.pastSi then
    let s1 := coreOff s
    let s2 := eachPair { s1 with pilot := { s1.pilot with slept := true, sleptAt := s.now, dozes := 0, asleep := 0, latch := {}, armed := false, committed := false
                                                          pendTone := none, pendPin := false, pendCan := none, pendWord := none } } holdRelay
    let s3 := match s.pilot.pendWord with
      | some (p, w) => wakeWord s2 p w
      | none => match s.pilot.pendTone with
        | some p => kindleToneDetect s2 p
        | none => s2
    let s4 := match s.pilot.pendCan with
      | some c => canWakeDetect s3 (Fin.ofNat 8 c)
      | none => s3
    if s.pilot.pendPin then wakePinDetect s4 else s4
  else s

/-- LINE_DROP at SI + TDROP (R337): FEED pairs of a node that has not committed to wake sink towards bias, or turn off. -/
def lineDrop (s : State) : State :=
  if s.pilot.slept && (s.line.node == .ember || (s.line.node == .doze && !s.pilot.committed)) then
    eachPair s (fun t p =>
      if pairMode (lfctl t) p.val = 1 then
        let u := emberPair t p
        if pairSt u p == .bias then setPair u p (fun x => { x with sink := true }) else u
      else t)
  else s

/-- EMBER_BIAS_REACHED: LPn has fallen to 6.0 V; the pair stops sinking and holds ember bias (R337, R57). -/
def emberBiasReached (s : State) (p : Fin 4) : State :=
  if s.line.pairs[p].sink then setPair s p (fun x => { x with st := .bias, sink := false }) else s

/-- The WAKE event of the first commit after a start from EMBER or DOZE (R352). -/
def wakeReport (s : State) : State :=
  if s.pilot.wakeRun then
    let l := s.pilot.latch
    let src := l.src * 2 ^ 28 + l.cause * 2 ^ 24 + l.chan * 2 ^ 21 + l.krelay * 256 + s.pilot.dozes
    sleepEvent { s with pilot := { s.pilot with wakeRun := false } } 0x1010 0 [src, l.idOk.toNat * 2 ^ 31 + l.id, s.pilot.asleep]
  else s

end Sys2Proof.Machine
end

