-- ==== Sys2Proof/Machine/ImageCheck.lean ====
section
/-! DEFINITION. The checks of the image (R74 to R79) and what each chapter's section must hold: R115, R143, R144, R169, R175, R178,
R180, R181, R213, R214, R218, R238, R239, R241, R251, R265, R266, R273, R300, R372, R380 and Table 16-6. -/

namespace Sys2Proof.Machine

/-! ### Items (R78, R79) -/

/-- One item of a section body (Table 4-7). -/
structure Item where
  table  : Bool
  target : Nat
  data   : Bytes
  deriving DecidableEq, Repr

/-- Reads the items of a body; none where an item is malformed or runs past the end (structural on a bound of their number). -/
def readItems : (left : Nat) → Bytes → Option (List Item)
  | 0, b => if b = [] then some [] else none
  | n + 1, b =>
    if b = [] then some []
    else
      let kind := byteAt b 0
      let len := beAt b 4 4
      if b.length < 8 ∨ (kind ≠ 1 ∧ kind ≠ 2) ∨ byteAt b 1 ≠ 0 ∨ len < 4 ∨ len % 4 ≠ 0 ∨ b.length < 8 + len then none
      else (readItems n (b.drop (8 + len))).map (fun r => { table := kind == 2, target := beAt b 2 2, data := slice b 8 len } :: r)

/-- The items of a body. -/
def bodyItems (b : Bytes) : Option (List Item) := readItems (b.length / 8 + 1) b

/-- The register blocks of a section type, first and last offset (Table 4-6). -/
def blocksOf (type : Nat) : Option (Nat × Nat) :=
  match type with
  | 0x10 => some (0x0000, 0x0FFF)
  | 0x20 => some (0x1000, 0x1FFF)
  | 0x30 => some (0x2000, 0x2FFF)
  | 0x40 => some (0x3000, 0x3FFF)
  | 0x50 => some (0x4000, 0x4FFF)
  | 0x60 => some (0x5000, 0x5FFF)
  | 0x70 => some (0x6000, 0x6FFF)
  | 0x80 => some (0x7000, 0x8FFF)
  | 0x90 => some (0x9000, 0x9FFF)
  | 0xA0 => some (0xA000, 0xAFFF)
  | 0xB0 => some (0xB000, 0xBFFF)
  | 0xC0 => some (0xC000, 0xCFFF)
  | 0xD0 => some (0xD000, 0xDFFF)
  | 0xE0 => some (0xE000, 0xEFFF)
  | _ => none

/-- A common section type (Table 4-6). -/
def commonType (type : Nat) : Bool := decide (type ≤ 0x50)

/-- The tables a section type owns, with the bytes each may hold. DEDUCED (log 28). -/
def tableMax (type ident : Nat) : Option Nat :=
  match type, ident with
  | 0x30, 1 => some 16
  | 0x50, 1 => some (1024 * 32)
  | 0x60, 2 => some (4096 * 4)
  | 0x60, 3 => some (4096 * 4)
  | 0x60, 4 => some (512 * 16)
  | 0x70, 1 => some (65536 * 16)
  | 0x70, 2 => some (65535 * 8)
  | 0x70, 3 => some (8192 * 16)
  | 0x80, t => if 0x10 ≤ t ∧ t ≤ 0x17 then some (128 * 16) else none
  | 0xB0, 1 => some (256 * 32)
  | 0xC0, 1 => some (64 * 16)
  | 0xC0, 2 => some (128 * 16)
  | _, _ => none

/-- A word an image may write to an offset (R79): only RW and RWL fields may be non-zero, and no field is WO. -/
def imgWordOk (off : Nat) (w : Word) : Bool :=
  match desc off with
  | some d => d.wo == 0 && decide (w &&& ~~~BitVec.ofNat 32 (d.rw ||| d.rwl) = 0)
  | none => decide (w = 0)

/-- The words of an item's data. -/
def itemWords (d : Bytes) : List Word := (List.range (d.length / 4)).map (fun i => BitVec.ofNat 32 (beAt d (4 * i) 4))

/-- An item a section of this type may hold (R79). -/
def itemOk (type : Nat) (i : Item) : Bool :=
  match blocksOf type with
  | none => false
  | some (lo, hi) =>
    if i.table then
      match tableMax type i.target with
      | some n => decide (i.data.length ≤ n)
      | none => false
    else
      i.target % 4 == 0 && decide (lo ≤ i.target) && decide (i.target + i.data.length ≤ hi + 1) &&
      ((List.range (itemWords i.data).length).zip (itemWords i.data)).all (fun x => i.target + 4 * x.1 != 0xA100 && imgWordOk (i.target + 4 * x.1) x.2)

/-- A body whose every item may stand in a section of this type. -/
def bodyOk (type : Nat) (b : Bytes) : Bool := (bodyItems b).any (fun l => l.all (itemOk type))

/-- One word of an image is written: RW and RWL fields take it. -/
def imgWrite (s : State) (off : Nat) (w : Word) : State :=
  match desc off with
  | some d => setReg s off ((reg s off &&& ~~~BitVec.ofNat 32 (d.rw ||| d.rwl)) ||| (w &&& BitVec.ofNat 32 (d.rw ||| d.rwl)))
  | none => s

/-- One item is applied (R78): a later one overrides what an earlier one wrote. -/
def applyItem (type : Nat) (s : State) (i : Item) : State :=
  if i.table then
    let k := 65536 * type + i.target
    { s with tables := mput s.tables k (i.data ++ ((mget s.tables k).getD []).drop i.data.length) }
  else ((List.range (itemWords i.data).length).zip (itemWords i.data)).foldl (fun t x => imgWrite t (i.target + 4 * x.1) x.2) s

/-- A body has a REG item with a word for this register. -/
def bodySets (b : Bytes) (off : Nat) : Bool := ((bodyItems b).getD []).any (fun i => !i.table && inGroup off i.target (itemWords i.data).length)

/-- The items of a body are applied in their order. -/
def applyBody (s : State) (type : Nat) (b : Bytes) : State := ((bodyItems b).getD []).foldl (applyItem type) s

/-! ### What the sections of one profile must hold. `s` holds the registers and tables they load. -/

/-- LANES (R115, Table 5-12). -/
def lanesOk (s : State) : Bool :=
  let en (l : Nat) := regB s (0x1100 + 0x100 * l) 0
  let modes (l : Nat) := regF s (0x1100 + 0x100 * l) 3 1
  let i1g (l : Nat) := en l && modes l == 4
  (List.range 4).all (fun l => decide (1 ≤ modes l) && decide (modes l ≤ 4) && (!i1g l || (l % 2 == 0 && !en (l + 1)))) && !(i1g 0 && i1g 2)

/-- INAUG (R143, R144). -/
def inaugOk (s : State) : Bool :=
  let i1g (l : Nat) := regB s (0x1100 + 0x100 * l) 0 && regF s (0x1100 + 0x100 * l) 3 1 == 4
  let uuid := (imgTable s 0x30 1).length
  !(regB s 0x2000 9 && (i1g 0 || i1g 2)) && (uuid == 0 || uuid == 16) && (!regB s 0x2000 11 || uuid == 16)

/-- C in ns as SCH_CFG.CLEN sets it. -/
def imgCycle (s : State) : Nat := 125000 * 2 ^ regF s 0x4000 2 0

/-- TIME (R169, R175). -/
def timeOk (s : State) : Bool :=
  decide (10 * regF s 0x3004 18 0 < imgCycle s) && decide (regF s 0x3000 11 8 ≤ regF s 0x3000 19 12) && decide (regF s 0x3080 15 8 ≤ 127) &&
  (regF s 0x3080 19 16 == 0 || decide (11 ≤ regF s 0x3080 19 16))

/-- The slots a row names on a lane letter: slot, and the payload it carries there (R181). -/
def rowSlots (b : Bytes) (laneB : Bool) : List (Nat × Nat) :=
  let one (i li : Nat) := if beAt b i 2 = 0xFFFF then [] else [(beAt b i 2, beAt b li 2)]
  if laneB then one 8 10 ++ one 6 4 else one 0 2 ++ one 14 12

/-- The own minislots of a row. -/
def rowMinis (b : Bytes) : List Nat :=
  if beAt b 16 2 = 0xFFFF then [] else (List.range (beAt b 20 2)).map (fun j => beAt b 16 2 + j * beAt b 18 2)

/-- No entry stands twice. -/
def distinct (l : List Nat) : Bool := decide (l.eraseDups.length = l.length)

/-- SCHEDULE (R178, R180, R181). -/
def scheduleOk (s : State) : Bool :=
  let la := reg s 0x4004
  let lb := reg s 0x4008
  let nms := regF s 0x4010 11 0
  let dawn := regF s 0x4010 19 12
  let ms := regF s 0x4010 29 20
  let dst := regF s 0x400C 18 0
  let c := imgCycle s
  let dend := dst + nms * ms
  let lane (w : Word) := decide (1 ≤ fld w 29 28) && decide (fld w 29 28 ≤ 2) && decide (1 ≤ fld w 25 13) && decide (fld w 25 13 ≤ 4096) &&
    decide (32 ≤ fld w 12 0) && decide (fld w 12 0 ≤ 4096) && decide (fld w 25 13 * fld w 12 0 ≤ dst)
  let t := imgTable s 0x50 1
  let rows := (List.range (t.length / 32)).drop 1 |>.map (fun r => slice t (32 * r) 32)
  let slots (b : Bool) := (rows.map (fun r => rowSlots r b)).flatten
  let laneSlots (b : Bool) (w : Word) := distinct ((slots b).map Prod.fst) &&
    (slots b).all (fun x => x.1 != 0 && decide (x.1 < fld w 25 13) && decide (lenBlocks (fld w 29 28) x.2 ≤ 10 * fld w 12 0))
  let row (r : Bytes) := decide (beAt r 2 2 ≤ 2048) && decide (beAt r 4 2 ≤ beAt r 2 2) && decide (beAt r 10 2 ≤ 2048) && decide (beAt r 12 2 ≤ beAt r 10 2) &&
    (beAt r 6 2 == 0xFFFF || decide (1 ≤ beAt r 4 2)) && (beAt r 14 2 == 0xFFFF || decide (1 ≤ beAt r 12 2)) && beAt r 22 2 == 0 &&
    (beAt r 16 2 == 0xFFFF || (decide (1 ≤ beAt r 18 2) && decide (beAt r 18 2 ≤ 2048)))
  decide (regF s 0x4000 2 0 ≤ 5) && lane la && lane lb && decide (10 * dst ≤ c) && decide (10 * dend + 10 * regF s 0x400C 31 24 ≤ c) &&
  decide (1 ≤ dawn) && decide (nms ≤ 2048) && (nms == 0 || decide (dawn ≤ nms)) && decide (16 ≤ ms) && decide (ms ≤ 512) &&
  decide (dst ≤ regF s 0x3004 18 0) &&
  (slice t 0 32).all (· == 0#8) && rows.all row && laneSlots false la && laneSlots true lb &&
  (rows.map rowMinis).flatten.all (fun m => decide (dawn ≤ m) && decide (m < nms)) && distinct ((rows.map rowMinis).flatten)

/-- SWITCH (R211, R213, R214, R218). -/
def switchOk (s : State) : Bool :=
  let q (c : Nat) := reg s (0x5020 + 4 * c)
  let groups := itemWords (imgTable s 0x60 2)
  let vlans := itemWords (imgTable s 0x60 3)
  let t := imgTable s 0x60 4
  let ents := (List.range (t.length / 16)).map (fun k => slice t (16 * k) 16)
  let valid := ents.filter (fun b => (byteAt b 8).testBit 0)
  let key (b : Bytes) := beAt b 0 8 * 8 + byteAt b 8 / 4 % 2
  let set (b : Bytes) := fdbSet (beAt b 0 6) (beAt b 6 2)
  decide (20 * ((List.range 8).map (fun c => fld (q c) 15 0)).sum ≤ 7680) && (List.range 8).all (fun c => decide (fld (q c) 15 0 ≤ fld (q c) 31 16)) &&
  groups.all (fun w => decide (w.toNat ≤ 1)) && vlans.all (fun w => fld w 30 23 == 0) &&
  ents.all (fun b => beAt b 6 2 / 4096 == 0 && decide (byteAt b 8 < 8) && (slice b 10 6).all (· == 0#8)) &&
  valid.all (fun b => (if (byteAt b 8).testBit 1 then decide (1 ≤ byteAt b 9) && decide (byteAt b 9 ≤ 254) else decide (byteAt b 9 ≤ 10)) &&
    (!(byteAt b 8).testBit 2 || regB s 0x2000 9)) &&
  distinct (valid.map key) && valid.all (fun b => decide ((valid.filter (fun x => set x == set b)).length ≤ 4))

/-- One entry definition (R238, R239). -/
def defOk (s : State) (e : Nat) : Bool :=
  let b := slice (imgTable s 0x70 1) (16 * e) 16
  let d := readDef b
  let z (i n : Nat) := (slice b i n).all (· == 0#8)
  let width := decide (1 ≤ d.width) && decide (d.width ≤ 64) && decide (byteAt b 2 ≤ 1)
  let group := decide (256 ≤ d.param) && decide (d.param ≤ 511)
  match d.dir with
  | 0 => b.all (· == 0#8)
  | 1 =>
    width && decide (d.kind ≤ 4) && (d.param == 0 || group) && !(d.param == 0 && d.index == 0) &&
    (match d.kind with
      | 2 => d.width == 1 && z 8 8
      | 3 => decide (beAt b 8 8 < 2 ^ d.width)
      | 4 => z 10 6 && (subDefOf s (beAt b 8 2)).dir == 2 && (subDefOf s (beAt b 8 2)).width == d.width
      | _ => z 8 8) &&
    (d.kind != 1 ||
      ((List.range ((imgTable s 0x70 3).length / 16)).filter (fun r => (mapRec s r).dir == 1 && (mapRec s r).entry == e)).length == 1)
  | 2 =>
    width && decide (d.kind ≤ 5) && z 9 7 &&
    (match d.kind with
      | 0 => group || (decide (1 ≤ d.param) && decide (d.param ≤ 254))
      | 1 => d.param == 0
      | 2 => signed 16 d.param != 0 && decide ((signed 16 d.param).natAbs ≤ 253)
      | 3 => decide (1 ≤ d.param) && decide (d.param ≤ 254) && decide (e + d.param ≤ 65536) && (List.range (d.param - 1)).all (fun i => (sgDef s (e + 1 + i)).dir == 0)
      | _ => d.param != 0)
  | _ => false

/-- One layout record (R241). -/
def layoutOk (s : State) (r : Nat) : Bool :=
  let b := slice (imgTable s 0x70 2) (8 * r) 8
  let x := layoutRec s r
  let d := sgDef s x.first
  decide (byteAt b 0 ≤ 2) && decide (byteAt b 1 ≤ 1) && decide (1 ≤ x.first) && decide (1 ≤ x.count) && decide (x.count ≤ 255) &&
  (byteAt b 0 == 2 || beAt b 6 2 == 0) &&
  (List.range x.count).all (fun i => let y := sgDef s (x.first + i); y.dir == 1 && y.width == d.width && y.param == d.param && sgSeg s y == sgSeg s d && y.index == d.index + i)

/-- One mapping record (R251). `s` holds the CAN tables of the profile. -/
def mapOk (s : State) (r : Nat) : Bool :=
  let b := slice (imgTable s 0x70 3) (16 * r) 16
  let m := mapRec s r
  let d := subDefOf s m.entry
  let obj := slice (imgTable s 0x80 (0x10 + m.chan)) (16 * m.obj) 16
  let inside := (List.range m.len).all (fun k =>
    if m.flags.testBit 0 then decide (m.start + k < 512) else decide (8 * (m.start / 8) + (7 - m.start % 8) + k < 512))
  match m.dir with
  | 0 => b.all (· == 0#8)
  | 1 =>
    decide (m.chan < 8) && decide (m.obj < 128) && decide (m.flags < 2) && byteAt b 9 == 0 && m.entry != 0 && (d.dir == 2 || (d.dir == 1 && d.kind == 1)) && m.len == d.width && decide (m.start < 512) && inside &&
    m.phase == 0 && m.mingap == 0 && regB s (0x7000 + 0x200 * m.chan) 0 && byteAt obj 0 / 64 == 2
  | 2 =>
    decide (m.chan < 8) && decide (m.obj < 128) && decide (m.flags < 16) && m.flags / 2 % 4 != 3 && byteAt b 9 == 0 && m.entry != 0 && d.dir != 0 && m.len == d.width && decide (m.start < 512) && inside &&
    (if m.period = 0 then m.phase == 0 else decide (m.phase < m.period)) && regB s (0x7000 + 0x200 * m.chan) 0 && byteAt obj 0 / 64 == 3
  | _ => false

/-- SIGNALS (R238, R239, R241, R251). -/
def signalsOk (s : State) : Bool :=
  let n := sgCount s
  let pubs := (List.range n).filter (fun e => e != 0 && (sgDef s e).dir == 1)
  let used := ((List.range (layoutCount s)).map (fun r => (List.range (layoutRec s r).count).map (fun i => (layoutRec s r).first + i))).flatten
  (slice (imgTable s 0x70 1) 0 16).all (· == 0#8) && ((List.range n).drop 1).all (defOk s) &&
  distinct (pubs.map (fun e => let d := sgDef s e; (sgSeg s d).val * 2 ^ 32 + d.param * 65536 + d.index)) &&
  (List.range (layoutCount s)).all (layoutOk s) && distinct used && (List.range ((imgTable s 0x70 3).length / 16)).all (mapOk s)

/-- CAN (R265, R266, R273). -/
def canOk (s : State) : Bool :=
  (List.range 8).all (fun c =>
    let n := reg s (0x7004 + 0x200 * c)
    let d := reg s (0x7008 + 0x200 * c)
    let fden := regB s (0x7000 + 0x200 * c) 1
    let n1 := fld n 25 18 + 1
    let n2 := fld n 17 11 + 1
    let d1 := fld d 18 14 + 1
    let d2 := fld d 13 10 + 1
    let nbit := (fld n 30 26 + 1) * (1 + n1 + n2)
    let dbit := (fld d 23 19 + 1) * (1 + d1 + d2)
    let t := imgTable s 0x80 (0x10 + c)
    decide (80 ≤ nbit) && decide (8 ≤ 1 + n1 + n2) && decide (10 ≤ dbit) && decide (5 ≤ 1 + d1 + d2) && decide (dbit ≤ nbit) &&
    decide (fld n 10 4 + 1 ≤ min n1 n2) && decide (fld d 9 6 + 1 ≤ min d1 d2) &&
    (!bitAt n 31 || (decide (3 ≤ fld n 25 18) && decide (640 ≤ nbit))) &&
    (List.range (t.length / 16)).all (fun o =>
      let cfg := BitVec.ofNat 32 (beAt t (16 * o) 4)
      let oid := BitVec.ofNat 32 (beAt t (16 * o + 4) 4)
      let msk := BitVec.ofNat 32 (beAt t (16 * o + 8) 4)
      (!bitAt cfg 28 || fden) && (!bitAt cfg 27 || bitAt cfg 28) && (!bitAt cfg 24 || bitAt cfg 30) && !bitAt cfg 23 && fld cfg 22 0 == 0 &&
      fld oid 31 29 == 0 && !bitAt msk 31 && beAt t (16 * o + 12) 4 == 0 && (bitAt cfg 29 || fld oid 28 11 == 0)))

/-- WINDOWS (R300, Tables 12-17 and 12-19). -/
def windowsOk (s : State) : Bool :=
  let on := (List.range 16).filter (fun n => bitAt (winCfg s n) 31)
  let lim (sp : Nat) := match sp with
    | 0 => 65536
    | 1 => 1048576
    | _ => 16777216
  (List.range 16).all (fun n => decide (fld (winCfg s n) 27 24 ≤ 12) && winSpace s n != 3 && winOrder s n != 3 && fld (winCfg s n) 18 17 != 3 &&
    decide (regF s (0x9700 + 0x10 * n) 15 12 ≤ 12) && regF s (0x9700 + 0x10 * n) 28 27 != 3) &&
  on.all (fun n => winBase s n % winSize s n == 0 && winRofs s n % winSize s n == 0 && decide (0x1000000 ≤ winBase s n) &&
    decide (winBase s n + winSize s n ≤ 0x4000000) && (winSpace s n == 2 || winOrder s n == 1) && decide (winRofs s n + winSize s n ≤ lim (winSpace s n)) &&
    (fld (winCfg s n) 18 17 != 1 || winSpace s n == 2)) &&
  on.all (fun n => on.all (fun m => n == m || decide (winBase s n + winSize s n ≤ winBase s m) || decide (winBase s m + winSize s m ≤ winBase s n)))

/-- A source field a rule or statistic may name (R372): a register outside the monitor block, not WO, whose read has no effect. -/
def srcOk (off lo width : Nat) : Bool :=
  off % 4 == 0 && decide (1 ≤ width) && decide (lo + width ≤ 32) && off / 0x1000 != 0xD && off != 0x3010 && off != 0x3048 && off != 0x206C &&
  (match desc off with
    | some d => decide (BitVec.ofNat 32 d.wo &&& BitVec.ofNat 32 (mask (lo + width - 1) lo) = 0#32)
    | none => false)

/-- The rule that LINK names, followed `n` times. -/
def linkFrom (t : Bytes) : (n : Nat) → (r : Nat) → Option Nat
  | 0, r => some r
  | n + 1, r => if (byteAt t (32 * r)).testBit 1 then linkFrom t n (byteAt t (32 * r + 18)) else none

/-- POLICY (R369, R372). -/
def policyOk (s : State) : Bool :=
  let t := imgTable s 0xB0 1
  (List.range (t.length / 32)).all (fun r =>
    let b := slice t (32 * r) 32
    let act := byteAt b 1
    let arg := beAt b 2 2
    decide (byteAt b 0 < 4) && byteAt b 19 == 0 && (slice b 24 8).all (· == 0#8) &&
    decide (1 ≤ act) && decide (act ≤ 7) && decide (byteAt b 8 ≤ 2) && decide (byteAt b 9 ≤ 5) && beAt b 10 2 != 0 &&
    srcOk (beAt b 4 2) (byteAt b 6) (byteAt b 7) && (act == 5 || beAt b 20 4 == 0) &&
    (match act with
      | 1 => decide (arg ≤ 5)
      | 2 => unitAssigned arg
      | 3 => decide (arg ≤ 3)
      | 4 => decide (arg ≤ 3)
      | 5 => decide (arg ≤ 7)
      | 6 => decide (arg ≤ 7)
      | _ => true) &&
    (!(byteAt b 0).testBit 1 || !((List.range 256).any (fun k => linkFrom t (k + 1) r == some r))))

/-- RECORDER (R380). -/
def recorderOk (s : State) : Bool :=
  let one (ext : Bool) (t : Bytes) := (List.range (t.length / 16)).all (fun i =>
    let b := slice t (16 * i) 16
    let fl := byteAt b 0
    decide (fl < 16) && byteAt b 3 == 0 && (if ext then !fl.testBit 2 else !fl.testBit 3) &&
    (!fl.testBit 0 || (srcOk (beAt b 4 2) (byteAt b 1) (byteAt b 2) && beAt b 6 2 != 0 && (!fl.testBit 2 || beAt b 12 4 == 0))))
  one false (imgTable s 0xC0 1) && one true (imgTable s 0xC0 2)

/-- MONITOR (Table 16-6). -/
def monitorOk (s : State) : Bool := decide (regF s 0xD000 2 0 ≤ 5)

/-- The sections of a profile hold what their chapters require; the answer names the first type that does not. -/
def badSection (s : State) (types : List Nat) : Option Nat :=
  types.find? (fun t => match t with
    | 0x20 => !lanesOk s
    | 0x30 => !inaugOk s
    | 0x40 => !timeOk s
    | 0x50 => !scheduleOk s
    | 0x60 => !switchOk s
    | 0x70 => !signalsOk s
    | 0x80 => !canOk s
    | 0x90 => !windowsOk s
    | 0xB0 => !policyOk s
    | 0xC0 => !recorderOk s
    | 0xD0 => !monitorOk s
    | _ => false)

/-! ### Header, line-feed block, directory -/

/-- The header is valid but for its CRC (R74). -/
def headerFieldsOk (b : Bytes) : Bool :=
  beAt b 0 4 == 0x42454E42 && beAt b 4 2 == 1 && beAt b 6 2 == 0x40 && decide (0x100 ≤ beAt b 8 4) && decide (beAt b 8 4 ≤ 0x800000) && beAt b 8 4 % 4 == 0 &&
  decide (1 ≤ beAt b 12 2) && decide (beAt b 12 2 ≤ 64) && decide (byteAt b 14 < 8) && decide (byteAt b 15 < 16) && (byteAt b 15).testBit 0 &&
  (slice b 28 16).all (fun c => decide (0x20 ≤ c.toNat) && decide (c.toNat ≤ 0x7E)) && (slice b 44 16).all (· == 0#8)

/-- HDR_CRC matches. -/
def headerCrcOk (b : Bytes) : Bool := decide (beAt b 60 4 = (crc32 (b.take 60)).toNat)

/-- LF_CRC matches, of the block from byte 0x40. -/
def lfCrcOk (b : Bytes) : Bool := decide (beAt b 20 4 = (crc32 (b.take 20)).toNat)

/-- The fields of the line-feed block (R75). -/
def lfFieldsOk (b : Bytes) (auth : Bool) (profiles : Nat) : Bool :=
  beAt b 0 2 == 1 && beAt b 2 2 == (if auth then 0x38 else 0x18) &&
  (List.range 4).all (fun p => decide (beAt b (4 + 4 * p) 4 < 2 ^ 20) && (profiles.testBit p || beAt b (4 + 4 * p) 4 == 0))

/-- A directory entry. -/
def readDir (b : Bytes) (i : Nat) : DirEnt :=
  let e := slice b (16 * i) 16
  { idx := i, type := beAt e 0 2, pmask := byteAt e 2, offset := beAt e 4 4, length := beAt e 8 4, crc := beAt e 12 4 }

/-- The directory keeps R76 and R77. -/
def dirOk (b : Bytes) (n profiles imgLen : Nat) (auth : Bool) : Bool :=
  let l := (List.range n).map (readDir b)
  let fin := imgLen - (if auth then 32 else 0)
  l.all (fun e => (blocksOf e.type).isSome && e.pmask != 0 && (e.pmask &&& profiles) == e.pmask && (!commonType e.type || e.pmask == profiles) &&
    e.offset % 4 == 0 && e.length % 4 == 0 && decide (8 ≤ e.length) && decide (e.length ≤ 0x7FFF00) && decide (0x84 + 16 * n ≤ e.offset) &&
    decide (e.offset + e.length ≤ fin)) &&
  (List.range n).all (fun i => byteAt b (16 * i + 3) == 0) &&
  (List.range n).all (fun i => (List.range n).all (fun j => i == j ||
    (let x := readDir b i
     let y := readDir b j
     (decide (x.offset + x.length ≤ y.offset) || decide (y.offset + y.length ≤ x.offset)) && (x.type != y.type || (x.pmask &&& y.pmask) == 0))))

end Sys2Proof.Machine
end

