-- ==== Sys2Proof/Machine/Boot.lean ====
section
/-! DEFINITION. Start-up, the Beneb image, profiles (chapter 4) and the boundary-scan instructions (R44, R46). -/

namespace Sys2Proof.Machine

/-- The start-up sequencer enters a phase. -/
def setPhase (s : State) (p : Phase) : State := { s with boot := { s.boot with phase := p } }

/-- An image event: failing part, index, TYPE, attempt, expected and computed CRC (R91). -/
def imgEvent (s : State) (code sev : Nat) (b : BadRead) : State :=
  raise s code sev 0xFFF [b.part, b.idx, b.type, s.boot.attempt + 1, b.expected, b.computed]

/-- AUTH of the header. -/
def imgAuth (s : State) : Bool := s.boot.flags.testBit 0

/-- An NVM read command: Read for the header, else the fast or quad read that QUAD selects (Table 4-2). -/
def nvmRead (s : State) (addr len : Nat) : State := emit s (.nvm (if s.boot.flags.testBit 1 then 0x6B else 0x0B) addr len [])

/-- Length of the line-feed block. -/
def lfLen (s : State) : Nat := if imgAuth s then 56 else 24

/-- Offset after the directory and its CRC. -/
def dirEnd (s : State) : Nat := 0x84 + 16 * s.boot.sections

/-- Where the read of section `i` starts: at its body, or with AUTH at the end of the previous one (R80). -/
def readFrom (s : State) (i : Nat) (e : DirEnt) : Nat :=
  if imgAuth s then (match i with
    | 0 => dirEnd s
    | j + 1 => ((s.boot.dir[j]?).map (fun d => d.offset + d.length)).getD (dirEnd s))
  else e.offset

/-- The next read of the load (R71, R80): directory, sections in ascending order of offset, tag. -/
def nextRead (s : State) : State :=
  if !s.boot.dirSeen then nvmRead s 0x80 (16 * s.boot.sections + 4)
  else
    match s.boot.dir[s.boot.next]? with
    | some e => nvmRead s (readFrom s s.boot.next e) (e.offset + e.length - readFrom s s.boot.next e)
    | none => if imgAuth s then nvmRead s (s.boot.imgLen - 32) 32 else s

/-- The reads of a verify or load step: the line-feed block and the target's sections (R87). -/
def targetSecs (s : State) (p : Nat) : List DirEnt := s.boot.dir.filter (fun e => e.pmask.testBit p && !commonType e.type)

/-- Their commands. -/
def targetReads (s : State) : State := (targetSecs s s.boot.target).foldl (fun t e => nvmRead t e.offset e.length) (nvmRead s 0x40 (lfLen s))

/-- A read failed its check: what failed is kept, the read is counted and repeated (R82). The reads of a profile switch are counted with
those of the start. DESIGN CHOICE (log 108). -/
def repeatRead (s : State) (b : BadRead) (again : State → State) : State :=
  again { s with boot := { s.boot with attempt := s.boot.attempt + 1, retries := min 7 (s.boot.retries + 1), bad := b } }

/-- A read passed: IMG_NVM_RETRY after a repeat, with the part that failed before (R82). -/
def readPassed (s : State) : State :=
  let s1 := if 0 < s.boot.attempt then imgEvent s 0xC009 3 s.boot.bad else s
  { s1 with boot := { s1.boot with attempt := 0, blanks := 0, bad := {} } }

/-! ### What the sections load -/

/-- A state whose registers and tables are those the given sections load, and nothing else. -/
def loadBodies (s : State) (l : List (Nat × Bytes)) : State :=
  l.foldl (fun t x => applyBody t x.1 x.2) { s with regs := [], tables := [] }

/-- The bodies of the sections received so far that belong to a profile. -/
def profBodies (s : State) (p : Nat) : List (Nat × Bytes) :=
  ((s.boot.dir.take s.boot.next).filter (fun e => e.pmask.testBit p)).map (fun e => (e.type, slice s.boot.img e.offset e.length))

/-- What the load has written so far: it shows in the registers, and takes effect at commit (R81). DEDUCED (log 20). -/
def loaded (s : State) : State := loadBodies s (profBodies s s.boot.psel)

/-- Section types of a profile. -/
def profTypes (s : State) (p : Nat) : List Nat := (s.boot.dir.filter (fun e => e.pmask.testBit p)).map DirEnt.type

/-- A section type, of any profile present, that breaks a rule of its chapter. -/
def badProfile (s : State) : Option Nat :=
  ((List.range 4).filter s.boot.profiles.testBit).findSome? (fun p => badSection (loadBodies s (profBodies s p)) (profTypes s p))

/-! ### REPEATER (R83) -/

/-- A register that an image may set: it has an RW or RWL field. -/
def configReg (off : Nat) : Bool := (desc off).any (fun d => d.rw ||| d.rwl != 0)

/-- Registers take the words of a load. -/
def takeRegs (s ld : State) : State := ld.regs.foldl (fun t x => setReg t x.1 x.2) s

/-- The blocks that a node without an image keeps in their reset states (R83): CAN channels, local ports, the host interface with its
remote windows, SYNCO; and those that only an image sets up: signals, slot plans, policy. The monitor is at VIEW level. -/
def blocksReset (s : State) : State :=
  let s1 := (List.range 12).foldl (fun t n => outDisable t (Fin.ofNat 20 (4 + n))) s
  { s1 with
    tb := { s1.tb with synco := false }
    sch := { s1.sch with plan := [], gdPlan := [], dyn := [], openA := none, openB := none, kept := [], foldOut := [], fold := 0, foldEnd := 0 }
    sg := {}, can := Vector.replicate 8 {}, hb := {}, pol := {}
    mon := { s1.mon with coll := 0, baud := 0, ses := { s1.mon.ses with level := min 1 s1.mon.ses.level }, rem := { s1.mon.rem with level := min 1 s1.mon.rem.level } } }

/-- The node enters REPEATER with the code that led to it; the loaded registers return to reset, PWR_LFCTL excepted (Table 4-1).
The cycle length in force, if any, is kept (R179); every lane is enabled for N10 and N2G5 (R94). DEDUCED (log 25). -/
def enterRepeater (s : State) (code : Nat) : State :=
  let clen := if schedCommitted s then some (regF s 0x4000 2 0) else s.tb.clen
  let s0 := blocksReset s
  let s1 := { s0 with
    regs := s0.regs.filter (fun e => !configReg e.1 || e.1 == 0xA100)
    tables := []
    line := { s0.line with node := .repeater }
    tb := { s0.tb with clen := clen }
    lanes := s0.lanes.map (fun x => if x.st == .disabled || x.mode == 3 then toDetect x else x)
    boot := { s0.boot with phase := .repeater, cause := code, committed := false, types := [], img := [], checked := false, wrote := [] } }
  reportOwn s1 0 false 0

/-- An image event that leads to REPEATER. -/
def imageFails (s : State) (code : Nat) (b : BadRead) : State := enterRepeater (imgEvent s code 5 b) code

/-! ### Commit (R81) -/

/-- The collector resolves as a window's target does; the own node is a valid result (R407). -/
def collBind (s : State) : State :=
  let w := reg s 0xD008
  let h := match fld w 31 30 with
    | 0 => none
    | 1 => resolve s 0 0 (fld w 15 0)
    | 2 => resolve s 0 1 0
    | _ => resolve s 0 3 (fld w 15 0)
  { s with mon := { s.mon with coll := h.getD 0 } }

/-- Lanes at commit (Table 5-4): EN clear leads to DISABLED and disables the output (R227); an I1G lane starts in DETECT, its port an END
(R116). A native lane taken out of UP leaves its port as a lost one does (R108). -/
def laneCommit (s : State) (l : Fin 4) : State :=
  let x := s.lanes[l]
  if !bitAt (laneCfg s l) 0 then
    let s1 := if x.st == .disabled then s else setLane s l (fun x => { toDetect x with st := .disabled })
    outDisable (if x.st == .up then leftUp s1 l x else s1) (lanePort l)
  else if x.st == .disabled then setLane s l toDetect
  else if laneI1g s l then
    let s1 := setLane s l toDetect
    if x.st == .up && !laneUp s1 (sisterLane l) then portEnds s1 l x else s1
  else s

/-- FEED or RELAY on the pairs of an I1G port is blocked (R117). -/
def feedBlocked (s : State) (p : Port) : State :=
  let ps : List (Fin 4) := [laneA p, laneB p]
  if portI1g s p && ps.any (fun q => pairMode (lfctl s) q.val != 0) then
    laneEvent (ps.foldl (fun t q => if pairMode (lfctl t) q.val = 0 then t else setPair t q (fun x => { x with st := .off, sink := false })) s) (laneA p) 0x2030 5 []
  else s

/-- The objects of a channel as its table gives them; GWOWN marks those a gateway TX record serves (R254, R273). -/
def chanObjs (s : State) (c : Fin 8) : List (Nat × CObj) :=
  let t := imgTable s 0x80 (0x10 + c.val)
  let owned := ((List.range ((imgTable s 0x70 3).length / 16)).filter (fun r => (mapRec s r).dir == 2 && (mapRec s r).chan == c.val)).map (fun r => (mapRec s r).obj)
  (List.range (t.length / 16)).foldl (fun m o =>
    let cfg := BitVec.ofNat 32 (beAt t (16 * o) 4 + if owned.contains o then 2 ^ 23 else 0)
    let x : CObj := { cfg := cfg, oid := BitVec.ofNat 32 (beAt t (16 * o + 4) 4), omask := BitVec.ofNat 32 (beAt t (16 * o + 8) 4) }
    if x = {} then m else mput m o x) []

/-- A CAN channel at commit (Table 11-3). -/
def canCommit (s : State) (c : Fin 8) : State :=
  if bitAt (canCfg s c) 0 && !s.lamp.dead.getLsbD c.val && !(fUnit s (8 + c.val)).lost then
    setChan (canOff s c) c (fun k => { k with st := 1, tec := 0, rec_ := 0, recov := 0, objs := chanObjs s c })
  else canOff s c

/-- Outputs at commit: HOST and GW come up; an enabled local port waits for its PHY (R227). -/
def portsCommit (s : State) : State :=
  let s1 := (List.range 10).foldl (fun t n =>
    let p : Fin 20 := Fin.ofNat 20 (4 + n)
    if regB t (0xE100 + 0x10 * n) 0 then setSw t p (fun o => { o with hst := 2 }) else outDisable t p) s
  setSw (setSw s1 14 (fun o => { o with hst := 0 })) 15 (fun o => { o with hst := 0 })

/-- Policy windows restart empty (R370). -/
def policyRestart (s : State) : State :=
  { s with pol := { s.pol with tick := 0, rules := [], house := [], nrules := (imgTable s 0xB0 1).length / 32 } }

/-- What the commit at start-up and at the end of a profile switch share, for the blocks that are not common. -/
def blocksCommit (s : State) : State :=
  let s1 := [Port.fore, Port.aft].foldl feedBlocked s
  let s2 := (List.finRange 8).foldl canCommit (loadStaticFdb (portsCommit s1))
  let s3 := collBind (winBind (bindAll s2))
  let s4 := policyRestart { s3 with mon := { s3.mon with baud := regF s3 0xD000 2 0 } }
  statCommit (pilotCopy s4)

/-- The slot plan of the active table from the rows just committed, at the schedule and at the guardian (R180, R200); lanes below their design
mode are folded (R195); common instants are acted on from here on, so none before is skipped (R169, R170). DEDUCED (log 27). -/
def slotsCommit (s : State) : State :=
  let s1 := { s with
    sch := { s.sch with plan := [], gdPlan := [] }
    tb := { s.tb with ciServed := if s.tb.st == .free then s.tb.ciServed else ciLatest s } }
  let s2 := takeMap s1 0 s.inaug[(0 : Fin 2)].table
  foldBelow (foldBelow (syncoCommit (if segGw s then takeMap s2 1 s.inaug[(1 : Fin 2)].table else s2)) .fore) .aft

/-- COMMIT: the loaded values take effect, every RWL field locks, the node is in RUN (R81). A segment gateway starts both of its
inauguration functions. -/
def commit (s : State) : State :=
  let ld := loaded s
  let s1 := takeRegs { s with
    tables := ld.tables
    line := { s.line with node := .run }
    boot := { s.boot with phase := .committed, committed := true, everRun := true, locked := true, active := s.boot.psel, source := 0, types := profTypes s s.boot.psel, img := [], tag := [] } } ld
  let s1 := s.boot.wrote.foldl (fun t x => setReg t x.1 x.2) { s1 with boot := { s1.boot with wrote := [] } }
  let s2 := blocksCommit (slotsCommit ((List.finRange 4).foldl laneCommit s1))
  let s3 := if segGw s2 then idleRows (idleRows (toIdle (toIdle s2 0) 1) 0) 1 else idleRows (reportOwn s2 0 false 0) 0
  wakeReport (raise s3 0xC001 0 0xFFF [s3.boot.imageId / 2 ^ 32, s3.boot.imageId % 2 ^ 32, s3.boot.active])

/-! ### The commands of start-up -/

/-- NVM_WAIT_DONE (R69, R71): header and line-feed block are read together, 120 bytes with command 0x03 (Table 4-9). -/
def nvmWaitDone (s : State) : State :=
  if coreRun s && s.boot.phase == .nvmWait && !bscan s then
    emit (setPhase { s with boot := { s.boot with attempt := 0, blanks := 0, dirSeen := false, next := 0, dir := [], img := [] } } .header) (.nvm 0x03 0 120 [])
  else s

/-- All bytes are 0xFF, or all are 0x00 (R74). -/
def blankHeader (b : Bytes) : Bool := b.all (· == 0xFF#8) || b.all (· == 0#8)

/-- HEADER_RECEIVED (R74, R75, R80, R82, R85, Table 4-8). A key or AUTH that does not fit names the line-feed block as the part, an absent
profile the header. DEDUCED (log 19). -/
def headerReceived (s : State) (d : Bytes) : State :=
  if !(coreRun s && s.boot.phase == .header && !bscan s) then s
  else
    let h := d.take 64
    let lf := d.drop 64
    let again (t : State) := emit t (.nvm 0x03 0 120 [])
    let hdr : BadRead := { part := 0, expected := beAt h 60 4, computed := (crc32 (h.take 60)).toNat }
    let lfb : BadRead := { part := 1, expected := beAt lf 20 4, computed := (crc32 (lf.take 20)).toNat }
    if !headerCrcOk h then
      let s1 := { s with boot := { s.boot with blanks := if blankHeader h then s.boot.blanks + 1 else s.boot.blanks } }
      if s.boot.attempt < 2 then repeatRead s1 hdr again
      else imageFails s1 (if s1.boot.blanks = 3 then 0xC002 else 0xC003) hdr
    else if !headerFieldsOk h then imageFails s 0xC003 hdr
    else
      let auth := (byteAt h 14).testBit 0
      let profiles := byteAt h 15
      if auth && s.otp.img.isNone then imageFails s 0xC006 { part := 1 }
      else if !auth && s.otp.img.isSome then imageFails s 0xC007 { part := 1 }
      else if !lfCrcOk lf then
        if s.boot.attempt < 2 then repeatRead s lfb again else imageFails s 0xC004 lfb
      else if auth && slice lf 24 32 != hmac (s.otp.img.getD []) (lf.take 24) then imageFails s 0xC005 { part := 1 }
      else if !lfFieldsOk lf auth profiles then imageFails s 0xC00A { part := 1 }
      else if !profiles.testBit s.boot.psel then imageFails s 0xC008 { part := 0 }
      else
        let s1 := readPassed s
        let s2 := { s1 with boot := { s1.boot with
          phase := .loading, imgLen := beAt h 8 4, sections := beAt h 12 2, flags := byteAt h 14, profiles := profiles, imageId := beAt h 16 8
          lfBlock := lf.take (if auth then 56 else 24), img := d.take (64 + if auth then 56 else 24) } }
        nextRead (applyLfctl s2 (BitVec.ofNat 32 (beAt lf (4 + 4 * s.boot.psel) 4)))

/-- The image so far, up to a position: bytes that no command reads are what the NVM holds there, free. DEDUCED (log 21). -/
def imgPad (s : State) (pos : Nat) : Bytes :=
  s.boot.img ++ (List.range (pos - s.boot.img.length)).map (fun i => Config.standardByte 20 [] (s.boot.img.length + i))

/-- The directory is received (R76, R77). -/
def directoryReceived (s : State) (d : Bytes) : State :=
  let n := 16 * s.boot.sections
  let bad : BadRead := { part := 2, expected := beAt d n 4, computed := (crc32 (d.take n)).toNat }
  if bad.expected ≠ bad.computed ∨ d.length ≠ n + 4 then
    if s.boot.attempt < 2 then repeatRead s bad nextRead else imageFails s 0xC004 bad
  else if !dirOk d s.boot.sections s.boot.profiles s.boot.imgLen (imgAuth s) then imageFails s 0xC00A { part := 2 }
  else
    let s1 := readPassed s
    let ents := ((List.range s.boot.sections).map (readDir d)).mergeSort (fun a b => decide (a.offset ≤ b.offset))
    nextRead { s1 with boot := { s1.boot with dirSeen := true, next := 0, dir := ents, img := imgPad s 0x80 ++ d } }

/-- The phase LOADED. -/
def loadedPhase (s : State) : State := setPhase { s with boot := { s.boot with loaded := true } } .loaded

/-- A section is received (R78, R79, R82). What it loads replaces what was written there before (R10). After the last one the load is
complete but for the tag. -/
def bodyReceived (s : State) (e : DirEnt) (d : Bytes) : State :=
  let from0 := readFrom s s.boot.next e
  let body := d.drop (e.offset - from0)
  let bad : BadRead := { part := 3, idx := e.idx, type := e.type, expected := e.crc, computed := (crc32 body).toNat }
  if bad.computed ≠ e.crc ∨ body.length ≠ e.length then
    if s.boot.attempt < 2 then repeatRead s bad nextRead else imageFails s 0xC004 bad
  else if !bodyOk e.type body then imageFails s 0xC00A bad
  else
    let s1 := readPassed s
    let s2 := { s1 with boot := { s1.boot with
      next := s.boot.next + 1, img := imgPad s from0 ++ d
      wrote := if e.pmask.testBit s.boot.psel then s1.boot.wrote.filter (fun x => !bodySets body x.1) else s1.boot.wrote } }
    if s2.boot.next < s2.boot.dir.length then nextRead s2
    else
      match badProfile s2 with
      | some t => imageFails s2 0xC00A { part := 3, idx := (s2.boot.dir.find? (fun e => e.type == t)).map DirEnt.idx |>.getD 0, type := t }
      | none => if imgAuth s2 then nextRead { s2 with boot := { s2.boot with loaded := true } } else loadedPhase s2

/-- SECTION_RECEIVED: the directory, one section after another, and last the tag of an image with AUTH (R80, Table 4-1). -/
def sectionReceived (s : State) (d : Bytes) : State :=
  if !(coreRun s && s.boot.phase == .loading && !bscan s) then s
  else if !s.boot.dirSeen then directoryReceived s d
  else
    match s.boot.dir[s.boot.next]? with
    | some e => bodyReceived s e d
    | none => loadedPhase { s with boot := { s.boot with tag := d } }

/-- What the HMAC covers: the bytes 0 to IMG_LEN - 33 (R80). -/
def hashed (s : State) (tail : Bytes) : Bytes :=
  let n := s.boot.imgLen - 32
  imgPad { s with boot := { s.boot with img := (s.boot.img ++ tail).take n } } n

/-- TAG_RESULT (R80, R81): the tag read is compared with the HMAC of the image; an image without a tag commits. `tail`: the bytes between the last
body and the tag, which no read before it returned (log 21). -/
def tagResult (s : State) (tail : Bytes) : State :=
  if !(coreRun s && s.boot.phase == .loaded && !bscan s) then s
  else if !imgAuth s then commit s
  else if s.boot.tag = hmac (s.otp.img.getD []) (hashed s tail) then commit { s with boot := { s.boot with authOk := true } }
  else imageFails s 0xC005 { part := 0xFF }

/-! ### Profile switch (R86 to R89) -/

/-- PROFILE_REJECT with its reason and source. -/
def profileReject (s : State) (reason src : Nat) : State := raise s 0xC021 1 0xFFF [reason, src]

/-- Why a switch cannot start, 0 for none (R86); a switch in progress is named before the phase (R89). DEDUCED (log 22). -/
def switchReason (s : State) (p : Nat) : Nat :=
  if s.boot.phase == .switchVerify || s.boot.phase == .switchLoad then 2
  else if s.boot.phase != .committed then 1
  else if s.line.node == .drain then 6
  else if !s.boot.profiles.testBit p then 3
  else if s.boot.active = p then 4 else 0

/-- A switch is requested: it is accepted into SWITCH_VERIFY, or rejected. -/
def switchTo (s : State) (p src : Nat) : State :=
  let r := switchReason s p
  if r ≠ 0 then profileReject s r src
  else targetReads { s with boot := { s.boot with phase := .switchVerify, target := p, reqSource := src, attempt := 0, checked := false } }

/-- GL_PROFCTL with its fields as written (R86, R419). -/
def profCtl (s : State) (src : Nat) (v : Word) : State :=
  if bitAt v 8 then
    if fld v 31 16 ≠ 0xC9A5 ∨ (src = 3 ∧ s.boot.flags.testBit 2 = false) then profileReject s 5 src
    else switchTo s (fld v 1 0) src
  else s

/-- The first piece of a verify or load read that does not match what start-up retained (R87): the line-feed block by its CRC or LF_TAG, or a
section. -/
def switchBad (s : State) (lf : Bytes) (secs : List Bytes) : Option BadRead :=
  let lfb : BadRead := { part := 1, expected := beAt s.boot.lfBlock 20 4, computed := (crc32 (lf.take 20)).toNat }
  if lfb.expected ≠ lfb.computed then some lfb
  else if imgAuth s && hmac (s.otp.img.getD []) (lf.take 24) != slice s.boot.lfBlock 24 32 then some { part := 1 }
  else (targetSecs s s.boot.target).zipIdx.findSome? (fun x =>
    let b := secs.getD x.2 []
    let bad : BadRead := { part := 3, idx := x.1.idx, type := x.1.type, expected := x.1.crc, computed := (crc32 b).toNat }
    if bad.expected = bad.computed ∧ b.length = x.1.length then none else some bad)

/-- SWITCH_VERIFY_DONE (Table 4-10). DEDUCED (log 24). -/
def switchVerifyDone (s : State) (lf : Bytes) (secs : List Bytes) : State :=
  if !(coreRun s && s.boot.phase == .switchVerify && !s.boot.checked && !bscan s) then s
  else
    match switchBad s lf secs with
    | none =>
      let s1 := readPassed s
      { s1 with boot := { s1.boot with checked := true } }
    | some b =>
      if s.boot.attempt < 2 then repeatRead s b targetReads
      else profileReject (setPhase { s with boot := { s.boot with attempt := 0 } } .committed) 7 s.boot.reqSource

/-- A register block that is not common to the profiles (Table 4-6). -/
def profileBlock (off : Nat) : Bool := decide (0x5000 ≤ off) && off != 0xA100

/-- SWITCH_LOAD_DONE (Table 4-10, R88): the registers of the non-backbone blocks are reset and loaded. -/
def switchLoadDone (s : State) (lf : Bytes) (secs : List Bytes) : State :=
  if !(coreRun s && s.boot.phase == .switchLoad && !s.boot.checked && !bscan s) then s
  else
    match switchBad s lf secs with
    | none =>
      let s1 := readPassed s
      let t := targetSecs s s.boot.target
      let ld := loadBodies s ((t.map DirEnt.type).zip secs)
      takeRegs { s1 with
        boot := { s1.boot with checked := true, types := profTypes s s.boot.target }
        regs := s1.regs.filter (fun e => !profileBlock e.1)
        tables := ld.tables.foldl (fun m x => mput m x.1 x.2) (s1.tables.filter (fun e => commonType (e.1 / 65536))) } ld
    | some b =>
      if s.boot.attempt < 2 then repeatRead s b targetReads
      else enterRepeater (imgEvent s 0xC022 7 b) 0xC022

/-- The stop at a common instant (Table 4-10, Table 9-7): CAN channels, with their queued tests (Table 14-10), local ports, HOST and the remote
windows. -/
def switchStop (s : State) : State :=
  let s1 := bridgeClose s
  let s2 := (List.finRange 8).foldl (fun t c => if t.can[c].active.isSome then setChan t c (fun k => { k with stop := true }) else canOff t c) s1
  let s3 := (List.range 11).foldl (fun t n => outDisable t (Fin.ofNat 20 (4 + n))) s2
  let s4 := { s3 with flt := { s3.flt with queue := s3.flt.queue.filter (fun q => !(decide (0x08 ≤ q.unit) && decide (q.unit ≤ 0x0F))) } }
  targetReads (setPhase { s4 with boot := { s4.boot with checked := false, attempt := 0 } } .switchLoad)

/-- The commit at a common instant (Table 4-10): PWR_LFCTL takes the target's entry under R55; CLASS_QUOTA overrides end, and
queued tests of units now OFF are dropped (Table 14-10). -/
def switchCommit (s : State) : State :=
  let old := s.boot.active
  let s1 := { s with boot := { s.boot with
    phase := .committed, checked := false, active := s.boot.target, source := s.boot.reqSource, switches := min 255 (s.boot.switches + 1) } }
  let s2 := applyLfctl s1 (BitVec.ofNat 32 (beAt s.boot.lfBlock (4 + 4 * s.boot.target) 4))
  let s3 := blocksCommit { s2 with pol := { s2.pol with qovr := Vector.replicate 8 none } }
  let s4 := { s3 with flt := { s3.flt with queue := s3.flt.queue.filter (fun q => reqState s3 q.unit != 0) } }
  raise s4 0xC020 6 0xFFF [old, s4.boot.active, s4.boot.source]

/-- What a profile switch does at a common instant. -/
def switchInstant (s : State) : State :=
  if s.boot.checked then
    if s.boot.phase == .switchVerify then switchStop s else if s.boot.phase == .switchLoad then switchCommit s else s
  else s

/-! ### Boundary scan (R44 to R46) -/

/-- The NVM read interrupted by the TAP is taken up afresh (R46, R69). DEDUCED (log 26). -/
def nvmAfresh (s : State) : State :=
  if coreRun s then
    match s.boot.phase with
    | .nvmWait | .header | .loading | .loaded =>
      { s with boot := { s.boot with phase := .nvmWait, attempt := 0, blanks := 0, loaded := false, dirSeen := false, next := 0, dir := [], img := [], tag := [], bad := {}, wrote := [] } }
    | .switchVerify | .switchLoad => if s.boot.checked then s else targetReads { s with boot := { s.boot with attempt := 0 } }
    | _ => s
  else s

/-- The instruction a 6-bit code selects: every code that Table 2-12 does not name is BYPASS (R44). -/
def tapDecode (code : BitVec 6) : Nat := if code.toNat ≤ 4 then code.toNat else 0x3F

/-- An instruction takes effect in the TAP (R44, R46). -/
def tapTo (s : State) (code : BitVec 6) : State :=
  let n := tapDecode code
  let s1 := { s with tap := n }
  if bscan s1 then (if s.tap = n then s else raise s1 0xD040 6 0xFFF [n])
  else if bscan s then nvmAfresh s1 else s1

/-- The identification register (R45). -/
def idWord : Nat := Config.stepping.toNat * 2 ^ 28 + 0x9640 * 0x1000 + 0x2C7 * 2 + 1

/-- The bits of a register, that nearest TDO first. -/
def regBits (n w : Nat) : List Bool := (List.range n).map w.testBit

/-- A data register of these bits shifts by one bit for each bit at TDI: what leaves at TDO, and what it then holds (Table 2-12). -/
def shiftDr (r tdi : List Bool) : List Bool × List Bool := ((r ++ tdi).take tdi.length, (r ++ tdi).drop tdi.length)

/-- A scan through a register that only reads out: identification or bypass; no bits at TDI is no scan. -/
def scanOut (s : State) (r tdi : List Bool) : State := if tdi = [] then s else emit s (.tdo (shiftDr r tdi).1)

/-- A scan through the boundary register: the cells capture, shift and take what has been shifted in. -/
def scanCells (s : State) (tdi : List Bool) : State :=
  if tdi = [] then s
  else
    let x := shiftDr (regBits 240 (Config.boundaryCapture s.free).toNat) tdi
    emit (takeFree { s with bcells := BitVec.ofNat 240 (x.2.foldr (fun b n => b.toNat + 2 * n) 0) }) (.tdo x.1)

/-- The bypass register captures 0. -/
def scanBypass (s : State) (tdi : List Bool) : State := scanOut s [false] tdi

/-- TAP_RESET selects IDCODE. -/
def tapReset (s : State) : State := tapTo s 1
/-- TAP_EXTEST, and a scan of the boundary register. -/
def tapExtest (s : State) (tdi : List Bool) : State := scanCells (tapTo s 0) tdi
/-- TAP_IDCODE, and a scan of the identification register. -/
def tapIdcode (s : State) (tdi : List Bool) : State := scanOut (tapTo s 1) (regBits 32 idWord) tdi
/-- TAP_SAMPLE_PRELOAD, and a scan of the boundary register. -/
def tapSample (s : State) (tdi : List Bool) : State := scanCells (tapTo s 2) tdi
/-- TAP_HIGHZ, and a scan of the bypass register. -/
def tapHighz (s : State) (tdi : List Bool) : State := scanBypass (tapTo s 3) tdi
/-- TAP_CLAMP, and a scan of the bypass register. -/
def tapClamp (s : State) (tdi : List Bool) : State := scanBypass (tapTo s 4) tdi
/-- TAP_BYPASS, or any undecoded code, and a scan of the bypass register. -/
def tapBypass (s : State) (code : BitVec 6) (tdi : List Bool) : State := scanBypass (tapTo s code) tdi

end Sys2Proof.Machine
end

