-- ==== Sys2Proof/Machine/RegRead.lean ====
section
/-! DEFINITION. What a register reads as (R13, R414 to R420 and the register tables of each chapter): the stored word where a register is
configuration or a counter, and its fields composed from the state where the node writes them. -/

namespace Sys2Proof.Machine

/-- A 32-bit word of a number. -/
def wd (n : Nat) : Word := BitVec.ofNat 32 n

/-- Bits [31:0] and [63:32]. -/
def loHi (n : Nat) (hi : Bool) : Word := if hi then wd (n / 2 ^ 32) else wd n

/-! ### State codes -/

/-- GL_BOOTSTAT.PHASE (Table 4-11). -/
def phaseNo : Phase → Nat
  | .reset => 0
  | .nvmWait => 1
  | .header => 2
  | .loading => 3
  | .loaded => 4
  | .committed => 5
  | .repeater => 6
  | .switchVerify => 7
  | .switchLoad => 8

/-- PWR_STAT.NSTATE (Table 13-13); a node without a core shows nothing to read. -/
def nstateNo : NState → Nat
  | .off => 0
  | .ember => 1
  | .doze => 2
  | .startup => 3
  | .repeater => 4
  | .run => 5
  | .drain => 6

/-- PWR_LFSTAT.STn (Table 3-6). -/
def lfStNo : LfSt → Nat
  | .off => 0
  | .softStart => 1
  | .on => 2
  | .limit => 3
  | .retryWait => 4
  | .latched => 5
  | .source => 6
  | .bias => 7

/-- BBn_STAT.STATE (Table 5-13). -/
def laneStNo : LaneSt → Nat
  | .disabled => 0
  | .detect => 1
  | .train => 2
  | .lock => 3
  | .check => 4
  | .up => 5
  | .downWait => 6
  | .held => 7
  | .retired => 8

/-- TOP_STAT.ISTATE (Table 6-12). -/
def istateNo : IState → Nat
  | .idle => 0
  | .listen => 1
  | .conduct => 2
  | .follow => 3
  | .settled => 4
  | .joining => 5

/-! ### Composed fields -/

/-- A profile switch is in progress: GL_PROFSTAT.BUSY. -/
def switchBusy (s : State) : Bool := s.boot.phase == .switchVerify || s.boot.phase == .switchLoad

/-- Polled mode (R317). -/
def polled (s : State) : Bool := !regB s 0x900C 0 || underTest s 0x23 || s.boot.phase == .switchLoad

/-- HB_ISTAT. -/
def hbIstat (s : State) : Word := wd (s.hb.istat % 32 / 2 * 2 + (decide (s.hb.rirq ≠ 0)).toNat)

/-- GL_IPEND: the latched bits, and BRIDGE as a level (Table 17-6, R317). -/
def ipend (s : State) : Word :=
  reg s 0x40 ||| (if hbIstat s &&& reg s 0x9018 ≠ 0 ∧ polled s = false then 0x400 else 0)

/-- GL_IACT. -/
def iact (s : State) : Word := ipend s &&& reg s 0x44

/-- BBn_STAT of a lane. -/
def bbStat (s : State) (l : Fin 4) : Word :=
  let x := s.lanes[l]
  wd (x.seam.toNat * 0x400 + x.health % 4 * 0x100 + x.mode % 4 * 0x40 + laneStNo x.st)

/-- The segment TOP_CTL.SEGSEL shows (R143). -/
def segSel (s : State) : Fin 2 := if regB s 0x2018 0 && segGw s then 1 else 0

/-- TOP_STAT, TOP_SELF and TOP_ACT. -/
def topWord (s : State) (off : Nat) : Word :=
  let g := segSel s
  let x := s.inaug[g]
  let e := ownEnt s g
  let seam := if decide (segOf s .fore = g) && portSeam s .fore then 1 else if decide (segOf s .aft = g) && portSeam s .aft then 2 else 0
  match off with
  | 0x200C => wd (x.epoch % 65536 * 0x10000 + x.table.length % 256 * 0x100 + (isLeader s g).toNat * 0x80 + x.pending.isSome.toNat * 0x40 +
      seam * 0x10 + x.ring.toNat * 8 + istateNo x.st)
  | 0x2010 => wd (((leaderOf x.table).map TopoEnt.handle).getD 0 * 0x1000000 + (e.any (fun y => y.eflags.testBit 5)).toNat * 0x20000 +
      (e.any (fun y => y.eflags.testBit 0)).toNat * 0x10000 + ownPos s g * 0x100 + ownHandle s g)
  | _ => wd ((x.pending.map Assign.actcyc).getD 0)

/-- TOP_TENT0 to TOP_TENT3 of a position (R146). -/
def tentWords (s : State) (pos : Nat) : List Word :=
  let x := s.inaug[segSel s]
  match if pos = 0 then none else x.table[pos - 1]? with
  | some e => [wd e.uid, wd (e.uid / 2 ^ 32), wd (e.handle * 0x1000000 + e.rank * 0x10000 + e.eflags * 0x100 + 1), wd (x.epoch % 65536 * 65536 + e.slotref % 65536)]
  | none => [0, 0, 0, wd (x.epoch % 65536 * 65536)]

/-- TB_STAT. DESIGN CHOICE (log 115). -/
def tbStat (s : State) : Word :=
  let t := s.tb
  wd (min 255 t.holdcyc * 0x10000 + min 255 t.steps * 0x100 + (schedCommitted s && !slotsAllowed s).toNat * 0x40 + t.taiv.toNat * 0x20 + t.upLaneB.toNat * 0x10 +
    (match t.up with
      | some p => portNo p
      | none => 0) * 8 + tstateNo t.st)

/-- TB_PDLYn (Table 7-12): 0.1 ns and 0.01 ppm units, whole units towards minus infinity; the delay is valid after 1,024 exchanges (R153).
DEDUCED (log 95). -/
def tbPdly (s : State) (l : Fin 4) : Word :=
  let x := s.lanes[l]
  let d := if 1024 ≤ x.exch then min 0xFFFE (x.delay * 10 / nsU).toNat else 0xFFFF
  wd (unsigned 16 (x.nrr * 100000000 / 2 ^ 40) * 0x10000 + d)

/-- TB_OFSERR: 0.25 ns units, saturating. -/
def tbOfserr (s : State) : Word := wd (unsigned 32 (max (-(2 ^ 31)) (min (2 ^ 31 - 1) (s.tb.err / 2 ^ 30))))

/-- SCH_STAT. -/
def schStat (s : State) : Word :=
  wd (min 255 s.sch.rejrun * 0x100 + (decide (s.sch.fold ≠ 0)).toNat * 0x20 + s.sch.gag.toNat * 0x10 + s.sch.fold.toNat)

/-- GD_STAT. -/
def gdStat (s : State) : Word :=
  wd (unsigned 16 s.sch.oscErr * 0x10000 + (gdClosed s).toNat * 8 + s.sch.tabFault.toNat * 4 + s.sch.clkFault.toNat * 2 +
    (gdOpen s).toNat)

/-- SW_PSTATp of a port. -/
def swPstat (s : State) (p : Fin 20) : Word :=
  let rx := match portLane p with
    | some l => s.sw.pause[l].rx.toNat
    | none => 0
  wd (rx * 0x1000000 + s.sw.ports[p].xoff.toNat * 0x10000 + s.sw.ports[p].hst % 4 * 4)

/-- SW_FDBENT0 to SW_FDBENT2 of an entry. -/
def fdbWords (s : State) (i : Nat) : List Word :=
  match mget s.sw.fdb i with
  | some e => [wd e.mac, wd (2 ^ 31 + e.stat.toNat * 2 ^ 30 + e.vid % 4096 * 0x10000 + e.mac / 2 ^ 32 % 65536),
      wd (min 65535 ((s.now - e.seen) / 1000000000) * 0x10000 + e.remote.toNat * 0x8000 + e.seg.toNat * 0x100 + e.target % 256)]
  | none => [0, 0, 0]

/-- CANn_STAT. -/
def canStat (s : State) (c : Fin 8) : Word :=
  let k := s.can[c]
  wd (min 511 k.tec * 2 ^ 23 + min 255 k.rec_ * 2 ^ 15 + k.st % 8 * 0x100 + min 128 k.recov)

/-- HB_STAT. -/
def hbStat (s : State) : Word :=
  wd (min 64 s.hb.tags.length * 0x1000000 + min 255 (outQ s).length * 0x10000 + min 128 s.hb.inq.length * 0x100 + s.hb.locked.getD 0 % 16 * 0x10 +
    s.hb.locked.isSome.toNat * 8 + (polled s).toNat * 4 + s.hb.owns.toNat * 2)

/-- The four words of a late-error log entry. -/
def leWord (s : State) (i w : Nat) : Word :=
  match s.hb.log[i]? with
  | none => 0
  | some e => match w with
    | 0 => wd (e.code * 0x1000000 + e.win % 16 * 0x100000 + e.tseq % 65536)
    | 1 => wd (e.handle * 0x1000000 + e.off % 2 ^ 24)
    | 2 => wd e.stamp
    | _ => wd (e.stamp / 2 ^ 32)

/-- PWR_STAT. -/
def pwrStat (s : State) : Word :=
  wd (s.snuf.round % 65536 * 0x10000 + s.snuf.result % 16 * 0x1000 + s.snuf.vreason % 16 * 0x100 + nstateNo s.line.node)

/-- PWR_WAKESRC. -/
def pwrWakesrc (s : State) : Word :=
  let w := s.pilot.latch
  wd (w.src % 16 * 2 ^ 28 + w.cause % 16 * 2 ^ 24 + w.chan % 8 * 2 ^ 21 + w.krelay % 256 * 0x100 + min 255 s.pilot.dozes)

/-- PWR_LFSTAT. -/
def lfStat (s : State) : Word :=
  let b (p : Fin 4) := s.line.pairs[p]
  wd (s.line.railOk.toNat * 2 ^ 20 + ((b 3).latch.toNat * 8 + (b 2).latch.toNat * 4 + (b 1).latch.toNat * 2 + (b 0).latch.toNat) * 0x10000 +
    lfStNo (b 3).st * 512 + lfStNo (b 2).st * 64 + lfStNo (b 1).st * 8 + lfStNo (b 0).st)

/-- PWR_LINE. -/
def pwrLine (s : State) : Word := wd (s.line.pin.toNat * 65536 + s.line.vlb.toNat)

/-- FLT_UNITu.EFF (R364): 0 OFF, 1 ON, 2 RETIRED, 3 TEST while the test moves or stops the unit's traffic, 4 FAULT. -/
def effState (s : State) (u : Nat) : Nat :=
  let moved := (u < 4 ∧ s.flt.lossTest = true) ∨ (0x08 ≤ u ∧ u ≤ 0x0F) ∨ u = 0x20 ∨ u = 0x21 ∨ u = 0x23 ∨ u = 0x31
  if !coreRun s then 0
  else if (fUnit s u).lost then 4
  else if underTest s u && decide moved then 3
  else
    match laneUnit u with
    | some l => match s.lanes[l].st with
      | .retired => 2
      | .disabled => 0
      | _ => 1
    | none =>
      if 0x08 ≤ u ∧ u ≤ 0x0F then (if ((s.can[u - 8]?).getD {}).st = 0 then 0 else 1)
      else if unitAssigned u then 1 else 0

/-- FLT_UNITu. -/
def unitWord (s : State) (u : Nat) : Word :=
  let x := fUnit s u
  wd (reqState s u * 2 ^ 28 + effState s u * 2 ^ 24 + x.held.toNat * 2 ^ 23 + x.spared.toNat * 2 ^ 22 + (queued s u).toNat * 2 ^ 21 +
    x.defer_.toNat * 2 ^ 20 + (underTest s u).toNat * 2 ^ 19 + min 255 (recentTrans s u).length * 0x100 + min 255 x.errors)

/-- FLT_STAT. DEDUCED (log 90). -/
def fltStat (s : State) : Word :=
  let d := ((List.range 50).filter (fun u => (fUnit s u).defer_)).length
  wd (min 8 s.flt.queue.length * 0x1000000 + d * 0x10000 + ((s.flt.test.map QEnt.unit).getD 0xFF) % 256 * 0x100)

/-- FLT_SPARE. -/
def fltSpare (s : State) : Word :=
  wd (sramSpares s * 0x10000 + min 255 ((freeRegions s.mram.bankA).length + (freeRegions s.mram.bankB).length) * 0x100)

/-- REC_STAT. -/
def recStat (s : State) : Word :=
  wd ((decide (0 < s.log.ovCnt)).toNat * 2 ^ 26 + min 512 s.log.fifo.length * 0x10000 + s.mram.bankA.st % 4 * 64 + s.mram.bankB.st % 4 * 16 +
    s.log.volatile.toNat * 8 + s.log.sev7Full.toNat * 4 + s.log.scanning.toNat * 2 + (readB s).toNat)

/-- REC_CLRSTAT. -/
def recClrstat (s : State) : Word := wd (min 255 s.log.fails * 0x10000 + (if s.log.lockout then 2 else if s.log.chalOk then 1 else 0))

/-- Lockout seconds that remain, rounded up. -/
def lockRemain (s : State) : Nat := (s.mon.lockEnd.map (fun t => ceilDiv (t - s.now) 1000000000)).getD 0

/-- MON_STAT. -/
def monStat (s : State) : Word :=
  wd ((s.mon.served.map Far.handle).getD 0 * 0x1000000 + (s.mon.opened.map Far.handle).getD 0 * 0x10000 + min 1023 (lockRemain s) * 64 +
    (if s.mon.served.isSome then s.mon.rem.level % 4 else 0) * 16 + s.mon.ses.level % 4 * 4)

/-- The words MON_TIDX latches: age, then the payload (R410). -/
def telWords (s : State) (h : Nat) : Word × List Word :=
  match s.mon.files.find? (fun x => x.1 == h) with
  | some (_, b, t) => (wd ((s.now - t) / 1000000000), (List.range 48).map (wordAt b))
  | none => (0xFFFFFFFF, List.replicate 48 0)

/-! ### The blocks -/

/-- An image loads: what it has loaded shows, and takes effect at commit (R81). -/
def imageLoads (s : State) : Bool := s.boot.phase == .loading || s.boot.phase == .loaded

/-- The stored word, or while an image loads the last value loaded or written (R10, R78, R81). -/
def cfgReg (s : State) (off : Nat) : Word :=
  if imageLoads s && configReg off && off != 0xA100 then (mget s.boot.wrote off).getD (reg (loaded s) off) else reg s off

/-- Global block. -/
def readGlobal (s : State) (off : Nat) : Word :=
  match off with
  | 0x0000 => wd idWord
  | 0x0004 => loHi s.uid false
  | 0x0008 => loHi s.uid true
  | 0x000C => wd (s.boot.unstable.toNat * 8 + s.boot.lbus.toNat * 4 + s.boot.psel % 4)
  | 0x0010 => wd (s.line.therm % 4 * 0x100 + s.line.temp.toNat)
  | 0x0040 => ipend s
  | 0x0048 => iact s
  | 0x0100 => wd (s.boot.loaded.toNat * 2 ^ 31 + s.boot.committed.toNat * 2 ^ 30 + s.boot.authOk.toNat * 2 ^ 29 + min 7 s.boot.retries * 2 ^ 24 +
      phaseNo s.boot.phase * 0x10000 + s.boot.cause % 65536)
  | 0x0104 => loHi s.boot.imageId false
  | 0x0108 => loHi s.boot.imageId true
  | 0x010C => wd (s.boot.sections % 256 * 2 ^ 24 + s.boot.imgLen % 2 ^ 24)
  | 0x0124 => wd (s.boot.profiles % 16 * 0x10000 + min 255 s.boot.switches * 0x100 + s.boot.source % 4 * 64 +
      (if switchBusy s then s.boot.target % 4 else 0) * 16 + (switchBusy s).toNat * 4 + s.boot.active % 4)
  | _ => reg s off

/-- Backbone lanes block. -/
def readLanes (s : State) (off : Nat) : Word :=
  if off = 0x1000 then wd (portStat s .aft * 4 + portStat s .fore)
  else
    let l : Fin 4 := ⟨(off - 0x1100) / 0x100 % 4, by omega⟩
    match inArray off 0x1100 4 0x100 with
    | some 0x04 => bbStat s l
    | some 0x08 => wd (s.lanes[l].snr % 65536 * 65536 + min 0xFFFF s.lanes[l].corr)
    | _ => cfgReg s off

/-- Topology block. -/
def readTopology (s : State) (req : Req) (off : Nat) : Word :=
  match off with
  | 0x200C | 0x2010 | 0x2014 => topWord s off
  | 0x2060 => wd (s.etb.inaug % 256 * 2 ^ 24 + s.etb.nodes % 256 * 0x100 + s.etb.ownId % 64 * 4 + s.etb.st % 4)
  | 0x2064 => wd s.etb.topo
  | 0x206C => s.etb.dir.getD (fld (getLatch s req 0x2068) 9 0) 0
  | 0x2020 | 0x2068 => getLatch s req off
  | _ => if inGroup off 0x2024 4 then getLatch s req off else cfgReg s off

/-- The head of the SYNCI FIFO. -/
def synciHead (s : State) : Bool × Nat := (s.tb.sififo.head?).getD (false, 0)

/-- Time base block. -/
def readTime (s : State) (req : Req) (off : Nat) : Word :=
  match off with
  | 0x3008 => tbStat s
  | 0x300C => wd (ceilDiv (precU s) 2)
  | 0x3010 => loHi (ttNow s) false
  | 0x3014 | 0x3018 | 0x301C => getLatch s req off
  | 0x3020 => wd (unsigned 32 s.tb.rate)
  | 0x3024 => tbOfserr s
  | 0x3028 => loHi s.tb.muid false
  | 0x302C => loHi s.tb.muid true
  | 0x3030 => wd s.tb.startCyc
  | 0x3044 => (cfgReg s off &&& 3) ||| wd (s.tb.synciOvf.toNat * 2 ^ 24 + s.tb.sififo.length % 32 * 2 ^ 16 + s.tb.synciLvl.toNat * 2 ^ 8)
  | 0x3048 => loHi (synciHead s).2 false
  | 0x304C => wd ((synciHead s).1.toNat * 2 ^ 31 + (synciHead s).2 / 2 ^ 32 % 2 ^ 31)
  | 0x3060 => tbPdly s 0
  | 0x3064 => tbPdly s 1
  | 0x3068 => tbPdly s 2
  | 0x306C => tbPdly s 3
  | 0x3078 => loHi s.tb.taiOfs false
  | 0x307C => wd (s.tb.taiOfs / 2 ^ 32 % 2 ^ 31)
  | _ => cfgReg s off

/-- Schedule and guardian block. -/
def readSchedule (s : State) (off : Nat) : Word :=
  let b := s.sch.bound
  match off with
  | 0x4020 => schStat s
  | 0x4024 => wd (b.valid.toNat * 2 ^ 31 + b.bad.toNat * 2 ^ 30 + min (2 ^ 22 - 1) b.arrive)
  | 0x4028 => wd (min 0xFFFF b.qextra * 65536 + min 255 b.dynuse)
  | 0x402C => wd (b.epoch % 65536 * 65536 + b.cond % 16 * 0x1000 + b.row % 1024)
  | 0x4030 => wd (min 0xFFFF s.sch.qmeas)
  | 0x4104 => gdStat s
  | 0x4108 => wd (if s.sch.gdPlan.isEmpty then 0 else planCrc s.sch.gdPlan)
  | _ => cfgReg s off

/-- Switch block. -/
def readSwitch (s : State) (req : Req) (off : Nat) : Word :=
  let p (base : Nat) : Fin 20 := ⟨(off - base) / 4 % 20, by omega⟩
  if inGroup off 0x5180 20 then swPstat s (p 0x5180)
  else if inGroup off 0x5200 20 then wd (min 0xFFFF (ceilDiv s.sw.ports[p 0x5200].peak 16) * 65536 + min 0xFFFF (ceilDiv (occAll s (p 0x5200)) 16))
  else if inGroup off 0x5400 4 then getLatch s req off
  else cfgReg s off

/-- Signals block. -/
def readSignals (s : State) (off : Nat) : Word :=
  match off with
  | 0x600C => wd s.sg.seq
  | 0x6014 => wd (s.sg.ovf.toNat * 2 ^ 31 + s.sg.staged.length % 2048)
  | 0x6018 => if committed s then wd ((subDefs s).length % 65536 * 65536 + ((pubDefs s).length - 1) % 65536) else 0
  | 0x601C => wd (s.sg.epoch % 65536 * 65536 + s.sg.unbound % 65536)
  | 0x6020 => wd (s.sg.dupSid % 2 ^ 25)
  | 0x6024 => wd (s.sg.dupKept % 256 * 256 + s.sg.dupDrop % 256)
  | _ => cfgReg s off

/-- CAN block. -/
def readCan (s : State) (req : Req) (off : Nat) : Word :=
  if off = 0x8000 then wd (s.lamp.spares % 16 * 2 ^ 28 + s.lamp.map.toNat)
  else
    let c : Fin 8 := ⟨(off - 0x7000) / 0x200 % 8, by omega⟩
    match inArray off 0x7000 8 0x200 with
    | some 0x0C => canStat s c
    | some 0x18 => wd (s.can[c].tdcv % 128)
    | some 0x1C => s.can[c].lastErr
    | some 0x20 => wd (s.can[c].qrd % 2048 * 65536 + s.can[c].qwr % 2048)
    | some 0x24 => wd (s.can[c].qovf.toNat * 2 ^ 31 + qFill s.can[c])
    | some 0x28 => getLatch s req off
    | some r => if inGroup r 0x100 20 then getLatch s req off else cfgReg s off
    | none => cfgReg s off

/-- Host bridge block. -/
def readBridge (s : State) (off : Nat) : Word :=
  match off with
  | 0x9010 => hbStat s
  | 0x9014 => hbIstat s
  | 0x901C => s.hb.lastErr
  | 0x9024 => s.hb.rirq
  | 0x9500 => wd (s.hb.logOvf.toNat * 2 ^ 31 + min 16 s.hb.log.length)
  | _ =>
    if inGroup off 0x9080 32 then wd ((mget s.hb.rirqSrc ((off - 0x9080) / 4)).getD 0 % 256)
    else if inGroup off 0x9100 32 then wd ((s.hb.sems[(off - 0x9100) / 4]?).getD 0 % 256)
    else if inGroup off 0x9400 64 then leWord s ((off - 0x9400) / 16) ((off - 0x9400) / 4 % 4)
    else match inArray off 0x9200 16 0x20 with
      | some 0x10 =>
        let w := (s.hb.wins[(off - 0x9200) / 0x20]?).getD {}
        wd (w.poison.toNat * 2 ^ 31 + (w.handle == 0).toNat * 2 ^ 30 + w.handle % 256 * 65536 + min 0xFFFF w.late)
      | _ => cfgReg s off

/-- Power and sleep block. -/
def readPower (s : State) (off : Nat) : Word :=
  match off with
  | 0xA000 => pwrStat s
  | 0xA004 => wd (min 255 s.snuf.vcount * 256 + s.snuf.vhandle % 256)
  | 0xA008 => wd s.snuf.sleepcyc
  | 0xA030 => pwrWakesrc s
  | 0xA034 => wd (s.pilot.latch.idOk.toNat * 2 ^ 31 + s.pilot.latch.id % 2 ^ 29)
  | 0xA038 => wd s.pilot.asleep
  | 0xA104 => lfStat s
  | 0xA108 => pwrLine s
  | 0xA10C => wd ((s.line.cur[3].toNat * 256 + s.line.cur[2].toNat) * 65536 + s.line.cur[1].toNat * 256 + s.line.cur[0].toNat)
  | _ =>
    if inGroup off 0xA300 10 then wd ((mget s.mram.pwrCnt ((off - 0xA300) / 4)).getD 0)
    else match inArray off 0xA200 8 0x20 with
      | some 0x14 => wd (min 63 ((s.pilot.errs[(off - 0xA200) / 0x20]?).getD 0))
      | _ => cfgReg s off

/-- Fault and policy block. -/
def readFault (s : State) (off : Nat) : Word :=
  match off with
  | 0xB008 => fltStat s
  | 0xB010 => fltSpare s
  | 0xB404 => wd (s.pol.nrules % 512 * 65536 + s.pol.lastRule % 256 * 256 + s.pol.lastAct % 256)
  | _ =>
    if inGroup off 0xB040 8 then
      match s.flt.queue[(off - 0xB040) / 4]? with
      | some q => wd (q.unit * 2 ^ 24 + min 255 q.repeats * 65536 + q.code % 65536)
      | none => 0
    else if inGroup off 0xB100 50 then unitWord s ((off - 0xB100) / 4)
    else if inGroup off 0xB480 8 then
      match (s.pol.qovr[(off - 0xB480) / 4]?).getD none with
      | some c => wd (2 ^ 31 + c % 65536)
      | none => 0
    else cfgReg s off

/-- Recorder block. -/
def readRecorder (s : State) (req : Req) (off : Nat) : Word :=
  match off with
  | 0xC004 => recStat s
  | 0xC008 => wd s.log.head
  | 0xC00C => wd s.log.ovw
  | 0xC010 => wd s.mram.optime
  | 0xC014 => wd s.mram.pwrcyc
  | 0xC0C4 => recClrstat s
  | 0xC020 | 0xC060 => getLatch s req off
  | _ =>
    if inGroup off 0xC040 8 || inGroup off 0xC080 16 then getLatch s req off
    else if inGroup off 0xC0D0 4 then wordAt s.log.chal ((off - 0xC0D0) / 4)
    else if inGroup off 0xC100 16 then wordAt (gaspBytes s.log.gaspRead) ((off - 0xC100) / 4)
    else cfgReg s off

/-- Monitor block. -/
def readMonitor (s : State) (req : Req) (off : Nat) : Word :=
  match off with
  | 0xD004 => monStat s
  | 0xD00C => wd (s.mon.coll % 256 * 2 ^ 24 + s.mon.telSeq % 65536)
  | 0xD010 => getLatch s req off
  | 0xD014 => ~~~(getLatch s req off)
  | 0xD800 => wd (s.otp.img.isSome.toNat + 2 * s.otp.mon.isSome.toNat + 4 * s.otp.clr.isSome.toNat)
  | _ => if inGroup off 0xD100 48 then getLatch s req off else cfgReg s off

/-- Local Ethernet block. The PHY's PLCA state is a free value. -/
def readLocal (s : State) (off : Nat) : Word :=
  match inArray off 0xE100 10 0x10 with
  | some 0x4 =>
    let n := (off - 0xE100) / 0x10
    let up := ((s.sw.ports[n + 4]?).getD {}).hst == 0
    let plca := decide (8 ≤ n) && regB s (0xE100 + 0x10 * n) 3 && lePortOn s n
    wd ((if plca then Config.standardNat 30 [n, s.now] % 2 else 0) * 4 + up.toNat * 2)
  | _ => cfgReg s off

/-- What a register reads as for a requester. WO fields, reserved bits and unassigned offsets read zero (R13). -/
def regRead (s : State) (req : Req) (off : Nat) : Word :=
  match desc off with
  | none => 0
  | some _ =>
    match off / 0x1000 with
    | 0x0 => readGlobal s off
    | 0x1 => readLanes s off
    | 0x2 => readTopology s req off
    | 0x3 => readTime s req off
    | 0x4 => readSchedule s off
    | 0x5 => readSwitch s req off
    | 0x6 => readSignals s off
    | 0x7 => readCan s req off
    | 0x8 => readCan s req off
    | 0x9 => readBridge s off
    | 0xA => readPower s off
    | 0xB => readFault s off
    | 0xC => readRecorder s req off
    | 0xD => readMonitor s req off
    | 0xE => readLocal s off
    | _ => 0

/-- The effect of a read (R417): TB_NOW_LO latches, TB_SIFIFO_LO pops, TOP_ETBDATA advances. -/
def readEffect (s : State) (req : Req) (off : Nat) : State :=
  match off with
  | 0x3010 => setLatch s req 0x3014 [loHi (ttNow s) true, loHi s.tb.ctr false, loHi s.tb.ctr true]
  | 0x3048 => { s with tb := { s.tb with sififo := s.tb.sififo.tail } }
  | 0x206C => setLatch s req 0x2068 [wd ((fld (getLatch s req 0x2068) 9 0 + 1) % 1024)]
  | _ => s

/-- A register whose read has an effect (R372, R417). -/
def effectReg (off : Nat) : Bool := off == 0x3010 || off == 0x3048 || off == 0x206C

/-- A read of the signal store window (Table 10-7, R255). -/
def sigWindowRead (s : State) (off : Nat) : Word :=
  let e := sgEnt s (off / 16)
  match off % 16 / 4 with
  | 0 => wd e.val
  | 1 => wd (e.val / 2 ^ 32)
  | 2 => wd (min 255 e.age * 2 ^ 24 + e.st % 16 * 2 ^ 20 + e.dup.toNat * 2 ^ 19 + e.fold.toNat * 2 ^ 18 + e.dyn.toNat * 2 ^ 17)
  | _ => wd (e.sid % 2 ^ 25)

end Sys2Proof.Machine
end

