-- ==== Sys2Proof/Machine/Telemetry.lean ====
section
/-! DEFINITION. Telemetry (R407 to R410): requests, the summary, and the frames a collector keeps. -/

namespace Sys2Proof.Machine

/-- MON_CNT `i`. -/
def bumpMon (s : State) (i : Nat) : State := bump s (0xD080 + 4 * i)

/-- Telemetry is enabled: FLT_BGCFG.TELEM and a collector mode; it waits while the management processor restarts (R407, R411). -/
def telOn (s : State) : Bool := committed s && !s.flt.mgmtDown && regB s 0xB004 5 && regF s 0xD008 31 30 != 0

/-- One byte per lane: MODE, HEALTH, STATE (Table 16-4). -/
def telLane (s : State) (l : Fin 4) : Byte :=
  BitVec.ofNat 8 (s.lanes[l].mode % 4 * 64 + s.lanes[l].health % 4 * 16 + laneStNo s.lanes[l].st)

/-- The records a selector-1 frame appends: up to four of at least MINSEV written since the previous frame, newest first (R409). -/
def telRecords (s : State) (sel : Nat) : List Rec :=
  if sel = 1 then (s.mon.telEvs.filter (fun r => decide (regF s 0xD008 26 24 ≤ r.ev.sev))).take 4 else []

/-- A register as 4 bytes. -/
def regBytes (w : Word) : Bytes := beBytes 4 w.toNat

/-- The payload of the next telemetry frame (Table 16-4, R409). DEDUCED (log 96). -/
def telPayload (s : State) (sel : Nat) : Bytes :=
  let rs := telRecords s sel
  [0x54#8, BitVec.ofNat 8 sel] ++ beBytes 2 ((s.mon.telSeq + 1) % 65536) ++ beBytes 8 s.uid ++ beBytes 4 s.mram.optime ++ beBytes 4 s.mram.pwrcyc ++
    [BitVec.ofNat 8 (nstateNo s.line.node), BitVec.ofNat 8 (tstateNo s.tb.st), BitVec.ofNat 8 (ownHandle s 0), BitVec.ofNat 8 (ownPos s 0)] ++
    regBytes (recStat s) ++ beBytes 4 s.log.head ++ regBytes (fltStat s) ++ regBytes (fltSpare s) ++
    [telLane s 0, telLane s 1, telLane s 2, telLane s 3] ++ regBytes (schStat s) ++ regBytes (pwrLine s) ++
    [BitVec.ofNat 8 rs.length, BitVec.ofNat 8 s.log.lastSev5, s.line.temp, 0#8] ++ beBytes 4 s.boot.imageId ++ [0#8, 0#8, 0#8, 0#8] ++
    (rs.map (fun r => recBytes r.seq r.ev)).flatten

/-- A frame has left, or was filed: the next one starts afresh. -/
def telSent (s : State) : State :=
  bumpMon { s with
    mon := { s.mon with telSel := none, telSeq := (s.mon.telSeq + 1) % 65536, telEvs := [] }
    log := { s.log with lastSev5 := 0 } } 4

/-- A collector keeps the newest payload of each handle, up to 192 bytes; another node discards it (R410). -/
def telFile (s : State) (h : Nat) (b : Bytes) : State :=
  if regB s 0xD000 6 then
    bumpMon { s with mon := { s.mon with files := (h, b.take 192, s.now) :: s.mon.files.filter (fun x => x.1 != h) } } 6
  else bumpMon s 7

/-- A request for one telemetry frame (R407, R408): it merges into one that waits; an own collector files it at once. -/
def telRequest (s : State) (sel : Nat) : State :=
  if s.mon.coll = 0 then raiseLim s 1000000000 0xD031 2 0xFFF []
  else if s.mon.coll = ownHandle s 0 then telFile (telSent s) s.mon.coll (telPayload s sel)
  else { s with mon := { s.mon with telSel := some (max sel (s.mon.telSel.getD 0)) } }

/-- The first own minislot of the row (R408). -/
def firstMini (row : Option Bytes) : Option Nat := row.bind (fun r => if beAt r 16 2 = 0xFFFF then none else some (beAt r 16 2))

/-- The telemetry frame waiting at minislot `mini`, if it may leave there. -/
def telWaiting (s : State) : List DynOut :=
  match s.mon.telSel with
  | some sel =>
    if telOn s && decide (firstMini (ownRow s 0) = some s.sch.mini) then
      [{ origin := 4, inp := 16, laneB := false, cls := classOf (regF s 0xD008 29 27), kind := 8, dtype := 0, dest := [BitVec.ofNat 8 s.mon.coll], body := telPayload s sel }]
    else []
  | none => []

/-- A waiting frame that cannot meet 1% of the lane-A quota is not sent (R408). -/
def telQuota (s : State) : State :=
  match telWaiting s with
  | x :: _ =>
    if rowQuota (ownRow s 0) false < 100 * (28 + x.body.length) then
      raiseLim (bumpMon { s with mon := { s.mon with telSel := none } } 5) 1000000000 0xD030 2 0xFFF []
    else s
  | [] => s

/-- TELEMETRY_PERIOD: every PERIOD x 100 ms while telemetry is enabled (R407). -/
def telemetryPeriod (s : State) : State := if telOn s && regF s 0xD008 23 16 != 0 then telRequest s 0 else s

/-- TELEMETRY_FRAME_RX: KIND 0x08 with MTYPE 0x54 (R410). -/
def telemetryFrameRx (s : State) (f : Bytes) : State :=
  if committed s && !s.flt.mgmtDown && hcrcOk f && byteAt f 0 == 8 && trailerOk f && byteAt (payloadOf f) 0 == 0x54 then
    telFile s (byteAt f 2) (payloadOf f)
  else s

/-- A write of MON_TIDX latches the entry of that handle (R410). MON_TAGE is kept inverted, so that an empty latch reads as never. -/
def monTidx (s : State) (req : Req) (be : BitVec 4) (v : Word) : State :=
  let s1 := setIdx s req 0xD010 be (v &&& 0xFF)
  let (a, ws) := telWords s (fld (getLatch s1 req 0xD010) 7 0)
  setLatch (setLatch s1 req 0xD014 [~~~a]) req 0xD100 ws

end Sys2Proof.Machine
end

