-- ==== Sys2Proof/Machine/Admit.lean ====
section
/-! DEFINITION. Admission to the dynamic segment: own minislots, quotas, and the control allowance (R177, R187, R188). -/

namespace Sys2Proof.Machine

/-- What waits for admission in a segment on a lane letter, in order: the descriptor, due records, telemetry, the queue. A yielded train's own
signals are stopped (R135). -/
def dynWaiting (s : State) (g : Fin 2) (b : Bool) : List DynOut :=
  ((if s.sg.descDue.contains g then [signalFrame s g none] else []) ++ s.sg.dynDue.map (fun r => signalFrame s (layoutSeg s r) (some r)) ++ telWaiting s ++ s.sch.dyn).filter
    (fun x => x.seg == g && x.laneB == b && !(s.inaug[g].yielded && (x.origin == 1 || x.origin == 2)))

/-- The waiting frame of highest class, the first of it. -/
def dynNext (s : State) (g : Fin 2) (b : Bool) : Option DynOut :=
  (dynWaiting s g b).foldl (fun y x => match y with
    | none => some x
    | some z => if z.cls < x.cls then some x else some z) none

/-- A frame leaves the waiting line. -/
def dynTaken (s : State) (x : DynOut) : State :=
  match x.origin with
  | 1 => { s with sg := { s.sg with dynDue := s.sg.dynDue.filter (· != x.tag), dynAt := mput s.sg.dynAt x.tag (cycleNo s) } }
  | 2 => { s with sg := { s.sg with descDue := s.sg.descDue.filter (· != x.seg) } }
  | 4 => telSent s
  | _ => { s with sch := { s.sch with dyn := s.sch.dyn.erase x } }

/-- One frame of a lane letter is admitted at own minislot m, waits for quota, or is discarded (R188). -/
def admitFrame (s : State) (g : Fin 2) (m : Nat) (b : Bool) : State :=
  match dynNext s g b with
  | none => s
  | some x =>
    let n := 28 + x.body.length
    let left := s.sch.quota[quotaIdx g b]
    if rowQuota (ownRow s g) b < n then dynOversize (dynTaken s x) x
    else if left < n then bumpSch s 9
    else
      let s1 := dynTaken s x
      let s2 := { s1 with sch := { s1.sch with quota := s1.sch.quota.set (quotaIdx g b) (left - n) } }
      let f := mkFrame { kind := x.kind, cls := x.cls, dyn := true, crit := false, fold := false, src := ownHandle s g, dtype := x.dtype, dest := x.dest
                         cycle := cycleNo s, slot := m, len := 0, hops := 0 } x.body
      let s3 := bumpSch s2 8
      let s4 := if x.origin = 1 ∨ x.origin = 2 then bumpSg s3 4 else s3
      originate s4 g b { frame := f, eth := false, cls := x.cls, slot := m, inp := x.inp, since := s.now }

/-- One control frame starts, up to four a cycle (R187): the first that may start by now (R341). -/
def startCtl (s : State) : State :=
  match s.sch.ctl.find? (fun c => decide (c.after ≤ s.now) && ctlMay s c) with
  | none => s
  | some c =>
    if 4 ≤ s.sch.ctlSent then s
    else startNow { s with sch := { s.sch with ctl := s.sch.ctl.erase c, ctlSent := s.sch.ctlSent + 1 } } c

/-- An own minislot of a segment admits a frame on each lane (R188). -/
def admitIn (s : State) (m : Nat) (g : Fin 2) : State :=
  if ownMini (ownRow s g) m then admitFrame (admitFrame (if g = 0 then telQuota s else s) g m false) g m true else s

/-- MINISLOT_START (R177, R187, R188): a minislot of the cycle is taken once (R170). A segment gateway has minislots in both segments (R143). -/
def minislotStart (s : State) (m : Nat) : State :=
  if schedCommitted s && !s.sch.inStatic && decide (m < regF s 0x4010 11 0) && cycleOpen s && decide (s.sch.miniNext ≤ m) then
    let s1 := { s with sch := { s.sch with mini := m, miniNext := m + 1 } }
    if m < regF s 0x4010 19 12 then startCtl s1
    else if service s then (let s2 := admitIn s1 m 0; if segGw s then admitIn s2 m 1 else s2)
    else s1
  else s

end Sys2Proof.Machine
end

