-- ==== Sys2Proof/Machine/Policy.lean ====
section
/-! DEFINITION. Fault commands, the management processor's restart, background work and the policy engine (chapter 14). -/

namespace Sys2Proof.Machine

/-! ### Sessions end (R401, R406, R411) -/

/-- The session this node serves closes. -/
def closeServed (s : State) : State :=
  match s.mon.served with
  | some f => raise { s with mon := { s.mon with served := none, rem := { level := 0 } } } 0xD011 0 0xFFF [f.handle]
  | none => s

/-- The session opened from here closes. -/
def closeOpened (s : State) : State :=
  match s.mon.opened with
  | some f =>
    let s1 := { s with mon := { s.mon with opened := none, waiting := false, opening := false } }
    if s.mon.opening then s1 else raise s1 0xD011 0 0xFFF [f.handle]
  | none => s

/-- Every session ends and the local level returns to VIEW: at the own SI and at a management restart. -/
def monEnd (s : State) : State :=
  let s1 := closeOpened (closeServed s)
  { s1 with mon := { s1.mon with ses := { s1.mon.ses with level := 1, chal := none }, prog := none, inbuf := [] } }

/-! ### Tests and commands (R357 to R365) -/

/-- SELF_TEST_END: the unit under test ends its test (R360, Table 14-3). A disagreement that stands at the end of its test holds the unit
(R365). -/
def selfTestEnd (s : State) (r : TestResult) : State :=
  match s.flt.test with
  | none => s
  | some q =>
    if !coreRun s || s.flt.mgmtDown then s
    else
      let r := match laneUnit q.unit with
        | some l => { r with pass := r.pass && laneMeasured s l }
        | none => r
      let s0 := if r.pass && q.unit == 0x21 then { s with sch := { s.sch with gdPlan := s.sch.plan, tabFault := false, clkFault := false } } else s
      let s1 := endTest s0 q r
      if (fUnit s1 q.unit).disT then
        let s2 := setUnit s1 q.unit (fun x => { x with disT := false, dis := 0 })
        if reqState s2 q.unit ≠ effState s2 q.unit then holdUnit (setUnit s2 q.unit (fun x => { x with disH := true })) q.unit 3 0xA006 else s2
      else s1

/-- LANE_RETIRE_DONE: four messages with RETIRING sent and 100 µs passed (R361). Where the other lane has gone meanwhile the lane is held. -/
def laneRetireDone (s : State) (l : Fin 4) : State :=
  let x := s.lanes[l]
  if x.retiring && decide (4 ≤ x.retSent) && decide (x.retAt + 100000 ≤ s.now) then
    if upAtDesign s (sisterLane l) then retireLane s l x.retCause (fUnit s l.val).code
    else holdUnit (setLane s l (fun x => { x with retiring := false })) l.val 1 (fUnit s l.val).code
  else s

/-- A Lamplighter context or the management processor: their tests never enter the queue (R357, Table 14-1). -/
def ownResponse (u : Nat) : Bool := (decide (0x10 ≤ u) && decide (u ≤ 0x1A)) || u == 0x24

/-- A test asked for by a command or a rule: no new entry where the unit is queued or under test (R357, Table 14-10). DEDUCED (log 89). -/
def askTest (s : State) (u : Nat) (ret : Bool) : State :=
  if ownResponse u then s
  else if underTest s u then s
  else if queued s u then { s with flt := { s.flt with queue := s.flt.queue.map (fun q => if q.unit == u then { q with ret := q.ret || ret } else q) } }
  else enqueue s u 0 ret

/-- CMD_REJECT (R363). -/
def cmdReject (s : State) (u src : Nat) : State := raise s 0xA051 1 0xFFF [u, src]

/-- A test command: `test` of the monitor, FLT_UNITCMD OP 1. -/
def unitTest (s : State) (u src : Nat) : State :=
  if !unitAssigned u || reqState s u == 0 then cmdReject s u src else askTest s u false

/-- A return command ends something of the unit: it is retired or held, or a bank of the MRAM is lost (R363, R394). DEDUCED (log 118). -/
def canReturn (s : State) (u : Nat) : Bool :=
  unitAssigned u && ((fUnit s u).req == 2 || (fUnit s u).held || (u == 0x31 && (s.mram.bankA.st == 2 || s.mram.bankB.st == 2)))

/-- A return command (R363): a retired lane enters DETECT, and the unit takes a test; of the SRAM, its
last held row. -/
def unitReturn (s : State) (u src : Nat) : State :=
  if canReturn s u then
    let s1 := raise s 0xA050 6 u [u, src]
    let s2 := match laneUnit u with
      | some l => if s1.lanes[l].st == .retired then setLane s1 l toDetect else s1
      | none => s1
    let s3 := if u = 0x30 then { s2 with flt := { s2.flt with row := s2.flt.heldRows.headD s2.flt.row } } else s2
    askTest s3 u true
  else cmdReject s u src

/-- A lane may be retired on request: it and the port's other lane are UP (Table 14-7). -/
def canRetire (s : State) (l : Fin 4) : Bool := laneUp s l && laneUp s (sisterLane l)

/-- Retirement without a test (R361, Table 14-10): a test of the lane is abandoned. Where the other lane is below its design mode the
lane is held. -/
def laneRetire (s : State) (l : Fin 4) (cause : Nat) : State :=
  let s1 := keepCode (dropTests s l.val) l 0
  if upAtDesign s1 (sisterLane l) then beginRetire s1 l cause else holdUnit s1 l.val 1 0

/-- A write of FLT_UNITCMD with its fields as written (R363, R419). -/
def unitCmd (s : State) (src : Nat) (v : Word) : State :=
  if fld v 31 16 = 0xF417 ∧ regB s 0xB000 0 = true then
    let u := fld v 7 0
    match fld v 9 8 with
    | 1 => unitTest s u src
    | 2 => match laneUnit u with
      | some l => if canRetire s l then laneRetire s l 3 else cmdReject s u src
      | none => cmdReject s u src
    | 3 => unitReturn s u src
    | _ => s
  else s

/-- The comparison of one unit (R365). -/
def disagreeUnit (s : State) (u : Nat) : State :=
  let r := reqState s u
  let e := effState s u
  let x := fUnit s u
  if !unitAssigned u then s
  else if e = 3 then setUnit s u (fun x => { x with dis := 0 })
  else if r = e then setUnit s u (fun x => { x with dis := 0, held := x.held && !x.disH, disH := false })
  else
    let n := x.dis + 1
    let s1 := setUnit s u (fun x => { x with dis := n })
    if max 1 (regF s 0xB000 23 16) ≤ n ∧ x.disT = false ∧ x.disH = false then
      enqueue (raise (bumpFlt (setUnit s1 u (fun x => { x with disT := true })) 5) 0xA006 3 u [u, r, e]) u 0xA006 false
    else s1

/-- DISAGREE_CHECK, every 1 ms (R365). -/
def disagreeCheck (s : State) : State := if coreRun s then (List.range 50).foldl disagreeUnit s else s

/-! ### Management processor (R366, R367) -/

/-- The running test is abandoned; its unit returns to the head of the queue, and an entry beyond the eighth is deferred. DEDUCED (log 91). -/
def abandonTest (s : State) : State :=
  match s.flt.test with
  | none => s
  | some q =>
    let all := q :: s.flt.queue
    let s1 := { s with flt := { s.flt with test := none, second := false, lossTest := false, pdTest := false, queue := all.take 8 } }
    match all[8]? with
    | some z => setUnit s1 z.unit (fun x => { x with defer_ := true, defCode := z.code })
    | none => s1

/-- WATCHDOG_EXPIRY (R366, R367). DEDUCED (log 94). -/
def watchdogExpiry (s : State) (sramError : Bool) : State :=
  if !coreRun s || s.flt.mgmtDown then s
  else
    let recent := s.flt.restarts.filter (fun t => decide (s.now ≤ t + 600000000000))
    let n := regF s 0xB000 11 8
    let lasting := n != 0 && decide (n ≤ recent.length)
    let old := if recent.isEmpty then 0 else s.flt.wait
    let wait := if lasting ∨ 0 < old then min 64 (max 1 (2 * old)) else 0
    let s1 := bumpFlt (raise (detect s 0x24 0xA020) 0xA020 3 0x24 [0x24, sramError.toNat]) 6
    let s2 := if lasting then raiseGasp s1 0xA021 7 0x24 [0x24, sramError.toNat] else s1
    let s3 := monEnd (abandonTest s2)
    let s4 := { s3 with flt := { s3.flt with mgmtDown := true, restarts := s.now :: recent, wait := wait, waiting := decide (0 < old), lastRst := s.now } }
    outDown (outDown s4 16) 17

/-- MGMT_RESTART_WAIT: the wait before a further restart ends (R367). -/
def mgmtRestartWait (s : State) : State := if s.flt.mgmtDown then { s with flt := { s.flt with waiting := false } } else s

/-- MGMT_RESTART_DONE: the processor runs again; policy windows restart, the handler and the Dawn work that waited resume (R138, R366, R370). -/
def mgmtRestartDone (s : State) : State :=
  if s.flt.mgmtDown && !s.flt.waiting then
    let s1 := outUp (outUp { s with flt := { s.flt with mgmtDown := false } } 16) 17
    dawnResume (startTest (policyRestart s1))
  else s

/-! ### Background work (R368) -/

/-- A pass that overruns its period by more than 10%. -/
def scrubLate (s : State) (start period : Nat) : Bool := decide (start + period * 11 / 10 < s.now)

/-- A background access gives way: it is counted in BG_DEFERRED and made in the next window (R21, R25). -/
def bgDeferred (s : State) : State := bumpFlt s 12

/-- What the scrubber makes of a line of a row (Table 14-5): a second corrected error within 24 h, or an uncorrectable one, remaps the row; an
uncorrectable error in the management processor's region restarts the processor too (Table 14-2, R366). -/
def scrubRow (s : State) (row : Nat) (found : ScrubFind) : State :=
  match found with
  | .corrected =>
    let again := s.flt.corrRows.any (fun x => x.1 == row && decide (s.mram.optime ≤ x.2 + 8640))
    let t := bumpFlt { s with flt := { s.flt with corrRows := (row, s.mram.optime) :: s.flt.corrRows.filter (fun x => x.1 != row && decide (s.mram.optime ≤ x.2 + 8640)) } } 7
    if again then remapRow t row 0 else t
  | .uncorrectable =>
    let t := remapRow (bumpFlt s 8) row 0
    if rowRegion row = .management then watchdogExpiry t true else t
  | _ => s

/-- A row that the scrubber passes over: one under test, or a spare row not in use (Table 14-5). -/
def scrubSkips (s : State) (row : Nat) : Bool := s.flt.test.any (fun q => q.unit == 0x30 && q.row == row) || spareIdle s row

/-- SRAM_SCRUB_LINE: one line of 229,376; its row is line / 16 (Table 1-7, Table 14-5). DEDUCED (log 92). -/
def sramScrubLine (s : State) (found : ScrubFind) : State :=
  if !coreRun s || !regB s 0xB004 0 then s
  else if found = .deferred then bgDeferred s
  else
    let row := s.flt.sLine / 16
    let s1 := if scrubSkips s row then s else scrubRow s row found
    let s2 := if scrubLate s1 s1.flt.sStart 375809638 && !s1.flt.sLate then raise { s1 with flt := { s1.flt with sLate := true } } 0xA061 2 0x30 [0x30] else s1
    if s2.flt.sLine + 1 < 229376 then { s2 with flt := { s2.flt with sLine := s2.flt.sLine + 1 } }
    else bumpFlt { s2 with flt := { s2.flt with sLine := 0, sStart := s2.now, sLate := false } } 10

/-- MRAM_SCRUB_STEP: one 32-byte step of the 4 MiB (Table 1-7, Table 14-5). -/
def mramScrubStep (s : State) (found : ScrubFind) : State :=
  if !coreRun s || !regB s 0xB004 1 then s
  else if found = .deferred then bgDeferred s
  else
    let s1 := match found with
      | .corrected => bumpFlt s 9
      | .uncorrectable => detect s 0x31 0
      | _ => s
    let s2 := if scrubLate s1 s1.flt.mStart 86400000000000 && !s1.flt.mLate then raise { s1 with flt := { s1.flt with mLate := true } } 0xA061 2 0x31 [0x31] else s1
    if s2.flt.mStep + 1 < 131072 then { s2 with flt := { s2.flt with mStep := s2.flt.mStep + 1 } }
    else bumpFlt { s2 with flt := { s2.flt with mStep := 0, mStart := s2.now, mLate := false } } 11

/-- PILOT_TRIM_TIMER: the Pilot RC's error before trim, in 0.01% (Table 14-5). -/
def pilotTrimTimer (s : State) (dev : Int) : State :=
  if coreRun s && regB s 0xB004 3 && decide (300 < dev.natAbs) then raise s 0xA060 2 0xFFF [unsigned 16 dev] else s

/-! ### Policy (R369 to R373) -/

/-- A rule record (Table 14-6). -/
structure PolRule where
  on     : Bool
  linked : Bool
  action : Nat
  arg    : Nat
  src    : Nat
  lo     : Nat
  width  : Nat
  mode   : Nat
  cmp    : Nat
  window : Nat
  thresh : Nat
  hold   : Nat
  link   : Nat
  arg2   : Nat
  deriving DecidableEq, Repr

/-- Reads record r. -/
def polRule (s : State) (r : Nat) : PolRule :=
  let b := slice (imgTable s 0xB0 1) (32 * r) 32
  { on := (byteAt b 0).testBit 0, linked := (byteAt b 0).testBit 1, action := byteAt b 1, arg := beAt b 2 2, src := beAt b 4 2, lo := byteAt b 6
    width := byteAt b 7, mode := byteAt b 8, cmp := byteAt b 9, window := beAt b 10 2, thresh := beAt b 12 4, hold := beAt b 16 2, link := byteAt b 18
    arg2 := beAt b 20 4 }

/-- CMP (Table 14-6). -/
def polCmp (c v t : Nat) : Bool :=
  match c with
  | 0 => v == t
  | 1 => v != t
  | 2 => decide (t < v)
  | 3 => decide (t ≤ v)
  | 4 => decide (v < t)
  | _ => decide (v ≤ t)

/-- DELTA: current value less the oldest sample, modulo 2^width; 0 where there is none (R370). -/
def polDelta (x : RuleSt) (width v : Nat) : Nat :=
  match x.samples.getLast? with
  | some o => (v + 2 ^ width - o % 2 ^ width) % 2 ^ width
  | none => 0

/-- The sample of this tick, where one is due: 16 samples, ceil(WINDOW / 16) ms apart. -/
def polSample (x : RuleSt) (tick window v : Nat) : RuleSt :=
  if x.samples.isEmpty ∨ x.sampAt + ceilDiv window 16 ≤ tick then { x with samples := (v :: x.samples).take 16, sampAt := tick } else x

/-- One condition: its value V, whether it holds, and its windows after the tick (R370). DEDUCED (log 93). -/
def polEval (x : RuleSt) (tick mode cmp window thresh width v : Nat) : Nat × Bool × RuleSt :=
  match mode with
  | 0 => (v, polCmp cmp v thresh, x)
  | 1 => (polDelta x width v, polCmp cmp (polDelta x width v) thresh, polSample x tick window v)
  | _ =>
    if polCmp cmp v thresh then
      let t := x.since.getD tick
      (v, decide (t + window ≤ tick), { x with since := some t })
    else (v, false, { x with since := none })

/-- A rule fires when its condition becomes true, and again each HOLDOFF while it stays true. -/
def polFires (x : RuleSt) (tick hold : Nat) (c : Bool) : Bool := c && (!x.cond || (hold != 0 && decide (x.lastAt + 100 * hold ≤ tick)))

/-- The rule's state after the tick. -/
def polNext (x : RuleSt) (tick : Nat) (c fired : Bool) : RuleSt := { x with cond := c, lastAt := if fired then tick else x.lastAt }

/-- A CLASS_QUOTA cap: clamped from MIN to the committed MAX of the class. -/
def quotaCap (s : State) (c cap : Nat) : Nat := max (regF s (0x5020 + 4 * c) 15 0) (min cap (regF s (0x5020 + 4 * c) 31 16))

/-- The action can act: 0, or the reject reason of Table 14-7a. -/
def actReason (s : State) (action arg : Nat) : Nat :=
  match action with
  | 2 => if reqState s arg = 0 then 1 else 0
  | 3 => match laneUnit arg with
    | some l => if canRetire s l then 0 else 2
    | none => 2
  | 4 => if switchReason s arg ≠ 0 then 3 else 0
  | 6 => if ((s.can[arg]?).getD {}).st = 4 then 0 else 4
  | 7 => if telOn s ∧ arg ≤ 1 then 0 else 5
  | _ => 0

/-- The effect of an action (Table 14-7); of a rejected one, only the event its own chapter raises. -/
def actGo (s : State) (rule action arg arg2 v : Nat) : State :=
  let ok := actReason s action arg == 0
  match action with
  | 1 => raise s 0xA041 (min 5 (arg % 8)) 0xFFF [rule, v]
  | 2 => if !ok then s else if canReturn s arg then unitReturn s arg 2 else askTest s arg false
  | 3 => match laneUnit arg with
    | some l => if ok then laneRetire s l 2 else s
    | none => s
  | 4 => switchTo s (arg % 4) 2
  | 5 => xoffUpdate { s with pol := { s.pol with qovr := s.pol.qovr.setIfInBounds arg (some (quotaCap s arg (arg2 % 65536))) } }
  | 6 => if h : arg < 8 then canRecover s ⟨arg, h⟩ 2 else s
  | 7 => if ok then telRequest s arg else s
  | _ => s

/-- An image rule fires (R371). -/
def polFire (s : State) (r : Nat) (p : PolRule) (v : Nat) : State :=
  let why := actReason s p.action p.arg
  let s1 := raise (bump s (0xB800 + 4 * r)) 0xA040 1 0xFFF [r, p.action, 0]
  let s2 := { s1 with pol := { s1.pol with lastRule := r, lastAct := p.action } }
  let s3 := if why ≠ 0 then raise s2 0xA042 2 0xFFF [r, why] else s2
  actGo s3 r p.action p.arg p.arg2 v

/-- A house rule fires (R373): number h, its action and argument. -/
def houseFire (s : State) (h action arg v : Nat) : State :=
  actGo (raise (bump s (0xB440 + 4 * h)) 0xA040 1 0xFFF [h, action, 1]) h action arg 0 v

/-- One house rule instance as evaluated: key, rule, action, argument, HOLDOFF, whether its condition holds with an action that can act, V,
and its windows. -/
structure HouseEval where
  key    : Nat
  rule   : Nat
  action : Nat
  arg    : Nat
  hold   : Nat
  ok     : Bool
  v      : Nat
  st     : RuleSt

/-- House rule state by key: 16 h + instance. -/
def houseSt (s : State) (k : Nat) : RuleSt := (mget s.pol.house k).getD {}

/-- The house rules at a tick (Table 14-8). H3 watches each channel; it fires once for all of them. -/
def houseEvals (s : State) : List HouseEval :=
  let t := s.pol.tick
  let lanes := List.finRange 4
  let h0 := lanes.map (fun l =>
    let (_, c, x) := polEval (houseSt s l.val) t 2 0 10000 2 2 s.lanes[l].health
    HouseEval.mk l.val 0 3 l.val 0 (c && upAtDesign s (sisterLane l) && actReason s 3 l.val == 0) s.lanes[l].health x)
  let h1 := lanes.map (fun l =>
    let (_, c, x) := polEval (houseSt s (16 + l.val)) t 2 3 600000 1 2 s.lanes[l].health
    HouseEval.mk (16 + l.val) 1 2 l.val 36000 (c && actReason s 2 l.val == 0) s.lanes[l].health x)
  let (v2, c2, x2) := polEval (houseSt s 32) t 1 2 3600000 64 32 (reg s (0xB080 + 28)).toNat
  let chans := (List.finRange 8).map (fun c =>
    let (v, ok, x) := polEval (houseSt s (48 + c.val)) t 1 2 1000 100 32 (reg s (0x7180 + 0x200 * c.val + 16)).toNat
    HouseEval.mk (48 + c.val) 3 0 0 0 (ok && bitAt (canCfg s c) 0) v x)
  let c3 := chans.any HouseEval.ok
  let v3 := (chans.map HouseEval.v).foldl max 0
  h0 ++ h1 ++ [HouseEval.mk 32 2 1 2 36000 c2 v2 x2] ++ chans ++ [HouseEval.mk 56 3 1 2 600 c3 v3 (houseSt s 56),
    HouseEval.mk 64 4 7 0 10 (s.log.sev5 && telOn s) 0 (houseSt s 64),
    HouseEval.mk 80 5 1 5 36000 (decide (sramSpares s < 64)) (sramSpares s) (houseSt s 80)]

/-- An image rule as evaluated. -/
structure RuleEval where
  r    : Nat
  p    : PolRule
  ok   : Bool
  v    : Nat
  st   : RuleSt

/-- The enabled image rules, each with its own condition. -/
def ruleEvals (s : State) : List RuleEval :=
  ((List.range s.pol.nrules).map (fun r => (r, polRule s r))).filterMap (fun x =>
    if x.2.on then
      let v := fld (regRead s .host x.2.src) (x.2.lo + x.2.width - 1) x.2.lo
      let (w, c, st) := polEval ((mget s.pol.rules x.1).getD {}) s.pol.tick x.2.mode x.2.cmp x.2.window x.2.thresh x.2.width v
      some { r := x.1, p := x.2, ok := c, v := w, st := st }
    else none)

/-- A condition with those its LINKs require (R369); structural on the length of the chain. -/
def linkHolds (l : List RuleEval) : (n : Nat) → RuleEval → Bool
  | 0, _ => false
  | n + 1, e => e.ok && (!e.p.linked || (match l.find? (fun x => x.r == e.p.link) with
    | some y => linkHolds l n y
    | none => false))

/-- One house rule instance is settled. -/
def houseSettle (s : State) (e : HouseEval) : State :=
  let on := (regF s 0xB400 5 0).testBit e.rule && e.action != 0
  let f := on && polFires e.st s.pol.tick e.hold e.ok
  let s1 := { s with pol := { s.pol with house := mput s.pol.house e.key (polNext e.st s.pol.tick (on && e.ok) f) } }
  if f then houseFire s1 e.rule e.action e.arg e.v else s1

/-- One image rule is settled. -/
def ruleSettle (l : List RuleEval) (s : State) (e : RuleEval) : State :=
  let c := linkHolds l 257 e
  let f := polFires e.st s.pol.tick e.p.hold c
  let s1 := { s with pol := { s.pol with rules := mput s.pol.rules e.r (polNext e.st s.pol.tick c f) } }
  if f then polFire s1 e.r e.p e.v else s1

/-- POLICY_TICK, every 1 ms: all conditions first, then the house rules' actions and the image's, in rule order (R370, R371, R373). -/
def policyTick (s : State) : State :=
  if service s && !s.flt.mgmtDown then
    let hs := houseEvals s
    let rs := ruleEvals s
    let s1 := { s with log := { s.log with sev5 := false } }
    let s2 := rs.foldl (ruleSettle rs) (hs.foldl houseSettle s1)
    { s2 with pol := { s2.pol with tick := s2.pol.tick + 1 } }
  else s

end Sys2Proof.Machine
end

