-- ==== Sys2Proof/Machine/RegWrite.lean ====
section
/-! DEFINITION. A register write by any requester (R10 to R13, R416, R419): byte enables, locks, W1C bits, command registers, clear
registers (R119) and the latches of R417. -/

namespace Sys2Proof.Machine

/-- The host interface answers: from commit until the own sleep instant (R422, Table 13-8), while no boundary-scan instruction holds its balls
(R46). -/
def hostAlive (s : State) : Bool := committed s && !s.snuf.pastSi && !bscan s

/-- The monitor takes input: the core runs, its processor is up, and no boundary-scan instruction holds its balls (R46, R366, R399). -/
def monAlive (s : State) : Bool := coreRun s && !s.flt.mgmtDown && !bscan s

/-- A requester reaches the registers; the host while no access of its own is held and the bridge does not own its bus. -/
def reqAlive (s : State) (req : Req) : Bool :=
  match req with
  | .host => hostAlive s && s.hb.held.isNone && !s.hb.owns
  | .monitor => monAlive s
  | .far => committed s

/-- RWL fields of a block are writable (R12): from reset until commit, and for the blocks from the switch on during a profile switch.
DEDUCED (log 68). -/
def rwlOpen (s : State) (off : Nat) : Bool := !s.boot.locked || (s.boot.phase == .switchLoad && decide (0x5000 ≤ off))

/-- The bits of a register that a write may set as values. -/
def rwBits (s : State) (off : Nat) : Word :=
  match desc off with
  | some d => wd (d.rw ||| (if rwlOpen s off then d.rwl else 0))
  | none => 0

/-- RW and RWL fields take the enabled bytes. -/
def rwMerge (s : State) (off : Nat) (be : BitVec 4) (v : Word) : Word :=
  let m := rwBits s off &&& beMask be
  (cfgReg s off &&& ~~~m) ||| (v &&& m)

/-- While an image loads, a word written stands until a section loads the register again (R10). -/
def noteWrite (s : State) (off : Nat) (v : Word) : State :=
  if imageLoads s && configReg off then { s with boot := { s.boot with wrote := mput s.boot.wrote off v } } else s

/-- A plain write: RW and RWL fields are stored. -/
def storeReg (s : State) (off : Nat) (be : BitVec 4) (v : Word) : State :=
  noteWrite (setReg s off (rwMerge s off be v)) off (rwMerge s off be v)

/-- Global block. `v` is the word, `m` the same with disabled bytes as zero. -/
def writeGlobal (s : State) (req : Req) (off : Nat) (be : BitVec 4) (v : Word) : State :=
  let m := maskBe be v
  match off with
  | 0x0040 => setReg s 0x40 (reg s 0x40 &&& ~~~(m &&& 0xFF03FF))
  | 0x004C => setReg s 0x40 (reg s 0x40 ||| (m &&& 0xFF03FF))
  | 0x0120 => profCtl s (srcCode req) m
  | _ => storeReg s off be v

/-- Backbone lanes block. -/
def writeLanes (s : State) (req : Req) (off : Nat) (be : BitVec 4) (v : Word) : State :=
  if off = 0x1004 then bbClear s req (maskBe be v) else storeReg s off be v

/-- Topology block. -/
def writeTopology (s : State) (req : Req) (off : Nat) (be : BitVec 4) (v : Word) : State :=
  match off with
  | 0x2004 => topLead (noteWrite s off (rwMerge s off be v)) (rwMerge s off be v)
  | 0x2008 => topCmd s (srcCode req) (maskBe be v)
  | 0x2020 =>
    let s1 := setIdx s req 0x2020 be (v &&& 0xFF)
    setLatch s1 req 0x2024 (tentWords s1 (fld (getLatch s1 req 0x2020) 7 0))
  | 0x2068 => setIdx s req 0x2068 be (v &&& 0x3FF)
  | _ => storeReg s off be v

/-- Time base block. -/
def writeTime (s : State) (off : Nat) (be : BitVec 4) (v : Word) : State :=
  if off = 0x3044 then
    let s1 := if bitAt (maskBe be v) 24 then { s with tb := { s.tb with synciOvf := false } } else s
    storeReg s1 off be (v &&& 3)
  else storeReg s off be v

/-- SW_CNTCLR (R119): every counter, and PEAK starts again from the present occupancy. DEDUCED (log 12). -/
def swClear (s : State) (req : Req) (v : Word) : State :=
  let s1 := if bitAt v 0 then { s with sw := { s.sw with ports := Vector.ofFn (fun p : Fin 20 => { s.sw.ports[p] with peak := occAll s p }) } } else s
  clearCounters s1 req 0x60FF v (fun o => inGroup o 0x5800 320 || inGroup o 0x5E00 32)

/-- Switch block. A mirror session that turns on counts its matches from the start (R229). -/
def writeSwitch (s : State) (req : Req) (off : Nat) (be : BitVec 4) (v : Word) : State :=
  match off with
  | 0x5400 =>
    let s1 := setIdx s req 0x5400 be (v &&& 0xFFF)
    setLatch s1 req 0x5404 (fdbWords s1 (fld (getLatch s1 req 0x5400) 11 0))
  | 0x5F00 => swClear s req (maskBe be v)
  | _ =>
    let s1 := storeReg s off be v
    if off ∈ [0x5300, 0x5310, 0x5320, 0x5330] ∧ regB s off 31 = false ∧ regB s1 off 31 = true then
      { s1 with sw := { s1.sw with mirN := s1.sw.mirN.setIfInBounds ((off - 0x5300) / 16) 0 } }
    else s1

/-- Signals block. -/
def writeSignals (s : State) (req : Req) (off : Nat) (be : BitVec 4) (v : Word) : State :=
  match off with
  | 0x6010 => hostCommitGo s (maskBe be v)
  | 0x6014 => if bitAt (maskBe be v) 31 then { s with sg := { s.sg with ovf := false } } else s
  | 0x60FC => clearCounters s req 0x70FF (maskBe be v) (fun o => inGroup o 0x6080 12)
  | _ => storeReg s off be v

/-- CAN_CNTCLR (R119). -/
def canClear (s : State) (req : Req) (v : Word) : State :=
  clearCounters s req 0x80FF v (fun o => inGroup o 0x8040 5 || (match inArray o 0x7000 8 0x200 with
    | some r => inGroup r 0x180 14
    | none => false))

/-- CAN block. -/
def writeCan (s : State) (req : Req) (off : Nat) (be : BitVec 4) (v : Word) : WRes :=
  if off = 0x8004 then (canClear s req (maskBe be v), 0)
  else
    let c : Fin 8 := ⟨(off - 0x7000) / 0x200 % 8, by omega⟩
    match inArray off 0x7000 8 0x200 with
    | some 0x10 => (canCmdWrite s c (srcCode req) (maskBe be v), 0)
    | some 0x14 => canObjctl s c (maskBe be v)
    | some 0x20 =>
      if be.getLsbD 2 || be.getLsbD 3 then (canQueueAck s c (fld (mergeBe be (wd (s.can[c].qrd % 2048 * 65536)) v) 26 16), 0) else (s, 0)
    | some 0x24 => (if bitAt (maskBe be v) 31 then setChan s c (fun k => { k with qovf := false }) else s, 0)
    | some 0x28 =>
      let s1 := setIdx s req off be (v &&& 0x3FF)
      (setLatch s1 req (0x7100 + 0x200 * c.val) (canQueueRead s1.can[c] (fld (getLatch s1 req off) 9 0)), 0)
    | _ => (storeReg s off be v, 0)

/-- A write of HB_SEMv by the local host (R319): ACQ takes a free semaphore, REL gives back its own. DEDUCED (log 77). -/
def semWrite (s : State) (i : Fin 32) (v : Word) : State :=
  let o := s.hb.sems[i]
  if bitAt v 8 && o == 0 then { s with hb := { s.hb with sems := s.hb.sems.set i 0xFF } }
  else if bitAt v 9 && o == 0xFF then { s with hb := { s.hb with sems := s.hb.sems.set i 0 } }
  else s

/-- Host bridge block. HB_IRQSEND, HB_LOCK and HB_SEMv are the local host's; from another requester they have no effect (R316, R318,
R319). `canHold`: the access can be held on LBUS. -/
def writeBridge (s : State) (req : Req) (off : Nat) (be : BitVec 4) (v : Word) : WRes :=
  let m := maskBe be v
  let canHold := s.boot.lbus && !underTest s 0x23
  match off with
  | 0x9014 => ({ s with hb := { s.hb with istat := s.hb.istat &&& (0x1E ^^^ (m.toNat &&& 0x1E)) } }, 0)
  | 0x9020 => if req = .host then irqSendGo s m else (s, 0)
  | 0x9024 => ({ s with hb := { s.hb with rirq := s.hb.rirq &&& ~~~m } }, 0)
  | 0x902C => if req = .host then lockWrite s m canHold else (s, 0)
  | 0x9504 => (lateClear s req m, 0)
  | 0x96FC => (clearCounters s req 0x90FF m (fun o => inGroup o 0x9600 14), 0)
  | _ =>
    if inGroup off 0x9100 32 then
      (if req = .host then semWrite s ⟨(off - 0x9100) / 4 % 32, by omega⟩ m else s, 0)
    else match inArray off 0x9200 16 0x20 with
      | some 0x10 => (if bitAt m 31 then setWin s ((off - 0x9200) / 0x20) (fun w => { w with poison := false }) else s, 0)
      | _ => (storeReg s off be v, 0)

/-- Power and sleep block. No write changes PWR_LFCTL: only the line-feed block and a profile-switch commit do (R55, R58). -/
def writePower (s : State) (req : Req) (off : Nat) (be : BitVec 4) (v : Word) (wakeLow : Bool) : State :=
  let m := maskBe be v
  match off with
  | 0xA014 => slpCmd s (srcCode req) m wakeLow
  | 0xA100 => s
  | 0xA104 => clearLatches s (fld m 19 16)
  | 0xA3FC => clearRecord (if bitAt m 0 then { s with mram := { s.mram with pwrCnt := [] } } else s) 0x10FF m.toNat (srcCode req)
  | _ => storeReg s off be v

/-- Fault and policy block. -/
def writeFault (s : State) (req : Req) (off : Nat) (be : BitVec 4) (v : Word) : State :=
  let m := maskBe be v
  match off with
  | 0xB00C => unitCmd s (srcCode req) m
  | 0xB0FC => clearCounters s req 0xA0FF m (fun o => inGroup o 0xB080 13 || inGroup o 0xB800 256)
  | _ => storeReg s off be v

/-- Recorder block. -/
def writeRecorder (s : State) (req : Req) (off : Nat) (be : BitVec 4) (v : Word) : State :=
  let m := maskBe be v
  match off with
  | 0xC020 => recRidx s req be v
  | 0xC060 => recSidx s req be v
  | 0xC0C0 => clrctl s req m
  | 0xC1FC => clearCounters s req 0xB0FF m (fun o => inGroup o 0xC180 10)
  | _ =>
    if inGroup off 0xC0E0 8 then { s with log := { s.log with resp := s.log.resp.set ((off - 0xC0E0) / 4) m } }
    else storeReg s off be v

/-- What a write does to a register, its block's access rules included. -/
def writeBlock (s : State) (req : Req) (off : Nat) (be : BitVec 4) (v : Word) (wakeLow : Bool) : WRes :=
  match off / 0x1000 with
  | 0x0 => (writeGlobal s req off be v, 0)
  | 0x1 => (writeLanes s req off be v, 0)
  | 0x2 => (writeTopology s req off be v, 0)
  | 0x3 => (writeTime s off be v, 0)
  | 0x5 => (writeSwitch s req off be v, 0)
  | 0x6 => (writeSignals s req off be v, 0)
  | 0x7 => writeCan s req off be v
  | 0x8 => writeCan s req off be v
  | 0x9 => writeBridge s req off be v
  | 0xA => (writePower s req off be v wakeLow, 0)
  | 0xB => (writeFault s req off be v, 0)
  | 0xC => (writeRecorder s req off be v, 0)
  | 0xD => (if off = 0xD010 then monTidx s req be v else storeReg s off be v, 0)
  | _ => (storeReg s off be v, 0)

/-- A command register of Table 17-2. -/
def cmdReg (off : Nat) : Bool :=
  off == 0x120 || off == 0x2008 || off == 0xA014 || off == 0xB00C || off == 0xC0C0 || inArray off 0x7000 8 0x200 == some 0x10

/-- A register write (R10, R13, R87, R416, R419): the command registers are the local host's, an unassigned offset takes nothing, and during a profile switch the host's writes outside the
global block are ignored. `wakeLow`: the level of WAKE# a round started by it sees. DEDUCED (log 67). -/
def regWrite (s : State) (req : Req) (off : Nat) (be : BitVec 4) (v : Word) (wakeLow : Bool) : WRes :=
  if (desc off).isNone || (cmdReg off && req != .host) then (s, 0)
  else if req = .host ∧ switchBusy s = true ∧ 0x1000 ≤ off then (s, 0)
  else writeBlock s req off be v wakeLow

/-- A requester may write registers: the monitor only from a session at SERVICE level (Table 16-2). -/
def mayWrite (s : State) (req : Req) : Bool := reqAlive s req && (req != .monitor || s.mon.ses.level == 2 || s.mon.rem.level == 2)

/-- One write by a requester as a whole command: nothing where it does not reach the registers; the host's access ends (R294, R295). -/
def regCommand (s : State) (req : Req) (off : Nat) (be : BitVec 4) (v : Word) (wakeLow : Bool) : State :=
  if !mayWrite s req then s
  else if req = .host ∧ contiguous be = false then endWrite req off (s, 1)
  else endWrite req off (regWrite s req off be v wakeLow)


/-- A write of CANn_OBJCTL of command `code` (1 REQUEST, 2 STAGE, 3 CANCEL, 4 RELEASE) for object o, taken at once where no command waits.
DEDUCED (log 69). -/
def canObjWrite (s : State) (req : Req) (c : Fin 8) (code o : Nat) (early : Bool) : State :=
  if !mayWrite s req then s
  else
    let off := 0x7014 + 0x200 * c.val
    if req = .host ∧ switchBusy s = true then endWrite req off (s, 0) else endWrite req off (canObjCmd s c code o early)

/-- A read of a register by a requester, with what it takes or latches (R417); the host's access ends with the word read. -/
def regReadCommand (s : State) (req : Req) (off : Nat) : State :=
  if !reqAlive s req then s
  else match req with
    | .host => lrdy (readEffect s .host off) (regRead s .host off)
    | .monitor => readEffect s .monitor off
    | .far => readEffect s .far off

end Sys2Proof.Machine
end

