-- ==== Sys2Proof/Machine/BridgeTgt.lean ====
section
/-! DEFINITION. The bridge as a target (R302, R303, R305, R306, R309, R316, R319 to R322), its mastering of LBUS (R298), and the whole host
address space on LBUS and on the SPI target (R293, R294, R299). -/

namespace Sys2Proof.Machine

/-! ### Answers -/

/-- An answer to a request with a code (Table 12-9): WACK, RDATA and LOCKACK always, LATE only on failure. DEDUCED (log 71). -/
def reply (s : State) (r : HbReq) (code : Nat) (d : Bytes) : State :=
  let h (bop : Nat) : HbHdr := { bop := bop, win := r.win, space := r.space, tseq := r.tseq, tag := r.tag, status := code, addr := r.addr, be := r.be }
  match r.bop with
  | 2 => sendBridge (bumpHb s 4) r.src r.smac (h 0x81) []
  | 3 => sendBridge (bumpHb s 4) r.src r.smac (h 0x83) ((d ++ List.replicate 4 0#8).take 4)
  | 5 => sendBridge (bumpHb s 4) r.src r.smac (h 0x85) []
  | _ => if code = 0 then s else sendBridge (bumpHb s 4) r.src r.smac { h 0x90 with tag := 0xFF } []

/-- A LATE of its own, for a gap or a broken lock. -/
def sendLate (s : State) (r : HbReq) (tseq code : Nat) : State := reply s { r with bop := 1, tseq := tseq } code []

/-! ### What a request may reach (R302, R303) -/

/-- A register with a MAGIC field (Table 17-2). -/
def magicReg (off : Nat) : Bool :=
  off == 0x0120 || off == 0x2008 || off == 0xA014 || off == 0xB00C || off == 0xC0C0 || inArray off 0x7000 8 0x200 == some 0x10

/-- A register of the monitor and security block. -/
def monReg (off : Nat) : Bool := off / 0x1000 == 0xD

/-- HB_MBXm_CFG. -/
def mbxCfg (s : State) (m : Nat) : Word := reg s (0x9700 + 0x10 * m)

/-- The mailbox region that holds `n` bytes from an offset and allows the direction: its number and the host address. -/
def mbxAt (s : State) (write : Bool) (a n : Nat) : Option (Nat × Nat) :=
  (List.range 16).findSome? (fun m =>
    let c := mbxCfg s m
    let base := 4096 * fld c 11 0
    let size := 2 ^ (12 + fld c 15 12)
    if bitAt c 31 && decide (base ≤ a) && decide (a + n ≤ base + size) && bitAt c (if write then 29 else 30) then
      some (m, 4 * regF s (0x9704 + 0x10 * m) 25 2 + (a - base))
    else none)

/-- Bytes a request moves. -/
def reqLen (r : HbReq) : Nat := if r.bop = 3 then 4 else r.data.length

/-- A mailbox request: MBX space, a read or a write. -/
def isMbx (r : HbReq) : Bool := r.space == 2 && decide (1 ≤ r.bop) && decide (r.bop ≤ 3)

/-- The bridge can master LBUS. -/
def canMaster (s : State) : Bool := s.boot.lbus && regB s 0x9000 2 && !bscan s

/-- What refuses a request before it is served: 0 for nothing (R302, R303, R325, Table 12-15). -/
def tgtRefuse (s : State) (r : HbReq) : Nat :=
  if hbClosed s then 0x05
  else if !hbOn s then 0x10
  else if isMbx r then
    if !canMaster s then 0x10 else if (mbxAt s (r.bop != 3) r.addr (reqLen r)).isNone then 0x11 else 0
  else if r.space = 0 ∧ r.bop ≤ 3 then
    if !regB s 0x9008 (if r.bop = 3 then 0 else 1) then 0x10
    else if monReg r.addr && r.bop != 3 then 0x10
    else if r.bop != 3 && (List.range (r.data.length / 4)).any (fun i => magicReg (r.addr + 4 * i) || monReg (r.addr + 4 * i)) then 0x10
    else if 0x10000 < r.addr + reqLen r then 0x11 else 0
  else if 3 ≤ r.space ∧ r.bop ≤ 3 then 0x10
  else if r.space = 1 ∧ r.bop ≤ 3 then
    if !regB s 0x9008 (if r.bop = 3 then 2 else 3) then 0x10 else if 0x100000 < r.addr + reqLen r then 0x11 else 0
  else 0

/-! ### Requests that need no master access -/

/-- The words of a request, with the byte enables of each (Table 12-8). -/
def reqWords (r : HbReq) : List (Nat × BitVec 4 × Word) :=
  (List.range (r.data.length / 4)).map (fun i => (r.addr + 4 * i, if i = 0 then BitVec.ofNat 4 r.be else 15#4, unwire 1 (slice r.data (4 * i) 4)))

/-- A far write of registers: it stops at the first word that ends with a code. -/
def farRegs : List (Nat × BitVec 4 × Word) → State → WRes
  | [], s => (s, 0)
  | (a, be, v) :: l, s =>
    let r := regWrite s .far a be v false
    if r.2 = 0 then farRegs l r.1 else r

/-- A far write of the signal store: HOST entries only, one write group of its own (R302). DEDUCED (log 72). -/
def farSig (s : State) (l : List (Nat × BitVec 4 × Word)) : WRes :=
  if l.any (fun x => decide (8 ≤ x.1 % 16) || !isHostEntry s (x.1 / 16)) then (s, 6)
  else
    let t := l.foldl (fun t x =>
      let e := x.1 / 16
      let h := x.1 % 16 / 4
      { t with sg := { t.sg with staged := t.sg.staged ++ [(e, h, mergeBe x.2.1 (hostHalf t e h) x.2.2)] } }) { s with sg := { s.sg with staged := [] } }
    let t1 := commitStaged t
    ({ t1 with sg := { t1.sg with staged := s.sg.staged } }, 0)

/-- LOCK asks for a far bus rather than a semaphore: the spec names no field; a free function of ADDR [23:5], and the semaphore for
another space (R319). -/
def lockFarBus (r : HbReq) : Bool := r.space == 2 && Config.standardNat 13 [r.addr / 32] % 2 == 0

/-- A semaphore lock (R319, R320). -/
def lockSem (s : State) (r : HbReq) : State :=
  let i : Fin 32 := ⟨r.addr % 32, by omega⟩
  if s.hb.sems[i] = 0 then
    reply { s with hb := { s.hb with sems := s.hb.sems.set i r.src, semSeg := (i.val, r.win, r.tseq) :: s.hb.semSeg.filter (fun x => x.1 != i.val) } } r 0 []
  else reply s r 0x17 []

/-- UNLOCK (R318, R319): of a far bus, else of the semaphore the sender holds. -/
def unlockGo (s : State) (r : HbReq) : State :=
  if lockFarBus r then
    if s.hb.far.any (fun x => x.src == r.src) then { s with hb := { s.hb with far := none, farOn := false } } else s
  else
    let i : Fin 32 := ⟨r.addr % 32, by omega⟩
    if s.hb.sems[i] = r.src ∧ r.src ≠ 0 then
      { s with hb := { s.hb with sems := s.hb.sems.set i 0, semSeg := s.hb.semSeg.filter (fun x => x.1 != i.val) } }
    else s

/-- One request that needs no master access, or is refused, is served and answered. A far-bus LOCK is asked for (R319). -/
def serveReq (s : State) (r : HbReq) : State :=
  let c := tgtRefuse s r
  if c ≠ 0 then reply s r c []
  else match r.bop with
    | 3 =>
      if r.space = 0 then reply (readEffect s .far r.addr) r 0 (wireOf 1 (regRead s .far r.addr))
      else reply s r 0 (wireOf 1 (sigWindowRead s r.addr))
    | 4 =>
      { s with hb := { s.hb with rirq := s.hb.rirq ||| wd (2 ^ (r.addr % 32)), rirqSrc := mput s.hb.rirqSrc (r.addr % 32) r.src } }
    | 5 =>
      if lockFarBus r then
        if !canMaster s then reply s r 0x10 []
        else if s.hb.far.isSome then reply s r 0x17 []
        else { s with hb := { s.hb with far := some r, farOn := false } }
      else lockSem s r
    | 6 => unlockGo s r
    | _ =>
      let w := if r.space = 0 then farRegs (reqWords r) s else farSig s (reqWords r)
      reply w.1 r w.2 []

/-! ### The queue and the bus (R298, R309, R322) -/

/-- A request waits for a master access. -/
def needsBus (s : State) (r : HbReq) : Bool := isMbx r && tgtRefuse s r == 0

/-- The first request that can be served now: no master access, and no earlier one of the same initiator waits before it. -/
def readyIdx (s : State) : (seen : List Nat) → List HbReq → Nat → Option (Nat × HbReq)
  | _, [], _ => none
  | seen, r :: l, i => if !needsBus s r && !seen.contains r.src then some (i, r) else readyIdx s (r.src :: seen) l (i + 1)

/-- Every request that can be served now is; structural on a bound of their number. While the tag engine's context is rebuilt none is (R289). -/
def drainReqs : (left : Nat) → State → State
  | 0, s => s
  | n + 1, s =>
    if !lampServes s 9 then s else
    match readyIdx s (if s.hb.acc then (s.hb.inq.head?.map HbReq.src).toList else []) s.hb.inq 0 with
    | some (i, r) => drainReqs n (serveReq { s with hb := { s.hb with inq := s.hb.inq.take i ++ s.hb.inq.drop (i + 1) } } r)
    | none => s

/-- The request the master serves: the head, or while a far-bus lock is on, the holder's first (R319). -/
def current (s : State) : Option HbReq :=
  match s.hb.far with
  | some h => s.hb.inq.find? (fun r => r.src == h.src)
  | none => s.hb.inq.head?

/-- The next master access of a request goes out (R298, R322). -/
def startBeat (s : State) (r : HbReq) : State :=
  match mbxAt s (r.bop != 3) r.addr (reqLen r) with
  | none => s
  | some (m, a) =>
    let ord := fld (mbxCfg s m) 28 27
    let be : BitVec 4 := if r.beat = 0 then BitVec.ofNat 4 r.be else 15#4
    let v := if r.bop = 3 then 0 else unwire ord (slice r.data (4 * r.beat) 4)
    emit (bumpHb { s with hb := { s.hb with acc := true } } 11) (.master (r.bop != 3) (a + 4 * r.beat) be v)

/-- Something waits for the bus. -/
def busWanted (s : State) : Bool := !s.hb.inq.isEmpty || s.hb.far.isSome

/-- LBR# goes low; an access held on a far node ends with LRTY# and goes on as a delayed transaction (R321). -/
def requestBus (s : State) : State :=
  let s1 := { s with hb := { s.hb with bus := true, tags := s.hb.tags.map (fun x => (x.1, { x.2 with held := false })) } }
  match s.hb.held with
  | some _ => lrty { s1 with hb := { s1.hb with held := none } }
  | none => s1

/-- The bridge gives the bus back; LBR# goes low again where something still waits. -/
def releaseBus (s : State) : State :=
  let s1 := { s with hb := { s.hb with bus := false, owns := false, gone := false, acc := false } }
  if busWanted s1 then requestBus s1 else s1

/-- After any change of the queue: what needs no bus is served, the next access starts, or the bus is asked for or given back. While the tag
engine's context is rebuilt nothing new starts (R289). -/
def busNext (s : State) : State :=
  let s1 := drainReqs (s.hb.inq.length + 1) s
  if s1.hb.acc then s1
  else if s1.hb.owns then
    if s1.hb.gone then releaseBus s1
    else match current s1 with
      | some r => if lampServes s1 9 then startBeat s1 r else s1
      | none => if s1.hb.far.isSome then s1 else releaseBus s1
  else if busWanted s1 then (if s1.hb.bus || !lampServes s1 9 then s1 else requestBus s1)
  else { s1 with hb := { s1.hb with bus := false } }

/-! ### Arrival (R305, R306) -/

/-- The request a bridge message holds (Table 12-8). -/
def readReq (f b : Bytes) : HbReq :=
  { bop := byteAt b 14, src := byteAt f 2, smac := beAt b 6 6 % 2 ^ 40, win := byteAt b 16, space := byteAt b 17, tseq := beAt b 18 2, tag := byteAt b 20
    addr := beAt b 22 4 % 2 ^ 24, be := byteAt b 26 % 16, order := byteAt b 15 / 4 % 4, data := slice b 30 (min 64 (beAt b 28 2))
    lock := (byteAt b 15).testBit 0 }

/-- TSEQ of an initiator (R306): applied in order; a stale one is answered STALE, a gap gives one LATE. DEDUCED (log 70). -/
def seqCheck (s : State) (first : Bool) (r : HbReq) : State × Bool :=
  let take (t : State) : State := { t with hb := { t.hb with applied := mput t.hb.applied r.src r.tseq } }
  match if first then none else mget s.hb.applied r.src with
  | none => (take s, true)
  | some q =>
    let d := (r.tseq + 65536 - q) % 65536
    if d = 0 ∨ 32768 ≤ d then
      (reply (hbEventLim (bumpHb s 12) 0x9051 2 0xFFF r.win r.src r.tseq 0x15) r 0x15 [], false)
    else if 1 < d then (take (sendLate s r ((q + 1) % 65536) 0x16), true)
    else (take s, true)

/-- A request arrives at the HOST port. While the bridge is under test, or the buffer of 128 is full, the frame waits outside (R322, R359).
DEDUCED (log 73). -/
def arrive (s : State) (f : Bytes) (bop : Nat) : State :=
  match bridgeMsg f with
  | none => s
  | some b =>
    let r := readReq f b
    if !committed s || r.bop != bop || underTest s 0x23 || decide (128 ≤ s.hb.inq.length) then s
    else
      let s1 := bumpHb s 3
      if !forUs s b then reply (hbEventLim (bumpHb s1 13) 0x9050 2 0xFFF r.win r.src r.tseq 0x14) r 0x14 []
      else
        let (s2, ok) := seqCheck s1 ((byteAt b 15).testBit 1) r
        if ok then busNext { s2 with hb := { s2.hb with inq := s2.hb.inq ++ [r] } } else s2

/-- PWRITE_RX. -/
def pwriteRx (s : State) (f : Bytes) : State := arrive s f 1
/-- NPWRITE_RX. -/
def npwriteRx (s : State) (f : Bytes) : State := arrive s f 2
/-- READ_RX. -/
def readRx (s : State) (f : Bytes) : State := arrive s f 3
/-- IRQ_RX. -/
def irqRx (s : State) (f : Bytes) : State := arrive s f 4
/-- UNLOCK_RX. -/
def unlockRx (s : State) (f : Bytes) : State := arrive s f 6

/-- The position of a frame's sender; one outside the table comes last. -/
def srcPos (s : State) (f : Bytes) : Nat :=
  match s.inaug[(0 : Fin 2)].table.findIdx? (fun e => e.handle == byteAt f 2) with
  | some i => i
  | none => 255

/-- LOCK_RX: of the requests pending in one decision the lower position wins (R320). DEDUCED (log 76). -/
def lockRx (s : State) (f : Bytes) (rivals : List Bytes) : State :=
  ((f :: rivals).mergeSort (fun a b => decide (srcPos s a ≤ srcPos s b))).foldl (fun t x => arrive t x 5) s

/-! ### Mastering (R298, R319, R322) -/

/-- BUS_GRANT: LBG# sampled low while LBR# is low. -/
def busGrant (s : State) : State :=
  if s.hb.bus && !s.hb.owns && !bscan s then
    let s1 := { s with hb := { s.hb with owns := true, gone := false } }
    match s1.hb.far with
    | some r => if s1.hb.farOn then busNext s1 else busNext (reply { s1 with hb := { s1.hb with farOn := true } } r 0 [])
    | none => busNext s1
  else s

/-- The current request is taken off the queue. -/
def dropReq (s : State) (r : HbReq) : State := { s with hb := { s.hb with inq := s.hb.inq.erase r } }

/-- The current request ends with an error of the master access or of the grant (R298, R322). -/
def reqFails (s : State) (r : HbReq) (code event sev : Nat) : State :=
  reply (hbEvent (dropReq s r) event sev (((mbxAt s (r.bop != 3) r.addr (reqLen r)).map Prod.fst).getD 0) r.src r.tseq code) r code []

/-- MASTER_ACCESS_END: LRDY# or LERR# of the host's memory. -/
def masterAccessEnd (s : State) (err : Bool) (rdata : Word) : State :=
  if !s.hb.acc then s
  else
    let s1 := { s with hb := { s.hb with acc := false } }
    match current s with
    | none => busNext s1
    | some r =>
      if err then busNext (reqFails s1 r 0x13 0x9041 3)
      else if r.bop = 3 then
        let ord := match mbxAt s false r.addr 4 with
          | some (m, _) => fld (mbxCfg s m) 28 27
          | none => 1
        busNext (reply (dropReq s1 r) r 0 (wireOf ord rdata))
      else if 4 * (r.beat + 1) < r.data.length then
        busNext { s1 with hb := { s1.hb with inq := s1.hb.inq.map (fun x => if x = r then { x with beat := x.beat + 1 } else x) } }
      else busNext (reply (dropReq s1 r) r 0 [])

/-- MASTER_ACCESS_TIMEOUT: not ended within 256 tCLK counts as LERR# (R298). -/
def masterAccessTimeout (s : State) : State := masterAccessEnd s true 0

/-- NOGRANT: LBG# not sampled low within GNTMAX of LBR# falling; the waiting access fails (R298). DEDUCED (log 74). -/
def nogrant (s : State) : State :=
  if s.hb.bus && !s.hb.owns then
    let s0 := { s with hb := { s.hb with bus := false } }
    match s.hb.far, current s with
    | some r, _ =>
      busNext (reply (hbEvent { s0 with hb := { s0.hb with far := none, farOn := false } } 0x9040 2 r.win r.src r.tseq 0x12) r 0x12 [])
    | none, some r => busNext (reqFails s0 r 0x12 0x9040 2)
    | none, none => busNext s0
  else s

/-- A far-bus lock is broken: LATE to its holder, and the event (R319). -/
def breakFar (s : State) : State :=
  match s.hb.far with
  | some r => hbEvent (sendLate { s with hb := { s.hb with far := none, farOn := false } } r r.tseq 0x18) 0x9031 5 r.win r.src r.tseq 0x18
  | none => s

/-- GRANT_REMOVED: the access under way completes, then the bus is released; a far-bus lock in progress is broken (R298, R325). -/
def grantRemoved (s : State) : State :=
  if s.hb.owns then
    let s1 := if s.hb.farOn then breakFar s else s
    busNext { s1 with hb := { s1.hb with gone := true } }
  else s

/-- LOCK_BROKEN: a lock held longer than LOCKMAX (R319). -/
def lockBroken (s : State) (sem : Option (Fin 32)) : State :=
  match sem with
  | none => if s.hb.farOn then busNext (breakFar s) else s
  | some i =>
    let o := s.hb.sems[i]
    if o = 0 ∨ o = 0xFF then s
    else
      let (w, q) := ((s.hb.semSeg.find? (fun x => x.1 == i.val)).map Prod.snd).getD (0, 0)
      let r : HbReq := { bop := 1, src := o, smac := handleMac s o, win := w, space := 0, tseq := q, tag := 0xFF, addr := i.val, be := 15, order := 1, data := [] }
      hbEvent (sendLate { s with hb := { s.hb with sems := s.hb.sems.set i 0, semSeg := s.hb.semSeg.filter (fun x => x.1 != i.val) } } r q 0x18) 0x9031 5 w o q 0x18

/-- Locks held by a node that left the table are released at that ACTCYC, and no LATE is sent (R319). -/
def lockDepart (s : State) : State :=
  let here (h : Nat) : Bool := s.inaug[(0 : Fin 2)].table.any (fun e => e.handle == h)
  let s1 := { s with hb := { s.hb with sems := s.hb.sems.map (fun o => if o == 0 || o == 0xFF || here o then o else 0) } }
  match s1.hb.far with
  | some r => if here r.src then s1 else busNext { s1 with hb := { s1.hb with far := none, farOn := false } }
  | none => s1

/-! ### The host address space (R293, R294) -/

/-- A host write anywhere in the address space. DEDUCED (log 23). -/
def hostWrite (s : State) (addr : Nat) (be : BitVec 4) (v : Word) (merge canHold : Bool) : WRes :=
  if !contiguous be then (s, 1)
  else if addr < 0x10000 then regWrite s .host addr be v false
  else if 0x100000 ≤ addr ∧ addr < 0x200000 then sigWrite s (addr - 0x100000) be v
  else if 0x200000 ≤ addr ∧ addr < 0x240000 then canWindowWrite s (addr - 0x200000) be v
  else if 0x1000000 ≤ addr ∧ addr < 0x4000000 then remoteWrite s addr be.toNat v merge canHold
  else (s, 2)

/-- A host read anywhere in the address space. -/
def hostRead (s : State) (addr : Nat) (be : BitVec 4) : WRes × Word :=
  if !contiguous be then ((s, 1), 0)
  else if addr < 0x10000 then ((readEffect s .host addr, 0), regRead s .host addr)
  else if 0x100000 ≤ addr ∧ addr < 0x200000 then ((s, 0), sigWindowRead s (addr - 0x100000))
  else if 0x200000 ≤ addr ∧ addr < 0x240000 then ((s, 0), canWindowRead s (addr - 0x200000))
  else if 0x1000000 ≤ addr ∧ addr < 0x4000000 then remoteRead s addr be.toNat
  else ((s, 2), 0)

/-- The host can begin an access on LBUS: it answers, no access is held, and the bridge does not own the bus (R295, R298). -/
def lbusFree (s : State) : Bool := hostAlive s && s.boot.lbus && s.hb.held.isNone && !s.hb.owns

/-- A host read on LBUS. -/
def lbusRead (s : State) (addr : Nat) (be : BitVec 4) : State :=
  if lbusFree s then
    let (r, d) := hostRead s addr be
    if r.2 = 0 then lrdy r.1 d else endAccess addr r
  else s

/-- A host write on LBUS. -/
def lbusWrite (s : State) (addr : Nat) (be : BitVec 4) (v : Word) (merge : Bool) : State :=
  if lbusFree s then endAccess addr (hostWrite s addr be v merge true) else s

/-! ### The SPI target (R299) -/

/-- An SPI word that ends with retry or an error: LRTY_ISSUED or LERR_ISSUED with HB_LASTERR (R312). -/
def spiFail (s : State) (addr code words : Nat) : State :=
  if code = retry then emit (bumpHb s 5) (.spi 1 words 0)
  else emit (bumpHb { s with hb := { s.hb with lastErr := wd (code * 2 ^ 24 + addr / 4 % 2 ^ 24) } } 6) (.spi 2 words 0)

/-- The words of a write frame in order; it stops at the first that would end with LRTY# or LERR#. -/
def spiWords : (words : List Word) → (addr : Nat) → (be : BitVec 4) → (done : Nat) → State → State
  | [], _, _, n, s => emit s (.spi 0 n 0)
  | v :: l, a, be, n, s =>
    let r := hostWrite s a be v false false
    if r.2 = 0 then spiWords l (a + 4) 15#4 (n + 1) r.1 else spiFail r.1 a r.2 n

/-- The host talks through the SPI target. -/
def spiAlive (s : State) : Bool := hostAlive s && !s.boot.lbus

/-- SPI_WRITE_FRAME: 1 to 64 words. -/
def spiWriteFrame (s : State) (a : Word) (d : List Word) : State :=
  if spiAlive s && decide (1 ≤ d.length) && decide (d.length ≤ 64) then spiWords d (4 * fld a 25 2) (BitVec.ofNat 4 (fld a 31 28)) 0 s else s

/-- SPI_READ_FRAME: one word. -/
def spiReadFrame (s : State) (a : Word) : State :=
  if spiAlive s then
    let (r, d) := hostRead s (4 * fld a 25 2) (BitVec.ofNat 4 (fld a 31 28))
    if r.2 = 0 then emit r.1 (.spi 0 1 d) else spiFail r.1 (4 * fld a 25 2) r.2 0
  else s

end Sys2Proof.Machine
end

