-- ==== Sys2Proof/Machine/Cycle.lean ====
section
/-! DEFINITION. What the train's clock brings in every cycle: the launch of Lanterns (R155, R156), the cycle start (R136, R160, R165,
R177, R188), the common instant (R169 to R172), and the start of the dynamic segment. -/

namespace Sys2Proof.Machine

/-! ### Lanterns as sent (R155, R156) -/

/-- CLEN as sent: SCH_CFG.CLEN, or what the first Lantern brought (Table 7-2). -/
def clenCode (s : State) : Nat := if schedCommitted s then regF s 0x4000 2 0 else s.tb.clen.getD 0

/-- The REJ field of a port's Lantern: REJN, three zero bytes and eight entries in slot order (Table 7-2, R203). -/
def rejField (s : State) (p : Port) : Bytes :=
  let l := (((s.sch.rejPrev.filter (fun x => decide (x.1 = p))).map Prod.snd).mergeSort (fun a b => decide (a.slot ≤ b.slot))).take 8
  let e := (l.map (fun r => [BitVec.ofNat 8 r.src, BitVec.ofNat 8 r.laneB.toNat] ++ beBytes 2 r.slot)).flatten
  [BitVec.ofNat 8 l.length, 0#8, 0#8, 0#8] ++ e ++ List.replicate (32 - e.length) 0#8

/-- What a Lantern says of its master: LFLAGS.MASTER, HOLD, GW, STEPS, HOLDCYC and MUID. -/
structure LanternSrc where
  master : Bool
  hold   : Bool
  gw     : Bool
  steps  : Nat
  holdcyc : Nat
  muid   : Nat
  deriving DecidableEq, Repr

/-- The payload of a Lantern whose first symbol leaves at `origin`, in 2^-32 ns (Table 7-2). -/
def lanternPayload (s : State) (g : Fin 2) (p : Port) (x : LanternSrc) (origin : Int) : Bytes :=
  [0x01#8, BitVec.ofNat 8 (x.master.toNat + 2 * x.hold.toNat + 4 * s.tb.taiv.toNat + 8 * x.gw.toNat), BitVec.ofNat 8 x.steps,
    BitVec.ofNat 8 (if x.hold then min 255 x.holdcyc else 0)] ++ beBytes 8 x.muid ++ beBytes 8 (unsigned 64 (origin / nsU)) ++
  [BitVec.ofNat 8 (unsigned 8 (origin / 2 ^ 24)), BitVec.ofNat 8 (clenCode s)] ++ beBytes 2 s.inaug[g].epoch ++ beBytes 4 (unsigned 32 s.tb.rate) ++
  beBytes 4 s.tb.startCyc ++ beBytes 8 (s.tb.taiOfs % 2 ^ 63) ++ rejField s p

/-- A Lantern frame (R155). -/
def lanternFrame (s : State) (g : Fin 2) (p : Port) (x : LanternSrc) (origin : Int) : Bytes :=
  mkFrame { kind := 1, cls := 7, dyn := false, crit := true, fold := false, src := ownHandle s g, dtype := 4, dest := [], cycle := cycleNo s
            slot := 0, len := 0, hops := 0 } (lanternPayload s g p x origin)

/-- One Lantern on a port of the segment: LINKED, and not the seam (R156). It waits for the last block of a relayed frame that has started, and
ORIGIN is when it leaves (R205). -/
def lanternOn (g : Fin 2) (x : LanternSrc) (origin : Int) (s : State) (p : Port) : State :=
  if segLinked s g p && !seamShut s p then
    match lanternLane s p with
    | some l =>
      let at_ := max origin (s.sch.outEnd[l] * nsU)
      let gone := (at_ / nsU).toNat + 3 * blockT (dmode s (decide (l.val % 2 = 1)))
      sendRaw { s with sch := { s.sch with outEnd := s.sch.outEnd.set l gone } } l (lanternFrame s g p x at_)
    | none => s
  else s

/-- A Lantern leaves by every LINKED port of the segment; a node without a handle, or past its sleep instant, sends none. -/
def launchIn (s : State) (g : Fin 2) (x : LanternSrc) (origin : Int) : State :=
  if ownHandle s g = 0 ∨ s.snuf.pastSi = true then s else [Port.fore, Port.aft].foldl (lanternOn g x origin) s

/-- HOLDCYC as sent; when it first passes HOLD_N the own slots close (R160, R165). -/
def setHold (s : State) (h : Nat) : State :=
  let s1 := { s with tb := { s.tb with holdcyc := min 255 h } }
  if regF s 0x3000 19 12 < min 255 h then
    if s.tb.holdSaid then s1 else timeEvent { s1 with tb := { s1.tb with holdSaid := true } } 0x4005 5 []
  else { s1 with tb := { s1.tb with holdSaid := false } }

/-- The launch of the cycle in the upstream segment, once a cycle; relayed frames that waited for it follow (R156, R185). -/
def launch (s : State) (hold : Bool) (origin : Int) : State :=
  if s.tb.launched || !cycleOpen s then s
  else
    let m := s.tb.st == .master
    relayAll (launchIn { s with tb := { s.tb with launched := true } } (upSeg s)
      { master := m, hold := hold, gw := s.tb.gw && !m, steps := s.tb.steps, holdcyc := s.tb.holdcyc, muid := s.tb.muid } origin)

/-! ### The start of the dynamic segment (R177, R187, R225) -/

/-- Every waiting control frame that may start by now leaves (R187, NMS 0). -/
def allCtl (s : State) : State :=
  s.sch.ctl.foldl (fun t c => if c.after ≤ t.now ∧ ctlMay t c = true then startNow { t with sch := { t.sch with ctl := t.sch.ctl.erase c } } c else t) s

/-- DYNAMIC_SEGMENT_START: fallbacks still waiting are lost, kept primaries go, pause masks that changed or have a bit set leave, and the leader's
and the sleep initiator's frames become due (R131, R195, R196, R225, R345). DEDUCED (log 47). -/
def dynamicSegmentStart (s : State) : State :=
  if coreRun s && s.sch.inStatic then
    let s1 := { s with sch := { s.sch with inStatic := false, openA := none, openB := none, kept := [] } }
    let s2 := s.sch.foldOut.foldl (fun t f => fallbackEmit t (Fin.ofNat 4 f.lane)) s1
    let s3 := ([0, 1, 2, 3] : List (Fin 4)).foldl pauseAtStart (relayAll s2)
    let s4 := leaderDynamic s3 0
    let s5 := if segGw s4 then leaderDynamic s4 1 else s4
    let s6 := snufDynamic s5
    if regF s6 0x4010 11 0 = 0 then allCtl s6 else s6
  else s

/-! ### The common instant (R169 to R172) -/

/-- SYNCO at the instant of cycle k (R171). Under boundary scan it starts no pulse and does not toggle: its timing is taken up at the first
instant it acts on afterwards (R46). DESIGN CHOICE (log 45). -/
def syncoAct (s : State) (k : Nat) : State :=
  let mode := regF s 0x3040 1 0
  let pol := regB s 0x3040 2
  let set (b : Bool) : State := { s with tb := { s.tb with synco := b } }
  if mode = 0 ∨ mode = 3 then set false
  else if regB s 0x3040 3 && !slotsOpen s then syncoShut s
  else if bscan s || k % 2 ^ regF s 0x3040 7 4 != 0 then s
  else if mode = 1 then set (!pol) else set (!s.tb.synco)

/-- The actions of the common instant of cycle k (Table 7-6, R87, R244, R253). -/
def instantActs (s : State) (k : Nat) (synci : Bool) : State :=
  let s1 := switchInstant s
  let s2 := if s.boot.phase == .switchVerify && s1.boot.phase == .switchLoad then busNext s1 else s1
  let s3 := if regF s2 0x3044 1 0 = 1 then { s2 with tb := { s2.tb with synciLvl := synci && !bscan s2 } } else s2
  let s4 := if service s3 then
      canTriggers (gwFire s3.sg.snap k (dynDueAt (flip s3 (k * (cycLen s3).getD 0 + ciOfs s3)) s3.sg.snap k))
    else s3
  syncoAct s4 k

/-- The common instant acts once for each cycle number; instants passed by a step are skipped and counted (R170). -/
def instant (s : State) (synci : Bool) : State :=
  match ciLatest s with
  | none => s
  | some k =>
    let due := (s.tb.ciServed.map (fun j => decide (j < k))).getD true
    if committed s && s.tb.st != .free && due then
      let skip := (s.tb.ciServed.map (fun j => k - j - 1)).getD 0
      let s1 := { s with tb := { s.tb with ciServed := some k } }
      instantActs (if skip = 0 then s1 else timeEvent (bumpBy s1 (0x3090 + 4 * 5) skip) 0x4030 2 [skip]) k synci
    else s

/-- COMMON_INSTANT: `synci` is the level of the ball. -/
def commonInstant (s : State) (synci : Bool) : State := instant s synci

/-- SYNCO_PULSE_END (R171). -/
def syncoPulseEnd (s : State) : State :=
  if regF s 0x3040 1 0 = 1 then { s with tb := { s.tb with synco := regB s 0x3040 2 } } else s

/-- SYNCI_EDGE: an edge is stamped in STAMP mode (R172); under boundary scan the node records none. `stamp` is the counter. -/
def synciEdge (s : State) (rising : Bool) (stamp : Nat) : State :=
  let mode := regF s 0x3044 1 0
  if committed s && !bscan s && (mode == 3 || (mode == 2 && rising)) then
    if s.tb.sififo.length < 16 then
      { s with tb := { s.tb with sififo := s.tb.sififo ++ [(rising, unsigned 64 (ttAt s.tb stamp / nsU))] } }
    else timeEvent (bumpTb { s with tb := { s.tb with synciOvf := true } } 6) 0x4031 2 []
  else s

/-! ### The cycle start -/

/-- Lantern a ranks above b (R158). -/
def accAbove (a b : Acc) : Bool :=
  if a.winner ≠ b.winner then a.winner
  else if a.pos ≠ b.pos then decide (a.pos < b.pos)
  else if a.steps ≠ b.steps then decide (a.steps < b.steps) else decide (a.port = .fore ∧ b.port = .aft)

/-- The highest-ranked Lantern accepted in the cycle. -/
def accBest (l : List Acc) : Option Acc :=
  l.foldl (fun b a => match b with
    | none => some a
    | some x => if accAbove a x then some a else some x) none

/-- The upstream port becomes that of the highest-ranked Lantern accepted (R158). -/
def upstreamEnd (s : State) : State :=
  match accBest s.tb.accepted with
  | some a => { s with tb := { s.tb with up := some a.port } }
  | none => s

/-- Cycles without a good Lantern are counted; at LOST_N the master is marked failed (R160). -/
def lostCount (s : State) : State :=
  if s.tb.st == .free || s.tb.st == .master then s
  else if s.tb.accepted.any (fun a => !a.hold) then { s with tb := { s.tb with lost := 0 } }
  else
    let n := s.tb.lost + 1
    let s1 := { s with tb := { s.tb with lost := n } }
    if n = max 1 (regF s 0x3000 11 8) then
      let s2 := timeEvent (bumpTb s1 1) 0x4004 2 []
      let s3 := { s2 with tb := { s2.tb with gw := false } }
      let s4 := if s3.tb.lastGood = 0 then s3
        else timeEvent { s3 with tb := { s3.tb with failed := s3.tb.lastGood :: s3.tb.failed } } 0x4012 5 [s3.tb.lastGood]
      if isCandidate s4 then { s4 with tb := { s4.tb with reason := some (s4.tb.reason.getD 3) } } else s4
    else s1

/-- MISSED for the past cycle (R186): rows in use of the segment's table, from STARTCYC on. -/
def missedRows (s : State) (g : Fin 2) (k : Nat) : Nat :=
  if schedCommitted s && pastStart s k then
    (s.inaug[g].table.map (fun e =>
      if e.uid = s.uid ∨ e.handle = 0 ∨ serving e = false then 0
      else
        match planRow s e.slotref with
        | none => 0
        | some r => ([false, true].filter (fun b => beAt r (if b then 8 else 0) 2 != 0xFFFF && !s.sch.got.contains (4096 * g.val + e.slotref, b))).length)).sum
  else 0

/-- The rejection count of R204 at the end of a cycle. -/
def rejEnd (s : State) : State :=
  { s with sch := { s.sch with
      rejrun := if s.sch.ownWas && !s.sch.named then 0 else s.sch.rejrun
      ownWas := s.sch.ownSent, ownSent := false, named := false, rejPrev := s.sch.rejNow, rejNow := [] } }

/-- A gag ends once the time base is LOCKED (R204). -/
def gagOver (s : State) : State :=
  if s.sch.gag && s.tb.st == .locked then schEvent { s with sch := { s.sch with gag := false, gagLeft := 0 } } 0x5022 1 0xFFF 0 [] else s

/-- A gagged master reopens after 16 cycles (R204). -/
def gagCount (s : State) : State :=
  if s.sch.gag && s.tb.st == .master then
    if s.sch.gagLeft ≤ 1 then schEvent { s with sch := { s.sch with gag := false, gagLeft := 0 } } 0x5022 1 0xFFF 0 []
    else { s with sch := { s.sch with gagLeft := s.sch.gagLeft - 1 } }
  else s

/-- A master yields, and a candidate starts to master (R159). -/
def masterTurn (s : State) : State :=
  match s.tb.st, s.tb.yield with
  | .master, some b =>
    gagOver (timeEvent { s with tb := { s.tb with st := if b then .acquiring else .locked, yield := none, reason := none, lockRun := 0, bigRun := 0, joinStep := b } }
      0x4011 1 [])
  | _, _ =>
    match s.tb.reason with
    | some r => if (s.tb.st == .locked || s.tb.st == .holdover) && isCandidate s then masterStart s r else { s with tb := { s.tb with reason := none } }
    | none => s

/-- Folding of lanes back UP at their design mode ends (R199). -/
def foldStop (s : State) : State :=
  ([0, 1, 2, 3] : List (Fin 4)).foldl (fun t l =>
    if t.sch.foldEnd.getLsbD l.val then
      let m := BitVec.ofNat 4 (2 ^ l.val)
      schEvent { t with sch := { t.sch with fold := t.sch.fold &&& ~~~m, foldEnd := t.sch.foldEnd &&& ~~~m } } 0x5011 1 l.val (portNo (portOf l)) []
    else t) s

/-- A remote session whose other node is no longer in the table under its handle closes (R406). -/
def monDepart (s : State) : State :=
  let here (f : Far) : Bool := s.inaug[f.seg].table.any (fun e => e.handle == f.handle && e.uid == f.uid)
  let s1 := if (s.mon.opened.map here).getD true then s else closeOpened (emit s (.line .onUart "ERR" [7]))
  if (s1.mon.served.map here).getD true then s1 else closeServed s1

/-- What follows a binding that is due (R213, R246, R303): routes, bindings of signals, windows and the collector, locks, sessions.
DEDUCED (log 59). -/
def bindDue (s : State) : State :=
  if s.sg.bindReq then
    let s1 := monDepart (lockDepart (fdbOnTable s))
    if service s1 then etbRole (collBind (winBind (bindAll s1))) else { s1 with sg := { s1.sg with bindReq := false } }
  else s

/-- The guardian's oscillator is measured at the cycle mark (R201). -/
def gdMark (s : State) : State :=
  if schedCommitted s then
    let err := signed 16 (Config.reading 40 s.free)
    let s1 := takeFree { s with sch := { s.sch with oscErr := err } }
    if 200 < err.natAbs ∧ s.sch.clkFault = false then
      detect (schEvent { s1 with sch := { s1.sch with clkFault := true } } 0x5031 5 0xFFF 0 [unsigned 16 err]) 0x21 0x5031
    else s1
  else s

/-- Quotas refill and the control frames of the cycle count anew (R187, R188). -/
def refillAll (s : State) : State :=
  { s with
    sch := { s.sch with quota := Vector.ofFn (fun i => refill s (if i.val < 2 then 0 else 1) (decide (i.val % 2 = 1))), ctlSent := 0, slotDone := [], miniNext := 0 }
    tb := { s.tb with launched := false, startHit := s.tb.startOk && pastStart s (cycleNo s) } }

/-- The TAI offset a master sends (Table 7-13). -/
def taiMaster (s : State) : State :=
  if s.tb.st == .master then
    { s with tb := { s.tb with taiOfs := (reg s 0x3070).toNat + 2 ^ 32 * regF s 0x3074 30 0, taiv := regB s 0x3074 31 } }
  else s

/-- A segment gateway masters in its other segment while LOCKED or MASTER upstream (R163). DEDUCED (log 42). -/
def gatewayLaunch (s : State) (k : Nat) : State :=
  let on := segGw s && (s.tb.st == .locked || s.tb.st == .master)
  let s1 := { s with tb := { s.tb with gwOn := on } }
  if on then
    let s2 := if s.tb.gwOn then s1 else timeEvent (bumpTb s1 4) 0x4010 1 [4]
    launchIn s2 (if upSeg s = 0 then 1 else 0) { master := true, hold := false, gw := true, steps := 0, holdcyc := 0, muid := s.uid } ((k * (cycLen s).getD 0 : Nat) * nsU)
  else s1

/-- What is tied to a cycle number not yet served: quotas, the control allowance, and the master's Lantern (R156, R170). -/
def serveCycle (s : State) (k : Nat) : State :=
  if (s.tb.served.map (fun j => decide (j < k))).getD true then
    let s1 := refillAll (taiMaster { s with tb := { s.tb with served := some k } })
    let s2 := if s1.tb.st == .master then launch s1 false ((k * (cycLen s1).getD 0 : Nat) * nsU) else s1
    gatewayLaunch s2 k
  else s

/-- What ends with a cycle: upstream port, lost Lanterns, missed rows, rejections. -/
def cycleEnd (s : State) : State :=
  let past := s.tb.begun
  let s1 := lostCount (upstreamEnd s)
  let n := match past with
    | some j => missedRows s1 0 j + (if segGw s1 then missedRows s1 1 j else 0)
    | none => 0
  let s2 := gagCount (rejEnd (bumpBy s1 (0x4080 + 4 * 2) n))
  { s2 with
    tb := { s2.tb with accepted := [], followed := none, ownHold := if s2.tb.st == .holdover then s2.tb.ownHold + 1 else 0 }
    sch := { s2.sch with seen := [], got := [], nullRx := [], inStatic := true, mini := 0, openA := none, openB := none }
    lanes := s2.lanes.map (fun x => { x with seamWas := false }) }

/-- CYCLE_START: train time reaches k x C (R136, R156 to R160, R177, R188, R199, R246). In FREE no cycle is served. DEDUCED (log 37). -/
def cycleStart (s : State) : State :=
  let k := cycleNo s
  if coreRun s && (cycLen s).isSome && s.tb.st != .free && decide (s.tb.begun ≠ some k) then
    let s1 := foldStop (masterTurn (cycleEnd s))
    let s2 := activate { s1 with tb := { s1.tb with begun := some k } } 0 k
    let s3 := if segGw s2 then activate s2 1 k else s2
    syncoShut (serveCycle (gdMark (bindDue s3)) k)
  else s

end Sys2Proof.Machine
end

