-- ==== Sys2Proof/Machine/Lantern.lean ====
section
/-! DEFINITION. Lanterns as received (R158 to R164, R170, R203, R204), the ends of the waits of the time base, and the 802.1AS ports (R173). -/

namespace Sys2Proof.Machine

/-- A Lantern's payload, read (Table 7-2). -/
structure Lan where
  master  : Bool
  hold    : Bool
  taiv    : Bool
  gw      : Bool
  steps   : Nat
  holdcyc : Nat
  muid    : Nat
  origin  : Int       -- 2^-32 ns
  clen    : Nat
  epoch   : Nat
  ratio   : Int
  startCyc : Nat
  taiOfs  : Nat
  rejs    : List Rej
  deriving DecidableEq, Repr

/-- Reads a payload. -/
def readLan (b : Bytes) : Lan :=
  let fl := byteAt b 1
  { master := fl.testBit 0, hold := fl.testBit 1, taiv := fl.testBit 2, gw := fl.testBit 3, steps := byteAt b 2, holdcyc := byteAt b 3, muid := beAt b 4 8
    origin := (beAt b 12 8 : Int) * nsU + (byteAt b 20 : Int) * 2 ^ 24, clen := byteAt b 21, epoch := beAt b 22 2, ratio := signed 32 (beAt b 24 4)
    startCyc := beAt b 28 4, taiOfs := beAt b 32 8 % 2 ^ 63
    rejs := (List.range (min 8 (byteAt b 40))).map (fun i =>
      { src := byteAt b (44 + 4 * i), laneB := (byteAt b (45 + 4 * i)).testBit 0, slot := beAt b (46 + 4 * i) 2 }) }

/-! ### Steps (R164, R170) -/

/-- What a step of train time brings: the cycle number served, the segment of the cycle, and the instants passed, with SYNCI's level at the ball
then free. From FREE nothing has been served (R170). DEDUCED (log 38). -/
def afterStep (s : State) (wasFree fwd : Bool) : State :=
  let k := cycleNo s
  let new := wasFree || (s.tb.served.map (fun j => decide (j < k))).getD true
  let s1 := { s with tb := { s.tb with
      begun := some k, served := if new then some k else s.tb.served
      ciServed := if wasFree then ciLatest s else s.tb.ciServed } }
  let s2 := if new then refillAll s1 else s1
  let dyn := match cycLen s2 with
    | some c => decide (dstart s2 ≤ ttNow s2 % c)
    | none => false
  let s3 := if dyn then dynamicSegmentStart s2 else { s2 with sch := { s2.sch with inStatic := true } }
  if fwd && !wasFree then instant (takeFree s3) (decide (Config.choice s3.free % 2 = 1)) else s3

/-- Train time is stepped by e: 0x4002 with the size, counted in STEPS (R164). -/
def stepBy (s : State) (e : Int) : State :=
  let wasFree := s.tb.st == .free
  let s1 := { s with tb := { stepTime s.tb e with st := .acquiring, lockRun := 0, bigRun := 0, joinStep := false } }
  afterStep (timeEvent (bumpTb s1 2) 0x4002 1 [unsigned 64 (e / nsU)]) wasFree (decide (0 ≤ e))

/-- The rate after an error e on a lane, in 2^-40: the master's rate over the hop, and a quarter of e per cycle, bounded (R162). -/
def rateFor (s : State) (l : Fin 4) (ratio e : Int) : Int :=
  let n := s.lanes[l].nrr
  let ff := ratio + n + ratio * n / 2 ^ 40
  let c := (cycLen s).getD 1
  let slew := e * 64 / (c : Int)
  ff + max (-54975581) (min 54975581 slew)

/-- The node is LOCKED from now on: 0x4001; a gag ends, and a candidate masters from its next cycle start, with reason 2 (R159, R161, R204).
DESIGN CHOICE (log 114). -/
def lockedNow (s : State) : State :=
  let s1 := timeEvent { s with tb := { s.tb with st := .locked, bigRun := 0 } } 0x4001 0 []
  timeOnView (gagOver s1)

/-- The loss of lock: 0x4003, counted, and a detected error of the time base (R161, Table 14-2). -/
def lockLost (s : State) : State :=
  detect (timeEvent (bumpTb { s with tb := { s.tb with st := .acquiring, lockRun := 0, bigRun := 0 } } 3) 0x4003 3 []) 0x20 0x4003

/-- Table 7-3 for an error e, a Lantern on lane l. `join`: the first Lantern of the winning train that a yielded one follows: it steps (R174). -/
def steer (s : State) (l : Fin 4) (ratio e : Int) (join : Bool) : State :=
  let big := decide (100 * nsU < e.natAbs)
  let near := decide ((e.natAbs : Int) ≤ 4 * nsU)
  let slew (t : State) : State := { t with tb := setRate t.tb (rateFor t l ratio e) }
  match s.tb.st with
  | .free => stepBy s e
  | .acquiring =>
    if big || join then stepBy s e
    else
      let n := if near then s.tb.lockRun + 1 else 0
      let s1 := slew { s with tb := { s.tb with lockRun := n } }
      if max 1 (regF s 0x3000 7 4) ≤ n then lockedNow s1 else s1
  | .locked =>
    if join then stepBy (lockLost s) e
    else if big then
      if 1 ≤ s.tb.bigRun then stepBy (lockLost s) e else slew { s with tb := { s.tb with bigRun := 1 } }
    else slew { s with tb := { s.tb with bigRun := 0 } }
  | .holdover =>
    if big || join then stepBy s e else slew { s with tb := { s.tb with st := .locked, bigRun := 0, ownHold := 0 } }
  | .master => s

/-! ### Acceptance and following (R158, R159, R161) -/

/-- The node of a UID in the view lies beyond a port (R158). -/
def beyond (s : State) (g : Fin 2) (p : Port) (u : Nat) : Bool :=
  match ownEnt s g with
  | some me =>
    let q := viewPos s g u
    let lower := if me.eflags.testBit 0 then Port.aft else Port.fore
    decide (q ≠ 0) && ((decide (q < ownPos s g) && decide (p = lower)) || (decide (ownPos s g < q) && decide (p = otherPort lower)))
  | none => false

/-- A Lantern of the winning train, in JOINING: on the port of the higher ANNOUNCE, its master in no entry of the own table. -/
def winnerLan (s : State) (g : Fin 2) (p : Port) (u : Nat) : Bool :=
  s.inaug[g].st == .joining && decide (s.inaug[g].joinPort = p) && !s.inaug[g].table.any (fun e => e.uid == u)

/-- Own frames that neighbours name as rejected; a gag leads to ACQUIRING as LOCK_LOST does, with the step by e at the next Lantern followed
(R204). -/
def rejSeen (s : State) (g : Fin 2) (l : Lan) : State :=
  let n := (l.rejs.filter (fun r => r.src == ownHandle s g && r.src != 0)).length
  if n = 0 then s
  else
    let s1 := bumpBy s (0x4180 + 4 * 5) n
    if s1.sch.named then s1
    else
      let r := s1.sch.rejrun + 1
      let s2 := { s1 with sch := { s1.sch with named := true, rejrun := r } }
      if max 1 (regF s 0x4000 19 16) ≤ r && regB s 0x4100 1 && !s2.sch.gag && schedCommitted s2 then
        let m := s2.tb.st == .master
        let s3 := schEvent (bumpSch { s2 with sch := { s2.sch with gag := true, gagLeft := if m then 16 else 0 } } 12) 0x5020 5 0xFFF 0 [ownHandle s g]
        let s4 := match s3.tb.st with
          | .locked | .holdover => lockLost s3
          | _ => s3
        let s5 := if s4.tb.st == .acquiring then { s4 with tb := { s4.tb with joinStep := true } } else s4
        detect s5 0x20 0x5020
      else s2

/-- The own cycle length as a code: without a committed schedule, that of the first Lantern accepted (R179). -/
def clenOk (s : State) (c : Nat) : Bool := if schedCommitted s then c == regF s 0x4000 2 0 else (s.tb.clen.map (· == c)).getD true

/-- What the Lantern that is followed sets: e, STEPS, MUID, STARTCYC, the TAI offset; then Table 7-3 and the regeneration (R156, R161).
DESIGN CHOICE (log 39). -/
def follow (s : State) (l : Fin 4) (x : Lan) (a : Acc) (stamp : Nat) : State :=
  let e := x.origin + s.lanes[l].delay - ttAt s.tb stamp
  let s1 := { s with tb := { s.tb with
      err := e, farRatio := x.ratio, followed := some a, upLaneB := decide (l.val % 2 = 1), steps := min 255 (x.steps + 1), muid := x.muid, gw := x.gw
      holdIn := x.hold, startCyc := x.startCyc, startOk := true, startHit := s.tb.startHit && decide (s.tb.startCyc = x.startCyc), taiOfs := x.taiOfs, taiv := x.taiv } }
  let s2 := setHold s1 (if x.hold then max (1 + s.tb.ownHold) x.holdcyc else 0)
  let s3 := steer s2 l x.ratio e (s.tb.joinStep && (a.winner || s.inaug[upSeg s].st != .joining))
  launch (takeFree s3) x.hold (ttAt s3.tb stamp + ((Config.choice s3.free % 201 : Nat) : Int) * nsU)

/-- A Lantern with a correct trailer (R158). -/
def lanternTaken (s : State) (l : Fin 4) (f : Bytes) (stamp : Nat) : State :=
  let p := portOf l
  let g := segOf s p
  let b := payloadOf f
  let x := readLan b
  let s1 := bumpTb s 0
  if byteAt b 0 ≠ 1 ∨ (readHdr f).len ≠ 76 then bumpTb s1 8
  else
    let s2 := rejSeen s1 g x
    let win := winnerLan s2 g p x.muid
    let same := clenOk s2 x.clen
    let s3 := if g = upSeg s2 ∧ same = false ∧ s2.tb.mismatch = false then
        timeEvent { s2 with tb := { s2.tb with mismatch := true } } 0x4020 5 [clenCode s2, x.clen]
      else s2
    if g = upSeg s3 ∧ (win = true ∨ beyond s3 g p x.muid = true) ∧ same = true ∧ x.steps < 255 ∧ pdValid s3 l = true then
      let pos := if x.gw then 0 else viewPos s3 g x.muid
      let a : Acc := { port := p, winner := win, pos := pos, steps := x.steps, hold := x.hold, muid := x.muid }
      let s4 := { s3 with tb := { s3.tb with
          accepted := s3.tb.accepted ++ [a], mismatch := false, clen := if s3.tb.clen.isNone then some x.clen else s3.tb.clen
          lastGood := if x.hold then s3.tb.lastGood else x.muid, failed := if x.hold then s3.tb.failed else s3.tb.failed.filter (· != x.muid)
          holdRx := if x.hold then x.holdcyc else 0 } }
      let s5 := missedAssign s4 g x.epoch
      if s5.tb.st == .master then
        if win then { s5 with tb := { s5.tb with yield := some true } }
        else if pos < ownPos s5 g then { s5 with tb := { s5.tb with yield := some (s5.tb.yield.getD false) } }
        else s5
      else if s5.tb.followed.isNone && (s5.tb.up.isNone || decide (s5.tb.up = some p)) then follow s5 l x a stamp
      else s5
    else bumpTb s3 8

/-- A Lantern with a correct trailer; with the slots closed, SYNCO is inactive (R171). -/
def lanternBody (s : State) (l : Fin 4) (f : Bytes) (stamp : Nat) : State := syncoShut (lanternTaken s l f stamp)

/-- LANTERN_W_EXPIRY: W after the cycle start without an accepted Lantern: HOLDOVER, and the Lantern leaves with HOLD set (R156, R161).
DEDUCED (log 40). -/
def lanternWExpiry (s : State) : State :=
  if coreRun s && (s.tb.st == .locked || s.tb.st == .holdover) && s.tb.accepted.isEmpty then
    let s1 := { s with tb := { s.tb with st := .holdover } }
    let s2 := setHold s1 (max (1 + s1.tb.ownHold) s1.tb.holdRx)
    syncoShut <| launch s2 true (((cycleNo s2 * (cycLen s2).getD 0 + 2000 + 700 * s2.tb.steps : Nat) : Int) * nsU)
  else s

/-- MASTER_FREE_TIMEOUT: 10 ms in FREE since a table was applied, without an acceptable Lantern (R159, reason 1). -/
def masterFreeTimeout (s : State) : State :=
  if coreRun s && s.tb.st == .free && s.tb.tableAt.isSome && isCandidate s then masterStart s 1 else s

/-! ### IEEE 802.1AS (R173) -/

/-- The relay runs on local port k. -/
def gptpOn (s : State) (k : Fin 8) : Bool :=
  committed s && lePortOn s k.val && s.sw.ports[(Fin.ofNat 20 (4 + k.val))].hst == 0 && regB s 0x3080 k.val && !s.snuf.pastSi

/-- Updates one 802.1AS port. -/
def setGptp (s : State) (k : Fin 8) (f : Gptp → Gptp) : State := { s with tb := { s.tb with gptp := s.tb.gptp.set k (f s.tb.gptp[k]) } }

/-- A message of the standard, by its type, with the settings of Table 7-8: domain, grandmaster MUID, stepsRemoved, priority1 246, clockClass 248,
timeSource 0xA0, timescale, LOGSYNC, the time and the sequence number. Its octets are laid out by IEEE 802.1AS-2020. PRESUMED (log 44). -/
def gptpMsg (s : State) (k : Fin 8) (type seq : Nat) (more : List Nat) : Bytes :=
  let args := [type, k.val, regF s 0x3080 15 8, s.tb.muid, s.tb.steps + 1, 246, 248, 0xA0, s.tb.taiv.toNat, regF s 0x3080 19 16,
    ttNow s + (if s.tb.taiv then s.tb.taiOfs else 0), seq] ++ more
  (List.range (64 + Config.standardNat 40 [type] % 64)).map (Config.standardByte 40 args)

/-- The port's measured peer delay is within neighborPropDelayThresh (Table 7-8); before a measurement it counts as within. PRESUMED (log 44). -/
def gptpNear (s : State) (k : Fin 8) : Bool := decide (s.tb.gptp[k].delay ≤ 800)

/-- A message leaves by Lk, while the guardian would open the node's slots. -/
def gptpSend (s : State) (k : Fin 8) (types : List Nat) (seq : Nat) (more : List Nat) : State :=
  types.foldl (fun t ty => bumpSw (emit t (.eth (4 + k.val) (gptpMsg t k ty seq more))) (4 + k.val) 1) s

/-- GPTP_SYNC_TIMER: Sync and Follow_Up. -/
def gptpSyncTimer (s : State) (k : Fin 8) : State :=
  if gptpOn s k && slotsOpen s && gptpNear s k then setGptp (gptpSend s k [0, 8] s.tb.gptp[k].syncSeq []) k (fun x => { x with syncSeq := (x.syncSeq + 1) % 65536 }) else s

/-- GPTP_ANNOUNCE_TIMER. -/
def gptpAnnounceTimer (s : State) (k : Fin 8) : State :=
  if gptpOn s k && slotsOpen s && gptpNear s k then setGptp (gptpSend s k [0xB] s.tb.gptp[k].annSeq []) k (fun x => { x with annSeq := (x.annSeq + 1) % 65536 }) else s

/-- GPTP_PDELAY_TIMER: a peer delay request. -/
def gptpPdelayTimer (s : State) (k : Fin 8) : State :=
  if gptpOn s k && slotsOpen s then
    setGptp (gptpSend s k [2] s.tb.gptp[k].pdSeq []) k (fun x => { x with pdSeq := (x.pdSeq + 1) % 65536, pdOut := true })
  else s

/-- GPTP_FRAME_RX: Sync, Follow_Up and Announce are discarded and counted; a request is answered; an answer ends the own exchange. -/
def gptpFrameRx (s : State) (k : Fin 8) (f : Bytes) : State :=
  if gptpOn s k then
    match byteAt f 14 % 16 with
    | 0 | 8 | 0xB => raiseLim (bumpTb s 7) 1000000000 0x4040 1 k.val [tstateNo s.tb.st, s.tb.muid, s.tb.steps, k.val]
    | 2 => if slotsOpen s then gptpSend s k [3, 0xA] (beAt f 44 2) (f.map BitVec.toNat) else s
    | 0xA => if s.tb.gptp[k].pdOut then setGptp s k (fun x => { x with pdOut := false, delay := Config.standardNat 41 (s.now :: f.map BitVec.toNat) }) else s
    | _ => s
  else s

end Sys2Proof.Machine
end

