-- ==== Sys2Proof/Machine/LineCode.lean ====
section
/-! DEFINITION. The line code of the native lanes (R95 to R98): 320-bit blocks of a shortened BCH code, their types, the scrambler, PAM4
symbols, and frames and link messages packed into blocks and read back. Bits stand in the order in which they are sent. -/

namespace Sys2Proof.Machine

/-! ### The BCH code (R95) -/

/-- Product of two polynomials over GF(2), `n` terms of the first, lowest first. -/
def polyMul : (n : Nat) → Nat → Nat → Nat
  | 0, _, _ => 0
  | n + 1, a, b => Nat.xor (if a % 2 = 1 then b else 0) (2 * polyMul n (a / 2) b)

/-- The generator m1(x) m3(x): x^10 + x^3 + 1, the minimal polynomial of the primitive element, times that of its cube,
x^10 + x^3 + x^2 + x + 1 (R95). -/
def bchGen : Nat := polyMul 11 0x409 0x40F

/-- One data bit into the 20-bit remainder: the first bit sent is the highest coefficient. DESIGN CHOICE (log 103). -/
def bchStep (r : BitVec 20) (b : Bool) : BitVec 20 := if r.msb != b then (r <<< (1 : Nat)) ^^^ BitVec.ofNat 20 bchGen else r <<< (1 : Nat)

/-- The check bits of the data bits: their polynomial times x^20, modulo the generator. -/
def bchCheck (d : List Bool) : BitVec 20 := d.foldl bchStep 0

/-- The 20 bits of a check word, the first sent highest. -/
def checkBits (w : BitVec 20) : List Bool := (List.range 20).map (fun i => w.getLsbD (19 - i))

/-- Bits, the first highest, as a number. -/
def bitsNat (l : List Bool) : Nat := l.foldl (fun n b => 2 * n + b.toNat) 0

/-- The syndrome that one wrong bit at each position of a block leaves, last position first: 1, x, x^2, … modulo the generator. -/
def errorSyndromes : (n : Nat) → BitVec 20 → List (BitVec 20)
  | 0, _ => []
  | n + 1, w => w :: errorSyndromes n (bchStep w false)

/-- The syndromes of the 320 positions, the first position sent first. -/
def syndromes : List (BitVec 20) := (errorSyndromes 320 1).reverse

/-- The positions whose two or fewer errors explain a syndrome, none where no such do. -/
def explain (w : BitVec 20) : Option (List Nat) :=
  if w = 0 then some []
  else
    match syndromes.idxOf? w with
    | some i => some [i]
    | none => syndromes.zipIdx.findSome? (fun x => (syndromes.idxOf? (x.1 ^^^ w)).map (fun j => [x.2, j]))

/-! ### Block types (R96) -/

/-- Types of a block (Table 5-2). -/
inductive BlockType where
  | cont | start | idle
  deriving DecidableEq, Repr

/-- The check-bit mask of a type (Table 5-2). -/
def blockMask : BlockType → BitVec 20
  | .cont => 0x00000
  | .start => 0x3C3C3
  | .idle => 0xC3C3C

/-- A block as sent: 300 data bits, then the check bits under the mask of its type. -/
def encodeBlock (t : BlockType) (d : List Bool) : List Bool := d ++ checkBits (bchCheck d ^^^ blockMask t)

/-- Bits inverted at some positions. -/
def flipAt (l : List Bool) (ps : List Nat) : List Bool := l.zipIdx.map (fun x => if ps.contains x.2 then !x.1 else x.1)

/-- A decoded block: its type, its data bits and the bits corrected. -/
structure Decoded where
  type : BlockType
  data : List Bool
  corr : Nat
  deriving DecidableEq, Repr

/-- The reading of a block under one type's mask. -/
def readAs (b : List Bool) (t : BlockType) : Option Decoded :=
  (explain (bchCheck (b.take 300) ^^^ blockMask t ^^^ BitVec.ofNat 20 (bitsNat (b.drop 300)))).map
    (fun ps => { type := t, data := (flipAt b ps).take 300, corr := ps.length })

/-- The decoder accepts the one mask that corrects the block; with none, or more than one, the block is uncorrectable (R96). -/
def decodeBlock (b : List Bool) : Option Decoded :=
  match [BlockType.cont, .start, .idle].filterMap (readAs b) with
  | [x] => some x
  | _ => none

/-! ### The scrambler (R95) -/

/-- The 58 bits last on the line, newest first; bits 38 and 57 are those of 39 and 58 bits ago. -/
def tapBit (last : List Bool) : Bool := last.getD 38 false != last.getD 57 false

/-- Data bits scrambled by 1 + x^39 + x^58, with what the line then last carried. -/
def scramble : List Bool → List Bool → List Bool × List Bool
  | last, [] => ([], last)
  | last, b :: r =>
    let c := b != tapBit last
    let x := scramble ((c :: last).take 58) r
    (c :: x.1, x.2)

/-- Line bits descrambled. -/
def descramble : List Bool → List Bool → List Bool × List Bool
  | last, [] => ([], last)
  | last, c :: r =>
    let x := descramble ((c :: last).take 58) r
    ((c != tapBit last) :: x.1, x.2)

/-! ### Symbols (R98) -/

/-- The PAM4 levels, -3 to +3. -/
inductive Level where
  | m3 | m1 | p1 | p3
  deriving DecidableEq, Repr

/-- Gray mapping, the first bit the more significant: 00, 01, 11, 10 are -3, -1, +1, +3. -/
def levelOf (a b : Bool) : Level :=
  match a, b with
  | false, false => .m3
  | false, true => .m1
  | true, true => .p1
  | true, false => .p3

/-- The two bits of a level. -/
def levelBits : Level → Bool × Bool
  | .m3 => (false, false)
  | .m1 => (false, true)
  | .p1 => (true, true)
  | .p3 => (true, false)

/-- The 160 symbols of a block: symbol s carries bits s and s + 160. -/
def blockSymbols (b : List Bool) : List Level := ((b.take 160).zip (b.drop 160)).map (fun x => levelOf x.1 x.2)

/-- The block of 160 symbols. -/
def symbolsBlock (l : List Level) : List Bool := l.map (fun x => (levelBits x).1) ++ l.map (fun x => (levelBits x).2)

/-! ### Packing (R97) -/

/-- Bytes as bits, most significant bit first. -/
def byteBits (f : Bytes) : List Bool := f.flatMap (fun b => (List.range 8).map (fun i => b.getLsbD (7 - i)))

/-- Whole bytes of bits. -/
def bitBytes : (n : Nat) → List Bool → Bytes
  | 0, _ => []
  | n + 1, l => BitVec.ofNat 8 (bitsNat (l.take 8)) :: bitBytes n (l.drop 8)

/-- Bits cut into blocks of 300, the last with zero fill. -/
def dataBlocks : (n : Nat) → List Bool → List (List Bool)
  | 0, _ => []
  | n + 1, l => (l ++ List.replicate 300 false).take 300 :: dataBlocks n (l.drop 300)

/-- The data blocks of a frame: a START block, then CONT blocks, filled up to the block edge. -/
def frameBlocks (f : Bytes) : List (BlockType × List Bool) :=
  (dataBlocks (ceilDiv (8 * f.length) 300) (byteBits f)).zipIdx.map (fun x => (if x.2 = 0 then .start else .cont, x.1))

/-- The data block of a link message: bits 0 to 295 of an IDLE block (Table 5-2). -/
def linkBlock (m : Bytes) : BlockType × List Bool := (.idle, (byteBits m ++ List.replicate 300 false).take 300)

/-- Blocks on the line, from the bits last sent on: scrambled, then encoded. -/
def sendBlocks : List Bool → List (BlockType × List Bool) → List (List Bool)
  | _, [] => []
  | last, (t, d) :: r =>
    let x := scramble last d
    encodeBlock t x.1 :: sendBlocks x.2 r

/-- A received block, decoded and descrambled: its type, none where it is uncorrectable, and its data bits as decoded. -/
def receiveBlocks : List Bool → List (List Bool) → List (Option BlockType × List Bool × Nat)
  | _, [] => []
  | last, b :: r =>
    let x := decodeBlock b
    let d := descramble last ((x.map Decoded.data).getD (b.take 300))
    (x.map Decoded.type, d.1, (x.map Decoded.corr).getD 0) :: receiveBlocks d.2 r

/-- The frame that the received blocks hold, from a START block on, its end known from LENGTH (R97, R113): one that a START or IDLE block cuts
short stops there. -/
def readFrame (bs : List (Option BlockType × List Bool × Nat)) (stamp : Nat) : RxFrame :=
  match bs with
  | [] => { bytes := [], startBad := true, unc := 0, cut := true, stamp := stamp }
  | b :: r =>
    let body := r.takeWhile (fun x => x.1 != some .start && x.1 != some .idle)
    let n := 28 + beAt (bitBytes 24 b.2.1) 18 2
    let need := ceilDiv (8 * n) 300
    let used := body.take (need - 1)
    let bits := b.2.1 ++ used.flatMap (fun x => x.2.1)
    { bytes := bitBytes (min n (bits.length / 8)) bits, startBad := b.1 != some .start, unc := (used.filter (fun x => x.1.isNone)).length
      cut := decide (used.length + 1 < need), stamp := stamp }

/-- What a lane received, as a frame. -/
def rxFrame : LaneRx → RxFrame
  | .frame f => f
  | .line last blocks stamp => readFrame (receiveBlocks last blocks) stamp

/-- The symbols that carry a frame on the line, after bits already sent. -/
def frameSymbols (last : List Bool) (f : Bytes) : List Level := (sendBlocks last (frameBlocks f)).flatMap blockSymbols

end Sys2Proof.Machine
end

