-- ==== Sys2Proof/Machine/Native.lean ====
section
/-! DEFINITION. A native frame received on a lane (R111 to R114): the receive outcomes, the guardian at ingress (R202, R203), static
frames relayed and delivered (R185, R186, R195 to R198), and what the other kinds bring. -/

namespace Sys2Proof.Machine

/-! ### The guardian at ingress (R202, R203) -/

/-- SRC owns SLOT on this lane, as primary or, with LENGTH at most CRIT, as fallback (Table 8-6). -/
def owns (s : State) (g : Fin 2) (b : Bool) (h : NHdr) : Bool :=
  s.sch.gdPlan.any (fun e => e.seg == g && e.laneB == b && e.slot == h.slot && e.owner == h.src && e.fb == h.fold) &&
  (!h.fold || ((fbRow s b h.slot).map (fun r => decide (h.len ≤ r.2))).getD false)

/-- How ingress acceptance ends. -/
inductive Police where
  | good | owner | edge | window | dyn
  deriving DecidableEq, Repr

/-- Table 8-6 for a frame whose START is stamped at train time `tt`, 2^-32 ns. -/
def police (s : State) (l : Fin 4) (h : NHdr) (tt : Int) : Police :=
  let b := decide (l.val % 2 = 1)
  let c : Int := ((cycLen s).getD 1 : Nat)
  let x := tt % (c * nsU)
  let slot : Int := (h.slot * slenOf s b : Nat) * nsU
  let tol : Int := ((precU s + 400 : Nat) : Int) * nsU
  if !regB s 0x4100 0 || !schedCommitted s then .good
  else if h.dyn then (if x < (dstart s : Int) * nsU then .dyn else .good)
  else if h.kind = 5 ∨ h.kind = 6 then
    if !owns s (segOf s (portOf l)) b h then .owner
    else if h.hops = 0 then (if (20 * (x - slot - s.lanes[l].delay)).natAbs ≤ tol then .good else .edge)
    else if 20 * (slot - x) ≤ tol ∧ x ≤ (dstart s : Int) * nsU then .good else .window
  else .good

/-- What a rejection counts, records and raises (R202, R203, Table 8-17). DEDUCED (log 50). -/
def policed (s : State) (l : Fin 4) (h : NHdr) (r : Police) : State :=
  let p := portOf l
  let vals := [l.val, portNo p, s.inaug[(0 : Fin 2)].epoch, h.src, h.slot]
  match r with
  | .good => s
  | .dyn => bumpGd s 3
  | .owner => raiseOnce (bumpGd s 1) 1000000000 0x5033 2 l.val vals
  | .window => raiseOnce (bumpGd s 2) 1000000000 0x5033 2 l.val vals
  | .edge =>
    let s1 := bumpGd s 0
    let s2 := if 8 ≤ (s1.sch.rejNow.filter (fun x => decide (x.1 = p))).length then bumpGd s1 4
      else { s1 with sch := { s1.sch with rejNow := s1.sch.rejNow ++ [(p, { src := h.src, laneB := decide (l.val % 2 = 1), slot := h.slot })] } }
    raiseOnce s2 1000000000 0x5021 2 l.val vals

/-! ### Static frames (R185, R186, R197) -/

/-- The start of a static frame relayed from a slower lane to a faster one is later by what keeps every block of it from waiting for data (R221). -/
def slowerBy (s : State) (l m : Fin 4) (len : Nat) : Nat :=
  (blockT s.lanes[l].mode - blockT s.lanes[m].mode) * (ceilDiv (8 * (28 + len)) 300 - 1)

/-- A static frame goes to the opposite port, on the same lane letter, released H_REL after its ingress stamp (R185). `good`: its trailer is
correct; `f` as it leaves; `stamp` its counter value. -/
def relayStatic (s : State) (l : Fin 4) (good : Bool) (f : Bytes) (stamp : Nat) : State :=
  let p := portOf l
  let q := otherPort p
  let b := decide (l.val % 2 = 1)
  let m := if b then laneB q else laneA q
  if seamShut s p || seamShut s q || freshPort s p || freshPort s q || decide (segOf s q ≠ segOf s p) || portI1g s q then s
  else if !portLinked s q then bumpSw s m.val 10
  else
    relayAdd s { lane := m, inp := l.val, req := (ttAt s.tb stamp / nsU).toNat + hRel (dmode s b), late := slowerBy s l m (readHdr f).len, good := good, frame := f }

/-- A static frame delivered here: fallbacks as the critical values of their row, null frames as none (R186, R197). -/
def takeStatic (s : State) (l : Fin 4) (f : Bytes) : State :=
  let g := segOf s (portOf l)
  let b := decide (l.val % 2 = 1)
  let h := readHdr f
  if !schedCommitted s then s
  else if h.fold then
    match fbRow s b h.slot with
    | none => s
    | some (r, _) =>
      let key := (4096 * g.val + r, !b)
      if s.sch.seen.contains key then bumpSch s 6
      else toGw (bumpSch { s with sch := { s.sch with got := if s.sch.got.contains key then s.sch.got else key :: s.sch.got } } 5) g l.val true f
  else
    match rowOfSlot s b h.slot with
    | none => toGw s g l.val true f
    | some r =>
      let key := (4096 * g.val + r, b)
      let s1 := { s with sch := { s.sch with got := if s.sch.got.contains key then s.sch.got else key :: s.sch.got } }
      if h.kind = 6 then
        let s2 := toGw s1 g l.val true f
        if s1.sch.nullRx.contains key then s2 else bumpSch { s2 with sch := { s2.sch with nullRx := key :: s2.sch.nullRx } } 3
      else toGw { s1 with sch := { s1.sch with seen := if s1.sch.seen.contains key then s1.sch.seen else key :: s1.sch.seen } } g l.val true f

/-! ### Reception -/

/-- Header and trailer failures count in the window of the lane's health, and are detected errors of the lane (R105, R113, Table 14-2). -/
def laneError (s : State) (l : Fin 4) (i : Nat) : State :=
  windowCount (detect (setLane (bumpLane s l i) l (fun x => { x with fecErr := x.fecErr + 1 })) l.val 0) l false

/-- A frame of a good header that passed the guardian goes its way by KIND (R209 to R211, R225). `good`: delivered here too. -/
def route (s : State) (l : Fin 4) (good : Bool) (f : Bytes) (stamp : Nat) : State :=
  let h := readHdr f
  let s1 := mirror (bumpSw (newFrame s) l.val 0) false l.val h.cls (s.sw.fab.cur + 1) f false (!good) (unsigned 64 (ttAt s.tb stamp / nsU))
  if h.kind = 1 then (if good then lanternBody s l f stamp else s)
  else if h.kind = 8 ∧ h.dtype = 4 ∧ byteAt (payloadOf f) 0 = 0x50 then (if good then pauseFrameRx s1 l f else s1)
  else if (h.kind = 5 ∨ h.kind = 6) ∧ h.dyn = false then relayStatic (if good then takeStatic s1 l f else s1) l good (withHop f) stamp
  else switchFrame s1 l good f

/-- The rows of Table 5-10 from the trailer on: what is counted, then what happens to the frame unless the guardian stopped it. -/
def receiveBody (s : State) (l : Fin 4) (r : RxFrame) (pass : Bool) : State :=
  if 0 < r.unc ∨ r.cut = true then
    let s1 := if 0 < r.unc then uncBlocks s l r.unc else laneError s l 3
    if pass then route s1 l false (withStomp r.bytes) r.stamp else s1
  else if trailerOk r.bytes then
    let s1 := bumpLane s l 10
    if pass then route s1 l true r.bytes r.stamp else s1
  else if stomped r.bytes then
    let s1 := bumpLane s l 5
    if pass then route s1 l false r.bytes r.stamp else s1
  else
    let s1 := laneError s l 3
    if pass then route s1 l false (withStomp r.bytes) r.stamp else s1

/-- NATIVE_FRAME_RX: the first matching row of Table 5-10 governs. -/
def nativeFrameRx (s : State) (l : Fin 4) (r : RxFrame) : State :=
  let h := readHdr r.bytes
  let own := ownHandle s (segOf s (portOf l))
  if !coreRun s || !laneUp s l || laneI1g s l then s
  else if r.startBad then uncBlocks (bumpLane s l 4) l 1
  else if !hcrcOk r.bytes then laneError s l 2
  else if h.kind = 0 ∨ 8 < h.kind ∨ 4 < h.dtype then bumpLane s l 8
  else if h.src = 0 ∧ h.kind ≠ 2 then s
  else if h.hops = 255 then raiseLim (bumpLane s l 9) 1000000000 0x2020 2 l.val [l.val, s.lanes[l].mode, s.lanes[l].snr, s.lanes[l].farUid, h.src, h.kind]
  else if h.src = own ∧ h.src ≠ 0 ∧ h.dtype ≠ 4 then s
  else
    let v := police s l h (ttAt s.tb r.stamp)
    receiveBody (policed s l h v) l r (decide (v = .good))

/-- A frame received whole, its blocks good. -/
def wholeFrame (f : Bytes) (stamp : Nat) : RxFrame := { bytes := f, startBad := false, unc := 0, cut := false, stamp := stamp }

/-- LANTERN_RX: the reception of a Lantern. DEDUCED (log 43). -/
def lanternRx (s : State) (l : Fin 4) (f : Bytes) (stamp : Nat) : State :=
  if (readHdr f).kind = 1 then nativeFrameRx s l (wholeFrame f stamp) else s

/-- PAUSE_FRAME_RX: the reception of a pause frame. -/
def pauseRx (s : State) (l : Fin 4) (f : Bytes) : State :=
  if (readHdr f).kind = 8 ∧ (readHdr f).dtype = 4 ∧ byteAt (payloadOf f) 0 = 0x50 then nativeFrameRx s l (wholeFrame f s.tb.ctr) else s

end Sys2Proof.Machine
end

