-- ==== Sys2Proof/Machine/MonText.lean ====
section
/-! DEFINITION. The text of the monitor (R400, R405): command lines read and written, response lines, and the frames of remote sessions. -/

namespace Sys2Proof.Machine

/-! ### Command lines -/

/-- A letter in lower case: letters are not case-sensitive. -/
def lower (c : Byte) : Byte := if 0x41 ≤ c.toNat ∧ c.toNat ≤ 0x5A then c + 0x20#8 else c

/-- The fields of a line, separated by spaces; `cur` is the field being read, reversed. -/
def fieldsOf : Bytes → (cur : Bytes) → List Bytes
  | [], cur => if cur.isEmpty then [] else [cur.reverse]
  | c :: r, cur => if c = 0x20#8 then (if cur.isEmpty then fieldsOf r [] else cur.reverse :: fieldsOf r []) else fieldsOf r (lower c :: cur)

/-- A digit of a base up to 16. -/
def digitOf (base : Nat) (c : Byte) : Option Nat :=
  let n := c.toNat
  let d := if 0x30 ≤ n ∧ n ≤ 0x39 then n - 0x30 else if 0x61 ≤ n ∧ n ≤ 0x66 then n - 0x57 else 99
  if d < base then some d else none

/-- Digits as a number, none where one is bad. -/
def digitsOf (base : Nat) (b : Bytes) : Option Nat :=
  if b.isEmpty then none
  else b.foldl (fun a c => a.bind (fun n => (digitOf base c).map (fun d => n * base + d))) (some 0)

/-- A number: decimal, or hexadecimal with 0x. -/
def numOf (b : Bytes) : Option Nat :=
  match b with
  | 0x30#8 :: 0x78#8 :: r => digitsOf 16 r
  | _ => digitsOf 10 b

/-- Eight groups of 8 hexadecimal digits as 32 bytes (R401). -/
def groupsOf (l : List Bytes) : Option Bytes :=
  if l.length ≠ 8 then none
  else l.foldl (fun a g => a.bind (fun b => if g.length = 8 then (digitsOf 16 g).map (fun v => b ++ beBytes 4 v) else none)) (some [])

/-- A command of one number below `lim`. -/
def oneNum (lim : Nat) (b : Bytes) (k : Nat → MonCmd) : MonCmd :=
  match numOf b with
  | some n => if n < lim then k n else .bad
  | none => .bad

/-- A word of letters as a number: its ASCII codes. -/
def wordOf (b : Bytes) : Nat := beNat b

/-- A command line, its fields read (Table 16-2). -/
def parseFields (l : List Bytes) : MonCmd :=
  match l with
  | [] => .bad
  | w :: r =>
    match wordOf w, r with
    | 0x68656C70, [] => .help
    | 0x6964, [] => .ident
    | 0x746F706F, [] => .topo
    | 0x74696D65, [] => .time
    | 0x6661756C74, [] => .fault
    | 0x7265706C616E, [] => .replan
    | 0x736C656570, [] => .sleep
    | 0x6C6F636B, [] => .lock
    | 0x6C6F63616C, [] => .locl
    | 0x74656C, [] => .tel
    | 0x74656C, [a, b] => if wordOf a = 0x73656E64 then oneNum 256 b .telSend else .bad
    | 0x6C616E65, [] => .lane none
    | 0x6C616E65, [a] => oneNum 4 a (fun n => .lane (some n))
    | 0x70726F66696C65, [] => .profileShow
    | 0x70726F66696C65, [a] => oneNum 4 a .profileSet
    | 0x74657374, [a] => oneNum 256 a .test
    | 0x72657475726E, [a] => oneNum 256 a .ret
    | 0x726574697265, [a] => oneNum 4 a .retire
    | 0x63616E726563, [a] => oneNum 8 a .canrec
    | 0x6E6F6465, [a] => oneNum 256 a .node
    | 0x7264, [a] => oneNum 65536 a (fun o => .rd o 1)
    | 0x7264, [a, b] => oneNum 65536 a (fun o => oneNum 65 b (fun n => .rd o n))
    | 0x7772, [a, b] => oneNum 65536 a (fun o => oneNum (2 ^ 32) b (fun v => .wr o v))
    | 0x6E766D, [a, b] => if wordOf a = 0x70726F67 then oneNum (2 ^ 32) b .nvmProg else .bad
    | 0x756E6C6F636B, [] => .unlock
    | 0x756E6C6F636B, g => ((groupsOf g).map MonCmd.unlockResp).getD .bad
    | 0x6B6579, a :: g =>
      match groupsOf g, wordOf a with
      | some k, 0x696D67 => .key .img k
      | some k, 0x6D6F6E => .key .mon k
      | some k, 0x636C72 => .key .clr k
      | _, _ => .bad
    | 0x726563, a :: g =>
      match wordOf a, g with
      | 0x73746174, [] => .recStat
      | 0x64756D70, [] => .recDump .every
      | 0x64756D70, [b] => if wordOf b = 0x67656E then .recDump .gen else if wordOf b = 0x73657637 then .recDump .sev7 else if wordOf b = 0x72696E67 then .recDump .ring else .bad
      | 0x7374617473, [b, c] => if wordOf b = 0x68 then oneNum 64 c (.recStats false) else if wordOf b = 0x78 then oneNum 128 c (.recStats true) else .bad
      | 0x636C656172, [b] => oneNum 32 b .recClear
      | 0x72657370, _ => ((groupsOf g).map MonCmd.recResp).getD .bad
      | _, _ => .bad
    | _, _ => .bad

/-- A line of at most 128 characters (R400). -/
def parseLine (b : Bytes) : MonCmd := if 128 < b.length then .bad else parseFields (fieldsOf b [])

/-- A hexadecimal digit. -/
def hexDigit (n : Nat) : Byte := BitVec.ofNat 8 (if n % 16 < 10 then 0x30 + n % 16 else 0x57 + n % 16)

/-- The n lowest hexadecimal digits of a number. -/
def hexText : (n : Nat) → Nat → Bytes
  | 0, _ => []
  | n + 1, v => hexDigit (v / 16 ^ n) :: hexText n v

/-- Words and numbers of a line, one space between two. -/
def joinFields (l : List Bytes) : Bytes := (l.intersperse [0x20#8]).flatten

/-- A number as a field. -/
def numText (v : Nat) : Bytes := [0x30#8, 0x78#8] ++ hexText 8 v

/-- Groups of 8 hexadecimal digits. -/
def groupText (b : Bytes) : List Bytes := (List.range (b.length / 4)).map (fun i => hexText 8 (beAt b (4 * i) 4))

/-- The word of a number of ASCII codes: n letters. -/
def wordText (n w : Nat) : Bytes := beBytes n w

/-- A command as one line of text, for a remote session (R405). -/
def cmdText (c : MonCmd) : Bytes :=
  joinFields (match c with
    | .help => [[0x68#8, 0x65#8, 0x6C#8, 0x70#8]]
    | .ident => [[0x69#8, 0x64#8]]
    | .recStat => [[0x72#8, 0x65#8, 0x63#8], [0x73#8, 0x74#8, 0x61#8, 0x74#8]]
    | .topo => [[0x74#8, 0x6F#8, 0x70#8, 0x6F#8]]
    | .time => [[0x74#8, 0x69#8, 0x6D#8, 0x65#8]]
    | .fault => [[0x66#8, 0x61#8, 0x75#8, 0x6C#8, 0x74#8]]
    | .profileShow => [[0x70#8, 0x72#8, 0x6F#8, 0x66#8, 0x69#8, 0x6C#8, 0x65#8]]
    | .replan => [[0x72#8, 0x65#8, 0x70#8, 0x6C#8, 0x61#8, 0x6E#8]]
    | .sleep => [[0x73#8, 0x6C#8, 0x65#8, 0x65#8, 0x70#8]]
    | .tel => [[0x74#8, 0x65#8, 0x6C#8]]
    | .unlock => [[0x75#8, 0x6E#8, 0x6C#8, 0x6F#8, 0x63#8, 0x6B#8]]
    | .lock => [[0x6C#8, 0x6F#8, 0x63#8, 0x6B#8]]
    | .locl => [[0x6C#8, 0x6F#8, 0x63#8, 0x61#8, 0x6C#8]]
    | .rd o n => [[0x72#8, 0x64#8], numText o, numText n]
    | .wr o v => [[0x77#8, 0x72#8], numText o, numText v]
    | .recDump a => [[0x72#8, 0x65#8, 0x63#8], [0x64#8, 0x75#8, 0x6D#8, 0x70#8]] ++ (match a with
      | .gen => [[0x67#8, 0x65#8, 0x6E#8]]
      | .sev7 => [[0x73#8, 0x65#8, 0x76#8, 0x37#8]]
      | .ring => [[0x72#8, 0x69#8, 0x6E#8, 0x67#8]]
      | .every => [])
    | .recStats e i => [[0x72#8, 0x65#8, 0x63#8], [0x73#8, 0x74#8, 0x61#8, 0x74#8, 0x73#8], if e then [0x78#8] else [0x68#8], numText i]
    | .recClear sc => [[0x72#8, 0x65#8, 0x63#8], [0x63#8, 0x6C#8, 0x65#8, 0x61#8, 0x72#8], numText sc]
    | .recResp r => [[0x72#8, 0x65#8, 0x63#8], [0x72#8, 0x65#8, 0x73#8, 0x70#8]] ++ groupText r
    | .lane n => [[0x6C#8, 0x61#8, 0x6E#8, 0x65#8]] ++ (n.map numText).toList
    | .profileSet p => [[0x70#8, 0x72#8, 0x6F#8, 0x66#8, 0x69#8, 0x6C#8, 0x65#8], numText p]
    | .test u => [[0x74#8, 0x65#8, 0x73#8, 0x74#8], numText u]
    | .ret u => [[0x72#8, 0x65#8, 0x74#8, 0x75#8, 0x72#8, 0x6E#8], numText u]
    | .retire l => [[0x72#8, 0x65#8, 0x74#8, 0x69#8, 0x72#8, 0x65#8], numText l]
    | .canrec ch => [[0x63#8, 0x61#8, 0x6E#8, 0x72#8, 0x65#8, 0x63#8], numText ch]
    | .telSend x => [[0x74#8, 0x65#8, 0x6C#8], [0x73#8, 0x65#8, 0x6E#8, 0x64#8], numText x]
    | .unlockResp r => [0x75#8, 0x6E#8, 0x6C#8, 0x6F#8, 0x63#8, 0x6B#8] :: groupText r
    | .key _ _ => []
    | .nvmProg _ => []
    | .node h => [[0x6E#8, 0x6F#8, 0x64#8, 0x65#8], numText h]
    | .bad => [])

/-! ### Response lines -/

/-- The name of an error code (Table 16-1). -/
def errName (n : Nat) : Bytes :=
  match n with
  | 1 => [0x53#8, 0x59#8, 0x4E#8, 0x54#8, 0x41#8, 0x58#8]
  | 2 => [0x4C#8, 0x45#8, 0x56#8, 0x45#8, 0x4C#8]
  | 3 => [0x4C#8, 0x4F#8, 0x43#8, 0x41#8, 0x4C#8]
  | 4 => [0x52#8, 0x45#8, 0x46#8, 0x55#8, 0x53#8, 0x45#8, 0x44#8]
  | 5 => [0x42#8, 0x55#8, 0x53#8, 0x59#8]
  | 6 => [0x54#8, 0x49#8, 0x4D#8, 0x45#8, 0x4F#8, 0x55#8, 0x54#8]
  | 7 => [0x47#8, 0x4F#8, 0x4E#8, 0x45#8]
  | _ => [0x44#8, 0x45#8, 0x4E#8, 0x49#8, 0x45#8, 0x44#8]

/-- The text of a response line: OK, ERR and CHAL as R400 and R401 print them; the text of the others is free in its values.
DESIGN CHOICE (log 97). -/
def lineText (kind : String) (vals : List Nat) : Bytes :=
  if kind = "OK" then [0x4F#8, 0x4B#8]
  else if kind = "ERR" then joinFields [[0x45#8, 0x52#8, 0x52#8], [BitVec.ofNat 8 (0x30 + vals.headD 0 % 10)], errName (vals.headD 0)]
  else if kind = "CHAL" then joinFields ([0x43#8, 0x48#8, 0x41#8, 0x4C#8] :: groupText (vals.map (fun v => BitVec.ofNat 8 v)))
  else (List.range (1 + Config.standardNat 50 (kind.length :: vals) % 200)).map (Config.standardByte 50 (kind.length :: vals))

/-! ### Remote frames (Table 16-3) -/

/-- MON_CFG.MCLASS. -/
def monClass (s : State) : Nat := classOf (regF s 0xD000 10 8)

/-- A payload of a remote session. -/
def remotePayload (mtype flags mseq tuid iuid : Nat) (text : Bytes) : Bytes :=
  [BitVec.ofNat 8 mtype, BitVec.ofNat 8 flags] ++ beBytes 2 mseq ++ beBytes 8 tuid ++ beBytes 8 iuid ++ beBytes 2 text.length ++ [0#8, 0#8] ++ text

/-- A remote frame waits for admission: KIND 0x08, DTYPE 0, DYN set, class MCLASS (R405). `inp`: its fabric port, MGMT, or REC for a record
payload (Table 9-1). -/
def sendRemote (s : State) (inp : Nat) (f : Far) (body : Bytes) : State :=
  pushDyn s { origin := 5, inp := inp, laneB := bitAt (reg s 0x5008) (monClass s), cls := monClass s, kind := 8, dtype := 0, dest := [BitVec.ofNat 8 f.handle], body := body, seg := f.seg }

/-- A response frame to an initiator; LAST on the frame of the final line. -/
def respond (s : State) (inp : Nat) (f : Far) (mseq : Nat) (last : Bool) (text : Bytes) : State :=
  sendRemote s inp f (remotePayload 0x52 last.toNat mseq s.uid f.uid (text.take 200))

/-- A request frame to the far node of the open session. -/
def sendRequest (s : State) (f : Far) (flags : Nat) (text : Bytes) : State :=
  let n := (s.mon.mseq + 1) % 65536
  sendRemote { s with mon := { s.mon with mseq := n } } 16 f (remotePayload 0x4D flags n f.uid s.uid text)

/-- A line of a response: on the UART, or in a frame of the remote session served. -/
def say (s : State) (x : Ses) (kind : String) (vals : List Nat) : State :=
  match x with
  | .onUart => emit s (.line .onUart kind vals)
  | .remote =>
    match s.mon.served with
    | some f => respond s (if kind == "REC" then 18 else 16) f s.mon.mseqIn (kind == "OK" || kind == "ERR") (lineText kind vals)
    | none => s

/-- The final OK line. -/
def done (s : State) (x : Ses) : State := say s x "OK" []

/-- The final ERR line (Table 16-1). -/
def fails (s : State) (x : Ses) (n : Nat) : State := say s x "ERR" [n]

end Sys2Proof.Machine
end

