-- ==== Sys2Proof/Machine/Monitor.lean ====
section
/-! DEFINITION. The Shoboef monitor (R399 to R406): levels and keys, the commands of Table 16-2, programming of the NVM, and remote
sessions. -/

namespace Sys2Proof.Machine

/-! ### Sessions and levels -/

/-- A session's level and challenge. -/
def sessOf (s : State) (x : Ses) : Sess :=
  match x with
  | .onUart => s.mon.ses
  | .remote => s.mon.rem

/-- Updates a session. -/
def setSess (s : State) (x : Ses) (f : Sess → Sess) : State :=
  match x with
  | .onUart => { s with mon := { s.mon with ses := f s.mon.ses } }
  | .remote => { s with mon := { s.mon with rem := f s.mon.rem } }

/-- The initiator's handle, where the command came in a remote session (R406). -/
def initiator (s : State) (x : Ses) : List Nat :=
  match x, s.mon.served with
  | .remote, some f => [f.handle]
  | _, _ => []

/-- The events raised between two states of one command. -/
def newEvents (s t : State) : List Event := t.log.raised.drop s.log.raised.length

/-- An event of a code was raised on the way from s to t. -/
def said (s t : State) (code : Nat) : Bool := (newEvents s t).any (fun e => e.code == code)

/-- The severity-6 events of a remote command carry the initiator's handle (R406). -/
def signEvents (s t : State) (x : Ses) : State :=
  let signed := (newEvents s t).map (fun e => if e.sev = 6 then { e with vals := e.vals ++ initiator s x } else e)
  { t with log := { t.log with raised := t.log.raised.take s.log.raised.length ++ signed } }

/-- A command that a rule of the node may refuse: ERR 4 where its event says so (Table 16-1). -/
def orRefused (s t : State) (x : Ses) (code : Nat) : State := if said s t code then fails t x 4 else done t x

/-- Commands that need SERVICE (Table 16-2); `key` has a rule of its own (R402). -/
def needsService : MonCmd → Bool
  | .wr _ _ | .recClear _ | .recResp _ | .profileSet _ | .test _ | .ret _ | .retire _ | .canrec _ | .replan | .sleep | .telSend _ | .nvmProg _ => true
  | .help | .ident | .recStat | .topo | .time | .fault | .profileShow | .tel | .unlock | .lock | .locl | .rd _ _ | .recDump _ | .recStats _ _
  | .lane _ | .unlockResp _ | .key _ _ | .node _ | .bad => false

/-! ### Commands that only show -/

/-- The registers of a list, each read as a line "REG": offset, value. -/
def showRegs (s : State) (x : Ses) (offs : List Nat) : State :=
  offs.foldl (fun t o => say (readEffect t .monitor o) x "REG" [o, (regRead t .monitor o).toNat]) s

/-- `rd` (R372, R403): a read with an effect needs SERVICE. -/
def cmdRd (s : State) (x : Ses) (off n : Nat) : State :=
  let offs := (List.range n).map (fun i => off + 4 * i)
  if off % 4 ≠ 0 ∨ n = 0 ∨ 64 < n ∨ 65536 < off + 4 * n then fails s x 1
  else if offs.any effectReg ∧ (sessOf s x).level ≠ 2 then fails s x 2
  else done (showRegs s x offs) x

/-- The records present, oldest first, each with its area and slot (R390). -/
def dumpRecords (s : State) (a : DumpArea) : List (Nat × Nat × Rec) :=
  let of (n : Nat) (l : List (Nat × Rec)) := l.map (fun e => (n, e.1, e.2))
  ((match a with
    | .gen => of 0 (rdBank s).gen
    | .sev7 => of 1 (rdBank s).sev7
    | .ring => of 2 s.log.ring
    | .every => of 0 (rdBank s).gen ++ of 1 (rdBank s).sev7 ++ of 2 s.log.ring)).mergeSort (fun p q => older p.2.2 q.2.2)

/-- `rec dump`: one line a record. -/
def cmdDump (s : State) (x : Ses) (a : DumpArea) : State :=
  done ((dumpRecords s a).foldl (fun t r => say t x "REC" ([r.1, r.2.1] ++ (recBytes r.2.2.seq r.2.2.ev).map BitVec.toNat)) s) x

/-- The registers of one lane: status, health and counters. -/
def laneRegs (l : Nat) : List Nat := [0x1104, 0x1108].map (· + 0x100 * l) ++ (List.range 12).map (fun i => 0x1120 + 0x100 * l + 4 * i)

/-- `topo`: one line an entry of the table of the segment shown. -/
def cmdTopo (s : State) (x : Ses) : State :=
  let t := s.inaug[segSel s].table
  done ((List.range t.length).foldl (fun u i =>
    match t[i]? with
    | some e => say u x "NODE" [i + 1, e.uid, e.handle, e.eflags, e.rank, e.slotref]
    | none => u) (say s x "TOPO" [istateNo s.inaug[segSel s].st, s.inaug[segSel s].epoch, t.length, ownPos s (segSel s), ownHandle s (segSel s)])) x

/-- `fault`: fault handling, and every unit that is not ON. -/
def cmdFault (s : State) (x : Ses) : State :=
  let units := (List.range 50).filter (fun u => unitAssigned u && effState s u != 1)
  done (units.foldl (fun t u => say t x "UNIT" [u, (unitWord t u).toNat]) (showRegs s x ([0xB008, 0xB010] ++ (List.range 8).map (fun i => 0xB040 + 4 * i) ++ (List.range 13).map (fun i => 0xB080 + 4 * i)))) x

/-! ### Unlocking and keys (R401, R402) -/

/-- UNLOCK_FAIL: counted, 0xD002, ERR 8. -/
def unlockFail (s : State) (x : Ses) : State := fails (raise (bumpMon s 2) 0xD002 2 0xFFF (initiator s x)) x 8

/-- `unlock`: a challenge (R401). DEDUCED (log 98). -/
def cmdUnlock (s : State) (x : Ses) : State :=
  if s.mon.lockEnd.isSome then fails s x 8
  else if s.otp.mon.isNone then unlockFail s x
  else if (sessOf s x).chal.isSome then fails s x 5
  else
    let c := randomBytes s 16
    done (say (setSess (takeFree s) x (fun y => { y with chal := some c })) x "CHAL" (c.map BitVec.toNat)) x

/-- `unlock` with a response: HMAC over the challenge, the UID and 0x02 (R401). -/
def cmdUnlockResp (s : State) (x : Ses) (r : Bytes) : State :=
  if s.mon.lockEnd.isSome then fails s x 8
  else
    match s.otp.mon, (sessOf s x).chal with
    | some key, some c =>
      let s1 := setSess s x (fun y => { y with chal := none })
      if r = hmac key (c ++ beBytes 8 s.uid ++ [0x02#8]) then
        let s2 := setSess { s1 with mon := { s1.mon with fails := 0 } } x (fun y => { y with level := 2 })
        done (raise s2 0xD001 6 0xFFF [if x = .remote then 1 else 0]) x
      else
        let n := s.mon.fails + 1
        if n < 3 then unlockFail { s1 with mon := { s1.mon with fails := n } } x
        else
          let s2 := { s1 with mon := { s1.mon with fails := 0, lockEnd := some (s.now + 600000000000) } }
          unlockFail (raise s2 0xD003 5 0xFFF (initiator s x)) x
    | _, _ => unlockFail s x

/-- The slot of a key. -/
def otpSlot (o : Otp) (k : KeySlot) : Option Bytes :=
  match k with
  | .img => o.img
  | .mon => o.mon
  | .clr => o.clr

/-- `key` (R402): the slot is programmed once. -/
def cmdKey (s : State) (x : Ses) (k : KeySlot) (key : Bytes) : State :=
  if key.length ≠ 32 then fails s x 1
  else if (sessOf s x).level ≠ 2 ∧ ¬(k = .mon ∧ s.otp.mon = none) then fails s x 2
  else if (otpSlot s.otp k).isSome then fails s x 4
  else
    let s1 := { s with otp := match k with
      | .img => { s.otp with img := some key }
      | .mon => { s.otp with mon := some key }
      | .clr => { s.otp with clr := some key } }
    done (raise s1 0xD020 6 0xFFF [match k with
      | .img => 0
      | .mon => 1
      | .clr => 2]) x

/-! ### Commands that act -/

/-- `wr` (R403): one register write; refused for the monitor and security block and for registers with a MAGIC field. -/
def cmdWr (s : State) (x : Ses) (off val : Nat) : State :=
  if off % 4 ≠ 0 ∨ 65536 ≤ off then fails s x 1
  else if monReg off || magicReg off then fails s x 4
  else
    let (t, c) := regWrite (takeFree s) .monitor off 0xF#4 (BitVec.ofNat 32 val) (decide (Config.choice s.free % 2 = 1))
    let u := raise t 0xD005 6 0xFFF [off, val]
    if c = 0 then done u x else fails u x 4

/-- `rec clear` (R391): the challenge is printed. -/
def cmdClear (s : State) (x : Ses) (scope : Nat) : State :=
  if 32 ≤ scope then fails s x 1
  else
    let t := clearRequest s scope 1
    if said s t 0xB005 then fails t x (if s.log.lockout || s.otp.clr.isNone then 8 else 4)
    else done (say t x "CHAL" (t.log.chal.map BitVec.toNat)) x

/-- `rec resp` (R391). -/
def cmdClearResp (s : State) (x : Ses) (r : Bytes) : State :=
  let t := clearRespond s s.log.scope 1 (initiator s x) r
  if said s t 0xB005 then fails t x 8 else done t x

/-- `nvm prog` (R404): READY, then the image in blocks. -/
def cmdNvm (s : State) (x : Ses) (len : Nat) : State :=
  if len % 4 ≠ 0 ∨ len < 256 ∨ 8388608 < len then fails s x 1
  else if s.boot.phase != .committed && s.boot.phase != .repeater then fails s x 4
  else say { s with mon := { s.mon with prog := some { len := len, data := [], next := 1 } } } x "READY" []

/-- `node h` (R405): an OPEN request goes to the node that holds the handle in the segment shown. -/
def cmdNode (s : State) (x : Ses) (h : Nat) : State :=
  if s.mon.opened.isSome then fails s x 5
  else
    match s.inaug[segSel s].table.find? (fun e => e.handle == h && h != 0) with
    | none => fails s x 7
    | some e =>
      let f : Far := { seg := segSel s, handle := h, uid := e.uid }
      sendRequest { s with mon := { s.mon with opened := some f, opening := true, waiting := true } } f 2 []

/-- A unit or lane number that no field can hold is a bad field. -/
def inRange (s : State) (x : Ses) (n lim : Nat) (k : State) : State := if n < lim then k else fails s x 1

/-- The effect and response of one command in one session, its level allowed (Table 16-2). -/
def cmdGo (s : State) (x : Ses) (wakeLow : Bool) (c : MonCmd) : State :=
  match c with
  | .help => done (say s x "HELP" []) x
  | .ident => done (say s x "ID" [s.uid, Config.stepping.toNat, (regRead s .monitor 0x0C).toNat, (regRead s .monitor 0x100).toNat, s.boot.imageId, s.boot.active]) x
  | .rd o n => cmdRd s x o n
  | .wr o v => cmdWr s x o v
  | .recStat => done (say s x "REC" ([(recStat s).toNat, s.log.head, s.log.ovw, s.mram.optime, s.mram.pwrcyc] ++ (gaspBytes s.log.gaspRead).map BitVec.toNat)) x
  | .recDump a => cmdDump s x a
  | .recStats e i => inRange s x i (if e then 128 else 64) (done (say s x "STAT" (i :: (statWords s e i).map BitVec.toNat)) x)
  | .recClear sc => cmdClear s x sc
  | .recResp r => cmdClearResp s x r
  | .lane none => done (showRegs s x ((List.range 4).flatMap laneRegs)) x
  | .lane (some n) => inRange s x n 4 (done (showRegs s x (laneRegs n)) x)
  | .topo => cmdTopo s x
  | .time => done (showRegs s x ([0x3008, 0x300C, 0x3020, 0x3024, 0x3028, 0x302C, 0x3030, 0x3060, 0x3064, 0x3068, 0x306C] ++ (List.range 9).map (fun i => 0x3090 + 4 * i))) x
  | .fault => cmdFault s x
  | .profileShow => done (say s x "PROFILE" [s.boot.active, s.boot.source, s.boot.switches, s.boot.psel, s.boot.profiles]) x
  | .profileSet p => inRange s x p 4 (orRefused s (switchTo s p 1) x 0xC021)
  | .test u => inRange s x u 256 (orRefused s (unitTest s u 1) x 0xA051)
  | .ret u => inRange s x u 256 (orRefused s (unitReturn s u 1) x 0xA051)
  | .retire l => inRange s x l 4 (let m : Fin 4 := Fin.ofNat 4 l
                                  if canRetire s m then done (laneRetire s m 3) x else fails (cmdReject s l 1) x 4)
  | .canrec ch => inRange s x ch 8 (orRefused s (canRecover s (Fin.ofNat 8 ch) 1) x 0x8005)
  | .replan => orRefused s (requestReplan s (segSel s) 1) x 0x3021
  | .sleep => orRefused s (roundStart s wakeLow 1) x 0x1011
  | .tel => done (showRegs s x ([0xD008, 0xD00C] ++ [4, 5, 6, 7].map (fun i => 0xD080 + 4 * i))) x
  | .telSend n => if 1 < n ∨ telOn s = false then fails s x 4 else done (telRequest s n) x
  | .unlock => cmdUnlock s x
  | .unlockResp r => cmdUnlockResp s x r
  | .lock => done (setSess s x (fun y => { y with level := 1 })) x
  | .key k v => cmdKey s x k v
  | .nvmProg len => cmdNvm s x len
  | .node h => cmdNode s x h
  | .locl => done s x
  | .bad => fails s x 1

/-- Commands not offered in a remote session (Table 16-2). -/
def localOnly : MonCmd → Bool
  | .key _ _ | .nvmProg _ | .node _ | .locl => true
  | .help | .ident | .recStat | .topo | .time | .fault | .profileShow | .tel | .unlock | .lock | .rd _ _ | .recDump _ | .recStats _ _ | .lane _
  | .unlockResp _ | .wr _ _ | .recClear _ | .recResp _ | .profileSet _ | .test _ | .ret _ | .retire _ | .canrec _ | .replan | .sleep | .telSend _ | .bad => false

/-- One command in one session: offered there, and at the level it needs. -/
def cmdRun (s : State) (x : Ses) (wakeLow : Bool) (c : MonCmd) : State :=
  if x = .remote ∧ localOnly c = true then fails s x 3
  else if needsService c = true ∧ (sessOf s x).level ≠ 2 then fails s x 2
  else signEvents s (cmdGo s x wakeLow c) x

/-- The prompt that follows a response on the UART: the far handle, 0 for none, and the level (R400). The level of a far node is free here. -/
def prompt (s : State) : State :=
  match s.mon.opened with
  | some f => emit (takeFree s) (.line .onUart "PROMPT" [f.handle, 1 + Config.choice s.free % 2])
  | none => emit s (.line .onUart "PROMPT" [0, s.mon.ses.level])

/-- A command on the UART while a session is open from here (R405). -/
def farCommand (s : State) (f : Far) (c : MonCmd) : State :=
  match c with
  | .locl => prompt (done (closeOpened (sendRequest s f 4 [])) .onUart)
  | .node _ => prompt (fails s .onUart 5)
  | .key _ _ | .nvmProg _ => prompt (fails s .onUart 3)
  | .bad => prompt (fails s .onUart 1)
  | .help | .ident | .recStat | .topo | .time | .fault | .profileShow | .tel | .unlock | .lock | .rd _ _ | .recDump _ | .recStats _ _ | .lane _
  | .unlockResp _ | .wr _ _ | .recClear _ | .recResp _ | .profileSet _ | .test _ | .ret _ | .retire _ | .canrec _ | .replan | .sleep | .telSend _ =>
    sendRequest { s with mon := { s.mon with waiting := true } } f 0 (cmdText c)

/-- The UART takes no command now: a far node's answer or an image is awaited. -/
def uartBusy (s : State) : Bool := s.mon.waiting || s.mon.prog.isSome

/-- A command line read on the UART. A command that is not answered yet (an image awaited, a far node asked) has no prompt. -/
def runLine (s : State) (wakeLow : Bool) (c : MonCmd) : State :=
  match s.mon.opened with
  | some f => farCommand (bumpMon s 0) f c
  | none =>
    let t := cmdRun (bumpMon s 0) .onUart wakeLow c
    if uartBusy t then t else prompt t

/-- A line that arrives while a command runs waits in the buffer of 256 bytes; characters beyond are dropped and counted, and their line with
them (R400). How many characters it has is free. DESIGN CHOICE (log 99). -/
def holdLine (s : State) (wakeLow : Bool) (c : MonCmd) : State :=
  let n := 2 + Config.choice s.free % 128
  let all := (s.mon.inbuf.map HeldLine.chars).sum + n
  let s1 := takeFree s
  if 256 < all then bumpBy s1 (0xD080 + 4) (all - 256)
  else { s1 with mon := { s1.mon with inbuf := s1.mon.inbuf ++ [{ chars := n, wakeLow := wakeLow, cmd := c }] } }

/-- The lines that waited run in order, until one is not answered yet (structural on their number). -/
def runHeld : (left : Nat) → State → State
  | 0, s => s
  | n + 1, s =>
    if uartBusy s || !monAlive s then s
    else
      match s.mon.inbuf with
      | [] => s
      | h :: r => runHeld n (runLine { s with mon := { s.mon with inbuf := r } } h.wakeLow h.cmd)

/-- What waited in the buffer goes on once the command that ran has ended (R400). -/
def nextLines (s : State) : State := runHeld s.mon.inbuf.length s

/-- A command line, on the UART or in the remote session served. While a command runs, further input waits (R400); the characters of an image
are its blocks. -/
def runMon (s : State) (x : Ses) (wakeLow : Bool) (c : MonCmd) : State :=
  match x with
  | .onUart =>
    if coreRun s && s.flt.mgmtDown && !bscan s then bumpBy (takeFree s) (0xD080 + 4) (1 + Config.choice s.free % 128)
    else if !monAlive s || s.mon.prog.isSome then s
    else if s.mon.waiting then holdLine s wakeLow c
    else runLine s wakeLow c
  | .remote => if monAlive s && s.mon.served.isSome then cmdRun (bumpMon s 0) .remote wakeLow c else s

/-! ### Programming the NVM (R404) -/

/-- The CRC of XMODEM: polynomial 0x1021, initial value 0. PRESUMED (log 100). -/
def xmodemCrc (d : Bytes) : Nat :=
  (d.foldl (fun c b => (List.range 8).foldl (fun c _ => if c.msb then (c <<< 1) ^^^ 0x1021#16 else c <<< 1)
    (c ^^^ (BitVec.setWidth 16 b <<< (8 : Nat)))) 0#16).toNat

/-- A sector is erased at its first byte, and pages of 256 bytes are programmed; each command follows a write enable. -/
def programAt (s : State) (addr : Nat) (d : Bytes) : State :=
  let s1 := if addr % 4096 = 0 then emit (emit (emit s (.nvm 0x06 0 0 [])) (.nvm 0x20 addr 0 [])) (.nvm 0x05 0 1 []) else s
  (List.range (ceilDiv d.length 256)).foldl (fun t i =>
    let pg := slice d (256 * i) 256
    emit (emit (emit t (.nvm 0x06 0 0 [])) (.nvm 0x02 (addr + 256 * i) pg.length pg)) (.nvm 0x05 0 1 [])) s1

/-- NVM_PROG_BLOCK: a block of 1,024 or 128 bytes with its number and CRC. -/
def nvmProgBlock (s : State) (blk : Bytes) (num crc : Nat) : State :=
  match s.mon.prog with
  | none => s
  | some p =>
    if !monAlive s then s
    else if (blk.length ≠ 1024 ∧ blk.length ≠ 128) ∨ xmodemCrc blk ≠ crc then emit s (.line .onUart "NAK" [])
    else if num = (p.next + 255) % 256 then emit s (.line .onUart "ACK" [])
    else if num ≠ p.next % 256 then emit s (.line .onUart "NAK" [])
    else
      let d := blk.take (p.len - p.data.length)
      let s1 := programAt { s with mon := { s.mon with prog := some { p with data := p.data ++ d, next := (p.next + 1) % 256 } } } p.data.length d
      let s2 := if p.len ≤ p.data.length + d.length then emit s1 (.nvm 0x03 0 p.len []) else s1
      emit s2 (.line .onUart "ACK" [])

/-- NVM_PROG_DONE: the image as read back is compared and its header checked under R74. -/
def nvmProgDone (s : State) (readBack : Bytes) : State :=
  match s.mon.prog with
  | none => s
  | some p =>
    if !monAlive s then s
    else
      let s1 := { s with mon := { s.mon with prog := none } }
      if p.data.length = p.len ∧ readBack = p.data ∧ headerCrcOk (p.data.take 64) = true ∧ headerFieldsOk (p.data.take 64) = true then
        prompt (done (raise s1 0xD021 6 0xFFF [p.len]) .onUart)
      else prompt (fails s1 .onUart 4)

/-! ### Timers (R401, R406) -/

/-- MON_CHALLENGE_EXPIRY: 60 s. -/
def monChallengeExpiry (s : State) (x : Ses) : State := setSess s x (fun y => { y with chal := none })

/-- MON_LOCKOUT_END: 600 s; the lockout is the node's. -/
def monLockoutEnd (s : State) (_ : Ses) : State := { s with mon := { s.mon with lockEnd := none } }

/-- SERVICE_IDLE_TIMEOUT: 600 s without input return SERVICE to VIEW. -/
def serviceIdleTimeout (s : State) (x : Ses) : State := setSess s x (fun y => { y with level := min y.level 1 })

/-- REMOTE_RESPONSE_TIMEOUT: ERR 6 after 2 s; a session that was open stays open. DESIGN CHOICE (log 99). -/
def remoteResponseTimeout (s : State) : State :=
  if s.mon.waiting then
    let s1 := if s.mon.opening then closeOpened s else s
    prompt (fails { s1 with mon := { s1.mon with waiting := false } } .onUart 6)
  else s

/-- REMOTE_SESSION_IDLE: 600 s without a command close the session. -/
def remoteSessionIdle (s : State) (served : Bool) : State := if served then closeServed s else closeOpened s

/-! ### Frames of remote sessions (R405, R406) -/

/-- A management frame of a remote session for this node: its type, and its text as long as TLEN says. -/
def remoteValid (f : Bytes) (mtype : Nat) : Bool :=
  let h := readHdr f
  let b := payloadOf f
  h.kind == 8 && hcrcOk f && trailerOk f && byteAt b 0 == mtype && decide (b.length = 24 + beAt b 20 2) && decide (beAt b 20 2 ≤ 200)

/-- REMOTE_REQUEST_RX. -/
def remoteRequestRx (s : State) (f : Bytes) : State :=
  if !monAlive s || !remoteValid f 0x4D then s
  else
    let h := readHdr f
    let b := payloadOf f
    let fl := byteAt b 1
    let mseq := beAt b 2 2
    let seg : Fin 2 := if s.inaug[(0 : Fin 2)].table.any (fun e => e.handle == h.src && e.uid == beAt b 12 8) then 0 else if segGw s then 1 else 0
    let x : Far := { seg := seg, handle := h.src, uid := beAt b 12 8 }
    let s1 := bumpMon s 3
    let no (n : Nat) : State := respond s1 16 x mseq true (lineText "ERR" [n])
    if !regB s 0xD000 5 then no 4
    else if beAt b 4 8 ≠ s.uid then no 7
    else if fl.testBit 1 then
      match s.mon.served with
      | some y =>
        if y = x then respond { s1 with mon := { s1.mon with rem := { level := 1 }, mseqIn := mseq } } 16 x mseq true (lineText "OK" []) else no 5
      | none =>
        let s2 := raise { s1 with mon := { s1.mon with served := some x, rem := { level := 1 }, mseqIn := mseq } } 0xD010 1 0xFFF [x.handle]
        respond s2 16 x mseq true (lineText "OK" [])
    else if s.mon.served ≠ some x then no (if s.mon.served.isSome then 5 else 4)
    else if fl.testBit 2 then closeServed s1
    else
      runMon { takeFree s1 with mon := { s1.mon with mseqIn := mseq } } .remote (decide (Config.choice s1.free % 2 = 1)) (parseLine (slice b 24 (beAt b 20 2)))

/-- REMOTE_RESPONSE_RX: the lines go to the UART; the frame with LAST ends the command. -/
def remoteResponseRx (s : State) (f : Bytes) : State :=
  if !monAlive s || !remoteValid f 0x52 then s
  else
    match s.mon.opened with
    | none => s
    | some x =>
      let h := readHdr f
      let b := payloadOf f
      let text := slice b 24 (beAt b 20 2)
      if s.mon.waiting = false ∨ h.src ≠ x.handle ∨ beAt b 2 2 ≠ s.mon.mseq ∨ beAt b 4 8 ≠ x.uid ∨ beAt b 12 8 ≠ s.uid then s
      else
        let s1 := emit s (.line .onUart "TEXT" (text.map BitVec.toNat))
        if (byteAt b 1).testBit 0 then
          let s2 := { s1 with mon := { s1.mon with waiting := false } }
          let s3 := if s.mon.opening then
              if text = lineText "OK" [] then raise { s2 with mon := { s2.mon with opening := false } } 0xD010 1 0xFFF [x.handle] else closeOpened s2
            else s2
          prompt s3
        else s1

end Sys2Proof.Machine
end

