-- ==== Sys2Proof/Machine/Shed.lean ====
section
/-! DEFINITION. Local service shed by the power die (R48, R65): the local ports lose their links and the CAN transceivers are off. -/

namespace Sys2Proof.Machine

/-- A CAN frame on a bus ends with its transceiver: its object waits again. -/
def shedCan (s : State) (c : Fin 8) : State :=
  match s.can[c].active with
  | some o => canStopNow (returnPending s c o) c
  | none => s

/-- The local PHYs go down, L0 to M1 (R227), and the CAN transceivers are off. -/
def shedLocal (s : State) : State :=
  (List.finRange 8).foldl shedCan ((List.range 10).foldl (fun t n => portDown t (Fin.ofNat 20 (4 + n))) s)

/-- POWER_FAIL (R48, Table 3-18, R381, R389, R396). DESIGN CHOICE (log 17). -/
def powerFail (s : State) (energyOk : Bool) : State :=
  if s.line.core && !s.line.shed then
    let s1 := raiseGasp (shedLocal { s with line := { s.line with shed := true } }) 0x1120 5 0xFFF (nodeVals s)
    let s2 := { s1 with log := { s1.log with raised := [], fifo := [] } }
    if energyOk then { s2 with mram := { s2.mram with stats := s2.log.stats } } else s2
  else s

/-- THERMAL_SHED at 130 °C (R65): local Ethernet PHYs and CAN transceivers shed, backbone forwarding kept. -/
def thermalShed (s : State) (t : Int) : State :=
  if coreRun s && s.line.therm != 2 then
    let s1 := setTemp s t
    shedLocal (raise { s1 with line := { s1.line with therm := 2 } } 0x1131 5 0xFFF (nodeVals s1))
  else s

end Sys2Proof.Machine
end

