-- ==== Sys2Proof/Machine/Settle.lean ====
section
/-! DEFINITION. What follows every command (R421, R422, R56, Table 2-8): the interrupt bits that its changes signal, and the balls that
the state fixes; and the node's own clock, which runs while no command waits (R148, R59, R287). -/

namespace Sys2Proof.Machine

/-! ### Interrupt sources (Table 17-6) -/

/-- The sources of GL_IPEND bits 0 to 9 whose state differs between two states. -/
def signals (s t : State) : List Bool :=
  [ decide (s.boot.phase ≠ t.boot.phase) || switchBusy s != switchBusy t,
    decide (s.inaug[(0 : Fin 2)].epoch ≠ t.inaug[(0 : Fin 2)].epoch) || decide (s.inaug[(1 : Fin 2)].epoch ≠ t.inaug[(1 : Fin 2)].epoch),
    decide (s.tb.st ≠ t.tb.st),
    decide (s.sch.bound.valid ≠ t.sch.bound.valid) || decide (s.sch.fold ≠ t.sch.fold),
    (List.finRange 20).any (fun p => decide (s.sw.ports[p].hst ≠ t.sw.ports[p].hst)),
    decide (s.sg.seq ≠ t.sg.seq) || decide (s.sg.epoch ≠ t.sg.epoch),
    decide (s.line.node ≠ t.line.node),
    decide (s.flt.queue.length ≠ t.flt.queue.length) || (List.range 50).any (fun u => (fUnit s u).held != (fUnit t u).held),
    decide (fld (recStat s) 7 2 ≠ fld (recStat t) 7 2),
    (List.finRange 4).any (fun l => decide (s.lanes[l].st ≠ t.lanes[l].st) || decide (s.lanes[l].health ≠ t.lanes[l].health)) ||
      decide (portStat s .fore ≠ portStat t .fore) || decide (portStat s .aft ≠ portStat t .aft) ]

/-- Channel c signals: its state changed, or a queue entry was written (R291). -/
def canSignals (s t : State) (c : Fin 8) : Bool := decide (s.can[c].st ≠ t.can[c].st) || decide (s.can[c].qwr ≠ t.can[c].qwr)

/-- Bits as a number: bit i of the list is bit i. -/
def bitsOf : List Bool → Nat
  | [] => 0
  | b :: r => b.toNat + 2 * bitsOf r

/-- The GL_IPEND bits that the change from s to t sets, while the core runs before and after it (R422). -/
def pendBits (s t : State) : Nat :=
  if coreRun s && coreRun t then bitsOf (signals s t) + 65536 * bitsOf ((List.finRange 8).map (canSignals s t)) else 0

/-- The bits are set. -/
def pend (s t : State) : State := if pendBits s t = 0 then t else setReg t 0x40 (reg t 0x40 ||| BitVec.ofNat 32 (pendBits s t))

/-! ### Balls -/

/-- IRQ# low (R422): while GL_IACT is non-zero, from commit until the node's own SI. -/
def irqRule (s : State) : Bool := decide (iact s ≠ 0) && committed s && !s.snuf.pastSi

/-- The level of an output ball of the boundary register: the node's own; under HIGHZ none; under EXTEST and CLAMP its data cell's, where its
enable cell drives it (R44, R46). DESIGN CHOICE (log 103). -/
def ballLevel (s : State) (ball : Nat) (own : Option Bool) : Option Bool :=
  if !bscan s then own
  else if s.tap = 3 then none
  else if s.bcells.getLsbD (Config.boundaryIndex ball true).val then some (s.bcells.getLsbD (Config.boundaryIndex ball false).val) else none

/-- A read of the NVM is under way (Table 4-1). -/
def nvmReads (s : State) : Bool :=
  coreRun s && (match s.boot.phase with
    | .header | .loading => true
    | .switchVerify | .switchLoad => !s.boot.checked
    | _ => false)

/-- The balls as the state fixes them. An output is driven from when its supplies are up; LBR# while the host interface is LBUS, runs and
may master (R35, R298). -/
def pinsOf (s : State) : Pins :=
  let up (b : Bool) : Option Bool := if s.line.core then some b else none
  { irqLow := ballLevel s 0 (if irqRule s then some false else none) == some false, synco := ballLevel s 1 (up (syncoLevel s)),
    lfOn := lfOnRule s, v3p3 := v3p3Rule s
    nsck := ballLevel s 2 (up false), ncs := ballLevel s 3 (up (!nvmReads s)), mtx := ballLevel s 4 (if coreRun s then some true else none)
    tdo := none, ends := ballLevel s 5 none, lbr := ballLevel s 6 (if committed s && canMaster s then some (!s.hb.bus) else none)
    sio := ballLevel s 7 none, master := (ballLevel s 8 (if s.hb.owns then some true else none)).isSome }

/-- What follows a command that took the node from s to t. The UID is in OTP (R121) and the queue is the sender's: no command changes
them. DEDUCED (log 8). -/
def settle (s t : State) : State :=
  let u := { pend s t with uid := s.uid, pending := s.pending }
  { u with pins := pinsOf u }

/-! ### The node's own clock -/

/-- A pair whose load has fallen leaves the power limit; when it does is free (n-th choice). DESIGN CHOICE (log 18). -/
def leaveLimit (n : Nat) (s : State) (p : Fin 4) : State :=
  if pairSt s p == .limit && decide (Config.choice (n + p.val) % 2 = 0) then setPair s p (fun x => { x with st := .on }) else s

/-- The measured values, refreshed every 1 ms (Tables 3-3, 3-7, 3-8): VF, VLB, power, LPn and current of each pair, temperature, and the SNR of
each lane that is UP. -/
def remeasure (s : State) : State :=
  let n := s.free
  let s1 := measuredVf s (Config.reading 0 n)
  grounded ([0, 1, 2, 3].foldl (leaveLimit n) { s1 with
    free := n + 4
    line := { s1.line with
      vlb := BitVec.ofNat 16 (Config.reading 1 n), pin := BitVec.ofNat 16 (Config.reading 2 n), temp := BitVec.ofNat 8 (Config.reading 3 n)
      cur := Vector.ofFn (fun p => BitVec.ofNat 8 (Config.reading (4 + p.val) n)), lpn := Vector.ofFn (fun p => BitVec.ofNat 16 (Config.reading (12 + p.val) n)) }
    lanes := Vector.ofFn (fun l => if laneUp s l then { s.lanes[l] with snr := Config.reading (8 + l.val) n % 65536 } else s.lanes[l]) })

/-- A port that has come LINKED is a wake event of cause COUPLING (R347); one that has become an END may call for the tone of R349. -/
def portTurns (s t : State) : State :=
  bothPorts.foldl (fun u p =>
    if !portLinked s p && portLinked t p then wakeEvent u 9 0 none
    else if portLinked s p && !portLinked t p then abortEnd u p else u) t

/-- A frame valid on a running channel also counts as a wake event where the channel wakes, and for CAN_ACTIVE (R347, Table 13-7). -/
def canFrameIn (s : State) (c : Fin 8) (f : CanFrame) : State :=
  let t := canFrameValid s c f
  if canLive s && canOnBus s.can[c] && !s.can[c].pex && (!f.fdf || bitAt (canCfg s c) 1) then wakeByFrame t c f else t

/-- What waited for a context that serves again goes on: the gateway's TX records, the bridge's requests (R289). -/
def llResume (s : State) : State :=
  let s1 := if lampServes s 8 then gwResume s else s
  if lampServes s1 9 && !s1.hb.inq.isEmpty then busNext s1 else s1

/-- The users of a spare Lamplighter slot in order: gateway, bridge, recorder; each with work or not (R287). -/
def lampPending (s : State) (u : Nat) : Bool :=
  match u with
  | 0 => service s && lampServes s 8 && !s.sg.jobs.isEmpty
  | 1 => lampServes s 9 && !s.hb.inq.isEmpty
  | _ => lampServes s 10 && !s.log.raised.isEmpty

/-- One spare slot is lent to the first user with work after the last borrower, or runs idle. -/
def spareSlot (s : State) : State :=
  match [s.lamp.last + 1, s.lamp.last + 2, s.lamp.last + 3].find? (fun u => lampPending s (u % 3)) with
  | some u =>
    let s1 := bump { s with lamp := { s.lamp with last := u % 3 } } (0x8040 + 4 * (u % 3))
    match u % 3 with
    | 0 => gatewayMappingTask s1
    | 1 => drainReqs s1.hb.inq.length s1
    | _ => eventIntake s1
  | none => bump s (0x8040 + 4 * 3)

/-- Users of the 32 slots of the rotation (Table 1-6). -/
inductive LampUser where
  | can (c : Nat) | gateway | bridge | recorder | spare
  deriving DecidableEq, Repr

/-- The user of a slot (Table 1-6): the order repeats after 16 slots, 256 ns. -/
def slotUser (slot : Nat) : LampUser :=
  let n := slot % 16
  if n < 8 then .can n else if n < 12 then .gateway else if n < 14 then .bridge else if n = 14 then .recorder else .spare

/-- The rotation stands at the next slot of a user (R23): its phase against every other instant is free, so a commanded visit brings its slot.
DESIGN CHOICE (log 66). -/
def lampTo (s : State) (u : LampUser) : State :=
  match (List.range 32).find? (fun k => slotUser (s.lamp.slot + 1 + k) == u) with
  | some k => { s with lamp := { s.lamp with slot := (s.lamp.slot + 1 + k) % 32 } }
  | none => s

/-- The turn of the Lamplighter: one slot of 16 ns after another, from internal reset release until the core rails go off (R23). -/
def lampTurn (s : State) : State :=
  if s.tb.ctr % 16 = 0 then
    let s1 := { s with lamp := { s.lamp with slot := (s.lamp.slot + 1) % 32 } }
    if slotUser s1.lamp.slot = .spare then spareSlot s1 else s1
  else s

/-- One nanosecond passes (R148). DESIGN CHOICE (log 2). -/
def tick (s : State) : State :=
  let s1 := { s with now := s.now + 1 }
  let s2 := if coreRun s1 then ctlDue (relayAll (fabTick (lampTurn { s1 with tb := { s1.tb with ctr := s1.tb.ctr + 1 } }))) else s1
  if s2.now % 1000000 = 0 ∧ s2.line.node ≠ .off then remeasure s2 else s2

end Sys2Proof.Machine
end

