-- ==== Sys2Proof/Machine/ExecBoot.lean ====
section
/-! DEFINITION. The meanings of the commands of start-up, the image and profiles (chapter 4), and boundary scan (chapter 2), one a row of the table; a command that finds the node in
a state in which its event cannot happen changes nothing. -/

namespace Sys2Proof.Machine

/-- NVM_WAIT_DONE (R69): 1.0 ms after V3P3OUT is valid, the header and line-feed block read begins. -/
def execNvmWaitDone (s : State) : Host.Outcome State Fault Refusal := .next (settle s (nvmWaitDone s))

/-- HEADER_RECEIVED (R74): The header and line-feed block are received and checked, leading to LOADING, a repeated read or REPEATER. -/
def execHeaderReceived (d : Bytes) (s : State) : Host.Outcome State Fault Refusal := .next (settle s (headerReceived s d))

/-- SECTION_RECEIVED (R78): The directory or one section is received, CRC- and item-checked, and its items are applied before the next read. -/
def execSectionReceived (d : Bytes) (s : State) : Host.Outcome State Fault Refusal := .next (settle s (sectionReceived s d))

/-- TAG_RESULT (R80): The whole-image HMAC result becomes available in LOADED and decides between commit and REPEATER. -/
def execTagResult (tail : Bytes) (s : State) : Host.Outcome State Fault Refusal := .next (settle s (tagResult s tail))

/-- PROFILE_SWITCH_REQUEST (R86): A write of GL_PROFCTL with GO and MAGIC requests a profile switch, which is accepted into SWITCH_VERIFY or
rejected. -/
def execProfileSwitchRequest (req : Req) (be : BitVec 4) (v : Word) (s : State) : Host.Outcome State Fault Refusal :=
  .next (settle s (regCommand s req 0x120 be v false))

/-- SWITCH_VERIFY_DONE (R87): The verify read of the target profile completes and either arms the stop or keeps the old profile. -/
def execSwitchVerifyDone (lf : Bytes) (secs : List Bytes) (s : State) : Host.Outcome State Fault Refusal :=
  .next (settle s (switchVerifyDone s lf secs))

/-- SWITCH_LOAD_DONE (R87): The load read of the target's sections completes and the registers are loaded, or the switch fails. -/
def execSwitchLoadDone (lf : Bytes) (secs : List Bytes) (s : State) : Host.Outcome State Fault Refusal := .next (settle s (switchLoadDone s lf secs))

/-- TAP_RESET (R44): TRST# low, or five TCK edges with TMS high, resets the TAP and selects IDCODE. -/
def execTapReset (s : State) : Host.Outcome State Fault Refusal := .next (settle s (tapReset s))

/-- TAP_EXTEST (R44): EXTEST takes effect: the boundary cells drive the balls and the host, NVM and UART are treated as absent. -/
def execTapExtest (s : State) (tdi : List Bool := []) : Host.Outcome State Fault Refusal := .next (settle s (tapExtest s tdi))

/-- TAP_IDCODE (R44): The IDCODE instruction selects the 32-bit identification register. -/
def execTapIdcode (s : State) (tdi : List Bool := []) : Host.Outcome State Fault Refusal := .next (settle s (tapIdcode s tdi))

/-- TAP_SAMPLE_PRELOAD (R44): SAMPLE/PRELOAD selects the boundary register without affecting the balls. -/
def execTapSamplePreload (s : State) (tdi : List Bool := []) : Host.Outcome State Fault Refusal := .next (settle s (tapSample s tdi))

/-- TAP_HIGHZ (R44): HIGHZ puts all boundary-register outputs in high impedance. -/
def execTapHighz (s : State) (tdi : List Bool := []) : Host.Outcome State Fault Refusal := .next (settle s (tapHighz s tdi))

/-- TAP_CLAMP (R44): CLAMP drives the balls from the boundary cells with the bypass register selected. -/
def execTapClamp (s : State) (tdi : List Bool := []) : Host.Outcome State Fault Refusal := .next (settle s (tapClamp s tdi))

/-- TAP_BYPASS (R44): BYPASS, or any undecoded code, selects the bypass register. -/
def execTapBypass (s : State) (code : BitVec 6 := 0x3F) (tdi : List Bool := []) : Host.Outcome State Fault Refusal :=
  .next (settle s (tapBypass s code tdi))

end Sys2Proof.Machine
end

