-- ==== Sys2Proof/Machine/ExecBridge.lean ====
section
/-! DEFINITION. The meanings of the commands of the host bridge (chapter 12), one a row of the table; a command that finds the node in
a state in which its event cannot happen changes nothing. -/

namespace Sys2Proof.Machine

/-- REMOTE_READ (R310): A host read through a remote window takes a tag and sends READ, or collects data on a matching retry. -/
def execRemoteRead (addr : Nat) (be : BitVec 4) (s : State) : Host.Outcome State Fault Refusal := .next (settle s (lbusRead s addr be))

/-- REMOTE_POSTED_WRITE (R308): A host write through a window is queued as a PWRITE and ends with LRDY#. -/
def execRemotePostedWrite (addr : Nat) (be : BitVec 4) (v : Word) (merge : Bool) (s : State) : Host.Outcome State Fault Refusal :=
  .next (settle s (lbusWrite s addr be v merge))

/-- REMOTE_NP_WRITE (R308): A write through an NP window is sent as NPWRITE and held until its WACK. -/
def execRemoteNpWrite (addr : Nat) (be : BitVec 4) (v : Word) (s : State) : Host.Outcome State Fault Refusal :=
  .next (settle s (lbusWrite s addr be v false))

/-- SPI_WRITE_FRAME (R299): A quad-SPI target frame with command 0x02 writes 1 to 64 words and returns status. -/
def execSpiWriteFrame (a : Word) (d : List Word) (s : State) : Host.Outcome State Fault Refusal := .next (settle s (spiWriteFrame s a d))

/-- SPI_READ_FRAME (R299): A quad-SPI target frame with command 0x0B reads one word and returns status and data. -/
def execSpiReadFrame (a : Word) (s : State) : Host.Outcome State Fault Refusal := .next (settle s (spiReadFrame s a))

/-- PWRITE_RX (R302): A target receives a posted write, checks UID, TSEQ and permission, and applies it. -/
def execPwriteRx (f : Bytes) (s : State) : Host.Outcome State Fault Refusal := .next (settle s (pwriteRx s f))

/-- NPWRITE_RX (R302): A target applies a non-posted write and answers WACK. -/
def execNpwriteRx (f : Bytes) (s : State) : Host.Outcome State Fault Refusal := .next (settle s (npwriteRx s f))

/-- READ_RX (R302): A target serves a one-word read and answers RDATA. -/
def execReadRx (f : Bytes) (s : State) : Host.Outcome State Fault Refusal := .next (settle s (readRx s f))

/-- IRQ_RX (R316): A target receives an IRQ message and sets the vector in HB_RIRQ. -/
def execIrqRx (f : Bytes) (s : State) : Host.Outcome State Fault Refusal := .next (settle s (irqRx s f))

/-- LOCK_RX (R319): A target grants a far-bus lock or semaphore, or answers DENY. -/
def execLockRx (f : Bytes) (rivals : List Bytes) (s : State) : Host.Outcome State Fault Refusal := .next (settle s (lockRx s f rivals))

/-- UNLOCK_RX (R319): A target releases the bus or the semaphore. -/
def execUnlockRx (f : Bytes) (s : State) : Host.Outcome State Fault Refusal := .next (settle s (unlockRx s f))

/-- WACK_RX (R313): A WACK answers an open non-posted write. -/
def execWackRx (f : Bytes) (s : State) : Host.Outcome State Fault Refusal := .next (settle s (wackRx s f))

/-- RDATA_RX (R310): An RDATA answer makes data or a code ready for the host's retry. -/
def execRdataRx (f : Bytes) (s : State) : Host.Outcome State Fault Refusal := .next (settle s (rdataRx s f))

/-- LOCKACK_RX (R318): A LOCKACK ends the held ACQ with a grant or a refusal. -/
def execLockackRx (f : Bytes) (s : State) : Host.Outcome State Fault Refusal := .next (settle s (lockackRx s f))

/-- LATE_RX (R314): A LATE message is written to the late-error log and flagged. -/
def execLateRx (f : Bytes) (stamp : Nat) (s : State) : Host.Outcome State Fault Refusal := .next (settle s (lateRx s f stamp))

/-- TAG_TIMEOUT (R311): A tag has not been answered TMO ms after sending and ends TIMEOUT. -/
def execTagTimeout (t : Fin 64) (s : State) : Host.Outcome State Fault Refusal := .next (settle s (tagTimeout s t))

/-- DELAYED_DISCARD (R311): An answer not collected within RDHOLD is discarded and its tag freed. -/
def execDelayedDiscard (t : Fin 64) (s : State) : Host.Outcome State Fault Refusal := .next (settle s (delayedDiscard s t))

/-- BUS_GRANT (R298): LBG# is sampled low and the bridge starts its master accesses. -/
def execBusGrant (s : State) : Host.Outcome State Fault Refusal := .next (settle s (busGrant s))

/-- MASTER_ACCESS_END (R298): A master access ends on LRDY# or LERR# from host memory. -/
def execMasterAccessEnd (err : Bool) (rdata : Word) (s : State) : Host.Outcome State Fault Refusal := .next (settle s (masterAccessEnd s err rdata))

/-- MASTER_ACCESS_TIMEOUT (R298): A master access not ended within 256 tCLK counts as LERR#. -/
def execMasterAccessTimeout (s : State) : Host.Outcome State Fault Refusal := .next (settle s (masterAccessTimeout s))

/-- NOGRANT (R298): LBG# is not sampled low within GNTMAX and the waiting access fails. -/
def execNogrant (s : State) : Host.Outcome State Fault Refusal := .next (settle s (nogrant s))

/-- GRANT_REMOVED (R298): The host removes LBG#, so the bridge completes the current access and releases the bus. -/
def execGrantRemoved (s : State) : Host.Outcome State Fault Refusal := .next (settle s (grantRemoved s))

/-- IRQ_SEND (R316): A write of HB_IRQSEND sends an IRQ message through a window. -/
def execIrqSend (req : Req) (be : BitVec 4) (v : Word) (s : State) : Host.Outcome State Fault Refusal :=
  .next (settle s (regCommand s req 0x9020 be v false))

/-- LOCK_ACQUIRE (R318): A write of HB_LOCK with ACQ sends LOCK and holds the access until LOCKACK. -/
def execLockAcquire (req : Req) (be : BitVec 4) (v : Word) (s : State) : Host.Outcome State Fault Refusal :=
  .next (settle s (regCommand s req 0x902C be v false))

/-- LOCK_RELEASE (R318): A write of HB_LOCK with REL sends UNLOCK. -/
def execLockRelease (req : Req) (be : BitVec 4) (v : Word) (s : State) : Host.Outcome State Fault Refusal :=
  .next (settle s (regCommand s req 0x902C be v false))

/-- LOCK_RETRY_TIMER (R320): After a denial the random back-off expires and the lock is requested again. -/
def execLockRetryTimer (s : State) : Host.Outcome State Fault Refusal := .next (settle s (lockRetryTimer s))

/-- LOCK_BROKEN (R319): A lock is held longer than LOCKMAX and is broken with a LATE. -/
def execLockBroken (sem : Option (Fin 32)) (s : State) : Host.Outcome State Fault Refusal := .next (settle s (lockBroken s sem))

/-- SEM_ACQUIRE (R319): A write of HB_SEMv.ACQ takes a free semaphore for the local host. -/
def execSemAcquire (req : Req) (i : Fin 32) (be : BitVec 4) (v : Word) (s : State) : Host.Outcome State Fault Refusal :=
  .next (settle s (regCommand s req (0x9100 + 4 * i.val) be v false))

/-- SEM_RELEASE (R319): A write of HB_SEMv.REL gives back a semaphore held by the local host. -/
def execSemRelease (req : Req) (i : Fin 32) (be : BitVec 4) (v : Word) (s : State) : Host.Outcome State Fault Refusal :=
  .next (settle s (regCommand s req (0x9100 + 4 * i.val) be v false))

/-- HB_LOG_CLEAR (R314): A write of HB_LECLR empties the late-error log and leaves a clear record. -/
def execHbLogClear (req : Req) (be : BitVec 4) (v : Word) (s : State) : Host.Outcome State Fault Refusal :=
  .next (settle s (regCommand s req 0x9504 be v false))

/-- HB_CNT_CLEAR (R119): A write of HB_CNTCLR clears the bridge counters and leaves a clear record. -/
def execHbCntClear (req : Req) (be : BitVec 4) (v : Word) (s : State) : Host.Outcome State Fault Refusal :=
  .next (settle s (regCommand s req 0x96FC be v false))

/-- POLLED_MODE_EXIT (R317): Setting HB_CTL.INTEN leaves start-up polled mode and enables the bridge interrupt source. -/
def execPolledModeExit (req : Req) (be : BitVec 4) (v : Word) (s : State) : Host.Outcome State Fault Refusal :=
  .next (settle s (regCommand s req 0x900C be v false))

end Sys2Proof.Machine
end

