-- ==== Sys2Proof/Machine/ExecCan.lean ====
section
/-! DEFINITION. The meanings of the commands of the CAN channels and the Lamplighter (chapter 11), one a row of the table; a command that finds the node in
a state in which its event cannot happen changes nothing. -/

namespace Sys2Proof.Machine

/-- CAN_FRAME_VALID (R274): A CAN frame becomes valid in a bit engine and is handed to the Lamplighter. -/
def execCanFrameValid (c : Fin 8) (f : CanFrame) (s : State) : Host.Outcome State Fault Refusal := .next (settle s (canFrameIn s c f))

/-- CAN_VISIT (R286): A Lamplighter visit moves words, handles one command and commits one completion to objects, queue and gateway list. -/
def execCanVisit (c : Fin 8) (busIdle : Bool) (s : State) : Host.Outcome State Fault Refusal := .next (settle s (canVisit (lampTo s (.can c.val)) c busIdle))

/-- CAN_TX_SUCCESS (R278): A transmitted frame completes successfully and the object reads SENT. -/
def execCanTxSuccess (c : Fin 8) (stamp : Nat) (tdcv : Nat) (s : State) : Host.Outcome State Fault Refusal :=
  .next (settle s (canTxSuccess s c stamp tdcv))

/-- CAN_ARB_LOST (R278): A frame loses arbitration and returns to PENDING for retransmission, or FAILED if ONESHOT. -/
def execCanArbLost (c : Fin 8) (s : State) : Host.Outcome State Fault Refusal := .next (settle s (canArbLost s c))

/-- CAN_BUS_ERROR (R264): A bus error is detected and counted into fault confinement. -/
def execCanBusError (c : Fin 8) (code : Nat) (field : Nat) (tx : Bool) (hard : Bool) (s : State) : Host.Outcome State Fault Refusal :=
  .next (settle s (canBusError s c code field tx hard))

/-- CAN_INTEGRATED (R268): 11 consecutive recessive bits take an integrating channel to ACTIVE or LISTEN. -/
def execCanIntegrated (c : Fin 8) (s : State) : Host.Outcome State Fault Refusal := .next (settle s (canIntegrated s c))

/-- CAN_RECOVERED (R268): 128 sequences of 11 recessive bits complete recovery and the channel becomes ACTIVE. -/
def execCanRecovered (c : Fin 8) (s : State) : Host.Outcome State Fault Refusal := .next (settle s (canRecovered s c))

/-- CAN_RECOVER_CMD (R270): A CANn_CMD write with RECOVER and MAGIC moves a BUSOFF channel to RECOVERING. -/
def execCanRecoverCmd (req : Req) (c : Fin 8) (be : BitVec 4) (v : Word) (s : State) : Host.Outcome State Fault Refusal :=
  .next (settle s (regCommand s req (0x7010 + 0x200 * c.val) be v false))

/-- CAN_REQUEST (R277): OBJCTL command REQUEST swaps the buffers and makes a TX object PENDING. -/
def execCanRequest (req : Req) (c : Fin 8) (o : Fin 128) (s : State) : Host.Outcome State Fault Refusal :=
  .next (settle s (canObjWrite s req c 1 o.val false))

/-- CAN_STAGE (R277): OBJCTL command STAGE swaps a TX object's buffers without a request. -/
def execCanStage (req : Req) (c : Fin 8) (o : Fin 128) (s : State) : Host.Outcome State Fault Refusal :=
  .next (settle s (canObjWrite s req c 2 o.val false))

/-- CAN_CANCEL (R281): OBJCTL command CANCEL cancels a pending or active TX object by the sample-point rule. -/
def execCanCancel (req : Req) (c : Fin 8) (o : Fin 128) (early : Bool) (s : State) : Host.Outcome State Fault Refusal :=
  .next (settle s (canObjWrite s req c 3 o.val early))

/-- CAN_RELEASE (R275): OBJCTL command RELEASE frees an RX object's primary buffer. -/
def execCanRelease (req : Req) (c : Fin 8) (o : Fin 128) (s : State) : Host.Outcome State Fault Refusal :=
  .next (settle s (canObjWrite s req c 4 o.val false))

/-- CAN_BUFFER_WRITE (R277): A host write to a CAN object buffer is accepted only for a TX object's shadow buffer. -/
def execCanBufferWrite (off : Nat) (be : BitVec 4) (v : Word) (s : State) : Host.Outcome State Fault Refusal :=
  .next (settle s (lbusWrite s (0x200000 + off) be v false))

/-- DOM_TIMEOUT (R263): The transceiver has driven dominant for 32 nominal bits, so it releases the bus. -/
def execDomTimeout (c : Fin 8) (s : State) : Host.Outcome State Fault Refusal := .next (settle s (domTimeout s c))

/-- BUS_STUCK (R263): The bus stays dominant for 32 nominal bits while the channel drives nothing. -/
def execBusStuck (c : Fin 8) (s : State) : Host.Outcome State Fault Refusal := .next (settle s (busStuck s c))

/-- PROTOCOL_EXCEPTION (R272): A protocol exception makes the channel wait for 11 recessive bits. -/
def execProtocolException (c : Fin 8) (s : State) : Host.Outcome State Fault Refusal := .next (settle s (protocolException s c))

/-- CAN_QUEUE_ACK (R284): A write of CANn_QPTR.QRD frees the acknowledged queue entries. -/
def execCanQueueAck (req : Req) (c : Fin 8) (be : BitVec 4) (v : Word) (s : State) : Host.Outcome State Fault Refusal :=
  .next (settle s (regCommand s req (0x7020 + 0x200 * c.val) be v false))

/-- CAN_QIDX_LATCH (R283): A write of CANn_QIDX latches a queue entry into CANn_QWIN. -/
def execCanQidxLatch (req : Req) (c : Fin 8) (be : BitVec 4) (v : Word) (s : State) : Host.Outcome State Fault Refusal :=
  .next (settle s (regCommand s req (0x7028 + 0x200 * c.val) be v false))

/-- LL_CONTEXT_FAULT (R289): A Lamplighter context error idles its user and starts the march test and rebuild. -/
def execLlContextFault (u : Fin 11) (marchFails : Bool) (s : State) : Host.Outcome State Fault Refusal :=
  .next (settle s (llContextFault s u marchFails))

/-- LL_REBUILD_DONE (R289): The user's state is rebuilt in a spare context and its slots resume. -/
def execLlRebuildDone (u : Fin 11) (s : State) : Host.Outcome State Fault Refusal := .next (settle s (llResume (llRebuildDone s u)))

/-- CAN_CNT_CLEAR (R119): A write of CAN_CNTCLR clears the CAN and Lamplighter counters and leaves a clear record. -/
def execCanCntClear (req : Req) (be : BitVec 4) (v : Word) (s : State) : Host.Outcome State Fault Refusal :=
  .next (settle s (regCommand s req 0x8004 be v false))

end Sys2Proof.Machine
end

