-- ==== Sys2Proof/Machine/ExecFault.lean ====
section
/-! DEFINITION. The meanings of the commands of fault masking, background work and policy (chapter 14), one a row of the table; a command that finds the node in
a state in which its event cannot happen changes nothing. -/

namespace Sys2Proof.Machine

/-- SELF_TEST_END (R360): A unit's self-test ends with a transient, spared, retired, held or lost outcome. -/
def execSelfTestEnd (r : TestResult) (s : State) : Host.Outcome State Fault Refusal := .next (settle s (selfTestEnd s r))

/-- LANE_RETIRE_DONE (R361): After 4 RETIRING messages and 100 µs the lane enters RETIRED and idles. -/
def execLaneRetireDone (l : Fin 4) (s : State) : Host.Outcome State Fault Refusal := .next (settle s (laneRetireDone s l))

/-- UNIT_TEST_CMD (R357): FLT_UNITCMD OP 1 puts a unit into the fault queue. -/
def execUnitTestCmd (req : Req) (be : BitVec 4) (v : Word) (s : State) : Host.Outcome State Fault Refusal :=
  .next (settle s (regCommand s req 0xB00C be v false))

/-- UNIT_RETIRE_CMD (R361): FLT_UNITCMD OP 2 retires a lane. -/
def execUnitRetireCmd (req : Req) (be : BitVec 4) (v : Word) (s : State) : Host.Outcome State Fault Refusal :=
  .next (settle s (regCommand s req 0xB00C be v false))

/-- UNIT_RETURN_CMD (R363): FLT_UNITCMD OP 3 returns a retired or held unit through a test. -/
def execUnitReturnCmd (req : Req) (be : BitVec 4) (v : Word) (s : State) : Host.Outcome State Fault Refusal :=
  .next (settle s (regCommand s req 0xB00C be v false))

/-- DISAGREE_CHECK (R365): Every 1 ms REQ and EFF are compared; sustained disagreement queues the unit. -/
def execDisagreeCheck (s : State) : Host.Outcome State Fault Refusal := .next (settle s (disagreeCheck s))

/-- WATCHDOG_EXPIRY (R366): The management watchdog expires and the processor restarts while the data path runs on. -/
def execWatchdogExpiry (sramError : Bool) (s : State) : Host.Outcome State Fault Refusal := .next (settle s (watchdogExpiry s sramError))

/-- MGMT_RESTART_DONE (R366): The management processor completes its restart and policy and fault handling resume. -/
def execMgmtRestartDone (s : State) : Host.Outcome State Fault Refusal := .next (settle s (mgmtRestartDone s))

/-- MGMT_RESTART_WAIT (R367): The back-off wait before a further restart expires. -/
def execMgmtRestartWait (s : State) : Host.Outcome State Fault Refusal := .next (settle s (mgmtRestartWait s))

/-- POLICY_TICK (R370): Every 1 ms the engine evaluates house and image rules and takes the actions of those that fire. -/
def execPolicyTick (s : State) : Host.Outcome State Fault Refusal := .next (settle s (policyTick s))

/-- SRAM_SCRUB_LINE (R368): One SRAM line is scrubbed per 1,024 fabric cycles, correcting or reporting errors. -/
def execSramScrubLine (found : ScrubFind) (s : State) : Host.Outcome State Fault Refusal := .next (settle s (sramScrubLine s found))

/-- MRAM_SCRUB_STEP (R368): A paced MRAM scrub access corrects or reports errors. -/
def execMramScrubStep (found : ScrubFind) (s : State) : Host.Outcome State Fault Refusal := .next (settle s (mramScrubStep s found))

/-- PILOT_TRIM_TIMER (R368): Every 10 s the Pilot RC is trimmed against the crystal. -/
def execPilotTrimTimer (dev : Int) (s : State) : Host.Outcome State Fault Refusal := .next (settle s (pilotTrimTimer s dev))

/-- WEAR_LEVEL_COPY_DONE (R387): A wear-levelling copy completes and the map switches in one verified header write. -/
def execWearLevelCopyDone (bankB : Bool) (logical : Nat) (dest : Nat) (s : State) : Host.Outcome State Fault Refusal :=
  .next (settle s (wearLevelCopyDone s bankB logical dest))

/-- FLT_CNT_CLEAR (R119): A write of FLT_CNTCLR clears fault and rule counters and leaves a clear record. -/
def execFltCntClear (req : Req) (be : BitVec 4) (v : Word) (s : State) : Host.Outcome State Fault Refusal :=
  .next (settle s (regCommand s req 0xB0FC be v false))

end Sys2Proof.Machine
end

