-- ==== Sys2Proof/Machine/ExecLanes.lean ====
section
/-! DEFINITION. The meanings of the commands of the backbone lanes (chapter 5), one a row of the table; a command that finds the node in
a state in which its event cannot happen changes nothing. -/

namespace Sys2Proof.Machine

/-- DETECT_ENERGY (R100): Energy has been present for 1.0 ms with no HELD link message, so the lane enters TRAIN at the highest common mode. -/
def execDetectEnergy (l : Fin 4) (heldSeen : Bool) (s : State) : Host.Outcome State Fault Refusal := .next (settle s (detectEnergy s l heldSeen))

/-- TRAIN_DONE (R100): Coefficients are agreed with 3.0 dB margin at both ends and the lane enters LOCK. -/
def execTrainDone (l : Fin 4) (s : State) : Host.Outcome State Fault Refusal := .next (settle s (trainDone s l))

/-- TRAIN_TIMEOUT (R100): The margin is not reached in 14 ms, or the far end requests fallback, and the lane falls back or goes to HELD. -/
def execTrainTimeout (l : Fin 4) (s : State) : Host.Outcome State Fault Refusal := .next (settle s (trainTimeout s l))

/-- LOCK_ACHIEVED (R102): 16 consecutive correctable blocks and a valid link message arrive, and the far identity is checked. -/
def execLockAchieved (l : Fin 4) (msg : Bytes) (s : State) : Host.Outcome State Fault Refusal := .next (settle s (lockAchieved s l msg))

/-- LOCK_TIMEOUT (R100): 0.5 ms passes in LOCK without lock, so training is repeated once in the same mode. -/
def execLockTimeout (l : Fin 4) (s : State) : Host.Outcome State Fault Refusal := .next (settle s (lockTimeout s l))

/-- CHECK_DONE (R100): 1.0 ms passes in CHECK with no uncorrectable block; the lane enters UP and is offered to the switch and the schedule. -/
def execCheckDone (l : Fin 4) (s : State) : Host.Outcome State Fault Refusal := .next (settle s (portTurns s (checkDone s l)))

/-- CHECK_FAIL (R100): An uncorrectable block in CHECK returns the lane to TRAIN as a failed margin. -/
def execCheckFail (l : Fin 4) (s : State) : Host.Outcome State Fault Refusal := .next (settle s (checkFail s l))

/-- LOSS_OF_LOCK (R106): 16 uncorrectable blocks or 0.5 µs without energy: the UP lane enters DOWN_WAIT, stops forwarding and reports the loss. -/
def execLossOfLock (l : Fin 4) (s : State) (corr : Nat := 0) (idleUnc : Nat := 0) : Host.Outcome State Fault Refusal :=
  .next (settle s (portTurns s (lossOfLock s l corr idleUnc)))

/-- LOSS_CLASSIFY (R106): 1.0 ms after a loss of lock, the loss is classified as a coupler end or a lane loss. -/
def execLossClassify (l : Fin 4) (s : State) : Host.Outcome State Fault Refusal := .next (settle s (portTurns s (lossClassify s l)))

/-- DOWN_WAIT_EXPIRY (R100): 10 ms in DOWN_WAIT ends, and the lane goes to DETECT, or to HELD at the flap limit. -/
def execDownWaitExpiry (l : Fin 4) (s : State) : Host.Outcome State Fault Refusal := .next (settle s (downWaitExpiry s l))

/-- HELD_EXIT (R100): Energy is absent for 1.0 ms, or 10 s pass, and a HELD lane returns to DETECT. -/
def execHeldExit (l : Fin 4) (s : State) : Host.Outcome State Fault Refusal := .next (settle s (heldExit s l))

/-- LANE_N10_REOFFER (R100): After 24 h in UP, a lane whose history excluded N10 offers N10 again. -/
def execLaneN10Reoffer (l : Fin 4) (s : State) : Host.Outcome State Fault Refusal := .next (settle s (laneN10Reoffer s l))

/-- HEALTH_WINDOW (R105): At the end of each 1 s window the lane sets HEALTH from its margin and error counts. -/
def execHealthWindow (l : Fin 4) (maxMargin : Int) (snr : Nat) (corr : Nat) (idleUnc : Nat) (s : State) : Host.Outcome State Fault Refusal :=
  .next (settle s (portTurns s (healthWindow s l maxMargin snr corr idleUnc)))

/-- EQ_ADAPT (R104): Every 65,536 blocks the receiver adapts its equaliser taps on live data and requests transmitter changes. -/
def execEqAdapt (l : Fin 4) (margin : Int) (want : List Int) (ffe : Bytes) (s : State) : Host.Outcome State Fault Refusal :=
  .next (settle s (eqAdapt s l margin want ffe))

/-- LINK_MESSAGE_TX (R101): 10 µs after the previous one, a link message is placed in the next IDLE block. -/
def execLinkMessageTx (l : Fin 4) (stamp : Nat) (s : State) : Host.Outcome State Fault Refusal := .next (settle s (linkMessageTx s l stamp))

/-- LINK_MESSAGE_RX (R101): A link message is received and its modes, flags, UID, FFE request and peer-delay stamps are taken. -/
def execLinkMessageRx (l : Fin 4) (msg : Bytes) (stamp : Nat) (s : State) : Host.Outcome State Fault Refusal :=
  .next (settle s (portTurns s (linkMessageRx s l msg stamp)))

/-- NATIVE_FRAME_RX (R113): A native frame is received on a lane and is forwarded, delivered, stomped or discarded as the receive outcomes state. -/
def execNativeFrameRx (l : Fin 4) (r : LaneRx) (s : State) : Host.Outcome State Fault Refusal := .next (settle s (nativeFrameRx s l (rxFrame r)))

/-- BB_CNT_CLEAR (R119): A write of BB_CNTCLR clears the named lanes' counters and leaves a severity-6 clear record. -/
def execBbCntClear (req : Req) (be : BitVec 4) (v : Word) (s : State) : Host.Outcome State Fault Refusal :=
  .next (settle s (regCommand s req 0x1004 be v false))

end Sys2Proof.Machine
end

