-- ==== Sys2Proof/Machine/ExecMonitor.lean ====
section
/-! DEFINITION. The meanings of the commands of the monitor and telemetry (chapter 16), one a row of the table; a command that finds the node in
a state in which its event cannot happen changes nothing. -/

namespace Sys2Proof.Machine

/-- MON_HELP (R403): Monitor command help lists the commands. -/
def execMonHelp (x : Ses) (s : State) : Host.Outcome State Fault Refusal := .next (settle s (runMon s x false .help))

/-- MON_ID (R403): Monitor command id prints UID, stepping, straps, boot status, image ID and profile. -/
def execMonId (x : Ses) (s : State) : Host.Outcome State Fault Refusal := .next (settle s (runMon s x false .ident))

/-- MON_RD (R403): Monitor command rd reads 1 to 64 registers. -/
def execMonRd (x : Ses) (off : Nat) (n : Nat) (s : State) : Host.Outcome State Fault Refusal := .next (settle s (runMon s x false (.rd off n)))

/-- MON_WR (R403): Monitor command wr writes one register at SERVICE and raises MON_WRITE. -/
def execMonWr (x : Ses) (off : Nat) (v : Word) (s : State) : Host.Outcome State Fault Refusal := .next (settle s (runMon s x false (.wr off v.toNat)))

/-- MON_REC_STAT (R403): Monitor command rec stat prints recorder status and the last-gasp store. -/
def execMonRecStat (x : Ses) (s : State) : Host.Outcome State Fault Refusal := .next (settle s (runMon s x false .recStat))

/-- MON_REC_DUMP (R403): Monitor command rec dump prints every record present, oldest first. -/
def execMonRecDump (x : Ses) (a : DumpArea) (s : State) : Host.Outcome State Fault Refusal := .next (settle s (runMon s x false (.recDump a)))

/-- MON_REC_STATS (R403): Monitor command rec stats prints one histogram or extreme. -/
def execMonRecStats (x : Ses) (ext : Bool) (i : Nat) (s : State) : Host.Outcome State Fault Refusal :=
  .next (settle s (runMon s x false (.recStats ext i)))

/-- MON_REC_CLEAR (R403): Monitor command rec clear issues a clear challenge. -/
def execMonRecClear (x : Ses) (scope : Nat) (s : State) : Host.Outcome State Fault Refusal := .next (settle s (runMon s x false (.recClear scope)))

/-- MON_REC_RESP (R391): Monitor command rec resp gives the clear response and clears. -/
def execMonRecResp (x : Ses) (r : Bytes) (s : State) : Host.Outcome State Fault Refusal := .next (settle s (runMon s x false (.recResp r)))

/-- MON_LANE (R403): Monitor command lane prints lane status and counters. -/
def execMonLane (x : Ses) (n : Option Nat) (s : State) : Host.Outcome State Fault Refusal := .next (settle s (runMon s x false (.lane n)))

/-- MON_TOPO (R403): Monitor command topo prints the topology table. -/
def execMonTopo (x : Ses) (s : State) : Host.Outcome State Fault Refusal := .next (settle s (runMon s x false .topo))

/-- MON_TIME (R403): Monitor command time prints the time base. -/
def execMonTime (x : Ses) (s : State) : Host.Outcome State Fault Refusal := .next (settle s (runMon s x false .time))

/-- MON_FAULT (R403): Monitor command fault prints fault handling and units not ON. -/
def execMonFault (x : Ses) (s : State) : Host.Outcome State Fault Refusal := .next (settle s (runMon s x false .fault))

/-- MON_PROFILE_SHOW (R403): Monitor command profile without argument shows the profile. -/
def execMonProfileShow (x : Ses) (s : State) : Host.Outcome State Fault Refusal := .next (settle s (runMon s x false .profileShow))

/-- MON_PROFILE_SET (R86): Monitor command profile p requests a switch at SERVICE. -/
def execMonProfileSet (x : Ses) (p : Nat) (s : State) : Host.Outcome State Fault Refusal := .next (settle s (runMon s x false (.profileSet p)))

/-- MON_TEST (R357): Monitor command test queues a unit for self-test. -/
def execMonTest (x : Ses) (u : Nat) (s : State) : Host.Outcome State Fault Refusal := .next (settle s (runMon s x false (.test u)))

/-- MON_RETURN (R363): Monitor command return issues a return command for a unit. -/
def execMonReturn (x : Ses) (u : Nat) (s : State) : Host.Outcome State Fault Refusal := .next (settle s (runMon s x false (.ret u)))

/-- MON_RETIRE (R361): Monitor command retire retires a lane as RETIRE_LANE does. -/
def execMonRetire (x : Ses) (l : Nat) (s : State) : Host.Outcome State Fault Refusal := .next (settle s (runMon s x false (.retire l)))

/-- MON_CANREC (R270): Monitor command canrec issues a bus-off recovery. -/
def execMonCanrec (x : Ses) (c : Nat) (s : State) : Host.Outcome State Fault Refusal := .next (settle s (runMon s x false (.canrec c)))

/-- MON_REPLAN (R139): Monitor command replan requests a full replan. -/
def execMonReplan (x : Ses) (s : State) : Host.Outcome State Fault Refusal := .next (settle s (runMon s x false .replan))

/-- MON_SLEEP (R339): Monitor command sleep starts a Snuffer round. -/
def execMonSleep (x : Ses) (wakeLow : Bool) (s : State) : Host.Outcome State Fault Refusal := .next (settle s (runMon s x wakeLow .sleep))

/-- MON_TEL (R403): Monitor command tel shows telemetry status. -/
def execMonTel (x : Ses) (s : State) : Host.Outcome State Fault Refusal := .next (settle s (runMon s x false .tel))

/-- MON_TEL_SEND (R407): Monitor command tel send requests one telemetry frame. -/
def execMonTelSend (x : Ses) (sel : Nat) (s : State) : Host.Outcome State Fault Refusal := .next (settle s (runMon s x false (.telSend sel)))

/-- MON_UNLOCK_REQUEST (R401): Monitor command unlock without argument prints a new challenge. -/
def execMonUnlockRequest (x : Ses) (s : State) : Host.Outcome State Fault Refusal := .next (settle s (runMon s x false .unlock))

/-- MON_UNLOCK_RESPONSE (R401): Monitor command unlock with a response sets SERVICE or fails. -/
def execMonUnlockResponse (x : Ses) (r : Bytes) (s : State) : Host.Outcome State Fault Refusal := .next (settle s (runMon s x false (.unlockResp r)))

/-- MON_LOCK (R401): Monitor command lock returns to VIEW. -/
def execMonLock (x : Ses) (s : State) : Host.Outcome State Fault Refusal := .next (settle s (runMon s x false .lock))

/-- MON_KEY (R402): Monitor command key programs one blank OTP key slot. -/
def execMonKey (x : Ses) (k : KeySlot) (key : Bytes) (s : State) : Host.Outcome State Fault Refusal :=
  .next (settle s (runMon s x false (.key k key)))

/-- MON_NVM_PROG (R404): Monitor command nvm prog starts an XMODEM image transfer to the NVM. -/
def execMonNvmProg (x : Ses) (len : Nat) (s : State) : Host.Outcome State Fault Refusal := .next (settle s (runMon s x false (.nvmProg len)))

/-- NVM_PROG_BLOCK (R404): One XMODEM-1K block is received and programmed into the NVM. -/
def execNvmProgBlock (blk : Bytes) (num : Nat) (crc : Nat) (s : State) : Host.Outcome State Fault Refusal :=
  .next (settle s (nvmProgBlock s blk num crc))

/-- NVM_PROG_DONE (R404): The image is read back and its header checked; NVM_PROGRAMMED or ERR 4. -/
def execNvmProgDone (readBack : Bytes) (s : State) : Host.Outcome State Fault Refusal := .next (settle s (nextLines (nvmProgDone s readBack)))

/-- MON_NODE (R405): Monitor command node opens a remote session with a handle. -/
def execMonNode (x : Ses) (h : Nat) (s : State) : Host.Outcome State Fault Refusal := .next (settle s (runMon s x false (.node h)))

/-- MON_LOCAL (R406): Monitor command local closes the remote session. -/
def execMonLocal (x : Ses) (s : State) : Host.Outcome State Fault Refusal := .next (settle s (runMon s x false .locl))

/-- MON_SYNTAX_ERROR (R400): An unknown, malformed or overlong line is answered ERR 1. -/
def execMonSyntaxError (x : Ses) (s : State) : Host.Outcome State Fault Refusal := .next (settle s (runMon s x false .bad))

/-- MON_CHALLENGE_EXPIRY (R401): An unlock challenge expires after 60 s. -/
def execMonChallengeExpiry (x : Ses) (s : State) : Host.Outcome State Fault Refusal := .next (settle s (monChallengeExpiry s x))

/-- MON_LOCKOUT_END (R401): The 600 s unlock lockout ends. -/
def execMonLockoutEnd (x : Ses) (s : State) : Host.Outcome State Fault Refusal := .next (settle s (monLockoutEnd s x))

/-- SERVICE_IDLE_TIMEOUT (R401): 600 s without input returns SERVICE to VIEW. -/
def execServiceIdleTimeout (x : Ses) (s : State) : Host.Outcome State Fault Refusal := .next (settle s (serviceIdleTimeout s x))

/-- REMOTE_REQUEST_RX (R405): A remote monitor request frame is received and its command executed. -/
def execRemoteRequestRx (f : Bytes) (s : State) : Host.Outcome State Fault Refusal := .next (settle s (remoteRequestRx s f))

/-- REMOTE_RESPONSE_RX (R405): A remote monitor response frame is received and its lines printed. -/
def execRemoteResponseRx (f : Bytes) (s : State) : Host.Outcome State Fault Refusal := .next (settle s (nextLines (remoteResponseRx s f)))

/-- REMOTE_RESPONSE_TIMEOUT (R406): No frame with LAST arrives within 2 s and the command ends ERR 6. -/
def execRemoteResponseTimeout (s : State) : Host.Outcome State Fault Refusal := .next (settle s (nextLines (remoteResponseTimeout s)))

/-- REMOTE_SESSION_IDLE (R406): 600 s without a command close the remote session. -/
def execRemoteSessionIdle (served : Bool) (s : State) : Host.Outcome State Fault Refusal := .next (settle s (nextLines (remoteSessionIdle s served)))

/-- TELEMETRY_PERIOD (R407): Every PERIOD × 100 ms a telemetry frame is requested. -/
def execTelemetryPeriod (s : State) : Host.Outcome State Fault Refusal := .next (settle s (telemetryPeriod s))

/-- TELEMETRY_FRAME_RX (R410): A telemetry frame is kept by a collector or discarded. -/
def execTelemetryFrameRx (f : Bytes) (s : State) : Host.Outcome State Fault Refusal := .next (settle s (telemetryFrameRx s f))

/-- MON_TIDX_LATCH (R410): A write of MON_TIDX latches one handle's telemetry entry. -/
def execMonTidxLatch (req : Req) (be : BitVec 4) (v : Word) (s : State) : Host.Outcome State Fault Refusal :=
  .next (settle s (regCommand s req 0xD010 be v false))

end Sys2Proof.Machine
end

