-- ==== Sys2Proof/Machine/ExecPower.lean ====
section
/-! DEFINITION. The meanings of the commands of line power and supervision (chapter 3), one a row of the table; a command that finds the node in
a state in which its event cannot happen changes nothing. -/

namespace Sys2Proof.Machine

/-- PILOT_START (R48): VLB rises through the Pilot start threshold and the node leaves OFF for EMBER with SLEPT clear. -/
def execPilotStart (s : State) : Host.Outcome State Fault Refusal := .next (settle s (pilotStart s))

/-- PILOT_STOP (R328): VLB falls through the Pilot stop threshold in EMBER or DOZE and the node goes OFF, losing its retained configuration. -/
def execPilotStop (s : State) : Host.Outcome State Fault Refusal := .next (settle s (pilotStop s))

/-- UVLO_RISING (R48): VLB crosses UVLO rising with SLEPT clear, so the core rails start and the power-on reset sequence begins. -/
def execUvloRising (s : State) : Host.Outcome State Fault Refusal := .next (settle s (uvloRising s))

/-- POWER_ON_RESET_END (R67): Power-on reset ends; if RESET# is high, internal reset is released and the node enters STARTUP. -/
def execPowerOnResetEnd (resetHigh : Bool) (st : Straps) (s : State) : Host.Outcome State Fault Refusal :=
  .next (settle s (powerOnResetEnd s resetHigh st))

/-- RESET_ASSERT (R68): RESET# is held low for 10 µs or longer, resetting every block except the Pilot, the line-feed controller and power
supervision. -/
def execResetAssert (s : State) : Host.Outcome State Fault Refusal := .next (settle s (resetAssert s))

/-- RESET_RELEASE (R32): RESET# rises after power-on reset has ended, releasing internal reset. -/
def execResetRelease (st : Straps) (s : State) : Host.Outcome State Fault Refusal := .next (settle s (resetRelease s st))

/-- POWER_FAIL (R48): VLB falls through the power-fail warning threshold: local ports, CAN transceivers and V3P3OUT are shed and the last-gasp
store is written. -/
def execPowerFail (energyOk : Bool) (s : State) : Host.Outcome State Fault Refusal := .next (settle s (powerFail s energyOk))

/-- UVLO_FALLING (R48): VLB falls through UVLO falling, so the core rails go off, the lane transmitters idle and the node enters EMBER with SLEPT
clear. -/
def execUvloFalling (s : State) : Host.Outcome State Fault Refusal := .next (settle s (uvloFalling s))

/-- LINE_OV (R48): VLB crosses the line overvoltage threshold rising and the FEED and RELAY pairs turn off. -/
def execLineOv (m : LfMeas) (s : State) : Host.Outcome State Fault Refusal := .next (settle s (lineOv s m))

/-- LINE_OV_CLEAR (R48): VLB falls below the overvoltage release threshold and the FEED and RELAY pairs resume through soft start. -/
def execLineOvClear (s : State) : Host.Outcome State Fault Refusal := .next (settle s (lineOvClear s))

/-- THERMAL_WARN (R65): The die temperature reaches 120 °C and event 0x1130 is raised. -/
def execThermalWarn (temp : Int) (s : State) : Host.Outcome State Fault Refusal := .next (settle s (thermalWarn s temp))

/-- THERMAL_SHED (R65): At 130 °C the local PHYs and CAN transceivers are shed while backbone forwarding continues. -/
def execThermalShed (temp : Int) (s : State) : Host.Outcome State Fault Refusal := .next (settle s (thermalShed s temp))

/-- THERMAL_RESTORE (R65): After 1 s below 115 °C the shed ports are restored. -/
def execThermalRestore (temp : Int) (s : State) : Host.Outcome State Fault Refusal := .next (settle s (thermalRestore s temp))

/-- THERMAL_OFF (R65): At 145 °C THERMAL_OFF is written to the last-gasp store and the core rails turn off. -/
def execThermalOff (temp : Int) (s : State) : Host.Outcome State Fault Refusal := .next (settle s (thermalOff s temp))

/-- THERMAL_RESTART (R65): Once the die falls below 110 °C after a thermal shutdown, the node restarts through power-on reset. -/
def execThermalRestart (temp : Int) (s : State) : Host.Outcome State Fault Refusal := .next (settle s (thermalRestart s temp))

/-- RAIL_RECHECK (R52): The 1 s rail recheck evaluates RAIL_OK for FEED pairs held off. -/
def execRailRecheck (m : LfMeas) (s : State) : Host.Outcome State Fault Refusal := .next (settle s (railRecheck s m))

/-- SOFT_START_DONE (R52): LPn comes within 1 V of the rail and the soft-starting pair turns fully on. DESIGN CHOICE (log 1). -/
def execSoftStartDone (p : Fin 4) (s : State) : Host.Outcome State Fault Refusal := .next (settle s (softStartDone s p))

/-- SOFT_START_TIMEOUT (R52): Soft start does not reach the rail within 100 ms, which counts as a trip. -/
def execSoftStartTimeout (p : Fin 4) (m : LfMeas) (s : State) : Host.Outcome State Fault Refusal := .next (settle s (softStartTimeout s p m))

/-- LF_LIMIT (R59): A pair enters the power limit or foldback outside soft start. -/
def execLfLimit (p : Fin 4) (m : LfMeas) (s : State) : Host.Outcome State Fault Refusal := .next (settle s (lfLimit s p m))

/-- LIMIT_TIMER_EXPIRY (R52): A pair has stayed in the power limit for 10 ms, so its FETs turn off as a trip. -/
def execLimitTimerExpiry (p : Fin 4) (m : LfMeas) (s : State) : Host.Outcome State Fault Refusal := .next (settle s (limitTimerExpiry s p m))

/-- FAST_TRIP (R52): The shunt current exceeds 5.0 A and the pair's FETs turn off within 1 µs. -/
def execFastTrip (p : Fin 4) (m : LfMeas) (s : State) : Host.Outcome State Fault Refusal := .next (settle s (fastTrip s p m))

/-- RETRY_WAIT_EXPIRY (R52): 1 s after a trip the pair re-enters soft start. -/
def execRetryWaitExpiry (p : Fin 4) (m : LfMeas) (s : State) : Host.Outcome State Fault Refusal := .next (settle s (retryWaitExpiry s p m))

/-- LF_REVERSE (R53): A pair carries more than 50 mA towards its rail for 100 µs and enters SOURCE. -/
def execLfReverse (p : Fin 4) (m : LfMeas) (s : State) : Host.Outcome State Fault Refusal := .next (settle s (lfReverse s p m))

/-- SOURCE_RETURN (R53): LPn of a SOURCE pair has stayed more than 1 V below the rail for 10 ms, and the pair returns to soft start. -/
def execSourceReturn (p : Fin 4) (m : LfMeas) (s : State) : Host.Outcome State Fault Refusal := .next (settle s (sourceReturn s p m))

/-- LFSTAT_LATCH_CLEAR (R58): A W1C write to PWR_LFSTAT.LATCH restarts a latched pair through soft start if its mode is not OFF. -/
def execLfstatLatchClear (req : Req) (be : BitVec 4) (v : Word) (s : State) : Host.Outcome State Fault Refusal :=
  .next (settle s (regCommand s req 0xA104 be v false))

end Sys2Proof.Machine
end

