-- ==== Sys2Proof/Machine/ExecRecorder.lean ====
section
/-! DEFINITION. The meanings of the commands of the event recorder (chapter 15), one a row of the table; a command that finds the node in
a state in which its event cannot happen changes nothing. -/

namespace Sys2Proof.Machine

/-- EVENT_INTAKE (R382): A raised event enters the staging FIFO, coalescing with a waiting entry or displacing per overflow rules. -/
def execEventIntake (s : State) : Host.Outcome State Fault Refusal := .next (settle s (if lampServes s 10 then eventIntake (lampTo s .recorder) else s))

/-- RECORD_WRITE_DONE (R379): The writer completes a record in both banks and takes the next FIFO entry. -/
def execRecordWriteDone (okA : Bool) (okB : Bool) (s : State) : Host.Outcome State Fault Refusal := .next (settle s (recordWriteDone s okA okB))

/-- OPTIME_TICK (R378): Each 10 s of operating time increments OPTIME in MRAM. -/
def execOptimeTick (s : State) : Host.Outcome State Fault Refusal := .next (settle s (optimeTick s))

/-- STAT_SAMPLE (R380): A histogram or extreme samples its register field at its period. -/
def execStatSample (ext : Bool) (i : Nat) (s : State) : Host.Outcome State Fault Refusal := .next (settle s (sampleStat s (regRead s .monitor) ext i))

/-- STAT_FLUSH (R381): Every STATPER seconds the histograms and extremes are written to MRAM. -/
def execStatFlush (s : State) : Host.Outcome State Fault Refusal := .next (settle s (statFlush s))

/-- RECORDER_SCAN_DONE (R388): The start-up scan rebuilds the index, settles interrupted writes and replays the last-gasp store. -/
def execRecorderScanDone (s : State) : Host.Outcome State Fault Refusal := .next (settle s (recorderScanDone s))

/-- REC_RIDX_LATCH (R390): A write of REC_RIDX latches one slot into REC_RWIN0 to REC_RWIN7. -/
def execRecRidxLatch (req : Req) (be : BitVec 4) (v : Word) (s : State) : Host.Outcome State Fault Refusal :=
  .next (settle s (regCommand s req 0xC020 be v false))

/-- REC_SIDX_LATCH (R390): A write of REC_SIDX latches one histogram or extreme into REC_SWIN. -/
def execRecSidxLatch (req : Req) (be : BitVec 4) (v : Word) (s : State) : Host.Outcome State Fault Refusal :=
  .next (settle s (regCommand s req 0xC060 be v false))

/-- CLEAR_REQ (R391): REC_CLRCTL with REQ and MAGIC issues a new clear challenge. -/
def execClearReq (req : Req) (be : BitVec 4) (v : Word) (s : State) : Host.Outcome State Fault Refusal :=
  .next (settle s (regCommand s req 0xC0C0 be v false))

/-- CLEAR_GO (R392): REC_CLRCTL with GO checks the response and clears the scoped parts. -/
def execClearGo (req : Req) (be : BitVec 4) (v : Word) (s : State) : Host.Outcome State Fault Refusal :=
  .next (settle s (regCommand s req 0xC0C0 be v false))

/-- CLEAR_CHALLENGE_EXPIRY (R391): A clear challenge expires after 60 s. -/
def execClearChallengeExpiry (s : State) : Host.Outcome State Fault Refusal := .next (settle s (clearChallengeExpiry s))

/-- CLEAR_LOCKOUT_END (R391): The 600 s clear lockout ends. -/
def execClearLockoutEnd (s : State) : Host.Outcome State Fault Refusal := .next (settle s (clearLockoutEnd s))

/-- LOG_RESYNC_DONE (R393): A bank in RESYNC completes copying from the other bank. -/
def execLogResyncDone (bankB : Bool) (s : State) : Host.Outcome State Fault Refusal := .next (settle s (logResyncDone s bankB))

/-- BANK_NO_ANSWER (R394): A bank fails to answer for 1 ms and is lost. -/
def execBankNoAnswer (bankB : Bool) (s : State) : Host.Outcome State Fault Refusal := .next (settle s (bankNoAnswer s bankB))

/-- REC_CNT_CLEAR (R119): A write of REC_CNTCLR clears the recorder counters and leaves a clear record. -/
def execRecCntClear (req : Req) (be : BitVec 4) (v : Word) (s : State) : Host.Outcome State Fault Refusal :=
  .next (settle s (regCommand s req 0xC1FC be v false))

end Sys2Proof.Machine
end

