-- ==== Sys2Proof/Machine/ExecRegister.lean ====
section
/-! DEFINITION. The meanings of the commands of interrupts and the register map (chapter 17), and the rows appended to the table, one a row of the table; a command that finds the node in
a state in which its event cannot happen changes nothing. -/

namespace Sys2Proof.Machine

/-- IPEND_CLEAR (R422): A W1C write of GL_IPEND clears interrupt bits and may release IRQ#. -/
def execIpendClear (req : Req) (be : BitVec 4) (v : Word) (s : State) : Host.Outcome State Fault Refusal :=
  .next (settle s (regCommand s req 0x40 be v false))

/-- IRQ_FORCE (R421): A write of GL_IFORCE sets GL_IPEND bits as if their sources had signalled. -/
def execIrqForce (req : Req) (be : BitVec 4) (v : Word) (s : State) : Host.Outcome State Fault Refusal :=
  .next (settle s (regCommand s req 0x4C be v false))

/-- IEN_WRITE (R423): A write of GL_IEN enables sources and asserts IRQ# if a pending bit becomes active. -/
def execIenWrite (req : Req) (be : BitVec 4) (v : Word) (s : State) : Host.Outcome State Fault Refusal :=
  .next (settle s (regCommand s req 0x44 be v false))

/-- REGISTER_WRITE (R10): A write to a register with no row of its own acts per its field access types. -/
def execRegisterWrite (req : Req) (off : Nat) (be : BitVec 4) (v : Word) (s : State) : Host.Outcome State Fault Refusal :=
  .next (settle s (regCommand s req off be v false))

/-- SLEEP_CORE_OFF (R346): At 5.0 ms after SI, or when the last CAN channel is OFF if later, inauguration goes to IDLE, the time base to FREE,
SLEPT is set, the core rails and V3P3OUT go off and the node enters EMBER. -/
def execSleepCoreOff (s : State) : Host.Outcome State Fault Refusal := .next (settle s (sleepCoreOff s))

/-- KINDLE_TONE_SENT (R336): A committed node finishes relaying its tone Kindle word and returns its listening circuits to the Ember level. -/
def execKindleToneSent (s : State) : Host.Outcome State Fault Refusal := .next (settle s (kindleToneSent s))

/-- EMBER_BIAS_REACHED (R337): After SI + TDROP, a FEED pair with BIAS_EN that is sinking up to 100 mA sees LPn fall to 6.0 V, stops sinking and
holds ember bias. -/
def execEmberBiasReached (p : Fin 4) (s : State) : Host.Outcome State Fault Refusal := .next (settle s (emberBiasReached s p))

/-- TTDP_HELLO_TIMEOUT (R144): On the ETB lane, the TTDP HELLO timeout set by IEC 61375-2-5 expires without a HELLO from the neighbour and the ETB
inauguration reacts to the lost line. -/
def execTtdpHelloTimeout (s : State) : Host.Outcome State Fault Refusal := .next (settle s (ttdpHelloTimeout s))

end Sys2Proof.Machine
end

