-- ==== Sys2Proof/Machine/ExecSchedule.lean ====
section
/-! DEFINITION. The meanings of the commands of the schedule and the guardian (chapter 8), one a row of the table; a command that finds the node in
a state in which its event cannot happen changes nothing. -/

namespace Sys2Proof.Machine

/-- STATIC_SLOT_START (R183): An own static slot starts and the guardian opens the path for the process or null frame. -/
def execStaticSlotStart (laneB : Bool) (ready : Bool) (gdOfs : Int) (s : State) : Host.Outcome State Fault Refusal :=
  .next (settle s (staticSlotStart s laneB ready gdOfs))

/-- GUARDIAN_CLOSE_TIMEOUT (R201): No close request comes by SLEN × 1.02 + 40 ns, and the guardian closes the path by its own count. -/
def execGuardianCloseTimeout (laneB : Bool) (s : State) : Host.Outcome State Fault Refusal := .next (settle s (guardianCloseTimeout s laneB))

/-- GUARDIAN_TABLE_CHECK (R200): Every 1 ms the guardian and the schedule compare CRCs of their slot-plan copies. -/
def execGuardianTableCheck (s : State) : Host.Outcome State Fault Refusal := .next (settle s (guardianTableCheck s))

/-- DYNAMIC_SEGMENT_START (R177): Train time reaches DSTART; control frames and pause frames may start. -/
def execDynamicSegmentStart (s : State) : Host.Outcome State Fault Refusal := .next (settle s (dynamicSegmentStart s))

/-- MINISLOT_START (R188): An own minislot starts and at most one dynamic frame per lane is admitted against the quota. -/
def execMinislotStart (m : Nat) (s : State) : Host.Outcome State Fault Refusal := .next (settle s (minislotStart s m))

/-- BOUND_CHECK_DONE (R193): The bound check of the active table completes within 100 ms of activation and its results are published. -/
def execBoundCheckDone (s : State) : Host.Outcome State Fault Refusal := .next (settle s (boundCheckDone s))

/-- FALLBACK_EMIT (R195): At T(FB) + k × D a fallback frame is emitted on the surviving lane. -/
def execFallbackEmit (l : Fin 4) (s : State) : Host.Outcome State Fault Refusal := .next (settle s (fallbackEmit s l))

end Sys2Proof.Machine
end

