-- ==== Sys2Proof/Machine/ExecSignals.lean ====
section
/-! DEFINITION. The meanings of the commands of signals and the gateway (chapter 10), one a row of the table; a command that finds the node in
a state in which its event cannot happen changes nothing. -/

namespace Sys2Proof.Machine

/-- GATEWAY_MAPPING_TASK (R254): A gateway slot executes one RX mapping record and writes its entry into the back buffer. -/
def execGatewayMappingTask (s : State) : Host.Outcome State Fault Refusal := .next (settle s (gatewayMappingTask (lampTo s .gateway)))

/-- SIG_WINDOW_WRITE (R256): A host write to VAL_LO or VAL_HI of a HOST entry enters the staging queue, or commits it with HAUTO. -/
def execSigWindowWrite (off : Nat) (be : BitVec 4) (v : Word) (s : State) : Host.Outcome State Fault Refusal :=
  .next (settle s (lbusWrite s (0x100000 + off) be v false))

/-- HOST_COMMIT (R256): SG_HCOMMIT.GO applies the staging queue to the back buffer as one write group. -/
def execHostCommit (req : Req) (be : BitVec 4) (v : Word) (s : State) : Host.Outcome State Fault Refusal :=
  .next (settle s (regCommand s req 0x6010 be v false))

/-- SG_CNT_CLEAR (R119): A write of SG_CNTCLR clears the signals counters and leaves a clear record. -/
def execSgCntClear (req : Req) (be : BitVec 4) (v : Word) (s : State) : Host.Outcome State Fault Refusal :=
  .next (settle s (regCommand s req 0x60FC be v false))

end Sys2Proof.Machine
end

