-- ==== Sys2Proof/Machine/ExecSleep.lean ====
section
/-! DEFINITION. The meanings of the commands of sleep and wake (chapter 13), one a row of the table; a command that finds the node in
a state in which its event cannot happen changes nothing. -/

namespace Sys2Proof.Machine

/-- ROUND_START (R339): A PWR_SLPCMD write with START and MAGIC starts a Snuffer round, sending TOKENs. -/
def execRoundStart (req : Req) (be : BitVec 4) (v : Word) (wakeLow : Bool) (s : State) : Host.Outcome State Fault Refusal :=
  .next (settle s (regCommand s req 0xA014 be v wakeLow))

/-- SLEEP_ABORT_CMD (R347): A PWR_SLPCMD write with ABORT and MAGIC is a wake event in DRAIN or during a vote. -/
def execSleepAbortCmd (req : Req) (be : BitVec 4) (v : Word) (s : State) : Host.Outcome State Fault Refusal :=
  .next (settle s (regCommand s req 0xA014 be v false))

/-- TOKEN_RX (R341): A Snuffer TOKEN is received, voted on and relayed or reflected, or collected by the initiator. -/
def execTokenRx (p : Port) (f : Bytes) (wakeLow : Bool) (s : State) : Host.Outcome State Fault Refusal := .next (settle s (tokenRx s p f wakeLow))

/-- ROUND_RTO_EXPIRY (R342): T_RTO passes: the initiator times the round out and voters drop their votes. -/
def execRoundRtoExpiry (s : State) : Host.Outcome State Fault Refusal := .next (settle s (roundRto s))

/-- SNUFFER_COMMIT_RX (R345): A Snuffer COMMIT is received and a consenting node enters DRAIN. -/
def execSnufferCommitRx (p : Port) (f : Bytes) (s : State) : Host.Outcome State Fault Refusal := .next (settle s (commitRx s p f))

/-- KINDLE_FRAME_RX (R347): A Kindle frame is received, ending the round and returning DRAIN nodes to RUN. -/
def execKindleFrameRx (p : Port) (f : Bytes) (s : State) : Host.Outcome State Fault Refusal := .next (settle s (kindleFrameRx s p f))

/-- SLEEP_INSTANT (R346): At its own SI the node runs the sleep sequence and enters EMBER with SLEPT set. -/
def execSleepInstant (s : State) : Host.Outcome State Fault Refusal := .next (settle s (sleepInstant (if s.snuf.commit then monEnd s else s)))

/-- KINDLE_ABORT_REPEAT (R349): 25 ms later the abort tone is repeated on ports still END. -/
def execKindleAbortRepeat (p : Port) (s : State) : Host.Outcome State Fault Refusal := .next (settle s (kindleAbortRepeat s p))

/-- LINE_DROP (R337): At SI + TDROP, FEED pairs drop to ember bias or turn off. -/
def execLineDrop (s : State) : Host.Outcome State Fault Refusal := .next (settle s (lineDrop s))

/-- KINDLE_TONE_DETECT (R330): The Kindle tone is present for 2.0 ms and the node enters DOZE. -/
def execKindleToneDetect (p : Port) (s : State) : Host.Outcome State Fault Refusal := .next (settle s (kindleToneDetect s p))

/-- CAN_WAKE_DETECT (R330): An enabled CAN channel is dominant longer than the wake filter and the node enters DOZE. -/
def execCanWakeDetect (c : Fin 8) (s : State) : Host.Outcome State Fault Refusal := .next (settle s (canWakeDetect s c))

/-- WAKE_PIN_DETECT (R330): WAKE# is low for 1.0 ms, which is a wake source or a wake event. -/
def execWakePinDetect (s : State) : Host.Outcome State Fault Refusal := .next (settle s (wakePinDetect s))

/-- LINE_WAKE_TIMER (R336): A non-FEED line input has carried 40 V for 10 s with SLEPT set, and the node wakes with source LINE. -/
def execLineWakeTimer (p : Fin 4) (s : State) : Host.Outcome State Fault Refusal := .next (settle s (lineWakeTimer s p))

/-- KINDLE_WORD_RX (R332): A valid Kindle word is decoded in DOZE and the node commits to wake. -/
def execKindleWordRx (p : Port) (cellsA cellsB : List Nat) (s : State) : Host.Outcome State Fault Refusal :=
  .next (settle s (kindleWordRx s p cellsA cellsB))

/-- KINDLE_WORD_TIMEOUT (R334): No valid word arrives within 25 ms of tone detection and the node returns to EMBER. -/
def execKindleWordTimeout (s : State) : Host.Outcome State Fault Refusal := .next (settle s (kindleWordTimeout s))

/-- SW_FRAME_RX (R335): Doze decodes a classical frame on a selective-wake channel: matching or error-count commits. -/
def execSwFrameRx (c : Fin 8) (e : SwEvent) (s : State) : Host.Outcome State Fault Refusal := .next (settle s (swFrameRx s c e))

/-- DOZE_TIMEOUT (R334): DOZETMO passes without a dominant edge and the node returns to EMBER. -/
def execDozeTimeout (s : State) : Host.Outcome State Fault Refusal := .next (settle s (dozeTimeout s))

/-- WAKE_START_THRESHOLD (R336): VLB reaches the wake start threshold and a committed node starts its core. -/
def execWakeStartThreshold (s : State) : Host.Outcome State Fault Refusal := .next (settle s (wakeStart s))

/-- WAKE_START_TIMER (R336): VLB has stayed above UVLO rising for 100 ms and a committed node starts. -/
def execWakeStartTimer (s : State) : Host.Outcome State Fault Refusal := .next (settle s (wakeStart s))

/-- PWR_CNT_CLEAR (R119): A write of PWR_CNTCLR clears the power counters and leaves a clear record. -/
def execPwrCntClear (req : Req) (be : BitVec 4) (v : Word) (s : State) : Host.Outcome State Fault Refusal :=
  .next (settle s (regCommand s req 0xA3FC be v false))

end Sys2Proof.Machine
end

