-- ==== Sys2Proof/Machine/ExecSwitch.lean ====
section
/-! DEFINITION. The meanings of the commands of the switch core (chapter 9), one a row of the table; a command that finds the node in
a state in which its event cannot happen changes nothing. -/

namespace Sys2Proof.Machine

/-- LOCAL_FRAME_RX (R213): An Ethernet frame is received on a local port or the I1G lane and is forwarded by the local bridge. -/
def execLocalFrameRx (bp : Fin 11) (f : Bytes) (stamp : Nat) (s : State) : Host.Outcome State Fault Refusal :=
  .next (settle s (localFrameRx s bp f stamp))

/-- OUTPUT_DEQUEUE (R226): A dynamic frame reaches the head of its queue, is age-checked and leaves or is dropped. -/
def execOutputDequeue (p : Fin 20) (badCell : Option Nat) (s : State) : Host.Outcome State Fault Refusal := .next (settle s (outputDequeue s p badCell))

/-- PAUSE_FRAME_RX (R225): A pause frame is received and the paused classes stop starting frames within 100 ns. -/
def execPauseFrameRx (l : Fin 4) (f : Bytes) (s : State) : Host.Outcome State Fault Refusal := .next (settle s (pauseRx s l f))

/-- PAUSE_REFRESH (R225): Every 100 µs while a bit is set, a pause frame is sent again. -/
def execPauseRefresh (l : Fin 4) (s : State) : Host.Outcome State Fault Refusal := .next (settle s (pauseRefresh s l))

/-- PAUSE_EXPIRY (R225): C + 10 µs pass with no pause frame on the lane, and the paused classes clear. -/
def execPauseExpiry (l : Fin 4) (s : State) : Host.Outcome State Fault Refusal := .next (settle s (pauseExpiry s l))

/-- PAUSE_STUCK (R225): A class has been paused for 100 ms without a break. -/
def execPauseStuck (l : Fin 4) (c : Fin 8) (s : State) : Host.Outcome State Fault Refusal := .next (settle s (pauseStuck s l c))

/-- PORT_DOWN (R227): A port goes down for the switch and its output enters HOLD or DOWN. -/
def execPortDown (p : Fin 20) (s : State) : Host.Outcome State Fault Refusal := .next (settle s (portDown s p))

/-- PORT_UP (R227): A down port comes back, and a held queue is sent. -/
def execPortUp (p : Fin 20) (s : State) : Host.Outcome State Fault Refusal := .next (settle s (portUp s p))

/-- HOLD_EXPIRY (R227): The hold timer reaches HOLDTIME and the queue is purged. -/
def execHoldExpiry (p : Fin 20) (s : State) : Host.Outcome State Fault Refusal := .next (settle s (holdExpiry s p))

/-- FDB_AGE_OUT (R213): A learned entry has had no traffic for AGE seconds and leaves the FDB. -/
def execFdbAgeOut (idx : Nat) (s : State) : Host.Outcome State Fault Refusal := .next (settle s (fdbAgeOut s idx))

/-- SW_FDB_LATCH (R233): A write of SW_FDBIDX latches an FDB entry into SW_FDBENT0 to SW_FDBENT2. -/
def execSwFdbLatch (req : Req) (be : BitVec 4) (v : Word) (s : State) : Host.Outcome State Fault Refusal :=
  .next (settle s (regCommand s req 0x5400 be v false))

/-- SW_CNT_CLEAR (R119): A write of SW_CNTCLR clears the switch counters and peaks and leaves a clear record. -/
def execSwCntClear (req : Req) (be : BitVec 4) (v : Word) (s : State) : Host.Outcome State Fault Refusal :=
  .next (settle s (regCommand s req 0x5F00 be v false))

end Sys2Proof.Machine
end

