-- ==== Sys2Proof/Machine/ExecTime.lean ====
section
/-! DEFINITION. The meanings of the commands of the time base (chapter 7), one a row of the table; a command that finds the node in
a state in which its event cannot happen changes nothing. -/

namespace Sys2Proof.Machine

/-- CYCLE_START (R177): Train time reaches a cycle boundary: quotas refill, ASSIGNs activate, bindings resolve and the master launches its Lantern. -/
def execCycleStart (s : State) : Host.Outcome State Fault Refusal := .next (settle s (cycleStart s))

/-- LANTERN_RX (R158): A Lantern is received, checked, ranked and, if followed, corrects train time and is regenerated. -/
def execLanternRx (l : Fin 4) (f : Bytes) (stamp : Nat) (s : State) : Host.Outcome State Fault Refusal := .next (settle s (lanternRx s l f stamp))

/-- LANTERN_W_EXPIRY (R156): No Lantern is accepted by W, so the node launches a HOLD Lantern and enters HOLDOVER. -/
def execLanternWExpiry (s : State) : Host.Outcome State Fault Refusal := .next (settle s (lanternWExpiry s))

/-- MASTER_FREE_TIMEOUT (R159): A FREE candidate has gone 10 ms without an acceptable Lantern and masters with reason 1. -/
def execMasterFreeTimeout (s : State) : Host.Outcome State Fault Refusal := .next (settle s (masterFreeTimeout s))

/-- COMMON_INSTANT (R169): Train time reaches the common instant: the store flips, CAN triggers fire and SYNCO and SYNCI act. -/
def execCommonInstant (synci : Bool) (s : State) : Host.Outcome State Fault Refusal := .next (settle s (nextLines (commonInstant s synci)))

/-- SYNCO_PULSE_END (R171): 10 ns × WIDTH after the instant, SYNCO returns to its inactive level. -/
def execSyncoPulseEnd (s : State) : Host.Outcome State Fault Refusal := .next (settle s (syncoPulseEnd s))

/-- SYNCI_EDGE (R172): In STAMP mode a SYNCI edge is stamped into the 16-entry FIFO. -/
def execSynciEdge (rising : Bool) (stamp : Nat) (s : State) : Host.Outcome State Fault Refusal := .next (settle s (synciEdge s rising stamp))

/-- TB_NOW_READ (R417): A read of TB_NOW_LO latches TB_NOW_HI, TB_CTR_LO and TB_CTR_HI for the requester. -/
def execTbNowRead (req : Req) (s : State) : Host.Outcome State Fault Refusal := .next (settle s (regReadCommand s req 0x3010))

/-- SIFIFO_READ (R417): A read of TB_SIFIFO_LO removes the head SYNCI entry. -/
def execSififoRead (req : Req) (s : State) : Host.Outcome State Fault Refusal := .next (settle s (regReadCommand s req 0x3048))

/-- GPTP_SYNC_TIMER (R173): The Sync interval expires and two-step Sync and Follow_Up are sent on enabled local ports. -/
def execGptpSyncTimer (k : Fin 8) (s : State) : Host.Outcome State Fault Refusal := .next (settle s (gptpSyncTimer s k))

/-- GPTP_ANNOUNCE_TIMER (R173): The 1 s Announce interval expires and an Announce is sent. -/
def execGptpAnnounceTimer (k : Fin 8) (s : State) : Host.Outcome State Fault Refusal := .next (settle s (gptpAnnounceTimer s k))

/-- GPTP_PDELAY_TIMER (R173): The 1 s peer-delay interval expires and a peer-delay request is sent. -/
def execGptpPdelayTimer (k : Fin 8) (s : State) : Host.Outcome State Fault Refusal := .next (settle s (gptpPdelayTimer s k))

/-- GPTP_FRAME_RX (R173): An 802.1AS frame is received: peer delay is answered, and foreign Sync and Announce frames are discarded and counted. -/
def execGptpFrameRx (k : Fin 8) (f : Bytes) (s : State) : Host.Outcome State Fault Refusal := .next (settle s (gptpFrameRx s k f))

end Sys2Proof.Machine
end

