-- ==== Sys2Proof/Machine/ExecTopology.lean ====
section
/-! DEFINITION. The meanings of the commands of inauguration (chapter 6), one a row of the table; a command that finds the node in
a state in which its event cannot happen changes nothing. -/

namespace Sys2Proof.Machine

/-- LISTEN_TIMEOUT (R128): The 50 ms listen timer expires; an eligible node starts a run and sends PROBE, others restart the timer. -/
def execListenTimeout (seg : Fin 2) (s : State) : Host.Outcome State Fault Refusal := .next (settle s (listenTimeout s seg))

/-- PROBE_RX (R129): A Dawn PROBE is received, compared by tuple, and adopted and relayed or discarded. -/
def execProbeRx (p : Port) (f : Bytes) (s : State) : Host.Outcome State Fault Refusal := .next (settle s (probeRx s p f))

/-- REPORT_RX (R130): A Dawn REPORT is received and relayed towards the leader or collected by it. -/
def execReportRx (p : Port) (f : Bytes) (s : State) : Host.Outcome State Fault Refusal := .next (settle s (reportRx s p f))

/-- ASSIGN_RX (R136): A Dawn ASSIGN is received and applied at once or held for ACTCYC, and relayed. -/
def execAssignRx (p : Port) (f : Bytes) (s : State) : Host.Outcome State Fault Refusal := .next (settle s (assignRx s p f))

/-- CONFIRM_RX (R131): A CONFIRM reaches the leader; with all present the train settles in epoch 1. -/
def execConfirmRx (p : Port) (f : Bytes) (s : State) : Host.Outcome State Fault Refusal := .next (settle s (confirmRx s p f))

/-- ANNOUNCE_RX (R128): An ANNOUNCE is received across a new link; a lower train yields into JOINING. -/
def execAnnounceRx (p : Port) (f : Bytes) (s : State) : Host.Outcome State Fault Refusal := .next (settle s (announceRx s p f))

/-- LEAVE_RX (R134): A LEAVE is received; nodes beyond the lost link leave the view and a successor may take over. -/
def execLeaveRx (p : Port) (f : Bytes) (s : State) : Host.Outcome State Fault Refusal := .next (settle s (leaveRx s p f))

/-- RUN_TIMEOUT (R128): Reports are incomplete 50 ms after PROBE and the leader starts a new run. -/
def execRunTimeout (seg : Fin 2) (s : State) : Host.Outcome State Fault Refusal := .next (settle s (runTimeout s seg))

/-- CONFIRM_TIMEOUT (R128): CONFIRMs are incomplete 20 ms after ASSIGN, so the ASSIGN is resent or a new run starts. -/
def execConfirmTimeout (seg : Fin 2) (s : State) : Host.Outcome State Fault Refusal := .next (settle s (confirmTimeout s seg))

/-- FOLLOW_TIMEOUT (R128): No ASSIGN arrives within 150 ms of adopting a run, and the node returns to LISTEN. -/
def execFollowTimeout (seg : Fin 2) (s : State) : Host.Outcome State Fault Refusal := .next (settle s (followTimeout s seg))

/-- JOINING_TIMEOUT (R128): No ASSIGN containing the node arrives within 100 ms in JOINING, and the node returns to LISTEN. -/
def execJoiningTimeout (seg : Fin 2) (s : State) : Host.Outcome State Fault Refusal := .next (settle s (joiningTimeout s seg))

/-- ANNOUNCE_REPEAT (R128): The ANNOUNCE on a newly linked port is repeated every 10 ms until answered. -/
def execAnnounceRepeat (p : Port) (s : State) : Host.Outcome State Fault Refusal := .next (settle s (announceRepeat s p))

/-- TOP_LEAD_WRITE (R146): A write of TOP_LEAD is reported to the leader as a REPORT within 1 ms. -/
def execTopLeadWrite (req : Req) (be : BitVec 4) (v : Word) (s : State) : Host.Outcome State Fault Refusal :=
  .next (settle s (regCommand s req 0x2004 be v false))

/-- REPLAN_REQUEST (R139): A TOP_CMD write with REPLAN and MAGIC requests a full replan at the leader. -/
def execReplanRequest (req : Req) (be : BitVec 4) (v : Word) (s : State) : Host.Outcome State Fault Refusal :=
  .next (settle s (regCommand s req 0x2008 be v false))

/-- TOP_TIDX_LATCH (R146): A write of TOP_TIDX latches one topology entry into TOP_TENT0 to TOP_TENT3. -/
def execTopTidxLatch (req : Req) (be : BitVec 4) (v : Word) (s : State) : Host.Outcome State Fault Refusal :=
  .next (settle s (regCommand s req 0x2020 be v false))

/-- ETBDATA_READ (R417): A read of TOP_ETBDATA returns a directory word and advances the requester's TOP_ETBIDX. -/
def execEtbdataRead (req : Req) (s : State) : Host.Outcome State Fault Refusal := .next (settle s (regReadCommand s req 0x206C))

/-- ETB_FRAME_RX (R144): A TTDP HELLO or TOPOLOGY frame is received on the I1G lane and processed for ETB inauguration. -/
def execEtbFrameRx (f : TtdpFrame) (s : State) : Host.Outcome State Fault Refusal := .next (settle s (etbFrameRx s f))

/-- ETB_HELLO_TIMER (R144): A TTDP period expires and HELLO or TOPOLOGY frames are sent as the standard sets. -/
def execEtbHelloTimer (s : State) : Host.Outcome State Fault Refusal := .next (settle s (etbHelloTimer s))

end Sys2Proof.Machine
end

