-- ==== Sys2Proof/Machine/Dispatch.lean ====
section
/-! DEFINITION. One arm for each command: its meaning. -/

namespace Sys2Proof.Machine

def exec (i : Instr) (s : State) : Host.Outcome State Fault Refusal :=
  match i with
  | .pilotStart => Sys2Proof.Machine.execPilotStart s
  | .pilotStop => Sys2Proof.Machine.execPilotStop s
  | .uvloRising => Sys2Proof.Machine.execUvloRising s
  | .powerOnResetEnd resetHigh st => Sys2Proof.Machine.execPowerOnResetEnd resetHigh st s
  | .resetAssert => Sys2Proof.Machine.execResetAssert s
  | .resetRelease st => Sys2Proof.Machine.execResetRelease st s
  | .powerFail energyOk => Sys2Proof.Machine.execPowerFail energyOk s
  | .uvloFalling => Sys2Proof.Machine.execUvloFalling s
  | .lineOv m => Sys2Proof.Machine.execLineOv m s
  | .lineOvClear => Sys2Proof.Machine.execLineOvClear s
  | .thermalWarn temp => Sys2Proof.Machine.execThermalWarn temp s
  | .thermalShed temp => Sys2Proof.Machine.execThermalShed temp s
  | .thermalRestore temp => Sys2Proof.Machine.execThermalRestore temp s
  | .thermalOff temp => Sys2Proof.Machine.execThermalOff temp s
  | .thermalRestart temp => Sys2Proof.Machine.execThermalRestart temp s
  | .railRecheck m => Sys2Proof.Machine.execRailRecheck m s
  | .softStartDone p => Sys2Proof.Machine.execSoftStartDone p s
  | .softStartTimeout p m => Sys2Proof.Machine.execSoftStartTimeout p m s
  | .lfLimit p m => Sys2Proof.Machine.execLfLimit p m s
  | .limitTimerExpiry p m => Sys2Proof.Machine.execLimitTimerExpiry p m s
  | .fastTrip p m => Sys2Proof.Machine.execFastTrip p m s
  | .retryWaitExpiry p m => Sys2Proof.Machine.execRetryWaitExpiry p m s
  | .lfReverse p m => Sys2Proof.Machine.execLfReverse p m s
  | .sourceReturn p m => Sys2Proof.Machine.execSourceReturn p m s
  | .lfstatLatchClear req be v => Sys2Proof.Machine.execLfstatLatchClear req be v s
  | .nvmWaitDone => Sys2Proof.Machine.execNvmWaitDone s
  | .headerReceived d => Sys2Proof.Machine.execHeaderReceived d s
  | .sectionReceived d => Sys2Proof.Machine.execSectionReceived d s
  | .tagResult tail => Sys2Proof.Machine.execTagResult tail s
  | .profileSwitchRequest req be v => Sys2Proof.Machine.execProfileSwitchRequest req be v s
  | .switchVerifyDone lf secs => Sys2Proof.Machine.execSwitchVerifyDone lf secs s
  | .switchLoadDone lf secs => Sys2Proof.Machine.execSwitchLoadDone lf secs s
  | .tapReset => Sys2Proof.Machine.execTapReset s
  | .tapExtest tdi => Sys2Proof.Machine.execTapExtest s tdi
  | .tapIdcode tdi => Sys2Proof.Machine.execTapIdcode s tdi
  | .tapSamplePreload tdi => Sys2Proof.Machine.execTapSamplePreload s tdi
  | .tapHighz tdi => Sys2Proof.Machine.execTapHighz s tdi
  | .tapClamp tdi => Sys2Proof.Machine.execTapClamp s tdi
  | .tapBypass code tdi => Sys2Proof.Machine.execTapBypass s code tdi
  | .detectEnergy l heldSeen => Sys2Proof.Machine.execDetectEnergy l heldSeen s
  | .trainDone l => Sys2Proof.Machine.execTrainDone l s
  | .trainTimeout l => Sys2Proof.Machine.execTrainTimeout l s
  | .lockAchieved l msg => Sys2Proof.Machine.execLockAchieved l msg s
  | .lockTimeout l => Sys2Proof.Machine.execLockTimeout l s
  | .checkDone l => Sys2Proof.Machine.execCheckDone l s
  | .checkFail l => Sys2Proof.Machine.execCheckFail l s
  | .lossOfLock l corr idleUnc => Sys2Proof.Machine.execLossOfLock l s corr idleUnc
  | .lossClassify l => Sys2Proof.Machine.execLossClassify l s
  | .downWaitExpiry l => Sys2Proof.Machine.execDownWaitExpiry l s
  | .heldExit l => Sys2Proof.Machine.execHeldExit l s
  | .laneN10Reoffer l => Sys2Proof.Machine.execLaneN10Reoffer l s
  | .healthWindow l maxMargin snr corr idleUnc => Sys2Proof.Machine.execHealthWindow l maxMargin snr corr idleUnc s
  | .eqAdapt l margin want ffe => Sys2Proof.Machine.execEqAdapt l margin want ffe s
  | .linkMessageTx l stamp => Sys2Proof.Machine.execLinkMessageTx l stamp s
  | .linkMessageRx l msg stamp => Sys2Proof.Machine.execLinkMessageRx l msg stamp s
  | .nativeFrameRx l r => Sys2Proof.Machine.execNativeFrameRx l r s
  | .bbCntClear req be v => Sys2Proof.Machine.execBbCntClear req be v s
  | .listenTimeout seg => Sys2Proof.Machine.execListenTimeout seg s
  | .probeRx p f => Sys2Proof.Machine.execProbeRx p f s
  | .reportRx p f => Sys2Proof.Machine.execReportRx p f s
  | .assignRx p f => Sys2Proof.Machine.execAssignRx p f s
  | .confirmRx p f => Sys2Proof.Machine.execConfirmRx p f s
  | .announceRx p f => Sys2Proof.Machine.execAnnounceRx p f s
  | .leaveRx p f => Sys2Proof.Machine.execLeaveRx p f s
  | .runTimeout seg => Sys2Proof.Machine.execRunTimeout seg s
  | .confirmTimeout seg => Sys2Proof.Machine.execConfirmTimeout seg s
  | .followTimeout seg => Sys2Proof.Machine.execFollowTimeout seg s
  | .joiningTimeout seg => Sys2Proof.Machine.execJoiningTimeout seg s
  | .announceRepeat p => Sys2Proof.Machine.execAnnounceRepeat p s
  | .topLeadWrite req be v => Sys2Proof.Machine.execTopLeadWrite req be v s
  | .replanRequest req be v => Sys2Proof.Machine.execReplanRequest req be v s
  | .topTidxLatch req be v => Sys2Proof.Machine.execTopTidxLatch req be v s
  | .etbdataRead req => Sys2Proof.Machine.execEtbdataRead req s
  | .etbFrameRx f => Sys2Proof.Machine.execEtbFrameRx f s
  | .etbHelloTimer => Sys2Proof.Machine.execEtbHelloTimer s
  | .cycleStart => Sys2Proof.Machine.execCycleStart s
  | .lanternRx l f stamp => Sys2Proof.Machine.execLanternRx l f stamp s
  | .lanternWExpiry => Sys2Proof.Machine.execLanternWExpiry s
  | .masterFreeTimeout => Sys2Proof.Machine.execMasterFreeTimeout s
  | .commonInstant synci => Sys2Proof.Machine.execCommonInstant synci s
  | .syncoPulseEnd => Sys2Proof.Machine.execSyncoPulseEnd s
  | .synciEdge rising stamp => Sys2Proof.Machine.execSynciEdge rising stamp s
  | .tbNowRead req => Sys2Proof.Machine.execTbNowRead req s
  | .sififoRead req => Sys2Proof.Machine.execSififoRead req s
  | .gptpSyncTimer k => Sys2Proof.Machine.execGptpSyncTimer k s
  | .gptpAnnounceTimer k => Sys2Proof.Machine.execGptpAnnounceTimer k s
  | .gptpPdelayTimer k => Sys2Proof.Machine.execGptpPdelayTimer k s
  | .gptpFrameRx k f => Sys2Proof.Machine.execGptpFrameRx k f s
  | .staticSlotStart laneB ready gdOfs => Sys2Proof.Machine.execStaticSlotStart laneB ready gdOfs s
  | .guardianCloseTimeout laneB => Sys2Proof.Machine.execGuardianCloseTimeout laneB s
  | .guardianTableCheck => Sys2Proof.Machine.execGuardianTableCheck s
  | .dynamicSegmentStart => Sys2Proof.Machine.execDynamicSegmentStart s
  | .minislotStart m => Sys2Proof.Machine.execMinislotStart m s
  | .boundCheckDone => Sys2Proof.Machine.execBoundCheckDone s
  | .fallbackEmit l => Sys2Proof.Machine.execFallbackEmit l s
  | .localFrameRx bp f stamp => Sys2Proof.Machine.execLocalFrameRx bp f stamp s
  | .outputDequeue p badCell => Sys2Proof.Machine.execOutputDequeue p badCell s
  | .pauseFrameRx l f => Sys2Proof.Machine.execPauseFrameRx l f s
  | .pauseRefresh l => Sys2Proof.Machine.execPauseRefresh l s
  | .pauseExpiry l => Sys2Proof.Machine.execPauseExpiry l s
  | .pauseStuck l c => Sys2Proof.Machine.execPauseStuck l c s
  | .portDown p => Sys2Proof.Machine.execPortDown p s
  | .portUp p => Sys2Proof.Machine.execPortUp p s
  | .holdExpiry p => Sys2Proof.Machine.execHoldExpiry p s
  | .fdbAgeOut idx => Sys2Proof.Machine.execFdbAgeOut idx s
  | .swFdbLatch req be v => Sys2Proof.Machine.execSwFdbLatch req be v s
  | .swCntClear req be v => Sys2Proof.Machine.execSwCntClear req be v s
  | .gatewayMappingTask => Sys2Proof.Machine.execGatewayMappingTask s
  | .sigWindowWrite off be v => Sys2Proof.Machine.execSigWindowWrite off be v s
  | .hostCommit req be v => Sys2Proof.Machine.execHostCommit req be v s
  | .sgCntClear req be v => Sys2Proof.Machine.execSgCntClear req be v s
  | .canFrameValid c f => Sys2Proof.Machine.execCanFrameValid c f s
  | .canVisit c busIdle => Sys2Proof.Machine.execCanVisit c busIdle s
  | .canTxSuccess c stamp tdcv => Sys2Proof.Machine.execCanTxSuccess c stamp tdcv s
  | .canArbLost c => Sys2Proof.Machine.execCanArbLost c s
  | .canBusError c code field tx hard => Sys2Proof.Machine.execCanBusError c code field tx hard s
  | .canIntegrated c => Sys2Proof.Machine.execCanIntegrated c s
  | .canRecovered c => Sys2Proof.Machine.execCanRecovered c s
  | .canRecoverCmd req c be v => Sys2Proof.Machine.execCanRecoverCmd req c be v s
  | .canRequest req c o => Sys2Proof.Machine.execCanRequest req c o s
  | .canStage req c o => Sys2Proof.Machine.execCanStage req c o s
  | .canCancel req c o early => Sys2Proof.Machine.execCanCancel req c o early s
  | .canRelease req c o => Sys2Proof.Machine.execCanRelease req c o s
  | .canBufferWrite off be v => Sys2Proof.Machine.execCanBufferWrite off be v s
  | .domTimeout c => Sys2Proof.Machine.execDomTimeout c s
  | .busStuck c => Sys2Proof.Machine.execBusStuck c s
  | .protocolException c => Sys2Proof.Machine.execProtocolException c s
  | .canQueueAck req c be v => Sys2Proof.Machine.execCanQueueAck req c be v s
  | .canQidxLatch req c be v => Sys2Proof.Machine.execCanQidxLatch req c be v s
  | .llContextFault u marchFails => Sys2Proof.Machine.execLlContextFault u marchFails s
  | .llRebuildDone u => Sys2Proof.Machine.execLlRebuildDone u s
  | .canCntClear req be v => Sys2Proof.Machine.execCanCntClear req be v s
  | .remoteRead addr be => Sys2Proof.Machine.execRemoteRead addr be s
  | .remotePostedWrite addr be v merge => Sys2Proof.Machine.execRemotePostedWrite addr be v merge s
  | .remoteNpWrite addr be v => Sys2Proof.Machine.execRemoteNpWrite addr be v s
  | .spiWriteFrame a d => Sys2Proof.Machine.execSpiWriteFrame a d s
  | .spiReadFrame a => Sys2Proof.Machine.execSpiReadFrame a s
  | .pwriteRx f => Sys2Proof.Machine.execPwriteRx f s
  | .npwriteRx f => Sys2Proof.Machine.execNpwriteRx f s
  | .readRx f => Sys2Proof.Machine.execReadRx f s
  | .irqRx f => Sys2Proof.Machine.execIrqRx f s
  | .lockRx f rivals => Sys2Proof.Machine.execLockRx f rivals s
  | .unlockRx f => Sys2Proof.Machine.execUnlockRx f s
  | .wackRx f => Sys2Proof.Machine.execWackRx f s
  | .rdataRx f => Sys2Proof.Machine.execRdataRx f s
  | .lockackRx f => Sys2Proof.Machine.execLockackRx f s
  | .lateRx f stamp => Sys2Proof.Machine.execLateRx f stamp s
  | .tagTimeout t => Sys2Proof.Machine.execTagTimeout t s
  | .delayedDiscard t => Sys2Proof.Machine.execDelayedDiscard t s
  | .busGrant => Sys2Proof.Machine.execBusGrant s
  | .masterAccessEnd err rdata => Sys2Proof.Machine.execMasterAccessEnd err rdata s
  | .masterAccessTimeout => Sys2Proof.Machine.execMasterAccessTimeout s
  | .nogrant => Sys2Proof.Machine.execNogrant s
  | .grantRemoved => Sys2Proof.Machine.execGrantRemoved s
  | .irqSend req be v => Sys2Proof.Machine.execIrqSend req be v s
  | .lockAcquire req be v => Sys2Proof.Machine.execLockAcquire req be v s
  | .lockRelease req be v => Sys2Proof.Machine.execLockRelease req be v s
  | .lockRetryTimer => Sys2Proof.Machine.execLockRetryTimer s
  | .lockBroken sem => Sys2Proof.Machine.execLockBroken sem s
  | .semAcquire req k be v => Sys2Proof.Machine.execSemAcquire req k be v s
  | .semRelease req k be v => Sys2Proof.Machine.execSemRelease req k be v s
  | .hbLogClear req be v => Sys2Proof.Machine.execHbLogClear req be v s
  | .hbCntClear req be v => Sys2Proof.Machine.execHbCntClear req be v s
  | .polledModeExit req be v => Sys2Proof.Machine.execPolledModeExit req be v s
  | .roundStart req be v wakeLow => Sys2Proof.Machine.execRoundStart req be v wakeLow s
  | .sleepAbortCmd req be v => Sys2Proof.Machine.execSleepAbortCmd req be v s
  | .tokenRx p f wakeLow => Sys2Proof.Machine.execTokenRx p f wakeLow s
  | .roundRtoExpiry => Sys2Proof.Machine.execRoundRtoExpiry s
  | .snufferCommitRx p f => Sys2Proof.Machine.execSnufferCommitRx p f s
  | .kindleFrameRx p f => Sys2Proof.Machine.execKindleFrameRx p f s
  | .sleepInstant => Sys2Proof.Machine.execSleepInstant s
  | .kindleAbortRepeat p => Sys2Proof.Machine.execKindleAbortRepeat p s
  | .lineDrop => Sys2Proof.Machine.execLineDrop s
  | .kindleToneDetect p => Sys2Proof.Machine.execKindleToneDetect p s
  | .canWakeDetect c => Sys2Proof.Machine.execCanWakeDetect c s
  | .wakePinDetect => Sys2Proof.Machine.execWakePinDetect s
  | .lineWakeTimer p => Sys2Proof.Machine.execLineWakeTimer p s
  | .kindleWordRx p cellsA cellsB => Sys2Proof.Machine.execKindleWordRx p cellsA cellsB s
  | .kindleWordTimeout => Sys2Proof.Machine.execKindleWordTimeout s
  | .swFrameRx c e => Sys2Proof.Machine.execSwFrameRx c e s
  | .dozeTimeout => Sys2Proof.Machine.execDozeTimeout s
  | .wakeStartThreshold => Sys2Proof.Machine.execWakeStartThreshold s
  | .wakeStartTimer => Sys2Proof.Machine.execWakeStartTimer s
  | .pwrCntClear req be v => Sys2Proof.Machine.execPwrCntClear req be v s
  | .selfTestEnd r => Sys2Proof.Machine.execSelfTestEnd r s
  | .laneRetireDone l => Sys2Proof.Machine.execLaneRetireDone l s
  | .unitTestCmd req be v => Sys2Proof.Machine.execUnitTestCmd req be v s
  | .unitRetireCmd req be v => Sys2Proof.Machine.execUnitRetireCmd req be v s
  | .unitReturnCmd req be v => Sys2Proof.Machine.execUnitReturnCmd req be v s
  | .disagreeCheck => Sys2Proof.Machine.execDisagreeCheck s
  | .watchdogExpiry sramError => Sys2Proof.Machine.execWatchdogExpiry sramError s
  | .mgmtRestartDone => Sys2Proof.Machine.execMgmtRestartDone s
  | .mgmtRestartWait => Sys2Proof.Machine.execMgmtRestartWait s
  | .policyTick => Sys2Proof.Machine.execPolicyTick s
  | .sramScrubLine found => Sys2Proof.Machine.execSramScrubLine found s
  | .mramScrubStep found => Sys2Proof.Machine.execMramScrubStep found s
  | .pilotTrimTimer dev => Sys2Proof.Machine.execPilotTrimTimer dev s
  | .wearLevelCopyDone bankB logical dest => Sys2Proof.Machine.execWearLevelCopyDone bankB logical dest s
  | .fltCntClear req be v => Sys2Proof.Machine.execFltCntClear req be v s
  | .eventIntake => Sys2Proof.Machine.execEventIntake s
  | .recordWriteDone okA okB => Sys2Proof.Machine.execRecordWriteDone okA okB s
  | .optimeTick => Sys2Proof.Machine.execOptimeTick s
  | .statSample ext k => Sys2Proof.Machine.execStatSample ext k s
  | .statFlush => Sys2Proof.Machine.execStatFlush s
  | .recorderScanDone => Sys2Proof.Machine.execRecorderScanDone s
  | .recRidxLatch req be v => Sys2Proof.Machine.execRecRidxLatch req be v s
  | .recSidxLatch req be v => Sys2Proof.Machine.execRecSidxLatch req be v s
  | .clearReq req be v => Sys2Proof.Machine.execClearReq req be v s
  | .clearGo req be v => Sys2Proof.Machine.execClearGo req be v s
  | .clearChallengeExpiry => Sys2Proof.Machine.execClearChallengeExpiry s
  | .clearLockoutEnd => Sys2Proof.Machine.execClearLockoutEnd s
  | .logResyncDone bankB => Sys2Proof.Machine.execLogResyncDone bankB s
  | .bankNoAnswer bankB => Sys2Proof.Machine.execBankNoAnswer bankB s
  | .recCntClear req be v => Sys2Proof.Machine.execRecCntClear req be v s
  | .monHelp x => Sys2Proof.Machine.execMonHelp x s
  | .monId x => Sys2Proof.Machine.execMonId x s
  | .monRd x off n => Sys2Proof.Machine.execMonRd x off n s
  | .monWr x off v => Sys2Proof.Machine.execMonWr x off v s
  | .monRecStat x => Sys2Proof.Machine.execMonRecStat x s
  | .monRecDump x a => Sys2Proof.Machine.execMonRecDump x a s
  | .monRecStats x ext k => Sys2Proof.Machine.execMonRecStats x ext k s
  | .monRecClear x scope => Sys2Proof.Machine.execMonRecClear x scope s
  | .monRecResp x r => Sys2Proof.Machine.execMonRecResp x r s
  | .monLane x n => Sys2Proof.Machine.execMonLane x n s
  | .monTopo x => Sys2Proof.Machine.execMonTopo x s
  | .monTime x => Sys2Proof.Machine.execMonTime x s
  | .monFault x => Sys2Proof.Machine.execMonFault x s
  | .monProfileShow x => Sys2Proof.Machine.execMonProfileShow x s
  | .monProfileSet x p => Sys2Proof.Machine.execMonProfileSet x p s
  | .monTest x u => Sys2Proof.Machine.execMonTest x u s
  | .monReturn x u => Sys2Proof.Machine.execMonReturn x u s
  | .monRetire x l => Sys2Proof.Machine.execMonRetire x l s
  | .monCanrec x c => Sys2Proof.Machine.execMonCanrec x c s
  | .monReplan x => Sys2Proof.Machine.execMonReplan x s
  | .monSleep x wakeLow => Sys2Proof.Machine.execMonSleep x wakeLow s
  | .monTel x => Sys2Proof.Machine.execMonTel x s
  | .monTelSend x sel => Sys2Proof.Machine.execMonTelSend x sel s
  | .monUnlockRequest x => Sys2Proof.Machine.execMonUnlockRequest x s
  | .monUnlockResponse x r => Sys2Proof.Machine.execMonUnlockResponse x r s
  | .monLock x => Sys2Proof.Machine.execMonLock x s
  | .monKey x k key => Sys2Proof.Machine.execMonKey x k key s
  | .monNvmProg x len => Sys2Proof.Machine.execMonNvmProg x len s
  | .nvmProgBlock blk num crc => Sys2Proof.Machine.execNvmProgBlock blk num crc s
  | .nvmProgDone readBack => Sys2Proof.Machine.execNvmProgDone readBack s
  | .monNode x h => Sys2Proof.Machine.execMonNode x h s
  | .monLocal x => Sys2Proof.Machine.execMonLocal x s
  | .monSyntaxError x => Sys2Proof.Machine.execMonSyntaxError x s
  | .monChallengeExpiry x => Sys2Proof.Machine.execMonChallengeExpiry x s
  | .monLockoutEnd x => Sys2Proof.Machine.execMonLockoutEnd x s
  | .serviceIdleTimeout x => Sys2Proof.Machine.execServiceIdleTimeout x s
  | .remoteRequestRx f => Sys2Proof.Machine.execRemoteRequestRx f s
  | .remoteResponseRx f => Sys2Proof.Machine.execRemoteResponseRx f s
  | .remoteResponseTimeout => Sys2Proof.Machine.execRemoteResponseTimeout s
  | .remoteSessionIdle served => Sys2Proof.Machine.execRemoteSessionIdle served s
  | .telemetryPeriod => Sys2Proof.Machine.execTelemetryPeriod s
  | .telemetryFrameRx f => Sys2Proof.Machine.execTelemetryFrameRx f s
  | .monTidxLatch req be v => Sys2Proof.Machine.execMonTidxLatch req be v s
  | .ipendClear req be v => Sys2Proof.Machine.execIpendClear req be v s
  | .irqForce req be v => Sys2Proof.Machine.execIrqForce req be v s
  | .ienWrite req be v => Sys2Proof.Machine.execIenWrite req be v s
  | .registerWrite req off be v => Sys2Proof.Machine.execRegisterWrite req off be v s
  | .sleepCoreOff => Sys2Proof.Machine.execSleepCoreOff s
  | .kindleToneSent => Sys2Proof.Machine.execKindleToneSent s
  | .emberBiasReached p => Sys2Proof.Machine.execEmberBiasReached p s
  | .ttdpHelloTimeout => Sys2Proof.Machine.execTtdpHelloTimeout s

end Sys2Proof.Machine
end

