-- ==== Sys2Proof/Safety.lean ====
section
/-! DEFINITION. What the claims speak of: a command that completes, what it leaves alone, and what holds in every state a step answers. -/

namespace Sys2Proof.Safety

open Sys2Proof.Machine

/-- The command answers a next state, of which Q holds. -/
def Completes (c : Instr) (s : State) (Q : State → Prop) : Prop := ∃ t, exec c s = .next t ∧ Q t

/-- The balls read as R422, R56 and Table 2-8 state them of the rest of the state. -/
def PinsFit (s : State) : Prop := s.pins = pinsOf s

/-- The parts of the state beside the stored register words and the balls. -/
inductive Part where
  | now | free | uid | otp | latHost | latMon | latFar | tables | line | boot | tap | bcells | lanes | inaug | etb | tb | sch | sw | sg | can
  | lamp | hb | mon | pilot | snuf | flt | pol | mram | log | out | pending
  deriving DecidableEq, Repr

/-- A part reads the same in two states. -/
def Same (s t : State) : Part → Prop
  | .now => t.now = s.now
  | .free => t.free = s.free
  | .uid => t.uid = s.uid
  | .otp => t.otp = s.otp
  | .latHost => t.latHost = s.latHost
  | .latMon => t.latMon = s.latMon
  | .latFar => t.latFar = s.latFar
  | .tables => t.tables = s.tables
  | .line => t.line = s.line
  | .boot => t.boot = s.boot
  | .tap => t.tap = s.tap
  | .bcells => t.bcells = s.bcells
  | .lanes => t.lanes = s.lanes
  | .inaug => t.inaug = s.inaug
  | .etb => t.etb = s.etb
  | .tb => t.tb = s.tb
  | .sch => t.sch = s.sch
  | .sw => t.sw = s.sw
  | .sg => t.sg = s.sg
  | .can => t.can = s.can
  | .lamp => t.lamp = s.lamp
  | .hb => t.hb = s.hb
  | .mon => t.mon = s.mon
  | .pilot => t.pilot = s.pilot
  | .snuf => t.snuf = s.snuf
  | .flt => t.flt = s.flt
  | .pol => t.pol = s.pol
  | .mram => t.mram = s.mram
  | .log => t.log = s.log
  | .out => t.out = s.out
  | .pending => t.pending = s.pending

/-- Between s and t nothing changed but the parts and the register words named, GL_IPEND (R421) and the balls, which follow from the rest. -/
def Frame (parts : List Part) (regs : Nat → Prop) (s t : State) : Prop :=
  (∀ p, p ∉ parts → Same s t p) ∧ ∀ off, off ≠ 0x40 → ¬ regs off → reg t off = reg s off

/-- A saturating counter register has moved by n. -/
def Counted (off n : Nat) (s t : State) : Prop := reg t off = BitVec.ofNat 32 (min 0xFFFFFFFF ((reg s off).toNat + n))

/-- The events raised between s and t, oldest first, are those of the list: code, severity, instance, payload values; each carries the
stamps of s. -/
def Raised (evs : List (Nat × Nat × Nat × List Nat)) (s t : State) : Prop :=
  t.log.raised = s.log.raised ++ evs.map (fun e => mkEvent s e.1 e.2.1 e.2.2.1 e.2.2.2)

/-- The same of events of a segment: those of the aft segment have SEG set (Table 15-1). -/
def RaisedIn (g : Fin 2) (evs : List (Nat × Nat × Nat × List Nat)) (s t : State) : Prop :=
  t.log.raised = s.log.raised ++ evs.map (fun e => { mkEvent s e.1 e.2.1 e.2.2.1 e.2.2.2 with flags := (mkEvent s e.1 e.2.1 e.2.2.1 e.2.2.2).flags + 16 * g.val })

/-- The request takes effect: its requester may write registers (Table 16-2), and a host write has contiguous byte enables (R294) and is not shut out
by a profile switch (R87). -/
def Reaches (req : Req) (off : Nat) (be : BitVec 4) (s : State) : Prop :=
  mayWrite s req = true ∧ (req = .host → contiguous be = true ∧ (switchBusy s = false ∨ off < 0x1000))

/-- The access ends: the host sees it on its bus (R295), the others in the command that brought it. -/
def Ended (req : Req) (s t : State) : Prop := t.out = if req = .host then .access 0 0 :: s.out else s.out

/-- A scan of a data register that held r: for each bit at TDI one bit leaves at TDO, the register's own first (Table 2-12). -/
def Scanned (r tdi : List Bool) (t : State) : Prop := tdi ≠ [] → t.out.head? = some (.tdo ((r ++ tdi).take tdi.length))

/-- The balls are the node's own again, or still (R44, R46): nothing else has changed, but that a read of the NVM cut by boundary scan starts
afresh. -/
def LeavesBalls (r tdi : List Bool) (s t : State) : Prop :=
  bscan t = false ∧ Scanned r tdi t ∧
  (bscan s = false → (tdi = [] → t.out = s.out) ∧ Frame [.tap, .bcells, .free, .out] (fun _ => False) s t) ∧
  (bscan s = true → coreRun s = true → s.boot.phase = .header ∨ s.boot.phase = .loading ∨ s.boot.phase = .loaded →
    t.boot.phase = .nvmWait ∧ t.boot.dirSeen = false)

/-- The boundary cells or none hold the balls, by instruction n, which is reported when it was not there before (R44, R46). -/
def TakesBalls (n : Nat) (r tdi : List Bool) (s t : State) : Prop :=
  t.tap = n ∧ bscan t = true ∧ Scanned r tdi t ∧ (tdi = [] → t.out = s.out) ∧ (s.tap = n → t.log = s.log) ∧
  (coreRun s = true → s.tap ≠ n → Raised [(0xD040, 6, 0xFFF, [n])] s t) ∧ Frame [.tap, .bcells, .free, .log, .out] (· = 0xC180) s t

/-- The lanes' counters of frames sent (R119). -/
def LaneTx (off : Nat) : Prop := off = 0x114C ∨ off = 0x124C ∨ off = 0x134C ∨ off = 0x144C

/-- The words that a frame leaving on a lane may count in: frames sent, the counters of the switch, DYN_CUTOFF and events (R113, R187, R229). -/
def SendCounts (off : Nat) : Prop :=
  LaneTx off ∨ inGroup off 0x5800 320 = true ∨ inGroup off 0x5E00 32 = true ∨ off = 0x40A8 ∨ off = 0xC180

/-- As Frame, for a command that also sends control frames: they leave through the switch, where mirror sessions see them, or wait for the
allowance (R187, R190, R229). -/
def SendFrame (parts : List Part) (regs : Nat → Prop) (s t : State) : Prop :=
  t.sch = { s.sch with ctl := t.sch.ctl } ∧ Frame (parts ++ [.out, .sch, .sw, .log]) (fun o => regs o ∨ SendCounts o) s t

/-- The words that the schedule's own frames, and what waits behind them, may count in: the lanes' frames and stomps, SCH_CNT, GUARD_BLOCK, the switch
counters, the errors detected and the events (R113, R119, R206). -/
def SchedWords (off : Nat) : Prop :=
  (0x1120 ≤ off ∧ off < 0x1500) ∨ (0x4080 ≤ off ∧ off < 0x40B0) ∨ off = 0x4198 ∨ (0x5800 ≤ off ∧ off < 0x5F00) ∨ (0xB080 ≤ off ∧ off < 0xB0B4) ∨
  off = 0xC180

/-- No mirror session is enabled (R229). -/
def NoMirror (s : State) : Prop := ∀ n : Fin 4, regB s (0x5300 + 0x10 * n.val) 31 = false

/-- What a queued frame leaves as at an output: a native or an Ethernet frame on a lane, a frame on a local port, or one for an internal port. -/
def leaves (p : Fin 20) (x : QFrame) : Out :=
  if p.val < 4 then (if x.eth then .eth (20 + p.val) x.frame else .native p.val x.frame)
  else if p.val ≤ 13 then .eth p.val x.frame else .deliver p.val x.frame

/-- A Dawn frame of this subtype that dawn handling takes at a port: its form is right and it is not an own one come back (R126, R127). -/
def DawnIn (p : Port) (f : Bytes) (sub : Nat) (s : State) : Prop :=
  dawnUp s = true ∧ dawnValid (payloadOf f) = true ∧ byteAt (payloadOf f) 0 = sub ∧
  ((readHdr f).dtype = 4 ∨ (readHdr f).src = 0 ∨ (readHdr f).src ≠ ownHandle s (segOf s p))

/-- What names an outgoing bridge message: its destination, then BOP, WIN, TSEQ, TAG and STATUS (Table 12-8). -/
def msgKey (x : DynOut) : Bytes × List Nat :=
  (x.dest, [byteAt x.body 14, byteAt x.body 16, beAt x.body 18 2, byteAt x.body 20, byteAt x.body 21])

/-- Exactly the frames so named have joined the tail of the frames waiting for admission (R188, R305). -/
def Sent (keys : List (Bytes × List Nat)) (s t : State) : Prop :=
  t.sch = { s.sch with dyn := s.sch.dyn ++ t.sch.dyn.drop s.sch.dyn.length } ∧ (t.sch.dyn.drop s.sch.dyn.length).map msgKey = keys

/-- The own quota on the lane of bridge messages holds the longest of them (R188). -/
def BridgeSends (s : State) : Prop := 128 ≤ rowQuota (ownRow s 0) (bitAt (reg s 0x5008) (bClass s))

/-- A committed bridge with no request waiting, its context in service, and LBUS left to the host (R289, R298, R322). -/
def BridgeIdle (s : State) : Prop :=
  committed s = true ∧ underTest s 0x23 = false ∧ lampServes s 9 = true ∧ s.hb.inq = [] ∧ s.hb.acc = false ∧ s.hb.owns = false ∧ s.hb.bus = false ∧ s.hb.far = none

/-- The request is the next of its initiator, or the first since its reset or rebinding (R306). -/
def InSeq (s : State) (b : Bytes) (r : HbReq) : Prop :=
  (byteAt b 15).testBit 1 = true ∨ mget s.hb.applied r.src = none ∨ mget s.hb.applied r.src = some ((r.tseq + 65535) % 65536)

/-- A window through which a message can leave (R301, R304, Table 12-10). -/
def WinReady (s : State) (n : Nat) : Prop := hbClosed s = false ∧ winOn s n = true ∧ winHandle s n ≠ 0 ∧ hasPath s = true ∧ BridgeSends s

/-- The retained power counters named have each moved by 1, and nothing else of the MRAM and the Pilot's store (R353). -/
def PwrCounted (l : List Nat) (s t : State) : Prop :=
  t.mram = { s.mram with pwrCnt := l.foldl (fun m i => mput m i (min 0xFFFFFFFF ((mget m i).getD 0 + 1))) s.mram.pwrCnt }

/-- A good frame of this kind and type and length, of a node with a handle, which the management processor takes (R111, R125, R366). -/
def Taken (f : Bytes) (kind dtype len : Nat) (s : State) : Prop :=
  dawnUp s = true ∧ hcrcOk f = true ∧ trailerOk f = true ∧ (readHdr f).kind = kind ∧ (readHdr f).dtype = dtype ∧ (readHdr f).len = len ∧
  (readHdr f).src ≠ 0

/-- A control frame queued now waits for the control allowance (R187). -/
def CtlWaits (s : State) : Prop := (cycLen s).isSome = true ∧ s.sch.inStatic = true

/-- The node has committed to wake (R333, R334, R337): in DOZE, the source latched, the word sent as a tone out of the ports named, OFF pairs as
they were and RELAY pairs not latched or waiting in ON. -/
def Woken (w : WakeSrc) (word : Bytes) (ports : List Port) (s t : State) : Prop :=
  t.line.node = .doze ∧ t.pilot.committed = true ∧ t.pilot.latch = w ∧ t.out = (ports.map (fun p => Out.tone p (toneCells word))).reverse ++ s.out ∧
  (∀ p : Fin 4, pairMode (lfctl s) p.val = 0 → t.line.pairs[p] = s.line.pairs[p]) ∧
  (∀ p : Fin 4, pairMode (lfctl s) p.val = 2 → s.line.pairs[p].st ≠ .latched → s.line.pairs[p].st ≠ .retryWait → t.line.pairs[p].st = .on) ∧
  PwrCounted (6 :: ports.map (fun _ => 8)) s t ∧ Frame [.line, .pilot, .mram, .out] (fun _ => False) s t

/-- The core is off and the Pilot watches, nothing committed yet (R330). -/
def PilotWatches (s : State) : Prop :=
  s.line.core = false ∧ (s.line.node = .ember ∨ s.line.node = .doze ∧ s.pilot.committed = false)

/-- A session that takes a command: the UART while nothing runs there and no session is open from here, or the remote session this node serves, its
initiator reached by an own quota of lane size (R400, R405). -/
def MonReady (x : Ses) (s : State) : Prop :=
  monAlive s = true ∧
  (x = .onUart → s.mon.waiting = false ∧ s.mon.prog = none ∧ s.mon.opened = none) ∧
  (x = .remote → s.mon.served.any (fun f => decide (252 ≤ rowQuota (ownRow s f.seg) (bitAt (reg s 0x5008) (monClass s)))) = true)

/-- The response frame of one line to the initiator of the session served (R405, Table 16-3). -/
def lineFrame (s : State) (f : Far) (l : String × List Nat) : DynOut :=
  { origin := 5, inp := if l.1 == "REC" then 18 else 16, laneB := bitAt (reg s 0x5008) (monClass s), cls := monClass s, kind := 8, dtype := 0, dest := [BitVec.ofNat 8 f.handle], seg := f.seg
    body := remotePayload 0x52 (l.1 == "OK" || l.1 == "ERR").toNat s.mon.mseqIn s.uid f.uid ((lineText l.1 l.2).take 200) }

/-- The command is counted and answered with exactly these lines: on the UART, followed by the prompt, or in frames of the session served (R400,
R405). -/
def Answered (x : Ses) (lines : List (String × List Nat)) (s t : State) : Prop :=
  Counted 0xD080 1 s t ∧
  (x = .onUart → t.out = .line .onUart "PROMPT" [0, t.mon.ses.level] :: ((lines.map (fun l => Out.line .onUart l.1 l.2)).reverse ++ s.out) ∧
    t.sch.dyn = s.sch.dyn) ∧
  (x = .remote → t.out = s.out ∧ t.sch.dyn = s.sch.dyn ++ s.mon.served.toList.flatMap (fun f => lines.map (lineFrame s f)))

/-- The lines that show registers, as they read once the command is counted (R403). -/
def regLines (s : State) (offs : List Nat) : List (String × List Nat) := offs.map (fun o => ("REG", [o, (regRead (bumpMon s 0) .monitor o).toNat]))

/-- Nothing of the schedule changed but the frames waiting for admission. -/
def SchKept (s t : State) : Prop := t.sch = { s.sch with dyn := t.sch.dyn }

/-- Answered OK after these lines, and nothing else changed but what the parts and words name. -/
def Shows (x : Ses) (lines : List (String × List Nat)) (s t : State) : Prop :=
  Answered x (lines ++ [("OK", [])]) s t ∧ t.mon = s.mon ∧ SchKept s t ∧ Frame [.out, .sch] (· = 0xD080) s t

/-- A unit command with its MAGIC, while the fault handler takes commands (R363, R419). -/
def UnitCmd (op u : Nat) (v : Word) (s : State) : Prop :=
  Reaches .host 0xB00C 0xF s ∧ switchBusy s = false ∧ coreRun s = true ∧ fld v 31 16 = 0xF417 ∧ regB s 0xB000 0 = true ∧ fld v 9 8 = op ∧ fld v 7 0 = u

/-- Unit u can be queued for a test behind the one that runs (R357). -/
def CanQueue (u : Nat) (s : State) : Prop :=
  ownResponse u = false ∧ underTest s u = false ∧ queued s u = false ∧ s.flt.queue.length < 8 ∧ s.flt.test.isSome = true

/-- The line-feed controller has taken a measurement of a pair (R36, R52, R59, Table 3-6): VF and RAIL_OK; with LF_VF at ground every FEED and RELAY
pair is off; the events while the core runs; nothing but the controller changed. -/
def LfTaken (evs : List (Nat × Nat × Nat × List Nat)) (m : LfMeas) (s t : State) : Prop :=
  t.line.vf = m.vf ∧ t.line.railOk = railAccepted m.vf ∧
  (∀ q : Fin 4, m.vf = 0 → pairMode (reg s 0xA100) q.val ≠ 0 → t.line.pairs[q].st = .off ∨ t.line.pairs[q].st = .latched) ∧
  (coreRun s = true → Raised evs s t) ∧ (coreRun s = false → t.log = s.log) ∧ Frame [.line, .log] (· = 0xC180) s t

/-- The trip of pair p latches it off: the RETRIES-th in a row (R52). -/
def lastTrip (s : State) (p : Fin 4) : Bool := decide (max 1 (lfRetries s) ≤ s.line.pairs[p].trips + 1)

/-- Pair p has tripped (R52, R59): counted, off, and waiting or latched. -/
def Tripped (p : Fin 4) (m : LfMeas) (s t : State) : Prop :=
  (m.vf ≠ 0 → t.line.pairs[p] = { s.line.pairs[p] with
      st := if lastTrip s p then .latched else .retryWait, trips := s.line.pairs[p].trips + 1, latch := s.line.pairs[p].latch || lastTrip s p, sink := false } ∧
    ∀ q : Fin 4, q ≠ p → t.line.pairs[q] = s.line.pairs[q]) ∧
  LfTaken ((0x1101, 3, p.val, [p.val, m.vf, m.lpn, m.i]) :: if lastTrip s p then [(0x1102, 5, p.val, [p.val, m.vf, m.lpn, m.i])] else []) m s t

/-- How a FEED or RELAY pair goes on (Tables 3-2 and 3-3), given LF_VF at ground, RAIL_OK and a line overvoltage: through soft start while the rail
is on the pairs, at bias or held on in EMBER, else off. -/
def lfNextSt (s : State) (p : Fin 4) (gnd ok ov : Bool) : LfSt :=
  if ov || gnd || pairI1g s p then .off
  else if pairMode (reg s 0xA100) p.val = 1 then (if feeding s then (if ok then .softStart else .off) else if bitAt (reg s 0xA100) 16 then .bias else .off)
  else if feeding s then .softStart else .on

/-- Pair p goes on after a wait or a reverse current, the rail just measured (R52, R53); the others stay as they were unless LF_VF is at ground. -/
def LfResumed (p : Fin 4) (m : LfMeas) (s t : State) : Prop :=
  (pairMode (reg s 0xA100) p.val ≠ 0 → t.line.pairs[p].st = lfNextSt s p (m.vf == 0) (railAccepted m.vf) s.line.ov) ∧
  (m.vf ≠ 0 → ∀ q : Fin 4, q ≠ p → t.line.pairs[q] = s.line.pairs[q]) ∧
  t.line.vf = m.vf ∧ t.line.railOk = railAccepted m.vf ∧ Frame [.line, .log] (· = 0xC180) s t

/-- No local port from L0 to M1 is UP, and every other output's state is as before (R48, R65, R227). -/
def LocalShed (s t : State) : Prop :=
  ∀ p : Fin 20, if 4 ≤ p.val ∧ p.val ≤ 13 then t.sw.ports[p].hst ≠ 0 else t.sw.ports[p].hst = s.sw.ports[p].hst

end Sys2Proof.Safety
end

