-- ==== Sys2Proof/Certificates/Slice0/Obligations.lean ====
section
/-! DEFINITION. The statements for the provers. Each Completes clause says that its row answers a next state, what that state holds, and (Frame) what it
leaves alone; the witnesses of the hypotheses stand in Sys2Proof/Tests/Slice0.lean. -/

open Sys2Proof Sys2Proof.Machine Sys2Proof.Safety

/-- Chapter 3, the power die (R48, R67, R68, R328, Table 3-17): the Pilot starts and stops, the core rails start, power-on reset ends,
RESET# falls and rises. What survives RESET# is the line feed, the Pilot, MRAM, OTP and PWR_LFCTL; that the boundary-scan port and cells
survive it too is the model's choice (log entry 106), and so is the return of shed service at UVLO rising while the core runs (log entry 17). -/
def Obligations.PowerDieAndResetRowsComplete : Prop :=
  (∀ (s : State), s.line.node = .off → Completes .pilotStart s fun t =>
    t.line.node = .ember ∧ t.line.core = false ∧ t.pilot = {} ∧ (∀ p : Fin 4, t.line.pairs[p] = {}) ∧ (∀ off, reg t off = regReset off) ∧
    Frame [.line, .pilot] (fun _ => True) s t) ∧
  (∀ (s : State), s.line.node = .ember ∨ s.line.node = .doze → Completes .pilotStop s fun t =>
    t.line.node = .off ∧ t.line.core = false ∧ t.pilot = {} ∧ (∀ off, reg t off = regReset off) ∧ Frame [.line, .pilot] (fun _ => True) s t) ∧
  (∀ (s : State), s.line.node = .ember → s.pilot.slept = false → s.line.thermOff = false → Completes .uvloRising s fun t =>
    t.line.node = .startup ∧ t.line.core = true ∧ t.line.por = true ∧ t.line.uvlo = true ∧ t.boot = {} ∧
    t.mram.pwrcyc = s.mram.pwrcyc + 1 ∧ t.mram.optime = s.mram.optime + s.pilot.dozeTime / 10000000000 ∧
    Frame [.line, .boot, .mram, .pilot] (fun _ => False) s t) ∧
  (∀ (s : State), s.line.node ≠ .ember ∨ s.pilot.slept = true ∨ s.line.thermOff = true → Completes .uvloRising s fun t =>
    t.line = { s.line with uvlo := true, shed := false } ∧ Frame [.line] (fun _ => False) s t) ∧
  (∀ (s : State) (st : Straps), s.line.core = true → s.line.por = true → Completes (.powerOnResetEnd true st) s fun t =>
    t.boot.phase = .nvmWait ∧ t.line.por = false ∧ t.line.resetLow = false ∧ (∀ l : Fin 4, t.lanes[l].st = .detect) ∧ t.tb.ctr = 0 ∧
    t.boot.psel = (lastSample 0#2 st.psel).toNat ∧ t.boot.lbus = lastSample true st.mtx ∧
    Frame [.line, .boot, .lanes, .tb, .sw, .flt, .log] (· = 0xC180) s t) ∧
  (∀ (s : State) (st : Straps), s.line.core = true → s.line.por = true → Completes (.powerOnResetEnd false st) s fun t =>
    t.line = { s.line with por := false, resetLow := true } ∧ Frame [.line] (fun _ => False) s t) ∧
  (∀ (s : State), s.line.core = true → Completes .resetAssert s fun t =>
    t.boot.phase = .reset ∧ t.line = { s.line with node := .startup, resetLow := true } ∧ t.pilot = s.pilot ∧ t.tap = s.tap ∧ t.bcells = s.bcells ∧
    t.mram = s.mram ∧ t.otp = s.otp ∧ t.lanes = State.reset.lanes ∧ t.tb = State.reset.tb ∧ t.sw = State.reset.sw ∧ t.can = State.reset.can ∧
    reg t 0xA100 = reg s 0xA100 ∧ ∀ off, off ≠ 0xA100 → reg t off = regReset off) ∧
  (∀ (s : State), s.line.core = false → Completes .resetAssert s fun t => t.line = s.line ∧ Frame [] (fun _ => False) s t) ∧
  (∀ (s : State) (st : Straps), s.line.core = true → s.line.resetLow = true → s.line.por = false → Completes (.resetRelease st) s fun t =>
    t.boot.phase = .nvmWait ∧ t.line.resetLow = false ∧ (∀ l : Fin 4, t.lanes[l].st = .detect) ∧ t.tb.ctr = 0 ∧
    t.boot.psel = (lastSample 0#2 st.psel).toNat ∧ Frame [.line, .boot, .lanes, .tb, .sw, .flt, .log] (· = 0xC180) s t) ∧
  (∀ (s : State) (st : Straps), s.line.core = true → s.line.resetLow = true → s.line.por = true → Completes (.resetRelease st) s fun t =>
    t.line = { s.line with resetLow := false } ∧ Frame [.line] (fun _ => False) s t)

/-- The line-feed controller (R36, R50 to R53, Tables 3-3 and 3-6), with the core on or off: soft start ends ON; a soft start not reached, the
power limit held and an overcurrent are trips, counted, after which the pair waits or, after RETRIES of them, latches off; the power limit and
reverse current are taken. With LF_VF at ground the whole controller goes off. Each is reported while the core runs (R59). -/
def Obligations.LineFeedTransitionsComplete : Prop :=
  (∀ (s : State) (p : Fin 4), s.line.pairs[p].st = .softStart → Completes (.softStartDone p) s fun t =>
    t.line.pairs[p] = { s.line.pairs[p] with st := .on, trips := 0 } ∧ (∀ q : Fin 4, q ≠ p → t.line.pairs[q] = s.line.pairs[q]) ∧
    Frame [.line] (fun _ => False) s t) ∧
  (∀ (s : State) (p : Fin 4) (m : LfMeas), s.line.pairs[p].st = .softStart → Completes (.softStartTimeout p m) s (Tripped p m s)) ∧
  (∀ (s : State) (p : Fin 4) (m : LfMeas), s.line.pairs[p].st = .limit → Completes (.limitTimerExpiry p m) s (Tripped p m s)) ∧
  (∀ (s : State) (p : Fin 4) (m : LfMeas), s.line.pairs[p].st = .on ∨ s.line.pairs[p].st = .limit ∨ s.line.pairs[p].st = .softStart →
    Completes (.fastTrip p m) s (Tripped p m s)) ∧
  (∀ (s : State) (p : Fin 4) (m : LfMeas), s.line.pairs[p].st = .on → Completes (.lfLimit p m) s fun t =>
    (m.vf ≠ 0 → t.line.pairs[p] = { s.line.pairs[p] with st := .limit } ∧ ∀ q : Fin 4, q ≠ p → t.line.pairs[q] = s.line.pairs[q]) ∧
    LfTaken [(0x1100, 2, p.val, [p.val, m.vf, m.lpn, m.i])] m s t) ∧
  (∀ (s : State) (p : Fin 4) (m : LfMeas), s.line.pairs[p].st = .on ∨ s.line.pairs[p].st = .limit ∨ s.line.pairs[p].st = .softStart →
    pairMode (reg s 0xA100) p.val ≠ 0 → Completes (.lfReverse p m) s fun t =>
      (m.vf ≠ 0 → t.line.pairs[p] = { s.line.pairs[p] with st := .source } ∧ ∀ q : Fin 4, q ≠ p → t.line.pairs[q] = s.line.pairs[q]) ∧
      LfTaken [(0x1103, 1, p.val, [p.val, m.vf, m.lpn, m.i])] m s t)

/-- A pair leaves RETRY_WAIT or SOURCE at its time (R52, R53, Table 3-3), with the rail as just measured; a line overvoltage turns FEED and RELAY
pairs off and its end lets them go on (R48); a recheck of the rail starts the pairs held off (R52). A pair goes on through soft start where the
rail is on the pairs, a FEED pair only with the rail accepted, and with its EMBER behaviour where the core is off (Table 3-2); a latched pair
stays off. That an I1G port's pairs stay off in EMBER too is the model's choice (log entry 107). -/
def Obligations.LineFeedRestartsAndOvervoltage : Prop :=
  (∀ (s : State) (p : Fin 4) (m : LfMeas), s.line.pairs[p].st = .retryWait → Completes (.retryWaitExpiry p m) s (LfResumed p m s)) ∧
  (∀ (s : State) (p : Fin 4) (m : LfMeas), s.line.pairs[p].st = .source → Completes (.sourceReturn p m) s (LfResumed p m s)) ∧
  (∀ (s : State) (m : LfMeas), s.line.node ≠ .off → s.line.ov = false → Completes (.lineOv m) s fun t =>
    t.line.ov = true ∧ t.line.vf = m.vf ∧ (∀ p : Fin 4, pairMode (reg s 0xA100) p.val ≠ 0 → s.line.pairs[p].st ≠ .latched → t.line.pairs[p].st = .off) ∧
    (∀ p : Fin 4, pairMode (reg s 0xA100) p.val = 0 ∨ s.line.pairs[p].st = .latched → t.line.pairs[p] = s.line.pairs[p]) ∧
    (coreRun s = true → Raised [(0x1121, 5, 0xFFF, [0xF, m.vf, m.lpn, m.i])] s t) ∧ Frame [.line, .log] (· = 0xC180) s t) ∧
  (∀ (s : State), s.line.ov = true → Completes .lineOvClear s fun t =>
    t.line.ov = false ∧
    (∀ p : Fin 4, pairMode (reg s 0xA100) p.val ≠ 0 → s.line.pairs[p].st ≠ .latched → t.line.pairs[p].st = lfNextSt s p s.line.vfGnd s.line.railOk false) ∧
    (∀ p : Fin 4, pairMode (reg s 0xA100) p.val = 0 ∨ s.line.pairs[p].st = .latched → t.line.pairs[p] = s.line.pairs[p]) ∧
    Frame [.line, .log] (· = 0xC180) s t) ∧
  (∀ (s : State) (m : LfMeas), s.line.node ≠ .off → Completes (.railRecheck m) s fun t =>
    t.line.vf = m.vf ∧ t.line.railOk = railAccepted m.vf ∧
    (∀ p : Fin 4, pairMode (reg s 0xA100) p.val ≠ 0 → s.line.pairs[p].st = .off → feeding s = true →
      t.line.pairs[p].st = lfNextSt s p (m.vf == 0) (railAccepted m.vf) s.line.ov) ∧
    (∀ p : Fin 4, pairMode (reg s 0xA100) p.val = 0 ∨ s.line.pairs[p].st = .latched → t.line.pairs[p] = s.line.pairs[p]) ∧
    (∀ p : Fin 4, m.vf ≠ 0 → s.line.pairs[p].st ≠ .off ∨ feeding s = false → t.line.pairs[p] = s.line.pairs[p]) ∧
    (∀ p : Fin 4, m.vf = 0 → pairMode (reg s 0xA100) p.val ≠ 0 → s.line.pairs[p].st ≠ .latched → t.line.pairs[p].st = .off) ∧
    Frame [.line, .log] (· = 0xC180) s t)

/-- Supervision (R48, R59, R65, R328, R389): the thermal thresholds and the fall of VLB are taken as chapter 3 says. The values of a payload of the
whole node are the model's choice (log entry 105). -/
def Obligations.ThermalAndPowerFailComplete : Prop :=
  (∀ (s : State) (T : Int), coreRun s = true → s.line.therm = 0 → Completes (.thermalWarn T) s fun t =>
    t.line = { s.line with therm := 1, temp := BitVec.ofInt 8 T } ∧ Raised [(0x1130, 2, 0xFFF, nodeVals s)] s t ∧
    Frame [.line, .log] (· = 0xC180) s t) ∧
  (∀ (s : State) (T : Int), coreRun s = true → s.line.therm ≠ 0 → Completes (.thermalRestore T) s fun t =>
    t.line = { s.line with therm := 0, temp := BitVec.ofInt 8 T } ∧ Frame [.line] (fun _ => False) s t) ∧
  (∀ (s : State) (T : Int), s.line.core = true → Completes (.thermalOff T) s fun t =>
    t.line.node = .ember ∧ t.line.core = false ∧ t.line.thermOff = true ∧ t.pilot.slept = false ∧ t.boot.phase = .reset ∧
    reg t 0xA100 = reg s 0xA100 ∧ 
    (s.mram.gasp.rec_.sev ≤ 7 → t.mram.gasp.valid = true ∧ t.mram.gasp.consumed = false ∧ t.mram.gasp.rec_.code = 0x1132) ∧
    (∀ p : Fin 4, pairMode (reg s 0xA100) p.val = 0 → t.line.pairs[p] = s.line.pairs[p])) ∧
  (∀ (s : State) (T : Int), s.line.thermOff = true → s.line.uvlo = true → s.line.node = .ember → s.pilot.slept = false →
    Completes (.thermalRestart T) s fun t =>
    t.line.thermOff = false ∧ t.line.node = .startup ∧ t.line.core = true ∧ t.line.por = true ∧ t.mram.pwrcyc = s.mram.pwrcyc + 1 ∧
    Frame [.line, .boot, .mram, .pilot] (fun _ => False) s t) ∧
  (∀ (s : State) (T : Int), s.line.thermOff = true → s.line.uvlo = false → Completes (.thermalRestart T) s fun t =>
    t.line = { s.line with thermOff := false, temp := BitVec.ofInt 8 T } ∧ Frame [.line] (fun _ => False) s t) ∧
  (∀ (s : State), s.line.core = true → Completes .uvloFalling s fun t =>
    t.line.node = .ember ∧ t.line.core = false ∧ t.line.uvlo = false ∧ t.pilot.slept = false ∧ t.boot.phase = .reset ∧
    reg t 0xA100 = reg s 0xA100)

/-- Local service shed (R48, R65, R227, R381, R396): at 130 °C and at the power-fail warning no local port stays UP, and every lane that was UP stays
so; the warning loses the events that wait and writes the statistics where the hold-up energy allows. The values of a payload of the whole node are
the model's choice (log entry 105). -/
def Obligations.ServiceSheddingComplete : Prop :=
  (∀ (s : State) (T : Int), coreRun s = true → s.line.therm ≠ 2 → Completes (.thermalShed T) s fun t =>
    t.line = { s.line with therm := 2, temp := BitVec.ofInt 8 T } ∧ LocalShed s t ∧ (∀ l : Fin 4, laneUp t l = laneUp s l) ∧
    ∃ evs, t.log.raised = s.log.raised ++ mkEvent s 0x1131 5 0xFFF (nodeVals s) :: evs) ∧
  (∀ (s : State) (energyOk : Bool), s.line.core = true → s.line.shed = false → Completes (.powerFail energyOk) s fun t =>
    t.line = { s.line with shed := true } ∧ LocalShed s t ∧ (∀ l : Fin 4, laneUp t l = laneUp s l) ∧ t.log.raised = [] ∧ t.log.fifo = [] ∧
    t.mram.stats = (if energyOk then s.log.stats else s.mram.stats))

/-- The load of the Beneb image (R69 to R82): the header, the directory and the sections are read one after another, each checked, and an
image without a tag, or with the tag of its key, commits, the node in RUN; any other tag leads to REPEATER. A profile switch (R86 to R88): a
request of the host with the magic word that nothing forbids starts the verify step, and a complete read that matches what start-up retained
ends the verify step and the load step. -/
def Obligations.ImageLoadAndSwitchRowsComplete : Prop :=
  (∀ (s : State), coreRun s = true → s.boot.phase = .nvmWait → bscan s = false → Completes .nvmWaitDone s fun t =>
    t.boot.phase = .header ∧ t.boot.attempt = 0 ∧ t.boot.blanks = 0 ∧ t.out = .nvm 0x03 0 120 [] :: s.out ∧
    Frame [.boot, .out] (fun _ => False) s t) ∧
  (∀ (s : State) (d : Bytes), coreRun s = true → s.boot.phase = .header → bscan s = false → headerCrcOk (d.take 64) = true →
    headerFieldsOk (d.take 64) = true → (byteAt (d.take 64) 14).testBit 0 = s.otp.img.isSome → lfCrcOk (d.drop 64) = true →
    (s.otp.img.isSome = true → slice (d.drop 64) 24 32 = hmac (s.otp.img.getD []) ((d.drop 64).take 24)) →
    lfFieldsOk (d.drop 64) s.otp.img.isSome (byteAt (d.take 64) 15) = true → (byteAt (d.take 64) 15).testBit s.boot.psel = true →
    Completes (.headerReceived d) s fun t =>
      t.boot.phase = .loading ∧ t.boot.sections = beAt (d.take 64) 12 2 ∧ t.boot.profiles = byteAt (d.take 64) 15 ∧
      t.boot.imageId = beAt (d.take 64) 16 8 ∧ t.boot.imgLen = beAt (d.take 64) 8 4 ∧ t.boot.attempt = 0 ∧
      reg t 0xA100 = BitVec.ofNat 32 (beAt (d.drop 64) (4 + 4 * s.boot.psel) 4) ∧
      Frame [.boot, .line, .log, .out] (fun o => o = 0xA100 ∨ o = 0xC180) s t) ∧
  (∀ (s : State) (d : Bytes), coreRun s = true → s.boot.phase = .loading → bscan s = false → s.boot.dirSeen = false →
    d.length = 16 * s.boot.sections + 4 → beAt d (16 * s.boot.sections) 4 = (crc32 (d.take (16 * s.boot.sections))).toNat →
    dirOk d s.boot.sections s.boot.profiles s.boot.imgLen (imgAuth s) = true → Completes (.sectionReceived d) s fun t =>
      t.boot.phase = .loading ∧ t.boot.dirSeen = true ∧ t.boot.next = 0 ∧ t.boot.attempt = 0 ∧ t.boot.dir.length = s.boot.sections ∧
      Frame [.boot, .log, .out] (· = 0xC180) s t) ∧
  (∀ (s : State) (d : Bytes) (e : DirEnt), coreRun s = true → s.boot.phase = .loading → bscan s = false → s.boot.dirSeen = true →
    s.boot.dir[s.boot.next]? = some e → (d.drop (e.offset - readFrom s s.boot.next e)).length = e.length →
    (crc32 (d.drop (e.offset - readFrom s s.boot.next e))).toNat = e.crc → bodyOk e.type (d.drop (e.offset - readFrom s s.boot.next e)) = true →
    s.boot.next + 1 < s.boot.dir.length → Completes (.sectionReceived d) s fun t =>
      t.boot.phase = .loading ∧ t.boot.next = s.boot.next + 1 ∧ t.boot.attempt = 0 ∧ t.boot.dir = s.boot.dir ∧
      Frame [.boot, .log, .out] (· = 0xC180) s t) ∧
  (∀ (s : State) (d : Bytes), coreRun s = true → s.boot.phase = .loading → bscan s = false → s.boot.dirSeen = true →
    s.boot.dir[s.boot.next]? = none → Completes (.sectionReceived d) s fun t =>
      t.boot = { s.boot with phase := .loaded, loaded := true, tag := d } ∧ Frame [.boot] (fun _ => False) s t) ∧
  (∀ (s : State) (tail : Bytes), coreRun s = true → s.boot.phase = .loaded → bscan s = false → Completes (.tagResult tail) s fun t =>
    if imgAuth s = false ∨ s.boot.tag = hmac (s.otp.img.getD []) (hashed s tail) then
      t.boot.phase = .committed ∧ t.boot.committed = true ∧ t.boot.everRun = true ∧ t.boot.active = s.boot.psel ∧ t.line.node = .run
    else t.boot.phase = .repeater ∧ t.boot.committed = false ∧ t.boot.cause = 0xC005 ∧ t.line.node = .repeater) ∧
  (∀ (s : State) (v : Word), reqAlive s .host = true → bitAt v 8 = true → fld v 31 16 = 0xC9A5 →
    s.boot.flags.testBit 2 = true → switchReason s (fld v 1 0) = 0 → Completes (.profileSwitchRequest .host 0xF v) s fun t =>
      t.boot.phase = .switchVerify ∧ t.boot.target = fld v 1 0 ∧ t.boot.reqSource = 3 ∧ t.boot.attempt = 0 ∧ t.boot.checked = false ∧
      t.boot.active = s.boot.active) ∧
  (∀ (s : State) (lf : Bytes) (secs : List Bytes), coreRun s = true → s.boot.phase = .switchVerify → s.boot.checked = false →
    bscan s = false → switchBad s lf secs = none → Completes (.switchVerifyDone lf secs) s fun t =>
      t.boot.phase = .switchVerify ∧ t.boot.checked = true ∧ t.boot.attempt = 0 ∧ Frame [.boot, .log] (· = 0xC180) s t) ∧
  (∀ (s : State) (lf : Bytes) (secs : List Bytes), coreRun s = true → s.boot.phase = .switchLoad → s.boot.checked = false →
    bscan s = false → switchBad s lf secs = none → Completes (.switchLoadDone lf secs) s fun t =>
      t.boot.phase = .switchLoad ∧ t.boot.checked = true ∧ t.boot.attempt = 0 ∧ t.boot.types = profTypes s s.boot.target ∧
      t.line = s.line ∧ t.lanes = s.lanes ∧ t.inaug = s.inaug ∧ t.tb = s.tb)

/-- Boundary scan (R44 to R46): each instruction goes into the TAP, every code that Table 2-12 does not name as BYPASS; a scan takes one bit in
and one bit out for each bit at TDI, through the identification, boundary or bypass register; an instruction that takes hold of the balls is
reported as BSCAN_ACTIVE, and one that lets them go starts a read of the NVM that it cut afresh. -/
def Obligations.TapInstructionsComplete : Prop :=
  (∀ (s : State), Completes .tapReset s fun t => t.tap = 1 ∧ LeavesBalls [] [] s t) ∧
  (∀ (s : State) (tdi : List Bool), Completes (.tapIdcode tdi) s fun t => t.tap = 1 ∧ LeavesBalls (regBits 32 idWord) tdi s t) ∧
  (∀ (s : State) (code : BitVec 6) (tdi : List Bool), 4 < code.toNat → Completes (.tapBypass code tdi) s fun t =>
    t.tap = 0x3F ∧ LeavesBalls [false] tdi s t) ∧
  (∀ (s : State) (tdi : List Bool), Completes (.tapSamplePreload tdi) s fun t =>
    t.tap = 2 ∧ LeavesBalls (regBits 240 (Config.boundaryCapture s.free).toNat) tdi s t ∧
    (tdi.length = 240 → ∀ i < 240, t.bcells.getLsbD i = tdi.getD i false)) ∧
  (∀ (s : State) (tdi : List Bool), Completes (.tapExtest tdi) s fun t =>
    TakesBalls 0 (regBits 240 (Config.boundaryCapture s.free).toNat) tdi s t ∧
    (tdi.length = 240 → ∀ i < 240, t.bcells.getLsbD i = tdi.getD i false)) ∧
  (∀ (s : State) (tdi : List Bool), Completes (.tapHighz tdi) s fun t => TakesBalls 3 [false] tdi s t ∧ t.bcells = s.bcells) ∧
  (∀ (s : State) (tdi : List Bool), Completes (.tapClamp tdi) s fun t => TakesBalls 4 [false] tdi s t ∧ t.bcells = s.bcells)

/-- The training of a lane (Table 5-4, R100 to R102): energy leads to TRAIN in the highest mode both ends allow, margin to LOCK, a link
message of the right lane and UID to CHECK, and a clean millisecond to UP; a HELD message holds it in DETECT. -/
def Obligations.LaneTrainingReachesUp : Prop :=
  (∀ (s : State) (l : Fin 4), coreRun s = true → s.lanes[l].st = .detect → Completes (.detectEnergy l false) s fun t =>
    t.lanes[l].st = .train ∧ (laneI1g s l = true → t.lanes[l].mode = 3) ∧
    (laneI1g s l = false → commonModes s l ≠ 0 → t.lanes[l].mode = highestMode (commonModes s l)) ∧
    (∀ k : Fin 4, k ≠ l → t.lanes[k] = s.lanes[k]) ∧ Frame [.lanes] (fun _ => False) s t) ∧
  (∀ (s : State) (l : Fin 4), Completes (.detectEnergy l true) s fun t => Frame [] (fun _ => False) s t) ∧
  (∀ (s : State) (l : Fin 4), coreRun s = true → s.lanes[l].st = .train → Completes (.trainDone l) s fun t =>
    t.lanes[l] = { s.lanes[l] with st := .lock } ∧ (∀ k : Fin 4, k ≠ l → t.lanes[k] = s.lanes[k]) ∧ Frame [.lanes] (fun _ => False) s t) ∧
  (∀ (s : State) (l : Fin 4) (msg : Bytes), coreRun s = true → s.lanes[l].st = .lock → laneI1g s l = true → Completes (.lockAchieved l msg) s fun t =>
    t.lanes[l] = { s.lanes[l] with st := .check } ∧ (∀ k : Fin 4, k ≠ l → t.lanes[k] = s.lanes[k]) ∧ Frame [.lanes] (fun _ => False) s t) ∧
  (∀ (s : State) (l : Fin 4) (msg : Bytes), coreRun s = true → s.lanes[l].st = .lock → laneI1g s l = false → byteAt msg 0 = 0x4C →
    byteAt msg 1 % 2 = l.val % 2 → (s.lanes[sisterLane l].st = .up → s.lanes[sisterLane l].farUid = beAt msg 4 8) →
    Completes (.lockAchieved l msg) s fun t =>
      t.lanes[l].st = .check ∧ t.lanes[l].farUid = beAt msg 4 8 ∧ t.lanes[l].farModes = byteAt msg 2 % 4 ∧
      (∀ k : Fin 4, k ≠ l → t.lanes[k] = s.lanes[k]) ∧ Frame [.lanes] (fun _ => False) s t) ∧
  (∀ (s : State) (l : Fin 4) (msg : Bytes), coreRun s = true → s.lanes[l].st = .lock → laneI1g s l = false → byteAt msg 0 = 0x4C →
    byteAt msg 1 % 2 ≠ l.val % 2 → Completes (.lockAchieved l msg) s fun t =>
      t.lanes[l].st = .held ∧ (∀ k : Fin 4, k ≠ l → t.lanes[k] = s.lanes[k]) ∧ Frame [.lanes, .log] (· = 0xC180) s t) ∧
  (∀ (s : State) (l : Fin 4), coreRun s = true → s.lanes[l].st = .check → laneI1g s l = false → laneUp s (sisterLane l) = true →
    s.lanes[sisterLane l].farUid = s.lanes[l].farUid →
    s.lanes[l].mode = highestMode (commonModes s l) → 1 ≤ s.lanes[l].mode → s.lanes[l].mode ≤ designMode s l →
    s.sch.fold.getLsbD l.val = false → upAtDesign s (sisterLane l) = true → Completes (.checkDone l) s fun t =>
      t.lanes[l].st = .up ∧ t.lanes[l].health = 0 ∧ (∀ k : Fin 4, k ≠ l → t.lanes[k] = s.lanes[k]) ∧
      RaisedIn (segOf s (portOf l)) [(0x2001, 0, l.val, [l.val, s.lanes[l].mode, s.lanes[l].snr, s.lanes[l].farUid])] s t ∧
      Frame [.lanes, .log] (· = 0xC180) s t) ∧
  (∀ (s : State) (l : Fin 4), coreRun s = true → s.lanes[l].st = .check → laneI1g s l = false → laneUp s (sisterLane l) = false →
    Completes (.checkDone l) s fun t => t.lanes[l].st = .up ∧ t.lanes[l].health = 0 ∧ portLinked t (portOf l) = !portI1g s (portOf l)) ∧
  (∀ (s : State) (l : Fin 4), coreRun s = true → s.lanes[l].st = .check → laneI1g s l = true → Completes (.checkDone l) s fun t =>
    t.lanes[l].st = .up ∧ t.lanes[l].health = 0 ∧ (∀ k : Fin 4, k ≠ l → t.lanes[k] = s.lanes[k]))

/-- What a lane does when training fails or the link is lost (Table 5-4, R100, R106, R107): the lower common mode or HELD, one repeat after a
lock timeout, DOWN_WAIT and its end, HELD and its end. -/
def Obligations.LaneLossesAndRetriesComplete : Prop :=
  (∀ (s : State) (l : Fin 4), coreRun s = true → s.lanes[l].st = .train → s.lanes[l].mode = 1 → commonModes s l / 2 % 2 = 1 →
    Completes (.trainTimeout l) s fun t =>
      t.lanes[l].st = .train ∧ t.lanes[l].mode = 2 ∧ t.lanes[l].fallback = true ∧ (∀ k : Fin 4, k ≠ l → t.lanes[k] = s.lanes[k]) ∧
      Frame [.lanes] (fun _ => False) s t) ∧
  (∀ (s : State) (l : Fin 4), coreRun s = true → s.lanes[l].st = .train → s.lanes[l].mode ≠ 1 → Completes (.trainTimeout l) s fun t =>
    t.lanes[l].st = .held ∧ (∀ k : Fin 4, k ≠ l → t.lanes[k] = s.lanes[k]) ∧
    RaisedIn (segOf s (portOf l)) [(0x2008, 5, l.val, [l.val, s.lanes[l].mode, s.lanes[l].snr, s.lanes[l].farUid, 2])] s t ∧ Frame [.lanes, .log] (· = 0xC180) s t) ∧
  (∀ (s : State) (l : Fin 4), coreRun s = true → s.lanes[l].st = .lock → s.lanes[l].again = false → Completes (.lockTimeout l) s fun t =>
    t.lanes[l] = { s.lanes[l] with st := .train, again := true } ∧ Frame [.lanes] (fun _ => False) s t) ∧
  (∀ (s : State) (l : Fin 4), coreRun s = true → s.lanes[l].st = .check → s.lanes[l].mode = 1 → commonModes s l / 2 % 2 = 1 →
    Completes (.checkFail l) s fun t =>
      t.lanes[l].st = .train ∧ t.lanes[l].mode = 2 ∧ Counted (0x1124 + 0x100 * l.val) 1 s t) ∧
  (∀ (s : State) (l : Fin 4) (corr : Nat), coreRun s = true → s.lanes[l].st = .up → s.lanes[l].farRetAny = false →
    Completes (.lossOfLock l corr 0) s fun t =>
      t.lanes[l].st = .downWait ∧ t.lanes[l].mode = 0 ∧ t.lanes[l].lossAt = some s.now ∧ t.lanes[l].losses = s.now :: recentLosses s l ∧
      Counted (0x1120 + 0x100 * l.val) corr s t ∧
      (laneUp s (sisterLane l) = true → t.lanes[sisterLane l] = s.lanes[sisterLane l]) ∧
      (laneUp s (sisterLane l) = false → laneI1g s l = false → t.lanes[l].byEnd = true ∧ portLinked t (portOf l) = false)) ∧
  (∀ (s : State) (l : Fin 4) (n : Nat), s.lanes[l].lossAt = some n → s.lanes[l].byEnd = true ∨ s.lanes[l].st = .retired → Completes (.lossClassify l) s fun t =>
    t.lanes[l] = { s.lanes[l] with lossAt := none } ∧ Frame [.lanes] (fun _ => False) s t) ∧
  (∀ (s : State) (l : Fin 4) (n : Nat), s.lanes[l].lossAt = some n → s.lanes[l].byEnd = false → s.lanes[l].st ≠ .retired → Completes (.lossClassify l) s fun t =>
    t.lanes[l].lossAt = none ∧ Counted (0x113C + 0x100 * l.val) 1 s t) ∧
  (∀ (s : State) (l : Fin 4), coreRun s = true → s.lanes[l].st = .downWait → fld (laneThr s l) 27 24 = 0 →
    Completes (.downWaitExpiry l) s fun t => t.lanes[l] = toDetect s.lanes[l] ∧ t.lanes[l].st = .detect ∧ Frame [.lanes] (fun _ => False) s t) ∧
  (∀ (s : State) (l : Fin 4), coreRun s = true → s.lanes[l].st = .downWait → fld (laneThr s l) 27 24 ≠ 0 →
    fld (laneThr s l) 27 24 ≤ (recentLosses s l).length → Completes (.downWaitExpiry l) s fun t =>
      t.lanes[l].st = .held ∧ RaisedIn (segOf s (portOf l)) [(0x2006, 5, l.val, [l.val, s.lanes[l].mode, s.lanes[l].snr, s.lanes[l].farUid])] s t ∧
      Frame [.lanes, .log] (· = 0xC180) s t) ∧
  (∀ (s : State) (l : Fin 4), coreRun s = true → s.lanes[l].st = .held → Completes (.heldExit l) s fun t =>
    t.lanes[l] = toDetect s.lanes[l] ∧ t.lanes[l].st = .detect ∧ (∀ k : Fin 4, k ≠ l → t.lanes[k] = s.lanes[k]) ∧
    Frame [.lanes] (fun _ => False) s t)

/-- What a lane in UP does (R100, R101, R104, R105, Table 5-10): N10 offered again, the health of a window, adaptation frozen below MARG_BAD
and otherwise by single steps, link messages out and in, and a frame with a bad header counted and dropped. -/
def Obligations.LaneServiceRowsComplete : Prop :=
  (∀ (s : State) (l : Fin 4), s.lanes[l].st = .up → Completes (.laneN10Reoffer l) s fun t =>
    t.lanes[l] = { s.lanes[l] with n10Off := false } ∧ Frame [.lanes] (fun _ => False) s t) ∧
  (∀ (s : State) (l : Fin 4) (m : Int) (snr corr : Nat), coreRun s = true → s.lanes[l].st = .up → m < (fld (laneThr s l) 15 8 : Nat) →
    s.lanes[l].health ≠ 2 → Completes (.healthWindow l m snr corr 0) s fun t =>
      t.lanes[l].health = 2 ∧ t.lanes[l].goodRun = 0 ∧ t.lanes[l].unc = 0 ∧ t.lanes[l].snr = snr % 65536 ∧
      Counted (0x1120 + 0x100 * l.val) corr s t ∧
      RaisedIn (segOf s (portOf l)) [(0x2005, 3, l.val, [l.val, s.lanes[l].mode, snr % 65536, s.lanes[l].farUid])] s t ∧
      (∀ k : Fin 4, k ≠ l → t.lanes[k] = s.lanes[k])) ∧
  (∀ (s : State) (l : Fin 4) (m : Int) (want : List Int) (ffe : Bytes), coreRun s = true → s.lanes[l].st = .up → laneI1g s l = false →
    m < (fld (laneThr s l) 15 8 : Nat) → regB s 0xB004 2 = true → Completes (.eqAdapt l m want ffe) s fun t =>
      t.lanes[l] = { s.lanes[l] with low := true } ∧ Frame [.lanes] (fun _ => False) s t) ∧
  (∀ (s : State) (l : Fin 4) (m : Int) (want : List Int) (ffe : Bytes), coreRun s = true → s.lanes[l].st = .up → laneI1g s l = false →
    (fld (laneThr s l) 15 8 : Nat) ≤ m → regB s 0xB004 2 = true → Completes (.eqAdapt l m want ffe) s fun t =>
      t.lanes[l].low = false ∧ t.lanes[l].taps.length = s.lanes[l].taps.length ∧
      t.lanes[l].ffeReq = [signed 8 (byteAt ffe 0), signed 8 (byteAt ffe 1), signed 8 (byteAt ffe 2)] ∧ Frame [.lanes] (fun _ => False) s t) ∧
  (∀ (s : State) (l : Fin 4) (m : Int) (want : List Int) (ffe : Bytes), regB s 0xB004 2 = false → Completes (.eqAdapt l m want ffe) s fun t =>
    Frame [] (fun _ => False) s t) ∧
  (∀ (s : State) (l : Fin 4) (stamp : Nat), linkOn s l = true → Completes (.linkMessageTx l stamp) s fun t =>
    t.out = .link l.val (linkMsg s l) :: s.out ∧ t.lanes[l].seq = (s.lanes[l].seq + 1) % 256 ∧
    (∀ k : Fin 4, k ≠ l → t.lanes[k] = s.lanes[k]) ∧ Frame [.lanes, .out] (fun _ => False) s t) ∧
  (∀ (s : State) (l : Fin 4) (msg : Bytes) (stamp : Nat), linkOn s l = true → s.lanes[l].st ≠ .downWait → s.lanes[l].st ≠ .held →
    msg.length = 37 → byteAt msg 0 = 0x4C → (byteAt msg 3).testBit 3 = false → s.lanes[l].pdWait = none →
    Completes (.linkMessageRx l msg stamp) s fun t =>
      t.lanes[l].farModes = byteAt msg 2 % 4 ∧ t.lanes[l].farFlags = byteAt msg 3 ∧ t.lanes[l].farUid = beAt msg 4 8 ∧
      t.lanes[l].farSnr = beAt msg 16 2 ∧ t.lanes[l].rseq = some (byteAt msg 18) ∧ t.lanes[l].rxs = stamp % 2 ^ 48 ∧
      t.lanes[l].heldSeen = (byteAt msg 3).testBit 4 ∧ (∀ k : Fin 4, k ≠ l → t.lanes[k] = s.lanes[k]) ∧ Frame [.lanes] (fun _ => False) s t) ∧
  (∀ (s : State) (l : Fin 4) (r : RxFrame), coreRun s = true → laneUp s l = true → laneI1g s l = false → r.startBad = false →
    hcrcOk r.bytes = false → Completes (.nativeFrameRx l (.frame r)) s fun t =>
      Counted (0x1128 + 0x100 * l.val) 1 s t ∧ t.lanes[l].fecErr = s.lanes[l].fecErr + 1 ∧ t.sw.ports = s.sw.ports ∧ t.sg = s.sg) ∧
  (∀ (s : State) (l : Fin 4) (r : RxFrame), coreRun s = true → laneUp s l = true → laneI1g s l = false → r.startBad = false →
    hcrcOk r.bytes = true → (readHdr r.bytes).kind = 8 → (readHdr r.bytes).dtype = 4 → byteAt (payloadOf r.bytes) 0 = 0x50 →
    (readHdr r.bytes).len = 8 → (readHdr r.bytes).hops ≠ 255 → (readHdr r.bytes).src ≠ 0 → regB s 0x4100 0 = false → r.unc = 0 → r.cut = false →
    trailerOk r.bytes = true → Completes (.nativeFrameRx l (.frame r)) s fun t =>
      t.sw.pause[l].rx = BitVec.ofNat 8 (byteAt (payloadOf r.bytes) 1) ∧ Counted (0x1148 + 0x100 * l.val) 1 s t)

/-- The line code (R95 to R98): a block reads back as the type and data it was sent with; the scrambler's stream descrambles to its data; 160
symbols carry the 320 bits of a block; and a frame sent as blocks is received as it was, whatever the line carried before. -/
def Obligations.LineCodeRoundTrip : Prop :=
  (∀ (b : BlockType) (d : List Bool), d.length = 300 → decodeBlock (encodeBlock b d) = some { type := b, data := d, corr := 0 }) ∧
  (∀ (last d : List Bool), descramble last (scramble last d).1 = (d, (scramble last d).2)) ∧
  (∀ (b : List Bool), b.length = 320 → (blockSymbols b).length = 160 ∧ symbolsBlock (blockSymbols b) = b) ∧
  (∀ (last : List Bool) (f : Bytes) (stamp : Nat), 28 ≤ f.length → f.length = 28 + (readHdr f).len →
    rxFrame (.line last (sendBlocks last (frameBlocks f)) stamp) = { bytes := f, startBad := false, unc := 0, cut := false, stamp := stamp }) ∧
  (∀ (s : State) (l : Fin 4) (r : LaneRx), exec (.nativeFrameRx l r) s = exec (.nativeFrameRx l (.frame (rxFrame r))) s)

/-- The timers of inauguration (Table 6-5, R128): a node in LISTEN that is eligible starts a run under the next number, an incomplete run
starts again, an unconfirmed ASSIGN is resent, and FOLLOW and JOINING fall back to LISTEN. -/
def Obligations.InaugurationTimersComplete : Prop :=
  (∀ (s : State) (seg : Fin 2), dawnUp s = true → s.inaug[seg].st = .listen → eligible s = true → segPorts s seg ≠ [] → Completes (.listenTimeout seg) s fun t =>
    t.inaug[seg] = { s.inaug[seg] with st := .conduct, run := (s.inaug[seg].run + 1) % 65536, reports := [], back := none, sent := none, confirms := [], resends := 0, adopted := none } ∧ (∀ g : Fin 2, g ≠ seg → t.inaug[g] = s.inaug[g]) ∧ Counted 0x2040 1 s t ∧
    SendFrame [.inaug] (· = 0x2040) s t) ∧
  (∀ (s : State) (seg : Fin 2), dawnUp s = true → s.inaug[seg].st = .conduct → s.inaug[seg].sent = none → segPorts s seg ≠ [] → Completes (.runTimeout seg) s fun t =>
    t.inaug[seg].st = .conduct ∧ t.inaug[seg].run = (s.inaug[seg].run + 1) % 65536 ∧ t.inaug[seg].restarts = s.inaug[seg].restarts + 1 ∧
    t.inaug[seg].reports = [] ∧ Counted 0x2040 1 s t ∧ Counted 0x2044 1 s t ∧
    SendFrame [.inaug] (fun o => o = 0x2040 ∨ o = 0x2044) s t) ∧
  (∀ (s : State) (seg : Fin 2), dawnUp s = true → s.inaug[seg].st = .conduct → s.inaug[seg].sent ≠ none → s.inaug[seg].resends < 3 →
    Completes (.confirmTimeout seg) s fun t =>
      t.inaug[seg] = { s.inaug[seg] with resends := s.inaug[seg].resends + 1 } ∧ (∀ g : Fin 2, g ≠ seg → t.inaug[g] = s.inaug[g]) ∧
      SendFrame [.inaug] (fun _ => False) s t) ∧
  (∀ (s : State) (seg : Fin 2), dawnUp s = true → s.inaug[seg].st = .follow → Completes (.followTimeout seg) s fun t =>
    t.inaug[seg] = { s.inaug[seg] with st := .listen, adopted := none, parts := none, seen := [] } ∧ (∀ g : Fin 2, g ≠ seg → t.inaug[g] = s.inaug[g]) ∧
    Frame [.inaug] (fun _ => False) s t) ∧
  (∀ (s : State) (seg : Fin 2), dawnUp s = true → s.inaug[seg].st = .joining → s.inaug[seg].pending = none →
    Completes (.joiningTimeout seg) s fun t =>
      t.inaug[seg] = { s.inaug[seg] with st := .listen, joinTuple := none, parts := none, seen := [] } ∧
      (∀ g : Fin 2, g ≠ seg → t.inaug[g] = s.inaug[g]) ∧ Frame [.inaug] (fun _ => False) s t) ∧
  (∀ (s : State) (p : Port), dawnUp s = true → s.inaug[segOf s p].st = .settled → p ∈ s.inaug[segOf s p].announce →
    Completes (.announceRepeat p) s fun t => t.out = (sendAnnounce s (segOf s p) p).out ∧ SendFrame [] (fun _ => False) s t)

/-- Dawn frames received during a run (Tables 6-2 and 6-5, R128 to R131): PROBE of a run no lower is adopted, REPORT is collected by the
leader, ASSIGN is applied by a follower, CONFIRM is counted by the leader, ANNOUNCE of a winning train leads to JOINING. -/
def Obligations.DawnFramesOfRunsComplete : Prop :=
  (∀ (s : State) (p : Port) (f : Bytes), DawnIn p f 1 s →
    s.inaug[segOf s p].st = .listen → lowerRun s (segOf s p) (dawnRun (payloadOf f)) = false → Completes (.probeRx p f) s fun t =>
      t.inaug[segOf s p].st = .follow ∧ t.inaug[segOf s p].adopted = some (dawnRun (payloadOf f)) ∧ t.inaug[segOf s p].upPort = p ∧
      t.inaug[segOf s p].dist = (readHdr f).hops + 1 ∧ t.inaug[segOf s p].table = s.inaug[segOf s p].table ∧ SendFrame [.inaug] (fun _ => False) s t) ∧
  (∀ (s : State) (p : Port) (f : Bytes), DawnIn p f 2 s →
    s.inaug[segOf s p].st = .conduct → (dawnRun (payloadOf f)).luid = s.uid → (dawnRun (payloadOf f)).run = s.inaug[segOf s p].run →
    s.inaug[segOf s p].sent ≠ none → Completes (.reportRx p f) s fun t =>
      t.inaug[segOf s p] = { s.inaug[segOf s p] with reports := s.inaug[segOf s p].reports.map (fun e => (e.1, newState (readReports (payloadOf f)) e.2)) ++ ((readReports (payloadOf f)).filter (fun n => n.dist != 0 && !s.inaug[segOf s p].reports.any (fun e => e.1 == p && e.2.uid == n.uid && e.2.dist == n.dist))).map (fun n => (p, n)) } ∧
      Frame [.inaug] (fun _ => False) s t) ∧
  (∀ (s : State) (p : Port) (f : Bytes) (a : RunId), DawnIn p f 3 s →
    s.inaug[segOf s p].st = .follow → s.inaug[segOf s p].adopted = some a → a.luid = (dawnRun (payloadOf f)).luid →
    a.run = (dawnRun (payloadOf f)).run → s.inaug[segOf s p].parts = none → byteAt (payloadOf f) 22 = 1 →
    s.inaug[segOf s p].seen.contains (beAt (payloadOf f) 14 2, byteAt (payloadOf f) 21) = false →
    (readEntries (payloadOf f)).any (fun e => e.uid == s.uid) = true → Completes (.assignRx p f) s fun t =>
      t.inaug[segOf s p].st = .settled ∧ t.inaug[segOf s p].epoch = beAt (payloadOf f) 14 2 ∧
      t.inaug[segOf s p].table = readEntries (payloadOf f) ∧ t.inaug[segOf s p].ring = (byteAt (payloadOf f) 1).testBit 1 ∧
      t.inaug[segOf s p].removed = [] ∧ t.inaug[segOf s p].pending = none) ∧
  (∀ (s : State) (p : Port) (f : Bytes), DawnIn p f 3 s →
    s.inaug[segOf s p].st = .settled → newer16 (beAt (payloadOf f) 14 2) s.inaug[segOf s p].epoch = true → s.inaug[segOf s p].parts = none →
    s.inaug[segOf s p].pending = none → byteAt (payloadOf f) 22 = 1 →
    s.inaug[segOf s p].seen.contains (beAt (payloadOf f) 14 2, byteAt (payloadOf f) 21) = false → beAt (payloadOf f) 16 4 ≠ 0 → Completes (.assignRx p f) s fun t =>
      t.inaug[segOf s p].st = .settled ∧ t.inaug[segOf s p].epoch = s.inaug[segOf s p].epoch ∧ t.inaug[segOf s p].table = s.inaug[segOf s p].table ∧
      t.inaug[segOf s p].pending.map (fun a => (a.epoch, a.actcyc, assignTable a)) =
        some (beAt (payloadOf f) 14 2, beAt (payloadOf f) 16 4, readEntries (payloadOf f)) ∧ SendFrame [.inaug] (fun _ => False) s t) ∧
  (∀ (s : State) (p : Port) (f : Bytes) (a : Assign), DawnIn p f 4 s →
    s.inaug[segOf s p].st = .conduct → s.inaug[segOf s p].sent = some a → (dawnRun (payloadOf f)).luid = s.uid →
    (dawnRun (payloadOf f)).run = s.inaug[segOf s p].run →
    (assignTable a).all (fun e => e.uid == s.uid || e.uid == beAt (payloadOf f) 16 8 || s.inaug[segOf s p].confirms.contains e.uid) = true →
    Completes (.confirmRx p f) s fun t =>
      t.inaug[segOf s p].st = .settled ∧ t.inaug[segOf s p].epoch = a.epoch ∧ t.inaug[segOf s p].table = assignTable a ∧
      t.inaug[segOf s p].sent = none ∧ t.inaug[segOf s p].restarts = 0) ∧
  (∀ (s : State) (p : Port) (f : Bytes), DawnIn p f 5 s →
    s.inaug[segOf s p].st = .listen → Completes (.announceRx p f) s fun t =>
      t.inaug[segOf s p].st = .joining ∧ t.inaug[segOf s p].joinPort = p ∧ t.inaug[segOf s p].joinTuple = some (dawnRun (payloadOf f)) ∧
      t.inaug[segOf s p].farN = byteAt (payloadOf f) 16 ∧ t.inaug[segOf s p].table = s.inaug[segOf s p].table ∧ SendFrame [.inaug] (fun _ => False) s t) ∧
  (∀ (s : State) (p : Port) (f : Bytes) (e : TopoEnt), DawnIn p f 6 s →
    s.inaug[segOf s p].st = .settled → s.inaug[segOf s p].ring = false → s.inaug[segOf s p].broke = none → (readHdr f).src ≠ 0 →
    s.inaug[segOf s p].table.find? (fun x => x.handle == (readHdr f).src) = some e →
    s.inaug[segOf s p].table.any (fun x => x.uid == beAt (payloadOf f) 16 8) = true → Completes (.leaveRx p f) s fun t =>
      t.inaug[segOf s p].st = .settled ∧ t.inaug[segOf s p].epoch = s.inaug[segOf s p].epoch ∧
      beAt (payloadOf f) 16 8 ∈ t.inaug[segOf s p].removed ∧ (∀ u ∈ s.inaug[segOf s p].removed, u ∈ t.inaug[segOf s p].removed) ∧
      Frame [.inaug, .tb] (fun _ => False) s t)

/-- The registers of inauguration and the ETB node (R139, R144, R146, R417): TOP_LEAD is stored and, by a node not settled, reported later; REPLAN with its magic word is taken by the leader
as a change, TOP_TIDX latches an entry, a read of TOP_ETBDATA advances the requester's index; TTDP frames are taken, sent, and missed. -/
def Obligations.TopologyRegistersAndEtbComplete : Prop :=
  (∀ (s : State) (req : Req) (be : BitVec 4) (v : Word), Reaches req 0x2004 be s → Completes (.topLeadWrite req be v) s fun t =>
    reg t 0x2004 = BitVec.ofNat 32 ((rwMerge s 0x2004 be v).toNat % 4) ∧
    (∀ g : Fin 2, s.inaug[g].st = .conduct ∨ s.inaug[g].st = .follow ∨ s.inaug[g].st = .joining → t.inaug[g] = { s.inaug[g] with owes := true }) ∧
    SendFrame [.inaug, .boot] (· = 0x2004) s t) ∧
  (∀ (s : State) (v : Word), Reaches .host 0x2008 0xF s → bitAt v 0 = true → fld v 31 16 = 0x7E9D → regB s 0x2000 10 = true →
    segGw s = false → dawnUp s = true → s.inaug[(0 : Fin 2)].reorder = false → s.inaug[(0 : Fin 2)].st = .settled → isLeader s 0 = true →
    s.inaug[(0 : Fin 2)].pending = none → s.inaug[(0 : Fin 2)].issue = none → s.inaug[(0 : Fin 2)].changes = [] → s.line.node = .run →
    Completes (.replanRequest .host 0xF v) s fun t =>
      t.inaug[(0 : Fin 2)].changes = [{ kind := 128, src := 3 }] ∧ t.inaug[(0 : Fin 2)].repSrc = 3 ∧
      t.inaug[(0 : Fin 2)].repHandle = ownHandle s 0 ∧ t.inaug[(0 : Fin 2)].table = s.inaug[(0 : Fin 2)].table ∧
      t.inaug[(1 : Fin 2)] = s.inaug[(1 : Fin 2)] ∧ Ended .host s t ∧ Frame [.inaug, .out] (fun _ => False) s t) ∧
  (∀ (s : State) (req : Req) (be : BitVec 4) (v : Word) (n : Nat), Reaches req 0x2020 be s → fld (mergeBe be (getLatch s req 0x2020) v) 7 0 = n → Completes (.topTidxLatch req be v) s fun t =>
    fld (getLatch t req 0x2020) 7 0 = n ∧
    (∀ i : Fin 4, getLatch t req (0x2024 + 4 * i.val) = (tentWords s n).getD i.val 0) ∧ Ended req s t ∧
    Frame [.latHost, .latMon, .latFar, .out] (fun _ => False) s t) ∧
  (∀ (s : State) (req : Req), reqAlive s req = true → Completes (.etbdataRead req) s fun t =>
    fld (getLatch t req 0x2068) 9 0 = (fld (getLatch s req 0x2068) 9 0 + 1) % 1024 ∧
    t.out = (if req = .host then .access 0 (regRead s .host 0x206C) :: s.out else s.out) ∧
    Frame [.latHost, .latMon, .latFar, .out] (fun _ => False) s t) ∧
  (∀ (s : State) (f : TtdpFrame), etbOn s = true → s.etb.st ≠ 0 → s.etb.st ≠ 3 → Completes (.etbFrameRx f) s fun t =>
    t.etb.heard = f.bytes :: s.etb.heard ∧ t.etb.st = (if f.topology then 2 else s.etb.st) ∧ t.free = s.free + 1 ∧ t.inaug = s.inaug ∧
    Frame [.etb, .free, .log] (· = 0xC180) s t) ∧
  (∀ (s : State), etbOn s = true → s.etb.st ≠ 0 → s.etb.st ≠ 3 → Completes .etbHelloTimer s fun t =>
    (∃ f : Bytes, t.out = .eth (20 + etbLane s) f :: s.out) ∧ Frame [.out, .free] (fun _ => False) s t) ∧
  (∀ (s : State), etbOn s = true → s.etb.st ≠ 0 → s.etb.st ≠ 3 → Completes .ttdpHelloTimeout s fun t =>
    t.etb.heard = [] ∧ t.etb.st = 1 ∧ t.etb.nodes = 0 ∧ t.etb.dir = [] ∧ Frame [.etb, .free, .log] (· = 0xC180) s t)

/-- The cycle and the waits of the time base (R156, R159 to R161, R164, R177, R188): a cycle start refills the quotas and counts the cycle, a
followed Lantern sets MUID, STEPS and the error, W without a Lantern leads to HOLDOVER, and a free candidate becomes master. The 802.1AS
ports (R173): Sync with Follow_Up, Announce and Pdelay requests leave with rising sequence numbers while the slots are open; a foreign
Sync is discarded and counted, and an answer ends the own exchange. -/
def Obligations.TimeBaseAndGptpRowsComplete : Prop :=
  (∀ (s : State), coreRun s = true → cycLen s ≠ none → s.tb.st = .locked → s.tb.begun ≠ some (cycleNo s) →
    (s.tb.served.map (fun j => decide (j < cycleNo s))).getD true = true → s.tb.reason = none → s.sch.foldEnd = 0 → s.sg.bindReq = false →
    s.inaug[(0 : Fin 2)].pending = none → segGw s = false → s.tb.accepted.any (fun a => !a.hold) = true → Completes .cycleStart s fun t =>
      t.tb.begun = some (cycleNo s) ∧ t.tb.served = some (cycleNo s) ∧ t.tb.accepted = [] ∧ t.tb.followed = none ∧ t.tb.lost = 0 ∧
      t.tb.launched = false ∧ t.tb.st = .locked ∧ t.tb.up = (accBest s.tb.accepted).map Acc.port ∧ (∀ (g : Fin 2) (b : Bool), t.sch.quota[quotaIdx g b] = refill s g b) ∧
      (∀ l : Fin 4, t.lanes[l] = { s.lanes[l] with seamWas := false }) ∧ t.sch.ctlSent = 0 ∧ t.sch.seen = [] ∧ t.sch.inStatic = true ∧ t.sch.rejPrev = s.sch.rejNow ∧
      t.sch.rejNow = [] ∧ Frame [.tb, .sch, .lanes, .free, .log, .flt] (fun o => o = 0x4088 ∨ o = 0xC180 ∨ (0xB080 ≤ o ∧ o < 0xB0B4)) s t) ∧
  (∀ (s : State) (l : Fin 4) (f : Bytes) (stamp : Nat), coreRun s = true → laneUp s l = true → laneI1g s l = false → hcrcOk f = true →
    (readHdr f).kind = 1 → (readHdr f).dtype = 4 → (readHdr f).dyn = false → (readHdr f).hops ≠ 255 → (readHdr f).len = 76 →
    trailerOk f = true → byteAt (payloadOf f) 0 = 1 → byteAt (payloadOf f) 40 = 0 → (readHdr f).src ≠ 0 → s.tb.joinStep = false → segGw s = false → pdValid s l = true →
    beyond s 0 (portOf l) (readLan (payloadOf f)).muid = true → clenOk s (readLan (payloadOf f)).clen = true →
    (readLan (payloadOf f)).steps < 255 → newer16 (readLan (payloadOf f)).epoch s.inaug[(0 : Fin 2)].epoch = false →
    cycLen s ≠ none → s.tb.st = .locked → s.tb.followed = none → s.tb.up = some (portOf l) → (readLan (payloadOf f)).hold = false →
    ((readLan (payloadOf f)).origin + s.lanes[l].delay - ttAt s.tb stamp).natAbs ≤ 100 * 4294967296 →
    Completes (.lanternRx l f stamp) s fun t =>
      t.tb.st = .locked ∧ t.tb.muid = (readLan (payloadOf f)).muid ∧ t.tb.steps = min 255 ((readLan (payloadOf f)).steps + 1) ∧
      t.tb.err = (readLan (payloadOf f)).origin + s.lanes[l].delay - ttAt s.tb stamp ∧ t.tb.startCyc = (readLan (payloadOf f)).startCyc ∧
      t.tb.accepted.length = s.tb.accepted.length + 1 ∧ t.tb.rate = rateFor s l (readLan (payloadOf f)).ratio
        ((readLan (payloadOf f)).origin + s.lanes[l].delay - ttAt s.tb stamp) ∧
      Frame [.tb, .sch, .sw, .out, .log, .free] (fun o => (0x1120 ≤ o ∧ o < 0x1500) ∨ (0x3090 ≤ o ∧ o < 0x30B8) ∨ (0x5800 ≤ o ∧ o < 0x5F00) ∨ o = 0xC180) s t) ∧
  (∀ (s : State), coreRun s = true → s.tb.st = .locked ∨ s.tb.st = .holdover → s.tb.accepted = [] → Completes .lanternWExpiry s fun t =>
    t.tb.st = .holdover ∧ t.tb.holdcyc = min 255 (max (1 + s.tb.ownHold) s.tb.holdRx) ∧ t.tb.lost = s.tb.lost ∧
    Frame [.tb, .sch, .sw, .log, .out] (fun o => o = 0xC180 ∨ LaneTx o ∨ (0x5800 ≤ o ∧ o < 0x5F00)) s t) ∧
  (∀ (s : State), coreRun s = true → s.tb.st = .free → s.tb.tableAt ≠ none → isCandidate s = true → Completes .masterFreeTimeout s fun t =>
    t.tb.st = .master ∧ t.tb.muid = s.uid ∧ t.tb.steps = 0 ∧ t.tb.startOk = true ∧ t.tb.startCyc = s.tb.startCyc ∧ Counted 0x30A0 1 s t ∧
    Frame [.tb, .log] (fun o => o = 0x30A0 ∨ o = 0xC180) s t) ∧
  (∀ (s : State) (k : Fin 8), gptpOn s k = true → slotsOpen s = true → s.tb.gptp[k].delay ≤ 800 → Completes (.gptpSyncTimer k) s fun t =>
    t.tb.gptp[k] = { s.tb.gptp[k] with syncSeq := (s.tb.gptp[k].syncSeq + 1) % 65536 } ∧ (∀ j : Fin 8, j ≠ k → t.tb.gptp[j] = s.tb.gptp[j]) ∧
    t.out = .eth (4 + k.val) (gptpMsg s k 8 s.tb.gptp[k].syncSeq []) :: .eth (4 + k.val) (gptpMsg s k 0 s.tb.gptp[k].syncSeq []) :: s.out ∧
    Frame [.tb, .out] (fun o => 0x5800 ≤ o ∧ o < 0x5D00) s t) ∧
  (∀ (s : State) (k : Fin 8), gptpOn s k = true → slotsOpen s = true → s.tb.gptp[k].delay ≤ 800 → Completes (.gptpAnnounceTimer k) s fun t =>
    t.tb.gptp[k] = { s.tb.gptp[k] with annSeq := (s.tb.gptp[k].annSeq + 1) % 65536 } ∧
    t.out = .eth (4 + k.val) (gptpMsg s k 0xB s.tb.gptp[k].annSeq []) :: s.out ∧ Frame [.tb, .out] (fun o => 0x5800 ≤ o ∧ o < 0x5D00) s t) ∧
  (∀ (s : State) (k : Fin 8), 800 < s.tb.gptp[k].delay → Completes (.gptpSyncTimer k) s fun t => Frame [] (fun _ => False) s t) ∧
  (∀ (s : State) (k : Fin 8), 800 < s.tb.gptp[k].delay → Completes (.gptpAnnounceTimer k) s fun t => Frame [] (fun _ => False) s t) ∧
  (∀ (s : State) (k : Fin 8), gptpOn s k = true → slotsOpen s = true → Completes (.gptpPdelayTimer k) s fun t =>
    t.tb.gptp[k] = { s.tb.gptp[k] with pdSeq := (s.tb.gptp[k].pdSeq + 1) % 65536, pdOut := true } ∧
    t.out = .eth (4 + k.val) (gptpMsg s k 2 s.tb.gptp[k].pdSeq []) :: s.out ∧ Frame [.tb, .out] (fun o => 0x5800 ≤ o ∧ o < 0x5D00) s t) ∧
  (∀ (s : State) (k : Fin 8) (f : Bytes), gptpOn s k = true → byteAt f 14 % 16 = 0 → Completes (.gptpFrameRx k f) s fun t =>
    Counted 0x30AC 1 s t ∧ Frame [.log] (fun o => o = 0x30AC ∨ o = 0xC180) s t) ∧
  (∀ (s : State) (k : Fin 8) (f : Bytes), gptpOn s k = true → byteAt f 14 % 16 = 10 → s.tb.gptp[k].pdOut = true → Completes (.gptpFrameRx k f) s fun t =>
    t.tb.gptp[k].pdOut = false ∧ t.tb.gptp[k].syncSeq = s.tb.gptp[k].syncSeq ∧ t.tb.gptp[k].annSeq = s.tb.gptp[k].annSeq ∧
    t.tb.gptp[k].pdSeq = s.tb.gptp[k].pdSeq ∧ Frame [.tb] (fun _ => False) s t)

/-- The common instant and its balls (R169 to R172, R237): the store flips and SG_SEQ rises, SYNCO ends its pulse, a SYNCI edge is stamped, and a
seventeenth is lost with SYNCI_OVERFLOW. -/
def Obligations.CommonInstantRowsComplete : Prop :=
  (∀ (s : State) (synci : Bool) (k : Nat), ciLatest s = some k → service s = true → s.tb.st ≠ .free → s.mon.inbuf = [] →
    (s.tb.ciServed.map (fun j => decide (j + 1 = k))).getD true = true → s.boot.phase = .committed → Completes (.commonInstant synci) s fun t =>
      t.tb.ciServed = some k ∧ t.sg.seq = (s.sg.seq + 1) % 2 ^ 32 ∧ t.sg.back = [] ∧
      Frame [.tb, .sg, .can, .sch, .log, .free, .out] (fun o => o = 0x30A4 ∨ o = 0x40AC ∨ (0x6080 ≤ o ∧ o < 0x60B0) ∨ (0x7000 ≤ o ∧ o < 0x8000) ∨ o = 0xC180) s t) ∧
  (∀ (s : State), regF s 0x3040 1 0 = 1 → Completes .syncoPulseEnd s fun t =>
    t.tb = { s.tb with synco := regB s 0x3040 2 } ∧ Frame [.tb] (fun _ => False) s t) ∧
  (∀ (s : State) (rising : Bool) (stamp : Nat), committed s = true → bscan s = false → regF s 0x3044 1 0 = 3 → s.tb.sififo.length < 16 →
    Completes (.synciEdge rising stamp) s fun t =>
      t.tb = { s.tb with sififo := s.tb.sififo ++ [(rising, unsigned 64 (ttAt s.tb stamp / 4294967296))] } ∧ Frame [.tb] (fun _ => False) s t) ∧
  (∀ (s : State) (rising : Bool) (stamp : Nat), committed s = true → bscan s = false → regF s 0x3044 1 0 = 3 → 16 ≤ s.tb.sififo.length →
    coreRun s = true → Completes (.synciEdge rising stamp) s fun t =>
      t.tb = { s.tb with synciOvf := true } ∧ Counted 0x30A8 1 s t ∧ Frame [.tb, .log] (fun o => o = 0x30A8 ∨ o = 0xC180) s t) ∧
  (∀ (s : State) (req : Req), reqAlive s req = true → Completes (.tbNowRead req) s fun t =>
    getLatch t req 0x3014 = BitVec.ofNat 32 (ttNow s / 2 ^ 32) ∧ getLatch t req 0x3018 = BitVec.ofNat 32 s.tb.ctr ∧
    getLatch t req 0x301C = BitVec.ofNat 32 (s.tb.ctr / 2 ^ 32) ∧
    t.out = (if req = .host then .access 0 (BitVec.ofNat 32 (ttNow s)) :: s.out else s.out) ∧
    Frame [.latHost, .latMon, .latFar, .out] (fun _ => False) s t) ∧
  (∀ (s : State) (req : Req), reqAlive s req = true → Completes (.sififoRead req) s fun t =>
    t.tb = { s.tb with sififo := s.tb.sififo.tail } ∧ Frame [.tb, .out] (fun _ => False) s t)

/-- The schedule and the guardian (R177, R183, R185, R187, R188, R193, R195, R200, R201): an own slot opens its path, the guardian closes an
overrun one and finds copies that differ, the dynamic segment starts, a control allowance and an own minislot send, the bound check publishes,
a fallback that the forwarding rules let start leaves on the surviving lane. The latched taking of slots and minislots is the model's (log 47). -/
def Obligations.ScheduleRowsComplete : Prop :=
  (∀ (s : State) (laneB : Bool) (gdOfs : Int) (row : Bytes), schedCommitted s = true → slotsOpen s = true → s.sch.gag = false → cycleOpen s = true →
    segGw s = false → ownRow s 0 = some row → beAt row (if laneB then 8 else 0) 2 ≠ 0xFFFF → ownHandle s 0 ≠ 0 → gdClosed s = false →
    s.sch.slotDone.contains (0, laneB) = false → s.inaug[(0 : Fin 2)].yielded = false →
    gdAccepts s 0 laneB (beAt row (if laneB then 8 else 0) 2) gdOfs = true → Completes (.staticSlotStart laneB true gdOfs) s fun t =>
      (if laneB then t.sch.openB else t.sch.openA) = some (beAt row (if laneB then 8 else 0) 2) ∧
      (if laneB then t.sch.openA else t.sch.openB) = (if laneB then s.sch.openA else s.sch.openB) ∧ t.sch.slotDone = (0, laneB) :: s.sch.slotDone ∧
      Frame [.sch, .out, .sw, .flt, .log] (fun o => SchedWords o ∨ o = 0x608C) s t) ∧
  (∀ (s : State) (laneB : Bool), coreRun s = true → (if laneB then s.sch.openB else s.sch.openA) ≠ none → Completes (.guardianCloseTimeout laneB) s fun t =>
    (if laneB then t.sch.openB else t.sch.openA) = none ∧ (if laneB then t.sch.openA else t.sch.openB) = (if laneB then s.sch.openA else s.sch.openB) ∧
    Counted 0x4198 1 s t ∧ Frame [.sch, .flt, .log] (fun o => o = 0x4198 ∨ o = 0xC180 ∨ (0xB080 ≤ o ∧ o < 0xB0B4)) s t) ∧
  (∀ (s : State), committed s = true → s.sch.plan ≠ s.sch.gdPlan → s.sch.tabFault = false → Completes .guardianTableCheck s fun t =>
    t.sch.tabFault = true ∧ t.sch.plan = s.sch.plan ∧ t.sch.gdPlan = s.sch.gdPlan ∧
    Frame [.sch, .flt, .log] (fun o => o = 0xC180 ∨ (0xB080 ≤ o ∧ o < 0xB0B4)) s t) ∧
  (∀ (s : State), coreRun s = true → s.sch.inStatic = true → Completes .dynamicSegmentStart s fun t =>
    t.sch.inStatic = false ∧ t.sch.openA = none ∧ t.sch.openB = none ∧ (s.sch.relays = [] → t.sch.kept = []) ∧
    Frame [.sch, .out, .inaug, .snuf, .sw, .log] SchedWords s t) ∧
  (∀ (s : State) (m : Nat), schedCommitted s = true → s.sch.inStatic = false → m < regF s 0x4010 11 0 → cycleOpen s = true → s.sch.miniNext ≤ m →
    m < regF s 0x4010 19 12 → s.sch.ctl.find? (fun c => decide (c.after ≤ s.now) && ctlMay s c) = none → Completes (.minislotStart m) s fun t =>
      t.sch = { s.sch with mini := m, miniNext := m + 1 } ∧ Frame [.sch] (fun _ => False) s t) ∧
  (∀ (s : State) (m : Nat) (c : Ctl), schedCommitted s = true → s.sch.inStatic = false → m < regF s 0x4010 11 0 → cycleOpen s = true →
    s.sch.miniNext ≤ m → m < regF s 0x4010 19 12 → s.sch.ctl.find? (fun c => decide (c.after ≤ s.now) && ctlMay s c) = some c → s.sch.ctlSent < 4 →
    Completes (.minislotStart m) s fun t =>
      t.sch = { s.sch with mini := m, miniNext := m + 1, ctl := t.sch.ctl, ctlSent := s.sch.ctlSent + 1 } ∧
      ((∀ (p : Port) (l : Fin 4), ctlLane s p = some l → cutoffOk s (leaveTime s (lanePort l) c.frame) = true) → t.sch.ctl = s.sch.ctl.erase c) ∧
      Frame [.sch, .out, .sw, .snuf, .log] SchedWords s t) ∧
  (∀ (s : State), schedCommitted s = true → s.inaug[upSeg s].st = .settled → Completes .boundCheckDone s fun t =>
    t.sch = { s.sch with bound := boundCheck s (upSeg s) s.inaug[upSeg s].epoch s.inaug[upSeg s].table } ∧ t.sch.bound.valid = true ∧
    t.sch.bound.epoch = s.inaug[upSeg s].epoch ∧
    (segGw s = false → Raised [(0x5002, 1, 0xFFF, [0xFFF, 0, s.inaug[upSeg s].epoch, t.sch.bound.arrive, t.sch.bound.qextra, t.sch.bound.dynuse])] s t) ∧
    Frame [.sch, .log] (· = 0xC180) s t) ∧
  (∀ (s : State) (l : Fin 4) (f : FoldOut) (st : Nat), nextFold s l = some f → s.sch.relays.all (fun r => r.lane != l) = true →
    relayAt { s with sch := { s.sch with foldOut := s.sch.foldOut.erase f } } (fallbackOf s l f) = some st → s.sch.inStatic = true →
    ((readHdr f.frame).hops = 0 → s.sch.gag = false ∧ slotsOpen s = true) → upAtDesign s l = true → gdClosed s = false →
    (match cycLen s with | some c => st % c | none => 0) + blockT (dmode s (decide (l.val % 2 = 1))) * ceilDiv (8 * f.frame.length) 300 ≤ dstart s →
    s.sch.gdPlan.any (fun e => e.seg == segOf s (portOf l) && e.laneB == decide (l.val % 2 = 1) && e.slot == (readHdr f.frame).slot && e.fb) = true →
    Completes (.fallbackEmit l) s fun t =>
      t.sch.foldOut = s.sch.foldOut.erase f ∧ t.sch.relays = s.sch.relays ∧ t.out = .native l.val f.frame :: s.out ∧ Counted 0x4090 1 s t ∧
      t.sch.ownSent = (s.sch.ownSent || decide ((readHdr f.frame).hops = 0)) ∧ Frame [.sch, .out, .sw, .log] SchedWords s t)

/-- The switch (Table 9-3, R220, R222, R224 to R228, R233): a frame of known destination joins its output's queue, the frame served next leaves or
has outlived its class, an output goes down into HOLD, comes back with its queue or, its hold time over, without it, is purged at the end of the
hold, a learned entry ages out; the pause mask received stops the classes, the mask sent is refreshed, silence clears every class, a class paused
too long is reported, and SW_FDBIDX latches. -/
def Obligations.SwitchRowsComplete : Prop :=
  (∀ (s : State) (bp : Fin 11) (f : Bytes) (stamp i : Nat) (e : FdbEnt), service s = true → bp.val < 10 → regB s (0xE100 + 0x10 * bp.val) 0 = true →
    s.sw.ports[Fin.ofNat 20 (bp.val + 4)].hst = 0 → s.line.therm ≠ 2 → s.line.shed = false → NoMirror s → 18 ≤ f.length →
    f.length ≤ regF s (0xE100 + 0x10 * bp.val) 15 4 →
    ethFcs (f.take (f.length - 4)) = f.drop (f.length - 4) → tagged f = true → beAt f 14 2 % 4096 ≠ 0 →
    vlanHas (vlanWord s (beAt f 14 2 % 4096)) bp.val = true → regB s 0x5000 2 = false → (beAt f 0 6 / 2 ^ 40).testBit 0 = false →
    fdbFind s (beAt f 0 6) (beAt f 14 2 % 4096) = [(i, e)] → e.remote = false → e.target ≠ bp.val → e.target < 10 →
    vlanHas (vlanWord s (beAt f 14 2 % 4096)) e.target = true → bitAt (vlanWord s (beAt f 14 2 % 4096)) (12 + e.target) = false →
    s.sw.ports[Fin.ofNat 20 (e.target + 4)].hst = 0 →
    occ s (Fin.ofNat 20 (e.target + 4)) (pcpClass s (beAt f 14 2 / 8192)) + cellsOf f ≤ qMax s (pcpClass s (beAt f 14 2 / 8192)) →
    Completes (.localFrameRx bp f stamp) s fun t =>
      t.sw.ports[Fin.ofNat 20 (e.target + 4)].q = s.sw.ports[Fin.ofNat 20 (e.target + 4)].q ++
        [{ frame := f, eth := true, cls := pcpClass s (beAt f 14 2 / 8192), slot := 0, inp := bp.val + 4, since := s.now, id := s.sw.fab.cur + 1 }] ∧
      (∀ p : Fin 20, p ≠ Fin.ofNat 20 (e.target + 4) → t.sw.ports[p].q = s.sw.ports[p].q) ∧ t.sw.fdb = s.sw.fdb ∧
      Counted (0x5800 + 0x40 * (bp.val + 4)) 1 s t ∧ Frame [.sw, .out] (fun o => (0x5800 ≤ o ∧ o < 0x5D00) ∨ LaneTx o) s t) ∧
  (∀ (s : State) (p : Fin 20) (i : Nat) (x : QFrame), coreRun s = true → s.sw.ports[p].hst = 0 →
    nextOut (match portLane p with | some l => s.sw.pause[l].rx | none => 0) s.sw.ports[p].q = some (i, x) →
    (lifeOf s x.cls ≠ 0 → x.copy = false → s.now ≤ x.since + lifeOf s x.cls) →
    (p.val < 4 → x.eth = false → cutoffOk s (leaveTime s p x.frame) = true) → Completes (.outputDequeue p none) s fun t =>
      leaves p x ∈ t.out ∧ t.sw.ports[p].busy = s.now + leaveTime s p x.frame ∧
      (s.sw.kept = [] → NoMirror s → t.sw.ports[p].q = dropAt s.sw.ports[p].q i ∧ (∀ o : Fin 20, o ≠ p → t.sw.ports[o].q = s.sw.ports[o].q) ∧
        Counted (0x5804 + 0x40 * p.val) 1 s t ∧ Frame [.sw, .out] (fun o => (0x5800 ≤ o ∧ o < 0x5D00) ∨ (0x1120 ≤ o ∧ o < 0x1500)) s t)) ∧
  (∀ (s : State) (p : Fin 20) (i : Nat) (x : QFrame) (bad : Option Nat), coreRun s = true → s.sw.ports[p].hst = 0 →
    nextOut (match portLane p with | some l => s.sw.pause[l].rx | none => 0) s.sw.ports[p].q = some (i, x) → x.copy = false → x.cls < 8 →
    lifeOf s x.cls ≠ 0 → x.since + lifeOf s x.cls < s.now → s.sw.kept = [] → NoMirror s → Completes (.outputDequeue p bad) s fun t =>
      t.sw.ports[p].q = dropAt s.sw.ports[p].q i ∧ (∀ o : Fin 20, o ≠ p → t.sw.ports[o].q = s.sw.ports[o].q) ∧
      Counted (0x5E08 + 0x10 * x.cls) 1 s t ∧ Frame [.sw, .out, .log] (fun o => (0x5800 ≤ o ∧ o < 0x5F00) ∨ o = 0xC180 ∨ LaneTx o) s t) ∧
  (∀ (s : State) (p : Fin 20), coreRun s = true → 4 ≤ p.val → p.val ≤ 13 → s.sw.ports[p].hst = 0 → holdTime s ≠ 0 → Completes (.portDown p) s fun t =>
    t.sw.ports[p].hst = 1 ∧ t.sw.ports[p].held = s.now ∧ t.sw.ports[p].q = s.sw.ports[p].q.filter (fun x => !x.copy) ∧ t.sw.ports[p].xoff = 0 ∧
    (∀ o : Fin 20, o ≠ p → t.sw.ports[o].hst = s.sw.ports[o].hst) ∧
    (s.sw.kept = [] → NoMirror s → Frame [.sw, .out, .log] (fun o => (0x5800 ≤ o ∧ o < 0x5F00) ∨ o = 0xC180 ∨ LaneTx o) s t ∧
      (s.sw.ports[p].q.all (fun x => !x.copy) = true →
        Raised [(0x6061, 1, p.val, [p.val]), (0x6001, 1, p.val, p.val :: perClass s.sw.ports[p].q)] s t))) ∧
  (∀ (s : State) (p : Fin 20), 4 ≤ p.val → p.val ≤ 13 → lePortOn s (p.val - 4) = true → s.sw.ports[p].hst = 1 →
    s.now < s.sw.ports[p].held + 10000 * holdTime s → Completes (.portUp p) s fun t =>
    t.sw.ports[p].hst = 0 ∧ t.sw.ports[p].q = s.sw.ports[p].q ∧ (∀ o : Fin 20, o ≠ p → t.sw.ports[o].hst = s.sw.ports[o].hst) ∧
    (NoMirror s → Raised [(0x6002, 1, p.val, [p.val]), (0x6060, 0, p.val, [p.val])] s t ∧
      Frame [.sw, .out, .log] (fun o => (0x5800 ≤ o ∧ o < 0x5D00) ∨ o = 0xC180 ∨ LaneTx o) s t)) ∧
  (∀ (s : State) (p : Fin 20), 4 ≤ p.val → p.val ≤ 13 → lePortOn s (p.val - 4) = true → s.sw.ports[p].hst = 1 →
    s.sw.ports[p].held + 10000 * holdTime s ≤ s.now → Completes (.portUp p) s fun t =>
    t.sw.ports[p].hst = 0 ∧ t.sw.ports[p].q = [] ∧
    (s.sw.kept = [] → NoMirror s → Raised [(0x6003, 2, p.val, p.val :: perClass s.sw.ports[p].q), (0x6060, 0, p.val, [p.val])] s t)) ∧
  (∀ (s : State) (p : Fin 20), coreRun s = true → s.sw.ports[p].hst = 1 → Completes (.holdExpiry p) s fun t =>
    t.sw.ports[p].hst = 2 ∧ t.sw.ports[p].q = [] ∧
    (s.sw.kept = [] → NoMirror s → (∀ o : Fin 20, o ≠ p → t.sw.ports[o].q = s.sw.ports[o].q) ∧
      Raised [(0x6003, 2, p.val, p.val :: perClass s.sw.ports[p].q)] s t ∧
      Frame [.sw, .out, .log] (fun o => (0x5800 ≤ o ∧ o < 0x5F00) ∨ o = 0xC180 ∨ LaneTx o) s t)) ∧
  (∀ (s : State) (idx : Nat) (e : FdbEnt), mget s.sw.fdb idx = some e → e.stat = false → regF s 0x5010 15 0 ≠ 0 → Completes (.fdbAgeOut idx) s fun t =>
    t.sw = { s.sw with fdb := mdel s.sw.fdb idx } ∧ Frame [.sw] (fun _ => False) s t) ∧
  (∀ (s : State) (l : Fin 4) (f : Bytes), coreRun s = true → laneUp s l = true → laneI1g s l = false → hcrcOk f = true → (readHdr f).kind = 8 →
    (readHdr f).dtype = 4 → byteAt (payloadOf f) 0 = 0x50 → (readHdr f).len = 8 → (readHdr f).hops ≠ 255 → regB s 0x4100 0 = false →
    NoMirror s → trailerOk f = true → Completes (.pauseFrameRx l f) s fun t =>
      t.sw.pause[l] = { s.sw.pause[l] with rx := BitVec.ofNat 8 (byteAt (payloadOf f) 1) } ∧ t.sw.ports = s.sw.ports ∧
      (∀ k : Fin 4, k ≠ l → t.sw.pause[k] = s.sw.pause[k]) ∧ Counted (0x5834 + 0x40 * l.val) 1 s t ∧
      Frame [.sw] (fun o => o = 0x5834 + 0x40 * l.val ∨ o = 0x5800 + 0x40 * l.val ∨ o = 0x1148 + 0x100 * l.val) s t) ∧
  (∀ (s : State) (l : Fin 4), s.sw.pause[l].tx ≠ 0 → pauseLane s l = true → pauseOpen s l = true → Completes (.pauseRefresh l) s fun t =>
    t.sw.pause[l] = { s.sw.pause[l] with due := false, seq := (s.sw.pause[l].seq + 1) % 256 } ∧
    t.out = .native l.val (pauseFrame s l s.sw.pause[l].tx) :: s.out ∧ Counted (0x5838 + 0x40 * l.val) 1 s t ∧ (NoMirror s → t.sw.ports = s.sw.ports) ∧
    Frame [.sw, .out, .log] SendCounts s t) ∧
  (∀ (s : State) (l : Fin 4), Completes (.pauseExpiry l) s fun t =>
    t.sw.pause[l] = { s.sw.pause[l] with rx := 0 } ∧ (∀ k : Fin 4, k ≠ l → t.sw.pause[k] = s.sw.pause[k]) ∧ t.sw.ports = s.sw.ports ∧
    Frame [.sw] (fun _ => False) s t) ∧
  (∀ (s : State) (l : Fin 4) (c : Fin 8), coreRun s = true → s.sw.pause[l].rx.getLsbD c.val = true → Completes (.pauseStuck l c) s fun t =>
    Raised [(0x6012, 3, l.val, [l.val, c.val])] s t ∧ Frame [.log] (· = 0xC180) s t) ∧
  (∀ (s : State) (req : Req) (be : BitVec 4) (v : Word) (n : Nat), Reaches req 0x5400 be s → fld (mergeBe be (getLatch s req 0x5400) v) 11 0 = n → Completes (.swFdbLatch req be v) s fun t =>
    fld (getLatch t req 0x5400) 11 0 = n ∧
    (∀ i : Fin 3, getLatch t req (0x5404 + 4 * i.val) = (fdbWords s n).getD i.val 0) ∧ Ended req s t ∧
    Frame [.latHost, .latMon, .latFar, .out] (fun _ => False) s t)

/-- The signal store (R252, R254, R256): the gateway's record writes its entry into the back buffer, a host write of a HOST entry joins the staging
queue, and SG_HCOMMIT.GO empties it into the back buffer. -/
def Obligations.SignalRowsComplete : Prop :=
  (∀ (s : State) (j : GwJob) (r : Nat), service s = true → lampServes s 8 = true → s.sg.jobs.head? = some j → j.todo = [r] → j.done = [] → Completes .gatewayMappingTask s fun t =>
      t.sg.jobs = s.sg.jobs.tail ∧ mget t.sg.canSeen (mapRec s r).entry = some j.stamp ∧
      (mget t.sg.back (mapRec s r).entry).bind SgBack.val =
        some (fieldGet (dataNat j.data) ((mapRec s r).flags.testBit 0) (mapRec s r).start (mapRec s r).len) ∧
      (t.sg.snap = s.sg.snap) ∧ Counted 0x6098 1 s t ∧ t.lamp = { s.lamp with slot := t.lamp.slot } ∧ Frame [.sg, .lamp] (· = 0x6098) s t) ∧
  (∀ (s : State) (off : Nat) (be : BitVec 4) (v : Word), lbusFree s = true → contiguous be = true → off < 0x100000 → s.boot.phase = .committed →
    off % 16 = 0 ∨ off % 16 = 4 → isHostEntry s (off / 16) = true → s.sg.staged.length < 1024 → regB s 0x6000 0 = false →
    Completes (.sigWindowWrite off be v) s fun t =>
      t.sg = { s.sg with staged := s.sg.staged ++ [(off / 16, off % 16 / 4, mergeBe be (hostHalf s (off / 16) (off % 16 / 4)) v)] } ∧
      t.out = .access 0 0 :: s.out ∧ Frame [.sg, .out] (fun _ => False) s t) ∧
  (∀ (s : State) (req : Req) (v : Word), Reaches req 0x6010 0xF s → bitAt v 0 = true → service s = true → Completes (.hostCommit req 0xF v) s fun t =>
    t.sg.staged = [] ∧ t.sg.back = (commitStaged s).sg.back ∧ t.sg.snap = s.sg.snap ∧ t.sg.jobs = s.sg.jobs ∧ Ended req s t ∧
    Frame [.sg, .out] (fun _ => False) s t)

/-- Clear registers (R119): where the bit is set the counters of the group read 0; one severity-6 clear record holds the bits written and the source,
with no bit set too; every other register keeps its word. -/
def Obligations.CounterClearsComplete : Prop :=
  (∀ (s : State) (req : Req) (v : Word), Reaches req 0x1004 0xF s → Completes (.bbCntClear req 0xF v) s fun t =>
    (∀ (l : Fin 4) (i : Fin 12), bitAt v l.val = true → reg t (0x1120 + 0x100 * l.val + 4 * i.val) = 0) ∧
    Raised [(0x20FF, 6, 0xFFF, [v.toNat % 16, srcCode req])] s t ∧ Ended req s t ∧
    Frame [.log, .out] (fun o => (0x1120 ≤ o ∧ o < 0x1150) ∨ (0x1220 ≤ o ∧ o < 0x1250) ∨ (0x1320 ≤ o ∧ o < 0x1350) ∨ (0x1420 ≤ o ∧ o < 0x1450) ∨
      o = 0xC180) s t) ∧
  (∀ (s : State) (req : Req) (v : Word), Reaches req 0x5F00 0xF s → Completes (.swCntClear req 0xF v) s fun t =>
    (bitAt v 0 = true → (∀ i : Fin 320, reg t (0x5800 + 4 * i.val) = 0) ∧ (∀ i : Fin 32, reg t (0x5E00 + 4 * i.val) = 0) ∧
      ∀ p : Fin 20, t.sw.ports[p] = { s.sw.ports[p] with peak := occAll s p }) ∧ (bitAt v 0 = false → t.sw = s.sw) ∧ Raised [(0x60FF, 6, 0xFFF, [v.toNat, srcCode req])] s t ∧
    Ended req s t ∧ Frame [.sw, .log, .out] (fun o => (bitAt v 0 = true ∧ 0x5800 ≤ o ∧ o < 0x5E80) ∨ o = 0xC180) s t) ∧
  (∀ (s : State) (req : Req) (v : Word), Reaches req 0x60FC 0xF s → Completes (.sgCntClear req 0xF v) s fun t =>
    (bitAt v 0 = true → ∀ i : Fin 12, reg t (0x6080 + 4 * i.val) = 0) ∧ Raised [(0x70FF, 6, 0xFFF, [v.toNat, srcCode req])] s t ∧ Ended req s t ∧
    Frame [.log, .out] (fun o => (bitAt v 0 = true ∧ 0x6080 ≤ o ∧ o < 0x60B0) ∨ o = 0xC180) s t) ∧
  (∀ (s : State) (req : Req) (v : Word), Reaches req 0x8004 0xF s → Completes (.canCntClear req 0xF v) s fun t =>
    (bitAt v 0 = true → (∀ (c : Fin 8) (i : Fin 14), reg t (0x7180 + 0x200 * c.val + 4 * i.val) = 0) ∧ ∀ i : Fin 5, reg t (0x8040 + 4 * i.val) = 0) ∧
    Raised [(0x80FF, 6, 0xFFF, [v.toNat, srcCode req])] s t ∧ Ended req s t ∧
    Frame [.log, .out] (fun o => (bitAt v 0 = true ∧ 0x7180 ≤ o ∧ o < 0x8054) ∨ o = 0xC180) s t) ∧
  (∀ (s : State) (req : Req) (v : Word), Reaches req 0x96FC 0xF s → Completes (.hbCntClear req 0xF v) s fun t =>
    (bitAt v 0 = true → ∀ i : Fin 14, reg t (0x9600 + 4 * i.val) = 0) ∧ Raised [(0x90FF, 6, 0xFFF, [v.toNat, srcCode req])] s t ∧ Ended req s t ∧
    Frame [.log, .out] (fun o => (bitAt v 0 = true ∧ 0x9600 ≤ o ∧ o < 0x9638) ∨ o = 0xC180) s t) ∧
  (∀ (s : State) (req : Req) (v : Word), Reaches req 0xA3FC 0xF s → Completes (.pwrCntClear req 0xF v) s fun t =>
    t.mram = (if bitAt v 0 then { s.mram with pwrCnt := [] } else s.mram) ∧ Raised [(0x10FF, 6, 0xFFF, [v.toNat, srcCode req])] s t ∧ Ended req s t ∧
    Frame [.mram, .log, .out] (· = 0xC180) s t) ∧
  (∀ (s : State) (req : Req) (v : Word), Reaches req 0xB0FC 0xF s → Completes (.fltCntClear req 0xF v) s fun t =>
    (bitAt v 0 = true → (∀ i : Fin 13, reg t (0xB080 + 4 * i.val) = 0) ∧ ∀ i : Fin 256, reg t (0xB800 + 4 * i.val) = 0) ∧
    Raised [(0xA0FF, 6, 0xFFF, [v.toNat, srcCode req])] s t ∧ Ended req s t ∧
    Frame [.log, .out] (fun o => (bitAt v 0 = true ∧ 0xB080 ≤ o ∧ o < 0xBC00) ∨ o = 0xC180) s t) ∧
  (∀ (s : State) (req : Req) (v : Word), Reaches req 0xC1FC 0xF s → Completes (.recCntClear req 0xF v) s fun t =>
    (bitAt v 0 = true → reg t 0xC180 = 1 ∧ ∀ i : Fin 9, reg t (0xC184 + 4 * i.val) = 0) ∧ Raised [(0xB0FF, 6, 0xFFF, [v.toNat, srcCode req])] s t ∧ Ended req s t ∧
    Frame [.log, .out] (fun o => o = 0xC180 ∨ (bitAt v 0 = true ∧ 0xC184 ≤ o ∧ o < 0xC1A8)) s t)

/-- Frames on a CAN channel (R264, R278, R283, R286): a valid frame lowers REC and waits for a visit, a visit stores it in the receive-all queue or
starts the winning object, success and lost arbitration end a transmission, a receive error raises REC. -/
def Obligations.CanFramesComplete : Prop :=
  (∀ (s : State) (c : Fin 8) (f : CanFrame), canLive s = true → s.can[c].st = 2 → s.can[c].pex = false →
    (f.fdf = true → bitAt (canCfg s c) 1 = true) → s.can[c].rec_ ≤ 127 → s.can[c].tec ≤ 127 →
    s.can[c].ctxAt = none → s.can[c].stop = false → Completes (.canFrameValid c f) s fun t =>
      t.can[c] = { s.can[c] with rec_ := s.can[c].rec_ - 1, done := s.can[c].done ++ [{ frame := f, own := false, obj := 0 }] } ∧
      (∀ d : Fin 8, d ≠ c → t.can[d] = s.can[d]) ∧ Counted (0x7180 + 0x200 * c.val) 1 s t ∧
      (wakeable s = false → Frame [.can, .free, .snuf] (· = 0x7180 + 0x200 * c.val) s t)) ∧
  (∀ (s : State) (c : Fin 8) (d : CanDone), service s = true → s.can[c].st = 2 → lampServes s c.val = true → s.can[c].fifo = [] →
    s.can[c].done.head? = some d → d.own = false → d.fin = 0 → s.can[c].objs = [] → bitAt (canCfg s c) 3 = true → qFill s.can[c] < 1024 →
    Completes (.canVisit c false) s fun t =>
      t.can[c] = { s.can[c] with done := s.can[c].done.tail, seq := (s.can[c].seq + 1) % 65536, qwr := (s.can[c].qwr + 1) % 2048, q := mput s.can[c].q (s.can[c].qwr % 1024) (queueEntry d.frame s.can[c].seq false none) } ∧
      (∀ e : Fin 8, e ≠ c → t.can[e] = s.can[e]) ∧ t.lamp = { s.lamp with slot := t.lamp.slot } ∧ Frame [.can, .lamp] (fun _ => False) s t) ∧
  (∀ (s : State) (c : Fin 8) (o : Nat), service s = true → canTx s.can[c] = true → lampServes s c.val = true → s.can[c].fifo = [] → s.can[c].done = [] →
    s.can[c].active = none → s.can[c].stop = false → s.can[c].pex = false → s.line.shed = false → s.line.therm ≠ 2 → canChoose s.can[c] = some o →
    Completes (.canVisit c true) s fun t =>
      t.can[c].active = some o ∧ t.out = .can c.val (txFrame s c o) :: s.out ∧ t.can[c].tec = s.can[c].tec ∧
      (∀ e : Fin 8, e ≠ c → t.can[e] = s.can[e]) ∧ t.lamp = { s.lamp with slot := t.lamp.slot } ∧ Frame [.can, .lamp, .out] (fun _ => False) s t) ∧
  (∀ (s : State) (c : Fin 8) (stamp tdcv o : Nat) (x : CObj), canLive s = true → lampServes s c.val = true → s.can[c].active = some o → mget s.can[c].objs o = some x → x.follow = false →
    x.staged = false → x.cancel = false → s.can[c].st = 2 → s.can[c].tec ≤ 127 → s.can[c].rec_ ≤ 127 → s.can[c].stop = false →
    Completes (.canTxSuccess c stamp tdcv) s fun t =>
      t.can[c].active = none ∧ t.can[c].tec = s.can[c].tec - 1 ∧ t.can[c].rec_ = s.can[c].rec_ ∧ (objOf t c o).st = 3 ∧ (objOf t c o).coll = 0 ∧
      t.can[c].done.length = s.can[c].done.length + 1 ∧ (∀ e : Fin 8, e ≠ c → t.can[e] = s.can[e]) ∧
      Counted (0x7184 + 0x200 * c.val) 1 s t ∧ Frame [.can] (· = 0x7184 + 0x200 * c.val) s t) ∧
  (∀ (s : State) (c : Fin 8) (o : Nat) (x : CObj), s.can[c].active = some o → mget s.can[c].objs o = some x → x.cancel = false →
    bitAt x.cfg 25 = false → s.can[c].stop = false → Completes (.canArbLost c) s fun t =>
      t.can[c].active = none ∧ (objOf t c o).st = 1 ∧ (objOf t c o).coll = x.coll ∧ t.can[c].tec = s.can[c].tec ∧ t.can[c].done = s.can[c].done ∧
      (∀ e : Fin 8, e ≠ c → t.can[e] = s.can[e]) ∧ Counted (0x7188 + 0x200 * c.val) 1 s t ∧ Frame [.can] (· = 0x7188 + 0x200 * c.val) s t) ∧
  (∀ (s : State) (c : Fin 8) (code field : Nat), canLive s = true → s.can[c].st = 2 → s.can[c].pex = false → s.can[c].rec_ < 127 → s.can[c].tec ≤ 127 →
    s.can[c].stop = false → Completes (.canBusError c code field false false) s fun t =>
      t.can[c] = { s.can[c] with rec_ := s.can[c].rec_ + 1, lastErr := BitVec.ofNat 32 (16 * (field % 16) + code % 8) } ∧
      (∀ e : Fin 8, e ≠ c → t.can[e] = s.can[e]) ∧ Counted (0x7190 + 0x200 * c.val) 1 s t ∧ Frame [.can] (· = 0x7190 + 0x200 * c.val) s t)

/-- The state of a CAN channel (Table 11-3, R263, R268, R270, R272, R283, R284): integration, bus-off recovery by command and its end, the
faults the channel reports, and the host's side of the receive-all queue. -/
def Obligations.CanChannelStatesComplete : Prop :=
  (∀ (s : State) (c : Fin 8), canLive s = true → s.can[c].st = 1 → underTest s (8 + c.val) = false → (fUnit s (8 + c.val)).lost = false →
    Completes (.canIntegrated c) s fun t =>
      t.can[c] = { s.can[c] with st := if bitAt (canCfg s c) 2 then 6 else 2 } ∧ (∀ e : Fin 8, e ≠ c → t.can[e] = s.can[e]) ∧
      Frame [.can] (fun _ => False) s t) ∧
  (∀ (s : State) (c : Fin 8), canLive s = true → s.can[c].st = 5 → Completes (.canIntegrated c) s fun t =>
    t.can[c] = { s.can[c] with recov := min 127 (s.can[c].recov + 1) } ∧ (∀ e : Fin 8, e ≠ c → t.can[e] = s.can[e]) ∧
    Frame [.can] (fun _ => False) s t) ∧
  (∀ (s : State) (c : Fin 8), canOnBus s.can[c] = true → Completes (.canIntegrated c) s fun t =>
    t.can[c] = { s.can[c] with pex := false } ∧ (∀ e : Fin 8, e ≠ c → t.can[e] = s.can[e]) ∧ Frame [.can] (fun _ => False) s t) ∧
  (∀ (s : State) (c : Fin 8), canLive s = true → s.can[c].st = 5 → Completes (.canRecovered c) s fun t =>
    t.can[c] = { s.can[c] with st := 2, tec := 0, rec_ := 0, recov := 128 } ∧ (∀ e : Fin 8, e ≠ c → t.can[e] = s.can[e]) ∧
    Raised [(0x8003, 6, c.val, [c.val, 2, 0, 0, s.can[c].recSrc])] s t ∧ Frame [.can, .log] (· = 0xC180) s t) ∧
  (∀ (s : State) (c : Fin 8) (v : Word), Reaches .host 0x7010 0xF s → switchBusy s = false → bitAt v 0 = true → fld v 31 16 = 0x6E0F → s.can[c].st = 4 →
    Completes (.canRecoverCmd .host c 0xF v) s fun t =>
      t.can[c] = { s.can[c] with st := 5, recov := 0, recSrc := 3 } ∧ (∀ e : Fin 8, e ≠ c → t.can[e] = s.can[e]) ∧
      Ended .host s t ∧ Frame [.can, .out] (fun _ => False) s t) ∧
  (∀ (s : State) (c : Fin 8) (q : QEnt), canLive s = true → s.can[c].st = 2 → s.can[c].active = none → s.can[c].stop = false →
    s.can[c].rec_ + 8 ≤ 127 → s.can[c].tec ≤ 127 → s.flt.test = some q → q.unit ≠ 8 + c.val → Completes (.domTimeout c) s fun t =>
      t.can[c].rec_ = s.can[c].rec_ + 8 ∧ t.can[c].st = 2 ∧ t.can[c].tec = s.can[c].tec ∧ (∀ e : Fin 8, e ≠ c → t.can[e] = s.can[e]) ∧
      (fUnit t (8 + c.val)).errors = min 255 ((fUnit s (8 + c.val)).errors + 1) ∧
      Frame [.can, .flt, .log, .free] (fun o => o = 0x7190 + 0x200 * c.val ∨ (0xB080 ≤ o ∧ o < 0xB0B4) ∨ o = 0xC180) s t) ∧
  (∀ (s : State) (c : Fin 8), canLive s = true → s.can[c].st ≠ 0 → Completes (.busStuck c) s fun t =>
    Raised [(0x8031, 5, c.val, [c.val, s.can[c].st, s.can[c].tec, s.can[c].rec_])] s t ∧ Frame [.log] (· = 0xC180) s t) ∧
  (∀ (s : State) (c : Fin 8), canLive s = true → canOnBus s.can[c] = true → Completes (.protocolException c) s fun t =>
    t.can[c] = { s.can[c] with pex := true } ∧ (∀ e : Fin 8, e ≠ c → t.can[e] = s.can[e]) ∧ Counted (0x7194 + 0x200 * c.val) 1 s t ∧
    Frame [.can, .log] (fun o => o = 0x7194 + 0x200 * c.val ∨ o = 0xC180) s t) ∧
  (∀ (s : State) (req : Req) (c : Fin 8) (v : Word), Reaches req 0x7020 0xF s → 1 ≤ (fld v 26 16 + 2048 - s.can[c].qrd) % 2048 →
    (fld v 26 16 + 2048 - s.can[c].qrd) % 2048 ≤ qFill s.can[c] → Completes (.canQueueAck req c 0xF v) s fun t =>
      t.can[c] = { s.can[c] with qrd := fld v 26 16 } ∧ (∀ e : Fin 8, e ≠ c → t.can[e] = s.can[e]) ∧ Ended req s t ∧
      Frame [.can, .out] (fun _ => False) s t) ∧
  (∀ (s : State) (req : Req) (c : Fin 8) (be : BitVec 4) (v : Word) (n : Nat), Reaches req 0x7028 be s → fld (mergeBe be (getLatch s req (0x7028 + 0x200 * c.val)) v) 9 0 = n → Completes (.canQidxLatch req c be v) s fun t =>
    fld (getLatch t req (0x7028 + 0x200 * c.val)) 9 0 = n ∧
    (∀ i : Fin 20, getLatch t req (0x7100 + 0x200 * c.val + 4 * i.val) = (canQueueRead s.can[c] n).getD i.val 0) ∧ Ended req s t ∧
    Frame [.latHost, .latMon, .latFar, .out] (fun _ => False) s t)

/-- The host's object commands (R275 to R277, R281) and the Lamplighter's contexts (R289): REQUEST swaps and makes the object PENDING, STAGE swaps,
CANCEL of a pending object cancels it, RELEASE frees the primary buffer, a DLC write reaches the shadow buffer, a context fault idles
its user and the rebuild returns it. -/
def Obligations.CanObjectsAndLamplighterComplete : Prop :=
  (∀ (s : State) (req : Req) (c : Fin 8) (o : Fin 128) (x : CObj), mayWrite s req = true → switchBusy s = false → canRefused s c 1 o.val = false →
    s.can[c].fifo = [] → lampServes s c.val = true → mget s.can[c].objs o.val = some x → x.st ≠ 2 → bitAt x.cfg 31 = true →
    canTx s.can[c] = true → Completes (.canRequest req c o) s fun t =>
      t.can[c] = { s.can[c] with objs := mput s.can[c].objs o.val { x with pbuf := !x.pbuf, coll := 0, st := 1 } } ∧
      (∀ e : Fin 8, e ≠ c → t.can[e] = s.can[e]) ∧ Ended req s t ∧ Frame [.can, .out] (fun _ => False) s t) ∧
  (∀ (s : State) (req : Req) (c : Fin 8) (o : Fin 128) (x : CObj), mayWrite s req = true → switchBusy s = false → canRefused s c 2 o.val = false →
    s.can[c].fifo = [] → lampServes s c.val = true → mget s.can[c].objs o.val = some x → x.st ≠ 2 → Completes (.canStage req c o) s fun t =>
      t.can[c] = { s.can[c] with objs := mput s.can[c].objs o.val { x with pbuf := !x.pbuf } } ∧
      (∀ e : Fin 8, e ≠ c → t.can[e] = s.can[e]) ∧ Ended req s t ∧ Frame [.can, .out] (fun _ => False) s t) ∧
  (∀ (s : State) (req : Req) (c : Fin 8) (o : Fin 128) (early : Bool) (x : CObj), mayWrite s req = true → switchBusy s = false →
    canRefused s c 3 o.val = false → s.can[c].fifo = [] → lampServes s c.val = true → mget s.can[c].objs o.val = some x → x.st = 1 →
    Completes (.canCancel req c o early) s fun t =>
      t.can[c] = { s.can[c] with objs := mput s.can[c].objs o.val { x with st := 4 } } ∧ (∀ e : Fin 8, e ≠ c → t.can[e] = s.can[e]) ∧
      Counted (0x71A4 + 0x200 * c.val) 1 s t ∧ Ended req s t ∧ Frame [.can, .out] (· = 0x71A4 + 0x200 * c.val) s t) ∧
  (∀ (s : State) (req : Req) (c : Fin 8) (o : Fin 128) (x : CObj), mayWrite s req = true → switchBusy s = false → canRefused s c 4 o.val = false →
    s.can[c].fifo = [] → lampServes s c.val = true → mget s.can[c].objs o.val = some x → (shadBuf x).full = false →
    Completes (.canRelease req c o) s fun t =>
      (objOf t c o.val).st = 0 ∧ (primBuf (objOf t c o.val)).full = false ∧ (objOf t c o.val).pbuf = x.pbuf ∧
      (∀ e : Fin 8, e ≠ c → t.can[e] = s.can[e]) ∧ Ended req s t ∧ Frame [.can, .out] (fun _ => False) s t) ∧
  (∀ (s : State) (c : Fin 8) (o : Fin 128) (v : Word) (x : CObj), lbusFree s = true → mget s.can[c].objs o.val = some x → isTx x = true →
    bitAt x.cfg 23 = false → Completes (.canBufferWrite (0x8000 * c.val + 0x100 * o.val + (if x.pbuf then 0x20 else 0x80)) 0xF v) s fun t =>
      t.can[c] = { s.can[c] with objs := mput s.can[c].objs o.val (setBuf x (!x.pbuf) { shadBuf x with dlc := fld v 3 0 }) } ∧
      t.out = .access 0 0 :: s.out ∧ (∀ e : Fin 8, e ≠ c → t.can[e] = s.can[e]) ∧ Frame [.can, .out] (fun _ => False) s t) ∧
  (∀ (s : State) (u : Fin 11), coreRun s = true → lampServes s u.val = true → Completes (.llContextFault u false) s fun t =>
      t.lamp = { s.lamp with idle := s.lamp.idle ||| BitVec.ofNat 11 (2 ^ u.val) } ∧
      (fUnit t (0x10 + u.val)).errors = min 255 ((fUnit s (0x10 + u.val)).errors + 1) ∧ Counted 0xB080 1 s t ∧
      Frame [.lamp, .flt, .can] (· = 0xB080) s t) ∧
  (∀ (s : State) (u : Fin 11), coreRun s = true → s.lamp.idle.getLsbD u.val = true → s.lamp.need.getLsbD u.val = true → s.hb.inq = [] →
    Completes (.llRebuildDone u) s fun t =>
      t.lamp.idle = s.lamp.idle &&& ~~~BitVec.ofNat 11 (2 ^ u.val) ∧ t.lamp.map = s.lamp.map ||| BitVec.ofNat 11 (2 ^ u.val) ∧
      t.lamp.spares = s.lamp.spares ∧ (fUnit t (0x10 + u.val)).spared = true ∧ Counted 0x8050 1 s t ∧ (lampServes t 8 = true → t.sg.gwLate = none) ∧
      (s.sg.gwLate = none → Raised [(0x8040, 4, u.val, [u.val])] s t ∧
        Frame [.lamp, .flt, .log] (fun o => o = 0x8050 ∨ (0xB080 ≤ o ∧ o < 0xB0B4) ∨ o = 0xC180) s t))

/-- Remote accesses of the host (R299, R308, R310): a posted write is queued as PWRITE and ends normally, a non-posted write and a read take the
lowest free tag, a read's retry collects its answer, an SPI frame writes and reads registers. -/
def Obligations.RemoteAccessesComplete : Prop :=
  (∀ (s : State) (addr : Nat) (be : BitVec 4) (v : Word) (n : Nat), lbusFree s = true → 0x1000000 ≤ addr → addr < 0x4000000 →
    contiguous be = true → remoteRefuse s addr be.toNat true = (0, n) → bitAt (winCfg s n) 19 = false → s.hb.locked ≠ some n →
    writeTag s addr be.toNat v = none → bridgeBusy s = false → BridgeSends s → Completes (.remotePostedWrite addr be v false) s fun t =>
      t.out = .access 0 0 :: s.out ∧ Sent [([BitVec.ofNat 8 (winHandle s n)], [1, n, nextTseq s (winHandle s n) % 65536, 0xFF, 0])] s t ∧
      nextTseq t (winHandle s n) = (nextTseq s (winHandle s n) + 1) % 65536 ∧ t.hb.tags = s.hb.tags ∧ t.hb.held = none ∧ Counted 0x9600 1 s t ∧
      Frame [.hb, .sch, .out] (· = 0x9600) s t) ∧
  (∀ (s : State) (addr : Nat) (be : BitVec 4) (v : Word) (n tg : Nat), lbusFree s = true → 0x1000000 ≤ addr → addr < 0x4000000 →
    contiguous be = true → remoteRefuse s addr be.toNat true = (0, n) → bitAt (winCfg s n) 19 = true ∨ s.hb.locked = some n → BridgeSends s →
    writeTag s addr be.toNat v = none → bridgeBusy s = false → freeTag s = some tg → Completes (.remoteNpWrite addr be v) s fun t =>
      t.out = s.out ∧ t.hb.held = some { addr := addr, be := be.toNat, data := v, lock := false } ∧
      mget t.hb.tags tg = some { kind := 1, win := n, addr := addr, be := be.toNat, data := v, handle := winHandle s n, tseq := nextTseq s (winHandle s n), held := true } ∧
      Sent [([BitVec.ofNat 8 (winHandle s n)], [2, n, nextTseq s (winHandle s n) % 65536, tg, 0])] s t ∧ Counted 0x9604 1 s t ∧
      Frame [.hb, .sch] (· = 0x9604) s t) ∧
  (∀ (s : State) (addr : Nat) (be : BitVec 4) (n tg : Nat), lbusFree s = true → 0x1000000 ≤ addr → addr < 0x4000000 →
    contiguous be = true → remoteRefuse s addr be.toNat false = (0, n) → BridgeSends s → readTag s addr be.toNat = none →
    bridgeBusy s = false → freeTag s = some tg → Completes (.remoteRead addr be) s fun t =>
      t.out = .access retry 0 :: s.out ∧
      mget t.hb.tags tg = some { kind := 0, win := n, addr := addr, be := be.toNat, data := 0, handle := winHandle s n, tseq := nextTseq s (winHandle s n) } ∧
      Sent [([BitVec.ofNat 8 (winHandle s n)], [3, n, nextTseq s (winHandle s n) % 65536, tg, 0])] s t ∧ Counted 0x9608 1 s t ∧ Counted 0x9614 1 s t ∧
      Frame [.hb, .sch, .out] (fun o => o = 0x9608 ∨ o = 0x9614) s t) ∧
  (∀ (s : State) (addr : Nat) (be : BitVec 4) (tg : Nat) (x : Tag) (d : Word), lbusFree s = true → 0x1000000 ≤ addr → addr < 0x4000000 →
    contiguous be = true → readTag s addr be.toNat = some (tg, x) → x.answer = some (0, d) →
    Completes (.remoteRead addr be) s fun t =>
      t.out = .access 0 d :: s.out ∧ t.hb = { s.hb with tags := mdel s.hb.tags tg } ∧ Frame [.hb, .out] (fun _ => False) s t) ∧
  (∀ (s : State) (a v : Word), spiAlive s = true → s.hb.held = none → s.hb.owns = false → switchBusy s = false → 4 * fld a 25 2 = 0x14 →
    fld a 31 28 = 0xF → Completes (.spiWriteFrame a [v]) s fun t =>
      reg t 0x14 = v ∧ t.out = .spi 0 1 0 :: s.out ∧ Frame [.out] (· = 0x14) s t) ∧
  (∀ (s : State) (a : Word), spiAlive s = true → 4 * fld a 25 2 < 0x10000 → effectReg (4 * fld a 25 2) = false → fld a 31 28 = 0xF →
    Completes (.spiReadFrame a) s fun t =>
      t.out = .spi 0 1 (regRead s .host (4 * fld a 25 2)) :: s.out ∧ Frame [.out] (fun _ => False) s t)

/-- Answers to this node's requests (R310, R311, R313, R314, R318): WACK and LOCKACK end the held access, RDATA waits for the retry, LATE is
logged, a tag not answered ends TIMEOUT, an answer not collected is discarded. -/
def Obligations.BridgeAnswersComplete : Prop :=
  (∀ (s : State) (f b : Bytes) (tg : Nat) (x : Tag) (h : Held), bridgeMsg f = some b → forUs s b = true → byteAt b 14 = 0x81 →
    answers s b (readHdr f).src 1 = some (tg, x) → x.held = true → s.hb.held = some h → byteAt b 21 = 0 → Completes (.wackRx f) s fun t =>
      t.hb = { s.hb with tags := mdel s.hb.tags tg, held := none } ∧ t.out = .access 0 0 :: s.out ∧ Frame [.hb, .out] (fun _ => False) s t) ∧
  (∀ (s : State) (f b : Bytes) (tg : Nat) (x : Tag), bridgeMsg f = some b → forUs s b = true → byteAt b 14 = 0x83 →
    answers s b (readHdr f).src 0 = some (tg, x) → x.held = false → Completes (.rdataRx f) s fun t =>
      t.hb = { s.hb with tags := mput s.hb.tags tg { x with answer := some (byteAt b 21, unwire (winOrder s x.win) (slice b 30 4)) } } ∧
      Frame [.hb] (fun _ => False) s t) ∧
  (∀ (s : State) (f b : Bytes) (tg : Nat) (x : Tag) (h : Held), bridgeMsg f = some b → forUs s b = true → byteAt b 14 = 0x85 →
    answers s b (readHdr f).src 2 = some (tg, x) → x.held = true → s.hb.held = some h → byteAt b 21 = 0 → Completes (.lockackRx f) s fun t =>
      t.hb = { s.hb with tags := mdel s.hb.tags tg, held := none, locked := some x.win, lockWin := none, denies := 0 } ∧
      t.out = .access 0 0 :: s.out ∧ Frame [.hb, .out] (fun _ => False) s t) ∧
  (∀ (s : State) (f b : Bytes) (stamp : Nat), coreRun s = true → bridgeMsg f = some b → forUs s b = true → byteAt b 14 = 0x90 →
    byteAt b 21 ≠ 0x16 → byteAt b 21 ≠ 0x18 → s.hb.log.length < 16 → mget s.log.limits (4096 * 0x9010 + byteAt b 16 % 16) = none →
    bitAt (winCfg s (byteAt b 16 % 16)) 16 = false → Completes (.lateRx f stamp) s fun t =>
      t.hb.log = s.hb.log ++ [{ code := byteAt b 21, win := byteAt b 16 % 16, tseq := beAt b 18 2, handle := (readHdr f).src, off := beAt b 22 4 % winSize s (byteAt b 16 % 16), stamp := (ttAt s.tb stamp / nsU).toNat }] ∧
      t.hb.istat = s.hb.istat ||| 4 ∧ t.hb.tags = s.hb.tags ∧ t.hb.locked = s.hb.locked ∧
      (∀ m : Fin 16, t.hb.wins[m] = if m.val = byteAt b 16 % 16 then { s.hb.wins[m] with late := min 0xFFFF (s.hb.wins[m].late + 1) } else s.hb.wins[m]) ∧
      Raised [(0x9010, 2, byteAt b 16 % 16, [byteAt b 16 % 16, (readHdr f).src, beAt b 18 2, byteAt b 21])] s t ∧ Frame [.hb, .log] (· = 0xC180) s t) ∧
  (∀ (s : State) (tg : Fin 64) (x : Tag), coreRun s = true → mget s.hb.tags tg.val = some x → x.answer = none → x.held = false →
    mget s.log.limits (4096 * 0x9020 + 0xFFF) = none → Completes (.tagTimeout tg) s fun t =>
      t.hb = { s.hb with tags := mput s.hb.tags tg.val { x with answer := some (0x20, 0) }, istat := s.hb.istat ||| 16 } ∧
      Raised [(0x9020, 2, 0xFFF, [x.win, x.handle, x.tseq, 0x20])] s t ∧ Counted 0x961C 1 s t ∧
      Frame [.hb, .log] (fun o => o = 0x961C ∨ o = 0xC180) s t) ∧
  (∀ (s : State) (tg : Fin 64) (x : Tag) (c : Nat) (d : Word), coreRun s = true → mget s.hb.tags tg.val = some x → x.answer = some (c, d) →
    x.kind ≠ 2 → mget s.log.limits (4096 * 0x9021 + 0xFFF) = none → Completes (.delayedDiscard tg) s fun t =>
      t.hb = { s.hb with tags := mdel s.hb.tags tg.val, istat := s.hb.istat ||| 8 } ∧ Raised [(0x9021, 1, 0xFFF, [x.win, x.handle, x.tseq, c])] s t ∧
      Counted 0x9624 1 s t ∧ Frame [.hb, .log] (fun o => o = 0x9624 ∨ o = 0xC180) s t)

/-- Requests of other nodes (R302, R305, R306, R316, R319): posted and non-posted writes of a register are applied, the second answered WACK; a
read is answered RDATA; an IRQ message sets its vector; a free semaphore is granted with LOCKACK and given back by UNLOCK. -/
def Obligations.BridgeTargetComplete : Prop :=
  (∀ (s : State) (f b : Bytes) (r : HbReq), BridgeIdle s → bridgeMsg f = some b → forUs s b = true → readReq f b = r → r.bop = 1 → r.space = 0 →
    r.addr = 0x14 → r.be = 15 → r.data.length = 4 → tgtRefuse s r = 0 → InSeq s b r → Completes (.pwriteRx f) s fun t =>
      reg t 0x14 = unwire 1 r.data ∧ t.hb = { s.hb with applied := mput s.hb.applied r.src r.tseq } ∧ Counted 0x960C 1 s t ∧
      Frame [.hb] (fun o => o = 0x14 ∨ o = 0x960C) s t) ∧
  (∀ (s : State) (f b : Bytes) (r : HbReq), BridgeIdle s → bridgeMsg f = some b → forUs s b = true → readReq f b = r → r.bop = 2 → r.space = 0 →
    r.addr = 0x14 → r.be = 15 → r.data.length = 4 → tgtRefuse s r = 0 → InSeq s b r → BridgeSends s → Completes (.npwriteRx f) s fun t =>
      reg t 0x14 = unwire 1 r.data ∧ Sent [([BitVec.ofNat 8 r.src], [0x81, r.win, r.tseq, r.tag, 0])] s t ∧
      t.hb = { s.hb with applied := mput s.hb.applied r.src r.tseq } ∧ Counted 0x960C 1 s t ∧ Counted 0x9610 1 s t ∧
      Frame [.hb, .sch] (fun o => o = 0x14 ∨ o = 0x960C ∨ o = 0x9610) s t) ∧
  (∀ (s : State) (f b : Bytes) (r : HbReq), BridgeIdle s → bridgeMsg f = some b → forUs s b = true → readReq f b = r → r.bop = 3 → r.space = 0 →
    effectReg r.addr = false → tgtRefuse s r = 0 → InSeq s b r → BridgeSends s → Completes (.readRx f) s fun t =>
      Sent [([BitVec.ofNat 8 r.src], [0x83, r.win, r.tseq, r.tag, 0])] s t ∧
      t.hb = { s.hb with applied := mput s.hb.applied r.src r.tseq } ∧ Counted 0x960C 1 s t ∧ Counted 0x9610 1 s t ∧
      Frame [.hb, .sch] (fun o => o = 0x960C ∨ o = 0x9610) s t) ∧
  (∀ (s : State) (f b : Bytes) (r : HbReq), BridgeIdle s → bridgeMsg f = some b → forUs s b = true → readReq f b = r → r.bop = 4 →
    tgtRefuse s r = 0 → InSeq s b r → Completes (.irqRx f) s fun t =>
      t.hb = { s.hb with applied := mput s.hb.applied r.src r.tseq, rirq := s.hb.rirq ||| BitVec.ofNat 32 (2 ^ (r.addr % 32)), rirqSrc := mput s.hb.rirqSrc (r.addr % 32) r.src } ∧ Counted 0x960C 1 s t ∧ Frame [.hb] (· = 0x960C) s t) ∧
  (∀ (s : State) (f b : Bytes) (r : HbReq) (i : Fin 32), BridgeIdle s → bridgeMsg f = some b → forUs s b = true → readReq f b = r → r.bop = 5 →
    r.space ≠ 2 → r.addr % 32 = i.val → s.hb.sems[i] = 0 → tgtRefuse s r = 0 → InSeq s b r → BridgeSends s → Completes (.lockRx f []) s fun t =>
      t.hb = { s.hb with applied := mput s.hb.applied r.src r.tseq, sems := s.hb.sems.set i r.src, semSeg := (i.val, r.win, r.tseq) :: s.hb.semSeg.filter (fun x => x.1 != i.val) } ∧
      Sent [([BitVec.ofNat 8 r.src], [0x85, r.win, r.tseq, r.tag, 0])] s t ∧ Counted 0x960C 1 s t ∧ Counted 0x9610 1 s t ∧
      Frame [.hb, .sch] (fun o => o = 0x960C ∨ o = 0x9610) s t) ∧
  (∀ (s : State) (f b : Bytes) (r : HbReq) (i : Fin 32), BridgeIdle s → bridgeMsg f = some b → forUs s b = true → readReq f b = r → r.bop = 6 →
    r.space ≠ 2 → r.addr % 32 = i.val → s.hb.sems[i] = r.src → r.src ≠ 0 → tgtRefuse s r = 0 → InSeq s b r → Completes (.unlockRx f) s fun t =>
      t.hb = { s.hb with applied := mput s.hb.applied r.src r.tseq, sems := s.hb.sems.set i 0, semSeg := s.hb.semSeg.filter (fun x => x.1 != i.val) } ∧ Counted 0x960C 1 s t ∧ Frame [.hb] (· = 0x960C) s t)

/-- Mastering LBUS (R298, R322): the grant starts the access of the waiting read, its end, an error or a timeout answers it and gives the bus back,
no grant fails it, and removing LBG# lets the access under way complete. -/
def Obligations.BusMasteringComplete : Prop :=
  (∀ (s : State) (r : HbReq) (m a : Nat), bscan s = false → lampServes s 9 = true → s.hb.bus = true → s.hb.owns = false → s.hb.acc = false →
    s.hb.far = none → s.hb.inq = [r] →
    r.bop = 3 → r.beat = 0 → needsBus s r = true → mbxAt s false r.addr 4 = some (m, a) → Completes .busGrant s fun t =>
      t.hb = { s.hb with owns := true, gone := false, acc := true } ∧ t.out = .master false a (BitVec.ofNat 4 r.be) 0 :: s.out ∧
      Counted 0x962C 1 s t ∧ Frame [.hb, .out] (· = 0x962C) s t) ∧
  (∀ (s : State) (r : HbReq) (d : Word), s.hb.acc = true → s.hb.owns = true → s.hb.gone = false → s.hb.far = none → s.hb.inq = [r] → r.bop = 3 →
    r.src < 256 → r.win < 256 → r.tseq < 65536 → r.tag < 256 → BridgeSends s → Completes (.masterAccessEnd false d) s fun t =>
      t.hb = { s.hb with inq := [], acc := false, owns := false, bus := false } ∧
      Sent [([BitVec.ofNat 8 r.src], [0x83, r.win, r.tseq, r.tag, 0])] s t ∧ Counted 0x9610 1 s t ∧ Frame [.hb, .sch] (· = 0x9610) s t) ∧
  (∀ (s : State) (r : HbReq) (m a : Nat), coreRun s = true → s.hb.acc = true → s.hb.owns = true → s.hb.gone = false → s.hb.far = none →
    s.hb.inq = [r] → r.bop = 3 → r.src < 256 → r.win < 256 → r.tseq < 65536 → r.tag < 256 → mbxAt s false r.addr 4 = some (m, a) → BridgeSends s →
    Completes .masterAccessTimeout s fun t =>
      t.hb = { s.hb with inq := [], acc := false, owns := false, bus := false } ∧ Raised [(0x9041, 3, m, [m, r.src, r.tseq, 0x13])] s t ∧
      Sent [([BitVec.ofNat 8 r.src], [0x83, r.win, r.tseq, r.tag, 0x13])] s t ∧ Counted 0x9610 1 s t ∧
      Frame [.hb, .sch, .log] (fun o => o = 0x9610 ∨ o = 0xC180) s t) ∧
  (∀ (s : State) (r : HbReq) (m a : Nat), coreRun s = true → s.hb.bus = true → s.hb.owns = false → s.hb.acc = false → s.hb.far = none →
    s.hb.inq = [r] → r.bop = 3 → r.src < 256 → r.win < 256 → r.tseq < 65536 → r.tag < 256 → mbxAt s false r.addr 4 = some (m, a) → BridgeSends s →
    Completes .nogrant s fun t =>
      t.hb = { s.hb with inq := [], bus := false } ∧ Raised [(0x9040, 2, m, [m, r.src, r.tseq, 0x12])] s t ∧
      Sent [([BitVec.ofNat 8 r.src], [0x83, r.win, r.tseq, r.tag, 0x12])] s t ∧ Counted 0x9610 1 s t ∧
      Frame [.hb, .sch, .log] (fun o => o = 0x9610 ∨ o = 0xC180) s t) ∧
  (∀ (s : State) (r : HbReq), s.hb.owns = true → s.hb.farOn = false → s.hb.acc = true → s.hb.inq = [r] → Completes .grantRemoved s fun t =>
    t.hb = { s.hb with gone := true } ∧ Frame [.hb] (fun _ => False) s t) ∧
  (∀ (s : State), s.hb.owns = true → s.hb.farOn = false → s.hb.acc = false → s.hb.inq = [] → s.hb.far = none → Completes .grantRemoved s fun t =>
    t.hb = { s.hb with owns := false, bus := false, gone := false } ∧ Frame [.hb] (fun _ => False) s t)

/-- Interrupt messages, locks and semaphores of this node, and the late-error log (R314, R316 to R320): each write sends its message or changes what
the host holds, a broken semaphore is told to its holder, and the log empties with a clear record. -/
def Obligations.BridgeLocksComplete : Prop :=
  (∀ (s : State) (v : Word) (n : Nat), Reaches .host 0x9020 0xF s → switchBusy s = false → fld v 3 0 = n → WinReady s n → bridgeBusy s = false →
    Completes (.irqSend .host 0xF v) s fun t =>
      Sent [([BitVec.ofNat 8 (winHandle s n)], [4, n, nextTseq s (winHandle s n) % 65536, 0xFF, 0])] s t ∧ t.out = .access 0 0 :: s.out ∧
      nextTseq t (winHandle s n) = (nextTseq s (winHandle s n) + 1) % 65536 ∧ Frame [.hb, .sch, .out] (fun _ => False) s t) ∧
  (∀ (s : State) (v : Word) (n tg : Nat), Reaches .host 0x902C 0xF s → switchBusy s = false → bitAt v 8 = true → fld v 3 0 = n → WinReady s n →
    bridgeBusy s = false → s.hb.lockWin = none → s.hb.locked = none → fld (winCfg s n) 18 17 ≠ 0 → freeTag s = some tg → s.boot.lbus = true →
    Completes (.lockAcquire .host 0xF v) s fun t =>
      t.hb.held = some { addr := 0x902C, be := 15, data := v, lock := true } ∧ t.hb.lockWin = some n ∧ t.hb.locked = none ∧
      (mget t.hb.tags tg).map (fun x => (x.kind, x.win, x.handle, x.held)) = some (2, n, winHandle s n, true) ∧ t.out = s.out ∧
      Sent [([BitVec.ofNat 8 (winHandle s n)], [5, n, nextTseq s (winHandle s n) % 65536, tg, 0])] s t ∧ Frame [.hb, .sch] (fun _ => False) s t) ∧
  (∀ (s : State) (v : Word) (n : Nat), Reaches .host 0x902C 0xF s → switchBusy s = false → bitAt v 8 = false → bitAt v 9 = true → fld v 3 0 = n →
    s.hb.locked = some n → underTest s 0x23 = false → BridgeSends s → Completes (.lockRelease .host 0xF v) s fun t =>
      Sent [([BitVec.ofNat 8 (winHandle s n)], [6, n, nextTseq s (winHandle s n) % 65536, 0xFF, 0])] s t ∧ t.hb.locked = none ∧
      t.out = .access 0 0 :: s.out ∧ Frame [.hb, .sch, .out] (fun _ => False) s t) ∧
  (∀ (s : State) (n tg : Nat), s.hb.lockWin = some n → n < 16 → lockTag s = none → freeTag s = some tg → BridgeSends s →
    Completes .lockRetryTimer s fun t =>
      Sent [([BitVec.ofNat 8 (winHandle s n)], [5, n, nextTseq s (winHandle s n) % 65536, tg, 0])] s t ∧ t.hb.lockWin = some n ∧
      (mget t.hb.tags tg).map (fun x => (x.kind, x.win, x.handle)) = some (2, n, winHandle s n) ∧ Frame [.hb, .sch] (fun _ => False) s t) ∧
  (∀ (s : State) (i : Fin 32) (w q : Nat), coreRun s = true → s.hb.sems[i] ≠ 0 → s.hb.sems[i] < 0xFF →
    s.hb.semSeg.find? (fun x => x.1 == i.val) = some (i.val, w, q) → w < 256 → q < 65536 → BridgeSends s → Completes (.lockBroken (some i)) s fun t =>
      t.hb = { s.hb with sems := s.hb.sems.set i 0, semSeg := s.hb.semSeg.filter (fun x => x.1 != i.val) } ∧
      Sent [([BitVec.ofNat 8 s.hb.sems[i]], [0x90, w, q, 0xFF, 0x18])] s t ∧ Raised [(0x9031, 5, w, [w, s.hb.sems[i], q, 0x18])] s t ∧
      Counted 0x9610 1 s t ∧ Frame [.hb, .sch, .log] (fun o => o = 0x9610 ∨ o = 0xC180) s t) ∧
  (∀ (s : State) (i : Fin 32) (v : Word), Reaches .host 0x9100 0xF s → switchBusy s = false → bitAt v 8 = true → s.hb.sems[i] = 0 →
    Completes (.semAcquire .host i 0xF v) s fun t =>
      t.hb = { s.hb with sems := s.hb.sems.set i 0xFF } ∧ t.out = .access 0 0 :: s.out ∧ Frame [.hb, .out] (fun _ => False) s t) ∧
  (∀ (s : State) (i : Fin 32) (v : Word), Reaches .host 0x9100 0xF s → switchBusy s = false → bitAt v 9 = true → s.hb.sems[i] = 0xFF →
    Completes (.semRelease .host i 0xF v) s fun t =>
      t.hb = { s.hb with sems := s.hb.sems.set i 0 } ∧ t.out = .access 0 0 :: s.out ∧ Frame [.hb, .out] (fun _ => False) s t) ∧
  (∀ (s : State) (req : Req) (v : Word), Reaches req 0x9504 0xF s → Completes (.hbLogClear req 0xF v) s fun t =>
    t.hb = (if bitAt v 0 then { s.hb with log := [], logOvf := false, logSaid := false } else s.hb) ∧ Raised [(0x90FE, 6, 0xFFF, [v.toNat, srcCode req])] s t ∧ Ended req s t ∧
    Frame [.hb, .log, .out] (· = 0xC180) s t) ∧
  (∀ (s : State) (req : Req) (v : Word), Reaches req 0x900C 0xF s → Completes (.polledModeExit req 0xF v) s fun t =>
    reg t 0x900C = v &&& 1 ||| (cfgReg s 0x900C &&& ~~~1) ∧ t.boot = (noteWrite s 0x900C (reg t 0x900C)).boot ∧ Ended req s t ∧
    Frame [.out, .boot] (· = 0x900C) s t)

/-- Snuffer rounds (R339, R341, R342, R345, R347): a START sends TOKENs, a node votes and passes the TOKEN on, the round times out, a COMMIT puts a
voter into DRAIN, an abort command or a Kindle frame brings it back to RUN. -/
def Obligations.SnufferRoundsComplete : Prop :=
  (∀ (s : State) (v : Word) (wakeLow : Bool), Reaches .host 0xA014 0xF s → switchBusy s = false → fld v 31 16 = 0x3C5A → bitAt v 0 = true →
    bitAt v 1 = false → regB s 0xA010 1 = true → inRound s = false → ownVeto s wakeLow = 0 → CtlWaits s →
    tokenEnd s (segOf s .fore) .fore = false → tokenEnd s (segOf s .aft) .aft = false → Completes (.roundStart .host 0xF v wakeLow) s fun t =>
      t.snuf = { s.snuf with round := (s.snuf.ownRound + 1) % 65536, ownRound := (s.snuf.ownRound + 1) % 65536, result := 1, vreason := 0, vcount := 0, vhandle := 0, init := true, initH := ownHandle s 0, startAt := none, out := [.fore, .aft], consent := t.snuf.consent, voted := true, voteRound := (s.snuf.ownRound + 1) % 65536, aborted := false } ∧
      (t.sch.ctl.drop s.sch.ctl.length).map (fun c => (c.fore, c.aft)) = [(true, false), (false, true)] ∧
      Raised [(0x1001, 0, 0xFFF, [(s.snuf.ownRound + 1) % 65536, ownHandle s 0])] s t ∧ PwrCounted [0] s t ∧ Ended .host s t ∧
      Frame [.snuf, .sch, .mram, .log, .out] (· = 0xC180) s t) ∧
  (∀ (s : State) (p : Port) (f : Bytes) (x : Snuf), Taken f 3 4 48 s → readSnuf (payloadOf f) = x → x.sub = 1 → x.ret = false →
    ownHandle s (segOf s p) ≠ 0 → x.init ≠ ownHandle s (segOf s p) → s.line.node ≠ .repeater → s.snuf.voted = false →
    vetoReason s (segOf s p) false false x.epoch = 0 → (cycLen s).isSome = true → tokenEnd s (segOf s p) (otherPort p) = false →
    Completes (.tokenRx p f false) s fun t =>
      t.snuf = { s.snuf with round := x.round, initH := x.init, voted := true, voteRound := x.round, result := 1, vreason := 0, vcount := 0, vhandle := 0, aborted := false } ∧
      t.sch = { s.sch with ctl := s.sch.ctl ++ [{ frame := snufFrame s (segOf s p) 3 4 (snufBytes { x with consent := x.consent ||| 2 ^ ownHandle s (segOf s p) }), fore := otherPort p == .fore, aft := otherPort p == .aft, after := s.now + 50000 }] } ∧ PwrCounted [1] s t ∧ Frame [.snuf, .sch, .mram] (fun _ => False) s t) ∧
  (∀ (s : State), coreRun s = true → s.snuf.init = true → s.snuf.result = 1 → Completes .roundRtoExpiry s fun t =>
    t.snuf = { s.snuf with result := 4, init := false, voted := false, out := [], comPend := false, repeatCom := false } ∧
    Raised [(0x1003, 2, 0xFFF, [s.snuf.round, s.snuf.initH])] s t ∧ PwrCounted [9] s t ∧ Frame [.snuf, .mram, .log] (· = 0xC180) s t) ∧
  (∀ (s : State) (p : Port) (f : Bytes) (x : Snuf), Taken f 3 3 48 s → readSnuf (payloadOf f) = x → x.sub = 2 → s.snuf.commit = false →
    s.line.node = .run → s.snuf.voted = true → s.snuf.voteRound = x.round → s.snuf.initH = x.init → Completes (.snufferCommitRx p f) s fun t =>
      t.line = { s.line with node := .drain } ∧ t.pilot.armed = true ∧ t.pilot.cfg.wake = reg s 0xA020 ∧
      t.snuf = { s.snuf with commit := true, voted := false, sleepcyc := x.sleepcyc % 2 ^ 32, result := 2, aborted := false, pastSi := false, toneEnd := [] } ∧ PwrCounted [3] s t ∧ Frame [.line, .pilot, .snuf, .mram] (fun _ => False) s t) ∧
  (∀ (s : State) (v : Word), Reaches .host 0xA014 0xF s → switchBusy s = false → fld v 31 16 = 0x3C5A → bitAt v 0 = false →
    bitAt v 1 = true → wakeable s = true → s.line.node = .drain → CtlWaits s → Completes (.sleepAbortCmd .host 0xF v) s fun t =>
      t.line = { s.line with node := .run } ∧ t.pilot = { s.pilot with armed := false, latch := { src := 6, cause := 7 } } ∧
      t.snuf = { s.snuf with commit := false, voted := false, init := false, comPend := false, repeatCom := false, out := [], result := 5, aborted := true } ∧ Raised [(0x1006, 1, 0xFFF, [s.snuf.round, s.snuf.initH, 7, 0, 0])] s t ∧ PwrCounted [4, 8] s t ∧ Ended .host s t ∧
      Frame [.line, .pilot, .snuf, .sch, .mram, .log, .out] (· = 0xC180) s t) ∧
  (∀ (s : State) (p : Port) (f : Bytes), Taken f 4 3 16 s → s.snuf.pastSi = false → s.snuf.commit = true → s.line.node = .drain →
    Completes (.kindleFrameRx p f) s fun t =>
      t.line = { s.line with node := .run } ∧ t.pilot = { s.pilot with armed := false, latch := { src := 6, cause := 8 } } ∧
      t.snuf = { s.snuf with commit := false, voted := false, init := false, comPend := false, repeatCom := false, out := [], result := 5, aborted := true } ∧ Raised [(0x1006, 1, 0xFFF, [s.snuf.round, s.snuf.initH, 8, 0, 0])] s t ∧ PwrCounted [4] s t ∧
      Frame [.line, .pilot, .snuf, .mram, .log] (· = 0xC180) s t)

/-- The sleep sequence (R337, R346, R349, Table 13-8): at its SI a node in DRAIN stops its lanes, its channels and its work; 5 ms later the core goes
off with SLEPT set; FEED pairs drop to ember bias and hold it; an aborted node repeats its tone. -/
def Obligations.SleepSequenceComplete : Prop :=
  (∀ (s : State), coreRun s = true → s.snuf.pastSi = false → s.snuf.commit = true → s.log.scanning = false → s.mon.served = none → s.mon.opened = none →
    s.sw.kept = [] → Completes .sleepInstant s fun t =>
      t.snuf = { s.snuf with pastSi := true, repeatCom := false } ∧ t.sch.ctl = [] ∧ t.sch.dyn = [] ∧ t.sch.relays = [] ∧ t.flt.queue = [] ∧ t.flt.test = none ∧
      (∀ l : Fin 4, t.lanes[l].st = if s.lanes[l].st = .retired then .retired else .disabled) ∧
      (∀ c : Fin 8, s.can[c].active = none → t.can[c].st = 0 ∧ t.can[c].objs = []) ∧ (∀ c : Fin 8, s.can[c].active ≠ none → t.can[c].stop = true) ∧
      t.log.raised = [] ∧ t.log.fifo = [] ∧ t.log.writing = false ∧ t.mram.stats = s.log.stats ∧
      Frame [.snuf, .sch, .flt, .lanes, .can, .sw, .log, .mram, .mon, .free, .out] (fun o => (0x5800 ≤ o ∧ o < 0x5E80) ∨ (0xC180 ≤ o ∧ o < 0xC1A8)) s t) ∧
  (∀ (s : State) (p : Port), coreRun s = true → s.snuf.toneEnd.contains p = true → portI1g s p = false → portAnyUp s p = false →
    Completes (.kindleAbortRepeat p) s fun t =>
      t.out = .tone p (toneCells (kindleWord s.pilot.latch.cause 0 true)) :: s.out ∧ t.snuf = { s.snuf with toneEnd := s.snuf.toneEnd.filter (· != p) } ∧
      PwrCounted [8] s t ∧ Frame [.snuf, .out, .mram] (fun _ => False) s t) ∧
  (∀ (s : State), s.line.core = true → s.snuf.pastSi = true → s.pilot.pendWord = none → s.pilot.pendTone = none → s.pilot.pendCan = none →
    s.pilot.pendPin = false → Completes .sleepCoreOff s fun t =>
      t.line.node = .ember ∧ t.line.core = false ∧ t.boot = {} ∧ t.lanes = Vector.replicate 4 {} ∧ t.tb.st = .free ∧
      (∀ i : Fin 2, t.inaug[i].st = .idle) ∧
      t.pilot = { s.pilot with slept := true, sleptAt := s.now, dozes := 0, asleep := 0, latch := {}, armed := false, committed := false, pendTone := none, pendPin := false, pendCan := none, pendWord := none } ∧
      (∀ p : Fin 4, pairMode (lfctl s) p.val ≠ 2 → t.line.pairs[p] = s.line.pairs[p]) ∧ (∀ o : Nat, o ≠ 0xA100 → reg t o = regReset o) ∧
      reg t 0xA100 = reg s 0xA100 ∧ t.mram = s.mram ∧ t.otp = s.otp ∧ t.now = s.now ∧ t.tap = s.tap ∧ t.out = s.out) ∧
  (∀ (s : State), s.pilot.slept = true → s.line.node = .ember → Completes .lineDrop s fun t =>
    (∀ p : Fin 4, t.line.pairs[p] = if pairMode (lfctl s) p.val = 1 ∧ s.line.pairs[p].st ≠ .latched then
      (if bitAt (lfctl s) 16 = true ∧ pairHeldOff s p = false then { s.line.pairs[p] with st := .bias, sink := true }
       else { s.line.pairs[p] with st := .off, sink := false })
      else s.line.pairs[p]) ∧ t.line.node = .ember ∧ t.line.core = s.line.core ∧ Frame [.line] (fun _ => False) s t) ∧
  (∀ (s : State) (p : Fin 4), s.line.pairs[p].sink = true → Completes (.emberBiasReached p) s fun t =>
    t.line.pairs[p] = { s.line.pairs[p] with st := .bias, sink := false } ∧ (∀ q : Fin 4, q ≠ p → t.line.pairs[q] = s.line.pairs[q]) ∧
    t.line.node = s.line.node ∧ Frame [.line] (fun _ => False) s t) ∧
  (∀ (s : State), s.pilot.committed = true → Completes .kindleToneSent s fun t =>
    t.pilot = { s.pilot with relayed := true } ∧ Frame [.pilot] (fun _ => False) s t)

/-- Wake sources (R330, R332 to R336): a tone and a listening channel bring DOZE; a dominant channel without selective wake, WAKE#, the line, a word, a
matching frame commit to wake and send the tone on; with nothing left to decide DOZE ends; a committed node starts its core. -/
def Obligations.WakeSourcesComplete : Prop :=
  (∀ (s : State) (p : Port), s.line.core = false → s.line.node = .ember → bitAt s.pilot.cfg.wake 31 = true → s.pilot.cfg.i1g.contains p = false →
    Completes (.kindleToneDetect p) s fun t =>
      t.line = { s.line with node := .doze } ∧ t.pilot = { s.pilot with dozeFrom := s.now, committed := false, entryTone := true, entryCan := 0, relayed := false, errs := Vector.replicate 8 0 } ∧ Frame [.line, .pilot] (fun _ => False) s t) ∧
  (∀ (s : State) (c : Fin 8), s.line.core = false → s.line.node = .ember → bitAt s.pilot.cfg.wake (16 + c.val) = true →
    swOn s.pilot.cfg.sw[c] = true → Completes (.canWakeDetect c) s fun t =>
      t.line = { s.line with node := .doze } ∧ t.pilot = { s.pilot with dozeFrom := s.now, committed := false, entryTone := false, entryCan := BitVec.ofNat 8 (2 ^ c.val), relayed := false, errs := Vector.replicate 8 0 } ∧ Frame [.line, .pilot] (fun _ => False) s t) ∧
  (∀ (s : State) (c : Fin 8), PilotWatches s → s.pilot.cfg.i1g = [] → bitAt s.pilot.cfg.wake (16 + c.val) = true →
    swOn s.pilot.cfg.sw[c] = false → Completes (.canWakeDetect c) s (Woken { src := 2, chan := c.val } (kindleWord 2 0 false) [.fore, .aft] s)) ∧
  (∀ (s : State), PilotWatches s → s.pilot.cfg.i1g = [] → bitAt s.pilot.cfg.wake 30 = true →
    Completes .wakePinDetect s (Woken { src := 5 } (kindleWord 5 0 false) [.fore, .aft] s)) ∧
  (∀ (s : State) (p : Fin 4), s.line.core = false → s.line.node = .ember → s.pilot.slept = true → s.pilot.cfg.i1g = [] →
    pairMode (lfctl s) p.val ≠ 1 → Completes (.lineWakeTimer p) s (Woken {} (kindleWord 0 0 false) [.fore, .aft] s)) ∧
  (∀ (s : State) (p : Port) (w : Bytes) (cellsA cellsB : List Nat), s.line.core = false → s.line.node = .doze → s.pilot.committed = false → s.pilot.entryTone = true →
    s.pilot.cfg.i1g = [] → (readCells cellsA = some w ∨ (wordValid ((readCells cellsA).getD []) = false ∧ readCells cellsB = some w)) →
    wordValid w = true → (byteAt w 1).testBit 3 = false →
    Completes (.kindleWordRx p cellsA cellsB) s fun t =>
      t.line.node = .doze ∧ t.pilot = { s.pilot with committed := true, latch := { src := 1, krelay := byteAt w 2 } } ∧
      (∃ x : Bytes, t.out = .tone (otherPort p) (toneCells x) :: s.out ∧ wordValid x = true ∧ byteAt x 1 = byteAt w 1 ∧
        byteAt x 2 = min 255 (byteAt w 2 + 1)) ∧ PwrCounted [6, 8] s t ∧ Frame [.line, .pilot, .mram, .out] (fun _ => False) s t) ∧
  (∀ (s : State), s.line.core = false → s.line.node = .doze → s.pilot.committed = false → s.pilot.entryCan = 0 →
    Completes .kindleWordTimeout s fun t =>
      t.line = { s.line with node := .ember } ∧ t.pilot = { s.pilot with entryTone := false, dozes := min 255 (s.pilot.dozes + 1), dozeTime := s.pilot.dozeTime + (s.now - s.pilot.dozeFrom), dozeFrom := s.now } ∧ PwrCounted [7] s t ∧
      Frame [.line, .pilot, .mram] (fun _ => False) s t) ∧
  (∀ (s : State) (c : Fin 8) (f : CanFrame), s.line.core = false → s.line.node = .doze → s.pilot.committed = false → s.pilot.cfg.i1g = [] →
    swOn s.pilot.cfg.sw[c] = true → swMatch s.pilot.cfg.sw[c] f = true →
    Completes (.swFrameRx c (.frame f)) s (Woken { src := 3, chan := c.val, idOk := true, id := f.id } (kindleWord 3 0 false) [.fore, .aft] s)) ∧
  (∀ (s : State) (c : Fin 8), s.line.core = false → s.line.node = .doze → s.pilot.committed = false → swOn s.pilot.cfg.sw[c] = true →
    s.pilot.errs[c] < 31 → Completes (.swFrameRx c .error) s fun t =>
      t.pilot = { s.pilot with errs := s.pilot.errs.set c (s.pilot.errs[c] + 1) } ∧ Frame [.pilot] (fun _ => False) s t) ∧
  (∀ (s : State), s.line.core = false → s.line.node = .doze → s.pilot.committed = false → s.pilot.entryTone = false →
    Completes .dozeTimeout s fun t =>
      t.line = { s.line with node := .ember } ∧ t.pilot = { s.pilot with entryCan := 0, dozes := min 255 (s.pilot.dozes + 1), dozeTime := s.pilot.dozeTime + (s.now - s.pilot.dozeFrom), dozeFrom := s.now } ∧ PwrCounted [7] s t ∧
      Frame [.line, .pilot, .mram] (fun _ => False) s t) ∧
  (∀ (s : State), s.line.node = .doze → s.pilot.committed = true → s.line.thermOff = true → Completes .wakeStartThreshold s fun t =>
    t.line = { s.line with uvlo := true } ∧ Frame [.line] (fun _ => False) s t) ∧
  (∀ (s : State), s.line.node = .doze → s.pilot.committed = true → s.line.thermOff = false → Completes .wakeStartThreshold s fun t =>
    t.line = { s.line with node := .startup, core := true, por := true, fromOff := false, shed := false, uvlo := true, pairs := t.line.pairs } ∧
    (∀ p : Fin 4, pairMode (lfctl s) p.val = 0 ∨ (pairMode (lfctl s) p.val = 1 ∧ s.line.pairs[p].st ≠ .bias ∧ s.line.pairs[p].st ≠ .off) →
      t.line.pairs[p] = s.line.pairs[p]) ∧ t.boot = {} ∧ t.pilot.slept = false ∧ t.pilot.committed = false ∧ t.pilot.latch = s.pilot.latch ∧ t.mram.pwrcyc = s.mram.pwrcyc + 1 ∧
    t.mram.pwrCnt = s.mram.pwrCnt ∧ Frame [.line, .boot, .pilot, .mram] (fun _ => False) s t) ∧
  (∀ (s : State), s.line.node = .doze → s.pilot.committed = true → s.line.thermOff = true → Completes .wakeStartTimer s fun t =>
    t.line = { s.line with uvlo := true } ∧ Frame [.line] (fun _ => False) s t) ∧
  (∀ (s : State), s.line.node = .doze → s.pilot.committed = true → s.line.thermOff = false → Completes .wakeStartTimer s fun t =>
    t.line = { s.line with node := .startup, core := true, por := true, fromOff := false, shed := false, uvlo := true, pairs := t.line.pairs } ∧
    (∀ p : Fin 4, pairMode (lfctl s) p.val = 0 ∨ (pairMode (lfctl s) p.val = 1 ∧ s.line.pairs[p].st ≠ .bias ∧ s.line.pairs[p].st ≠ .off) →
      t.line.pairs[p] = s.line.pairs[p]) ∧ t.boot = {} ∧ t.pilot.slept = false ∧ t.pilot.committed = false ∧ t.pilot.latch = s.pilot.latch ∧ t.mram.pwrcyc = s.mram.pwrcyc + 1 ∧
    t.mram.pwrCnt = s.mram.pwrCnt ∧ Frame [.line, .boot, .pilot, .mram] (fun _ => False) s t) ∧
  (∀ w : Bytes, w.length = 4 → readCells (toneCells w) = some w)

/-- Fault handling (R357, R360, R361, R363, R365): a passed test is transient, a retiring lane retires, commands queue a test, begin a retirement and
return a held unit, and units whose REQ and EFF agree start counting again. What a lane's test measures is the model's reading (log 57). -/
def Obligations.FaultHandlingComplete : Prop :=
  (∀ (s : State) (r : TestResult) (q : QEnt), coreRun s = true → s.flt.mgmtDown = false → s.flt.test = some q → q.unit < 50 → q.unit ≠ 0x31 →
    r.pass = true → (∀ l : Fin 4, laneUnit q.unit = some l → laneMeasured s l = true) → s.flt.second = false → regF s 0xB000 15 12 = 0 → s.flt.queue = [] → (fUnit s q.unit).disT = false →
    Completes (.selfTestEnd r) s fun t =>
      t.flt.test = none ∧ t.flt.queue = [] ∧ (fUnit t q.unit).trans = s.mram.optime :: recentTrans s q.unit ∧ (fUnit t q.unit).lost = false ∧
      (∀ u : Fin 50, u.val ≠ q.unit → fUnit t u.val = fUnit s u.val) ∧ Raised [(0xA001, 3, q.unit, [q.unit, 1, q.code])] s t ∧
      Counted 0xB088 1 s t ∧ (q.unit ≠ 0x21 → t.sch = s.sch) ∧ Frame [.flt, .sch, .log] (fun o => o = 0xB088 ∨ o = 0xC180) s t) ∧
  (∀ (s : State) (l : Fin 4), s.lanes[l].retiring = true → 4 ≤ s.lanes[l].retSent → s.lanes[l].retAt + 100000 ≤ s.now →
    upAtDesign s (sisterLane l) = true → Completes (.laneRetireDone l) s fun t =>
      t.lanes[l] = { endUp s.lanes[l] with st := .retired, retiring := false, mode := 0, farRet := 0, farRetAny := false, lossAt := none } ∧
      (∀ m : Fin 4, m ≠ l → t.lanes[m] = s.lanes[m]) ∧ (fUnit t l.val).req = 2 ∧ (fUnit t l.val).held = false ∧ reqState t l.val = (if coreRun s then 2 else 0) ∧
      Frame [.lanes, .flt, .sch, .sw, .can, .hb, .log, .out] (fun o => SchedWords o ∨ o = 0x9618) s t) ∧
  (∀ (s : State) (v : Word) (u : Nat), UnitCmd 1 u v s → unitAssigned u = true → reqState s u ≠ 0 → CanQueue u s →
    Completes (.unitTestCmd .host 0xF v) s fun t =>
      t.flt = { s.flt with queue := s.flt.queue ++ [{ unit := u, row := if u = 0x30 then s.flt.row else 0 }] } ∧ Ended .host s t ∧ Frame [.flt, .out] (fun _ => False) s t) ∧
  (∀ (s : State) (v : Word) (l : Fin 4), UnitCmd 2 l.val v s → canRetire s l = true → CanQueue l.val s →
    upAtDesign s (sisterLane l) = true → Completes (.unitRetireCmd .host 0xF v) s fun t =>
      t.lanes[l] = { s.lanes[l] with retiring := true, retSent := 0, retAt := s.now, retCause := 3 } ∧
      (∀ m : Fin 4, m ≠ l → t.lanes[m] = s.lanes[m]) ∧ t.flt.queue = s.flt.queue ∧ Ended .host s t ∧ Frame [.lanes, .flt, .out] (fun _ => False) s t) ∧
  (∀ (s : State) (v : Word) (u row : Nat), UnitCmd 3 u v s → unitAssigned u = true → 4 ≤ u → (fUnit s u).held = true → CanQueue u s →
    row = (if u = 0x30 then s.flt.heldRows.headD s.flt.row else s.flt.row) → Completes (.unitReturnCmd .host 0xF v) s fun t =>
      t.flt = { s.flt with row := row, queue := s.flt.queue ++ [{ unit := u, ret := true, row := if u = 0x30 then row else 0 }] } ∧
      Raised [(0xA050, 6, u, [u, 3])] s t ∧ Ended .host s t ∧
      Frame [.flt, .log, .out] (· = 0xC180) s t) ∧
  (∀ (s : State) (v : Word) (l : Fin 4), UnitCmd 3 l.val v s → (fUnit s l.val).req = 2 → s.lanes[l].st = .retired → CanQueue l.val s →
    Completes (.unitReturnCmd .host 0xF v) s fun t =>
      t.lanes[l].st = .detect ∧ (∀ m : Fin 4, m ≠ l → t.lanes[m] = s.lanes[m]) ∧
      t.flt = { s.flt with queue := s.flt.queue ++ [{ unit := l.val, ret := true }] } ∧ Raised [(0xA050, 6, l.val, [l.val, 3])] s t ∧
      Ended .host s t ∧ Frame [.lanes, .flt, .log, .out] (· = 0xC180) s t) ∧
  (∀ (s : State), coreRun s = true → (∀ u : Fin 50, unitAssigned u.val = true → effState s u.val ≠ 3 ∧ reqState s u.val = effState s u.val) →
    Completes .disagreeCheck s fun t =>
      (∀ u : Fin 50, unitAssigned u.val = true → (fUnit t u.val).dis = 0 ∧ (fUnit t u.val).disH = false ∧ (fUnit t u.val).disT = (fUnit s u.val).disT) ∧
      t.flt.queue = s.flt.queue ∧ t.flt.test = s.flt.test ∧ Frame [.flt] (fun _ => False) s t)

/-- The management processor, scrubbing and policy (R366 to R368, R370, R371, R387): a watchdog restart and its end, one scrub step, a slow Pilot clock,
an access that gives way, a wear-levelling copy, a tick on which nothing fires and one on which an image rule raises its event. -/
def Obligations.BackgroundWorkComplete : Prop :=
  (∀ (s : State) (e : Bool), coreRun s = true → s.flt.mgmtDown = false → s.flt.test = none → s.mon.served = none → s.mon.opened = none →
    regF s 0xB000 11 8 = 0 → s.flt.restarts = [] → s.sw.kept = [] → Completes (.watchdogExpiry e) s fun t =>
      t.flt.mgmtDown = true ∧ t.flt.restarts = [s.now] ∧ t.flt.waiting = false ∧ t.flt.lastRst = s.now ∧ t.flt.queue = s.flt.queue ∧
      t.mon = { s.mon with ses := { s.mon.ses with level := 1, chal := none }, prog := none, inbuf := [] } ∧ t.sw.ports[(16 : Fin 20)].hst ≠ 0 ∧ t.sw.ports[(17 : Fin 20)].hst ≠ 0 ∧
      Counted 0xB080 1 s t ∧ Counted 0xB098 1 s t ∧
      Frame [.flt, .mon, .sw, .log, .out] (fun o => o = 0xB080 ∨ o = 0xB098 ∨ SendCounts o) s t) ∧
  (∀ (s : State), s.flt.mgmtDown = true → Completes .mgmtRestartWait s fun t =>
    t.flt = { s.flt with waiting := false } ∧ Frame [.flt] (fun _ => False) s t) ∧
  (∀ (s : State), s.flt.mgmtDown = true → s.flt.waiting = false → s.flt.queue = [] → s.flt.dawn = [] → Completes .mgmtRestartDone s fun t =>
    t.flt = { s.flt with mgmtDown := false } ∧ t.sw.ports[(16 : Fin 20)].hst = 0 ∧ t.sw.ports[(17 : Fin 20)].hst = 0 ∧
    t.mon = s.mon ∧ Frame [.flt, .sw, .pol, .log, .out] SendCounts s t) ∧
  (∀ (s : State), coreRun s = true → regB s 0xB004 0 = true → Completes (.sramScrubLine .deferred) s fun t =>
    Counted 0xB0B0 1 s t ∧ Frame [] (· = 0xB0B0) s t) ∧
  (∀ (s : State), coreRun s = true → regB s 0xB004 1 = true → Completes (.mramScrubStep .deferred) s fun t =>
    Counted 0xB0B0 1 s t ∧ Frame [] (· = 0xB0B0) s t) ∧
  (∀ (s : State), coreRun s = true → regB s 0xB004 0 = true → s.flt.sLine + 1 < 229376 → s.flt.sLate = true → Completes (.sramScrubLine .clean) s fun t =>
    t.flt = { s.flt with sLine := s.flt.sLine + 1 } ∧ Frame [.flt] (fun _ => False) s t) ∧
  (∀ (s : State), coreRun s = true → regB s 0xB004 0 = true → s.flt.sLine + 1 < 229376 → s.flt.sLate = true → s.flt.corrRows = [] →
    scrubSkips s (s.flt.sLine / 16) = false → Completes (.sramScrubLine .corrected) s fun t =>
      t.flt = { s.flt with sLine := s.flt.sLine + 1, corrRows := [(s.flt.sLine / 16, s.mram.optime)] } ∧ Counted 0xB09C 1 s t ∧
      Frame [.flt] (· = 0xB09C) s t) ∧
  (∀ (s : State), coreRun s = true → regB s 0xB004 1 = true → s.flt.mStep + 1 < 131072 → s.flt.mLate = true → Completes (.mramScrubStep .corrected) s fun t =>
    t.flt = { s.flt with mStep := s.flt.mStep + 1 } ∧ Counted 0xB0A4 1 s t ∧ Frame [.flt] (· = 0xB0A4) s t) ∧
  (∀ (s : State) (dev : Int), coreRun s = true → regB s 0xB004 3 = true → 300 < dev.natAbs → Completes (.pilotTrimTimer dev) s fun t =>
    Raised [(0xA060, 2, 0xFFF, [unsigned 16 dev])] s t ∧ Frame [.log] (· = 0xC180) s t) ∧
  (∀ (s : State) (b : Bool) (l d : Nat), coreRun s = true → regB s 0xB004 4 = true → l < 96 → (freeRegions (bank s b)).contains d = true →
    (freeRegions (bank s b)).all (fun p => decide (writesOf (bank s b) d ≤ writesOf (bank s b) p)) = true →
    (bank s b).st = 0 → underTest s 0x31 = false → writesOf (bank s b) d + 2 ^ 24 < writesOf (bank s b) (physOf (bank s b) l) →
    Completes (.wearLevelCopyDone b l d) s fun t =>
      physOf (bank t b) l = d ∧ writesOf (bank t b) d = writesOf (bank s b) d + 1 ∧ bank t (!b) = bank s (!b) ∧ (bank t b).gen = (bank s b).gen ∧
      (bank t b).sev7 = (bank s b).sev7 ∧ t.mram.optime = s.mram.optime ∧ Frame [.mram] (fun _ => False) s t) ∧
  (∀ (s : State), service s = true → s.flt.mgmtDown = false → regF s 0xB400 5 0 = 0 → s.pol.nrules = 0 → Completes .policyTick s fun t =>
    t.pol.tick = s.pol.tick + 1 ∧ t.pol.rules = s.pol.rules ∧ t.pol.lastRule = s.pol.lastRule ∧ t.pol.qovr = s.pol.qovr ∧
    t.log = { s.log with sev5 := false } ∧ Frame [.pol, .log] (fun _ => False) s t) ∧
  (∀ (s : State), service s = true → s.flt.mgmtDown = false → regF s 0xB400 5 0 = 0 → s.pol.nrules = 1 → (polRule s 0).on = true →
    (polRule s 0).linked = false → (polRule s 0).mode = 0 → (polRule s 0).action = 1 → ((mget s.pol.rules 0).getD {}).cond = false →
    polCmp (polRule s 0).cmp (fld (regRead s .host (polRule s 0).src) ((polRule s 0).lo + (polRule s 0).width - 1) (polRule s 0).lo) (polRule s 0).thresh = true →
    Completes .policyTick s fun t =>
      t.pol.tick = s.pol.tick + 1 ∧ t.pol.lastRule = 0 ∧ t.pol.lastAct = 1 ∧
      Raised [(0xA040, 1, 0xFFF, [0, 1, 0]), (0xA041, min 5 ((polRule s 0).arg % 8), 0xFFF,
        [0, fld (regRead s .host (polRule s 0).src) ((polRule s 0).lo + (polRule s 0).width - 1) (polRule s 0).lo])] s t ∧
      Counted 0xB800 1 s t ∧ Frame [.pol, .log] (fun o => o = 0xB800 ∨ o = 0xC180) s t)

/-- The event recorder (R378 to R383, R388, R390): an event enters the FIFO or coalesces, a verified write ends in both banks, operating time counts, a
statistic samples, the statistics are stored, the scan settles the index, and the index registers latch. -/
def Obligations.RecorderRowsComplete : Prop :=
  (∀ (s : State) (e : Event), lampServes s 10 = true → s.log.raised.head? = some e → s.log.fifo.any (coalesces e) = false → s.log.fifo.length < 512 →
    s.log.scanning = true → Completes .eventIntake s fun t =>
      t.log = { s.log with raised := s.log.raised.tail, fifo := s.log.fifo ++ [e] } ∧ t.lamp = { s.lamp with slot := t.lamp.slot } ∧
      Frame [.log, .lamp] (fun _ => False) s t) ∧
  (∀ (s : State) (e w : Event), lampServes s 10 = true → s.log.raised.head? = some e → s.log.fifo = [w] → coalesces e w = true → s.log.scanning = true →
    Completes .eventIntake s fun t =>
      t.log = { s.log with raised := s.log.raised.tail, fifo := [{ w with rep := w.rep + 1 }] } ∧ Counted 0xC188 1 s t ∧
      t.lamp = { s.lamp with slot := t.lamp.slot } ∧ Frame [.log, .lamp] (· = 0xC188) s t) ∧
  (∀ (s : State) (e : Event) (k : Nat), lampServes s 10 = true → s.log.raised = [e] → s.log.fifo = [] → s.log.scanning = false → s.log.writing = false → s.log.ovCnt = 0 →
    e.sev ≠ 7 → s.log.volatile = false → (rdBank s).gen.length < 47104 → freeSlot (rdBank s).gen 47104 0 = some k → Completes .eventIntake s fun t =>
      t.log = { s.log with raised := [], writing := true } ∧ t.mram.seq = nextSeq s ∧
      t.mram.torn = some { area := 0, idx := k, rec_ := { seq := nextSeq s, ev := e } } ∧ t.mram.pwrCnt = s.mram.pwrCnt ∧
      t.mram.optime = s.mram.optime ∧ t.lamp = { s.lamp with slot := t.lamp.slot } ∧ Frame [.log, .mram, .lamp] (fun _ => False) s t) ∧
  (∀ (s : State) (sl : Slot), s.log.writing = true → s.mram.torn = some sl → sl.area = 0 →
    s.mram.bankA.st = 0 → s.mram.bankB.st = 0 → s.log.fifo = [] → s.log.ovCnt = 0 → s.log.sev7Full = true → Completes (.recordWriteDone true true) s fun t =>
      mget t.mram.bankA.gen sl.idx = some sl.rec_ ∧ mget t.mram.bankB.gen sl.idx = some sl.rec_ ∧
      t.mram.torn = none ∧ t.log = { s.log with writing := false, head := sl.rec_.seq } ∧ Counted 0xC184 1 s t ∧
      t.mram.bankA.sev7 = s.mram.bankA.sev7 ∧ t.mram.bankB.sev7 = s.mram.bankB.sev7 ∧ Frame [.log, .mram, .mon] (· = 0xC184) s t) ∧
  (∀ (s : State), s.line.core = true → Completes .optimeTick s fun t =>
    t.mram = { s.mram with optime := s.mram.optime + 1 } ∧ Frame [.mram] (fun _ => False) s t) ∧
  (∀ (s : State) (ext : Bool) (i : Nat), coreRun s = true → (byteAt (statDef s ext i) 0).testBit 0 = true → Completes (.statSample ext i) s fun t =>
    mget t.log.stats (if ext then 64 + i else i) = some (addSample s (statDef s ext i) ext ((mget s.log.stats (if ext then 64 + i else i)).getD {})
      (byteAt (statDef s ext i) 2)
      ((regRead s .monitor (beAt (statDef s ext i) 4 2)).toNat / 2 ^ byteAt (statDef s ext i) 1 % 2 ^ byteAt (statDef s ext i) 2)) ∧
    (∀ j : Fin 192, j.val ≠ (if ext then 64 + i else i) → mget t.log.stats j.val = mget s.log.stats j.val) ∧ t.log.fifo = s.log.fifo ∧
    Frame [.log] (fun _ => False) s t) ∧
  (∀ (s : State), coreRun s = true → Completes .statFlush s fun t =>
    t.mram = { s.mram with stats := s.log.stats } ∧ Frame [.mram] (fun _ => False) s t) ∧
  (∀ (s : State), coreRun s = true → s.log.scanning = true → s.mram.torn = none → (rdBank s).gen = [] → (rdBank s).sev7 = [] →
    s.mram.gasp.valid = false → s.log.fifo = [] → s.log.ovCnt = 0 → Completes .recorderScanDone s fun t =>
      t.log = { s.log with scanning := false, head := 0, volatile := s.mram.bankA.st == 2 && s.mram.bankB.st == 2, sev7Full := false } ∧
      Frame [.log, .mram] (fun _ => False) s t) ∧
  (∀ (s : State) (req : Req) (be : BitVec 4) (v x : Word), Reaches req 0xC020 be s → mergeBe be (getLatch s req 0xC020) (v &&& 0xC000FFFF) = x →
    Completes (.recRidxLatch req be v) s fun t =>
    getLatch t req 0xC020 = x ∧ (∀ i : Fin 8, getLatch t req (0xC040 + 4 * i.val) = (slotWords s (fld x 31 30) (fld x 15 0)).getD i.val 0) ∧
    Ended req s t ∧ Frame [.latHost, .latMon, .latFar, .free, .out] (fun _ => False) s t) ∧
  (∀ (s : State) (req : Req) (be : BitVec 4) (v x : Word), Reaches req 0xC060 be s → mergeBe be (getLatch s req 0xC060) (v &&& 0x8000007F) = x →
    Completes (.recSidxLatch req be v) s fun t =>
    getLatch t req 0xC060 = x ∧ (∀ i : Fin 16, getLatch t req (0xC080 + 4 * i.val) = (statWords s (bitAt x 31) (fld x 6 0)).getD i.val 0) ∧
    Ended req s t ∧ Frame [.latHost, .latMon, .latFar, .out] (fun _ => False) s t)

/-- Clearing the recorder and its banks (R391 to R394): a challenge is made, a right response removes the records of its SCOPE and resets the failure
count, a challenge and a lockout end, a bank is restored from the other, a bank that does not answer is lost. -/
def Obligations.RecorderClearingComplete : Prop :=
  (∀ (s : State) (v : Word), Reaches .host 0xC0C0 0xF s → fld v 31 16 = 0xB7C1 → bitAt v 8 = true → regB s 0xC000 0 = true →
    s.log.lockout = false → s.otp.clr.isSome = true → Completes (.clearReq .host 0xF v) s fun t =>
      t.log = { s.log with chal := randomBytes s 16, chalOk := true, chalSrc := 3, chalHead := s.log.head, scope := fld v 4 0 } ∧
      Ended .host s t ∧ Frame [.log, .free, .out] (fun _ => False) s t) ∧
  (∀ (s : State) (v : Word) (key : Bytes), Reaches .host 0xC0C0 0xF s → fld v 31 16 = 0xB7C1 → bitAt v 8 = false → bitAt v 9 = true →
    regB s 0xC000 0 = true → s.log.lockout = false → s.otp.clr = some key → s.log.chalOk = true → fld v 4 0 = s.log.scope →
    hmac key (s.log.chal ++ beBytes 8 s.uid ++ [BitVec.ofNat 8 s.log.scope] ++ beBytes 4 s.log.chalHead) = respBytes s → s.mram.bankA.st = 0 →
    Completes (.clearGo .host 0xF v) s fun t =>
      t.log.chalOk = false ∧ t.log.fails = 0 ∧ t.log.lockout = false ∧
      t.mram.bankA.gen.all (fun e => !clearedBy s.log.scope e.2) = true ∧ t.mram.bankB.sev7.all (fun e => !clearedBy s.log.scope e.2) = true ∧
      t.mram.optime = s.mram.optime ∧ t.log.raised = s.log.raised ∧ Ended .host s t ∧ Counted 0xC180 1 s t ∧ Counted 0xC1A0 1 s t ∧
      Frame [.log, .mram, .out] (fun o => 0xC180 ≤ o ∧ o < 0xC1A8) s t) ∧
  (∀ (s : State), Completes .clearChallengeExpiry s fun t => t.log = { s.log with chalOk := false } ∧ Frame [.log] (fun _ => False) s t) ∧
  (∀ (s : State), s.log.lockout = true → Completes .clearLockoutEnd s fun t =>
    t.log = { s.log with lockout := false, fails := 0 } ∧ Frame [.log] (fun _ => False) s t) ∧
  (∀ (s : State) (b : Bool), coreRun s = true → (bank s b).st = 1 → (bank s b).resync = none → (bank s (!b)).st = 0 →
    Completes (.logResyncDone b) s fun t =>
      bank t b = { bank s b with st := 0, gen := (bank s (!b)).gen, sev7 := (bank s (!b)).sev7 } ∧ bank t (!b) = bank s (!b) ∧
      Raised [(0xB011, 1, 0xFFF, [b.toNat])] s t ∧ t.log.volatile = false ∧ t.mram.optime = s.mram.optime ∧ Frame [.mram, .log] (· = 0xC180) s t) ∧
  (∀ (s : State) (b : Bool), coreRun s = true → (bank s b).st ≠ 2 → (bank s (!b)).st ≠ 2 → Completes (.bankNoAnswer b) s fun t =>
    bank t b = { bank s b with st := 2, resync := none } ∧ bank t (!b) = bank s (!b) ∧ Raised [(0xB002, 7, 0xFFF, [if b then 1 else 0, 4])] s t ∧
    t.mram.optime = s.mram.optime ∧ t.log.volatile = s.log.volatile ∧ Frame [.mram, .log] (· = 0xC180) s t)

/-- Monitor commands that show (R400, R403): each is counted, prints its lines and ends with OK, in a session on the UART or from a remote node, and
changes nothing else. -/
def Obligations.MonitorShowsComplete : Prop :=
  (∀ (s : State) (x : Ses), MonReady x s → Completes (.monHelp x) s (Shows x [("HELP", [])] s)) ∧
  (∀ (s : State) (x : Ses), MonReady x s → Completes (.monId x) s (Shows x [("ID", [s.uid, Config.stepping.toNat, (regRead s .monitor 0x0C).toNat,
    (regRead s .monitor 0x100).toNat, s.boot.imageId, s.boot.active])] s)) ∧
  (∀ (s : State) (x : Ses) (off n : Nat), MonReady x s → off % 4 = 0 → 1 ≤ n → n ≤ 64 → off + 4 * n ≤ 65536 →
    ((List.range n).map (fun i => off + 4 * i)).any effectReg = false →
    Completes (.monRd x off n) s (Shows x (regLines s ((List.range n).map (fun i => off + 4 * i))) s)) ∧
  (∀ (s : State) (x : Ses), MonReady x s → Completes (.monRecStat x) s (Shows x [("REC", [(recStat s).toNat, s.log.head, s.log.ovw, s.mram.optime,
    s.mram.pwrcyc] ++ (gaspBytes s.log.gaspRead).map BitVec.toNat)] s)) ∧
  (∀ (s : State) (x : Ses) (a : DumpArea), MonReady x s → Completes (.monRecDump x a) s (Shows x ((dumpRecords s a).map (fun r =>
    ("REC", [r.1, r.2.1] ++ (recBytes r.2.2.seq r.2.2.ev).map BitVec.toNat))) s)) ∧
  (∀ (s : State) (x : Ses) (e : Bool) (i : Nat), MonReady x s → i < (if e then 128 else 64) →
    Completes (.monRecStats x e i) s (Shows x [("STAT", i :: (statWords s e i).map BitVec.toNat)] s)) ∧
  (∀ (s : State) (x : Ses) (l : Fin 4), MonReady x s → Completes (.monLane x (some l.val)) s (Shows x (regLines s (laneRegs l.val)) s)) ∧
  (∀ (s : State) (x : Ses), MonReady x s → Completes (.monLane x none) s (Shows x (regLines s ((List.range 4).flatMap laneRegs)) s)) ∧
  (∀ (s : State) (x : Ses), MonReady x s → Completes (.monTopo x) s (Shows x (("TOPO", [istateNo s.inaug[segSel s].st, s.inaug[segSel s].epoch,
    s.inaug[segSel s].table.length, ownPos s (segSel s), ownHandle s (segSel s)]) ::
    (List.range s.inaug[segSel s].table.length).filterMap (fun i => s.inaug[segSel s].table[i]?.map (fun e =>
      ("NODE", [i + 1, e.uid, e.handle, e.eflags, e.rank, e.slotref])))) s)) ∧
  (∀ (s : State) (x : Ses), MonReady x s → Completes (.monTime x) s (Shows x (regLines s
    ([0x3008, 0x300C, 0x3020, 0x3024, 0x3028, 0x302C, 0x3030, 0x3060, 0x3064, 0x3068, 0x306C] ++ (List.range 9).map (fun i => 0x3090 + 4 * i))) s)) ∧
  (∀ (s : State) (x : Ses), MonReady x s → Completes (.monFault x) s (Shows x (regLines s
    ([0xB008, 0xB010] ++ (List.range 8).map (fun i => 0xB040 + 4 * i) ++ (List.range 13).map (fun i => 0xB080 + 4 * i)) ++
    ((List.range 50).filter (fun u => unitAssigned u && effState s u != 1)).map (fun u => ("UNIT", [u, (unitWord s u).toNat]))) s)) ∧
  (∀ (s : State) (x : Ses), MonReady x s → Completes (.monProfileShow x) s (Shows x [("PROFILE", [s.boot.active, s.boot.source, s.boot.switches,
    s.boot.psel, s.boot.profiles])] s)) ∧
  (∀ (s : State) (x : Ses), MonReady x s → Completes (.monTel x) s (Shows x (regLines s ([0xD008, 0xD00C] ++ [4, 5, 6, 7].map (fun i => 0xD080 + 4 * i))) s))

/-- Monitor commands that act at SERVICE (R86, R139, R270, R339, R357, R361, R363, R391, R403, R407): each has the effect its own chapter gives it, is
counted and answered OK, and what it changes is all that changes. -/
def Obligations.MonitorActsComplete : Prop :=
  (∀ (s : State) (x : Ses) (v : Word), MonReady x s → (sessOf s x).level = 2 → Completes (.monWr x 0x14 v) s fun t =>
    reg t 0x14 = v ∧ Answered x [("OK", [])] s t ∧ SchKept s t ∧ t.mon = s.mon ∧
    Raised [(0xD005, 6, 0xFFF, [0x14, v.toNat] ++ initiator s x)] s t ∧
    Frame [.log, .free, .out, .sch] (fun o => o = 0x14 ∨ o = 0xC180 ∨ o = 0xD080) s t) ∧
  (∀ (s : State) (x : Ses) (sc : Nat), MonReady x s → (sessOf s x).level = 2 → sc < 32 → s.log.lockout = false → s.otp.clr.isSome = true →
    Completes (.monRecClear x sc) s fun t =>
      t.log = { s.log with chal := randomBytes s 16, chalOk := true, chalSrc := 1, chalHead := s.log.head, scope := sc } ∧ t.mon = s.mon ∧
      Answered x [("CHAL", (randomBytes s 16).map BitVec.toNat), ("OK", [])] s t ∧ SchKept s t ∧ Frame [.log, .free, .out, .sch] (· = 0xD080) s t) ∧
  (∀ (s : State) (x : Ses) (r key : Bytes), MonReady x s → (sessOf s x).level = 2 → s.log.lockout = false → s.otp.clr = some key →
    s.log.chalOk = true → hmac key (s.log.chal ++ beBytes 8 s.uid ++ [BitVec.ofNat 8 s.log.scope] ++ beBytes 4 s.log.chalHead) = r →
    s.mram.bankA.st = 0 → Completes (.monRecResp x r) s fun t =>
      t.log.chalOk = false ∧ t.log.fails = 0 ∧ t.mram.bankA.gen.all (fun e => !clearedBy s.log.scope e.2) = true ∧ t.mon = s.mon ∧
      Answered x [("OK", [])] s t ∧ SchKept s t ∧ Frame [.log, .mram, .out, .sch] (fun o => (0xC180 ≤ o ∧ o < 0xC1A8) ∨ o = 0xD080) s t) ∧
  (∀ (s : State) (x : Ses) (p : Nat), MonReady x s → (sessOf s x).level = 2 → p < 4 → switchReason s p = 0 → Completes (.monProfileSet x p) s fun t =>
    t.boot = { s.boot with phase := .switchVerify, target := p, reqSource := 1, attempt := 0, checked := false } ∧ Counted 0xD080 1 s t ∧
    (x = .onUart → t.out.take 2 = [.line .onUart "PROMPT" [0, s.mon.ses.level], .line .onUart "OK" []]) ∧ SchKept s t ∧ t.mon = s.mon ∧
    Frame [.boot, .out, .sch] (· = 0xD080) s t) ∧
  (∀ (s : State) (x : Ses) (u : Nat), MonReady x s → (sessOf s x).level = 2 → coreRun s = true → unitAssigned u = true → u < 256 → reqState s u ≠ 0 →
    CanQueue u s → Completes (.monTest x u) s fun t =>
      t.flt = { s.flt with queue := s.flt.queue ++ [{ unit := u, row := if u = 0x30 then s.flt.row else 0 }] } ∧ Answered x [("OK", [])] s t ∧ SchKept s t ∧ t.mon = s.mon ∧
      Frame [.flt, .out, .sch] (· = 0xD080) s t) ∧
  (∀ (s : State) (x : Ses) (u row : Nat), MonReady x s → (sessOf s x).level = 2 → unitAssigned u = true → 4 ≤ u → u < 256 → (fUnit s u).held = true →
    CanQueue u s → row = (if u = 0x30 then s.flt.heldRows.headD s.flt.row else s.flt.row) → Completes (.monReturn x u) s fun t =>
      t.flt = { s.flt with row := row, queue := s.flt.queue ++ [{ unit := u, ret := true, row := if u = 0x30 then row else 0 }] } ∧ Raised [(0xA050, 6, u, [u, 1] ++ initiator s x)] s t ∧
      Answered x [("OK", [])] s t ∧ SchKept s t ∧ t.mon = s.mon ∧ Frame [.flt, .log, .out, .sch] (fun o => o = 0xC180 ∨ o = 0xD080) s t) ∧
  (∀ (s : State) (x : Ses) (l : Fin 4), MonReady x s → (sessOf s x).level = 2 → canRetire s l = true → underTest s l.val = false →
    upAtDesign s (sisterLane l) = true → Completes (.monRetire x l.val) s fun t =>
      t.lanes[l] = { s.lanes[l] with retiring := true, retSent := 0, retAt := s.now, retCause := 3 } ∧
      (∀ m : Fin 4, m ≠ l → t.lanes[m] = s.lanes[m]) ∧ Answered x [("OK", [])] s t ∧ SchKept s t ∧ t.mon = s.mon ∧
      Frame [.lanes, .flt, .out, .sch] (· = 0xD080) s t) ∧
  (∀ (s : State) (x : Ses) (c : Fin 8), MonReady x s → (sessOf s x).level = 2 → s.can[c].st = 4 → Completes (.monCanrec x c.val) s fun t =>
    t.can[c] = { s.can[c] with st := 5, recov := 0, recSrc := 1 } ∧ (∀ e : Fin 8, e ≠ c → t.can[e] = s.can[e]) ∧
    Answered x [("OK", [])] s t ∧ SchKept s t ∧ t.mon = s.mon ∧ Frame [.can, .out, .sch] (· = 0xD080) s t) ∧
  (∀ (s : State) (x : Ses), MonReady x s → (sessOf s x).level = 2 → s.inaug[segSel s].st = .settled → isLeader s (segSel s) = true →
    s.inaug[segSel s].pending = none → s.inaug[segSel s].issue = none → s.inaug[segSel s].changes = [] →
    s.inaug[segSel s].reorder = false → s.line.node = .run →
    Completes (.monReplan x) s fun t =>
      t.inaug[segSel s].changes = [{ kind := 128, src := 1 }] ∧ t.inaug[segSel s].repSrc = 1 ∧
      t.inaug[segSel s].table = s.inaug[segSel s].table ∧ Answered x [("OK", [])] s t ∧ SchKept s t ∧ t.mon = s.mon ∧
      Frame [.inaug, .out, .sch] (· = 0xD080) s t) ∧
  (∀ (s : State) (x : Ses) (wakeLow : Bool), MonReady x s → (sessOf s x).level = 2 → inRound s = false →
    ownVeto s wakeLow = 0 → CtlWaits s → tokenEnd s (segOf s .fore) .fore = false → tokenEnd s (segOf s .aft) .aft = false →
    Completes (.monSleep x wakeLow) s fun t =>
      t.snuf.round = (s.snuf.ownRound + 1) % 65536 ∧ t.snuf.init = true ∧ t.snuf.result = 1 ∧ t.snuf.out = [.fore, .aft] ∧ t.snuf.voted = true ∧
      (t.sch.ctl.drop s.sch.ctl.length).map (fun c => (c.fore, c.aft)) = [(true, false), (false, true)] ∧
      Raised [(0x1001, 0, 0xFFF, [(s.snuf.ownRound + 1) % 65536, ownHandle s 0])] s t ∧ PwrCounted [0] s t ∧ Answered x [("OK", [])] s t ∧
      t.mon = s.mon ∧ Frame [.snuf, .sch, .mram, .log, .out] (fun o => o = 0xC180 ∨ o = 0xD080) s t) ∧
  (∀ (s : State) (x : Ses) (sel : Nat), MonReady x s → (sessOf s x).level = 2 → telOn s = true → sel ≤ 1 → s.mon.coll ≠ 0 →
    s.mon.coll ≠ ownHandle s 0 → Completes (.monTelSend x sel) s fun t =>
      t.mon = { s.mon with telSel := some (max sel (s.mon.telSel.getD 0)) } ∧ Answered x [("OK", [])] s t ∧ SchKept s t ∧
      Frame [.mon, .out, .sch] (· = 0xD080) s t)

/-- Levels, keys and timers of the monitor (R400 to R402): unlock prints a challenge, the right response sets SERVICE, lock and idle time return to
VIEW, a blank key slot takes a key once, challenge and lockout end, a bad line is answered ERR 1. -/
def Obligations.MonitorLevelsComplete : Prop :=
  (∀ (s : State) (x : Ses), MonReady x s → s.mon.lockEnd = none → s.otp.mon.isSome = true → (sessOf s x).chal = none →
    Completes (.monUnlockRequest x) s fun t =>
      (sessOf t x).chal = some (randomBytes s 16) ∧ (sessOf t x).level = (sessOf s x).level ∧
      Answered x [("CHAL", (randomBytes s 16).map BitVec.toNat), ("OK", [])] s t ∧ SchKept s t ∧ t.mon.fails = s.mon.fails ∧
      t.mon.served = s.mon.served ∧ Frame [.mon, .free, .out, .sch] (· = 0xD080) s t) ∧
  (∀ (s : State) (x : Ses) (r key c : Bytes), MonReady x s → s.mon.lockEnd = none → s.otp.mon = some key → (sessOf s x).chal = some c →
    hmac key (c ++ beBytes 8 s.uid ++ [0x02#8]) = r → Completes (.monUnlockResponse x r) s fun t =>
      (sessOf t x).level = 2 ∧ (sessOf t x).chal = none ∧ t.mon.fails = 0 ∧ t.mon.lockEnd = none ∧ Answered x [("OK", [])] s t ∧ SchKept s t ∧
      Raised [(0xD001, 6, 0xFFF, [if x = .remote then 1 else 0] ++ initiator s x)] s t ∧
      Frame [.mon, .log, .out, .sch] (fun o => o = 0xC180 ∨ o = 0xD080) s t) ∧
  (∀ (s : State) (x : Ses), MonReady x s → Completes (.monLock x) s fun t =>
    (sessOf t x).level = 1 ∧ (sessOf t x).chal = (sessOf s x).chal ∧ t.mon.served = s.mon.served ∧ Answered x [("OK", [])] s t ∧ SchKept s t ∧
    Frame [.mon, .out, .sch] (· = 0xD080) s t) ∧
  (∀ (s : State) (k : KeySlot) (key : Bytes), MonReady .onUart s → coreRun s = true → key.length = 32 → s.mon.ses.level = 2 → otpSlot s.otp k = none →
    Completes (.monKey .onUart k key) s fun t =>
      otpSlot t.otp k = some key ∧ (∀ m ∈ [KeySlot.img, KeySlot.mon, KeySlot.clr], m ≠ k → otpSlot t.otp m = otpSlot s.otp m) ∧ t.mon = s.mon ∧
      Raised [(0xD020, 6, 0xFFF, [match k with | .img => 0 | .mon => 1 | .clr => 2])] s t ∧ Answered .onUart [("OK", [])] s t ∧ SchKept s t ∧
      Frame [.otp, .log, .out] (fun o => o = 0xC180 ∨ o = 0xD080) s t) ∧
  (∀ (s : State) (k : KeySlot) (key : Bytes), MonReady .remote s → Completes (.monKey .remote k key) s fun t =>
    t.mon = s.mon ∧ Answered .remote [("ERR", [3])] s t ∧ SchKept s t ∧ Frame [.sch] (· = 0xD080) s t) ∧
  (∀ (s : State) (x : Ses), MonReady x s → Completes (.monSyntaxError x) s fun t =>
    t.mon = s.mon ∧ Answered x [("ERR", [1])] s t ∧ SchKept s t ∧ Frame [.out, .sch] (· = 0xD080) s t) ∧
  (∀ (s : State) (x : Ses), Completes (.monChallengeExpiry x) s fun t =>
    (sessOf t x).chal = none ∧ (sessOf t x).level = (sessOf s x).level ∧ Frame [.mon] (fun _ => False) s t) ∧
  (∀ (s : State) (x : Ses), Completes (.monLockoutEnd x) s fun t =>
    t.mon = { s.mon with lockEnd := none } ∧ Frame [.mon] (fun _ => False) s t) ∧
  (∀ (s : State) (x : Ses), Completes (.serviceIdleTimeout x) s fun t =>
    (sessOf t x).level = min (sessOf s x).level 1 ∧ (sessOf t x).chal = (sessOf s x).chal ∧ Frame [.mon] (fun _ => False) s t)

/-- Programming the NVM (R404): the command asks for the image with READY, a good block is programmed and acknowledged, and an image read back
equal with a good header ends with NVM_PROGRAMMED and OK. Remote sessions (R405, R406): node asks a far node, local closes the session or
is answered, a request opens a session here, its response opens it there, and time without an answer or a command ends it. -/
def Obligations.NvmAndRemoteSessionsComplete : Prop :=
  (∀ (s : State) (len : Nat), MonReady .onUart s → s.mon.ses.level = 2 → len % 4 = 0 → 256 ≤ len → len ≤ 8388608 → s.boot.phase = .committed →
    Completes (.monNvmProg .onUart len) s fun t =>
      t.mon = { s.mon with prog := some { len := len, data := [], next := 1 } } ∧ t.out = .line .onUart "READY" [] :: s.out ∧
      Counted 0xD080 1 s t ∧ Frame [.mon, .out] (· = 0xD080) s t) ∧
  (∀ (s : State) (blk : Bytes) (num crc : Nat) (p : Prog), monAlive s = true → s.mon.prog = some p → blk.length = 1024 → crc = xmodemCrc blk → num = p.next % 256 →
    p.next < 256 → Completes (.nvmProgBlock blk num crc) s fun t =>
      t.mon = { s.mon with prog := some { p with data := p.data ++ blk.take (p.len - p.data.length), next := (p.next + 1) % 256 } } ∧
      t.out.head? = some (.line .onUart "ACK" []) ∧ Frame [.mon, .out] (fun _ => False) s t) ∧
  (∀ (s : State) (p : Prog), monAlive s = true → coreRun s = true → s.mon.prog = some p → p.data.length = p.len → headerCrcOk (p.data.take 64) = true →
    headerFieldsOk (p.data.take 64) = true → s.mon.opened = none → Completes (.nvmProgDone p.data) s fun t =>
      t.mon = { s.mon with prog := none } ∧ Raised [(0xD021, 6, 0xFFF, [p.len])] s t ∧
      t.out = .line .onUart "PROMPT" [0, s.mon.ses.level] :: .line .onUart "OK" [] :: s.out ∧ Frame [.mon, .log, .out] (· = 0xC180) s t) ∧
  (∀ (s : State) (h : Nat) (e : TopoEnt), MonReady .onUart s → s.inaug[segSel s].table.find? (fun e => e.handle == h && h != 0) = some e →
    252 ≤ rowQuota (ownRow s (segSel s)) (bitAt (reg s 0x5008) (monClass s)) → Completes (.monNode .onUart h) s fun t =>
      t.mon = { s.mon with opened := some { seg := segSel s, handle := h, uid := e.uid }, opening := true, waiting := true, mseq := (s.mon.mseq + 1) % 65536 } ∧
      t.sch = { s.sch with dyn := s.sch.dyn ++ [{ origin := 5, inp := 16, laneB := bitAt (reg s 0x5008) (monClass s), cls := monClass s, kind := 8, dtype := 0, dest := [BitVec.ofNat 8 h], seg := segSel s, body := remotePayload 0x4D 2 ((s.mon.mseq + 1) % 65536) e.uid s.uid [] }] } ∧
      t.out = s.out ∧ Counted 0xD080 1 s t ∧ Frame [.mon, .sch] (· = 0xD080) s t) ∧
  (∀ (s : State), MonReady .onUart s → Completes (.monLocal .onUart) s fun t =>
    t.mon = s.mon ∧ Answered .onUart [("OK", [])] s t ∧ SchKept s t ∧ Frame [.out] (· = 0xD080) s t) ∧
  (∀ (s : State) (f : Far), monAlive s = true → coreRun s = true → s.mon.waiting = false → s.mon.prog = none → s.mon.opened = some f →
    s.mon.opening = false → 252 ≤ rowQuota (ownRow s f.seg) (bitAt (reg s 0x5008) (monClass s)) → Completes (.monLocal .onUart) s fun t =>
      t.mon = { s.mon with opened := none, waiting := false, opening := false, mseq := (s.mon.mseq + 1) % 65536 } ∧
      t.sch.dyn = s.sch.dyn ++ [{ origin := 5, inp := 16, laneB := bitAt (reg s 0x5008) (monClass s), cls := monClass s, kind := 8, dtype := 0, dest := [BitVec.ofNat 8 f.handle], seg := f.seg, body := remotePayload 0x4D 4 ((s.mon.mseq + 1) % 65536) f.uid s.uid [] }] ∧ SchKept s t ∧
      Raised [(0xD011, 0, 0xFFF, [f.handle])] s t ∧ t.out = .line .onUart "PROMPT" [0, s.mon.ses.level] :: .line .onUart "OK" [] :: s.out ∧
      Frame [.mon, .sch, .log, .out] (fun o => o = 0xC180 ∨ o = 0xD080) s t) ∧
  (∀ (s : State) (f b : Bytes) (x : Far), monAlive s = true → coreRun s = true → segGw s = false → remoteValid f 0x4D = true → payloadOf f = b →
    regB s 0xD000 5 = true → beAt b 4 8 = s.uid → (byteAt b 1).testBit 1 = true → s.mon.served = none →
    { seg := 0, handle := (readHdr f).src, uid := beAt b 12 8 } = x → 252 ≤ rowQuota (ownRow s 0) (bitAt (reg s 0x5008) (monClass s)) →
    Completes (.remoteRequestRx f) s fun t =>
      t.mon = { s.mon with served := some x, rem := { level := 1 }, mseqIn := beAt b 2 2 } ∧ Raised [(0xD010, 1, 0xFFF, [x.handle])] s t ∧
      t.sch.dyn = s.sch.dyn ++ [{ origin := 5, inp := 16, laneB := bitAt (reg s 0x5008) (monClass s), cls := monClass s, kind := 8, dtype := 0, dest := [BitVec.ofNat 8 x.handle], seg := 0, body := remotePayload 0x52 1 (beAt b 2 2) s.uid x.uid (lineText "OK" []) }] ∧ SchKept s t ∧
      Counted 0xD08C 1 s t ∧ Frame [.mon, .sch, .log] (fun o => o = 0xC180 ∨ o = 0xD08C) s t) ∧
  (∀ (s : State) (f b : Bytes) (x : Far), monAlive s = true → coreRun s = true → remoteValid f 0x52 = true → s.mon.opened = some x → payloadOf f = b →
    s.mon.waiting = true → s.mon.opening = true → (readHdr f).src = x.handle → beAt b 2 2 = s.mon.mseq → beAt b 4 8 = x.uid → beAt b 12 8 = s.uid →
    (byteAt b 1).testBit 0 = true → slice b 24 (beAt b 20 2) = lineText "OK" [] → Completes (.remoteResponseRx f) s fun t =>
      t.mon = { s.mon with waiting := false, opening := false } ∧ Raised [(0xD010, 1, 0xFFF, [x.handle])] s t ∧
      t.out.drop 2 = s.out ∧ t.out.getD 1 (.line .onUart "" []) = .line .onUart "TEXT" [0x4F, 0x4B] ∧
      Frame [.mon, .log, .free, .out] (· = 0xC180) s t) ∧
  (∀ (s : State), s.mon.waiting = true → s.mon.opening = false → s.mon.opened = none → Completes .remoteResponseTimeout s fun t =>
    t.mon = { s.mon with waiting := false } ∧ t.out = .line .onUart "PROMPT" [0, s.mon.ses.level] :: .line .onUart "ERR" [6] :: s.out ∧
    Frame [.mon, .out] (fun _ => False) s t) ∧
  (∀ (s : State) (f : Far), coreRun s = true → s.mon.served = some f → Completes (.remoteSessionIdle true) s fun t =>
    t.mon = { s.mon with served := none, rem := { level := 0 } } ∧ Raised [(0xD011, 0, 0xFFF, [f.handle])] s t ∧ Frame [.mon, .log] (· = 0xC180) s t) ∧
  (∀ (s : State) (f : Far), coreRun s = true → s.mon.opened = some f → s.mon.opening = false → Completes (.remoteSessionIdle false) s fun t =>
    t.mon = { s.mon with opened := none, waiting := false } ∧ Raised [(0xD011, 0, 0xFFF, [f.handle])] s t ∧ Frame [.mon, .log] (· = 0xC180) s t)

/-- Telemetry (R407, R410): the period asks for a frame or merges with the one that waits, a collector keeps the newest payload of each handle, another
node counts it discarded, and MON_TIDX latches an entry. -/
def Obligations.TelemetryRowsComplete : Prop :=
  (∀ (s : State), telOn s = true → regF s 0xD008 23 16 ≠ 0 → s.mon.coll ≠ 0 → s.mon.coll ≠ ownHandle s 0 → Completes .telemetryPeriod s fun t =>
    t.mon = { s.mon with telSel := some (s.mon.telSel.getD 0) } ∧ Frame [.mon] (fun _ => False) s t) ∧
  (∀ (s : State) (f : Bytes), committed s = true → s.flt.mgmtDown = false → hcrcOk f = true → byteAt f 0 = 8 → trailerOk f = true →
    byteAt (payloadOf f) 0 = 0x54 → regB s 0xD000 6 = true → Completes (.telemetryFrameRx f) s fun t =>
      t.mon = { s.mon with files := (byteAt f 2, (payloadOf f).take 192, s.now) :: s.mon.files.filter (fun x => x.1 != byteAt f 2) } ∧
      Counted 0xD098 1 s t ∧ Frame [.mon] (· = 0xD098) s t) ∧
  (∀ (s : State) (f : Bytes), committed s = true → s.flt.mgmtDown = false → hcrcOk f = true → byteAt f 0 = 8 → trailerOk f = true →
    byteAt (payloadOf f) 0 = 0x54 → regB s 0xD000 6 = false → Completes (.telemetryFrameRx f) s fun t =>
      Counted 0xD09C 1 s t ∧ Frame [] (· = 0xD09C) s t) ∧
  (∀ (s : State) (req : Req) (be : BitVec 4) (v : Word) (n : Nat), Reaches req 0xD010 be s → fld (mergeBe be (getLatch s req 0xD010) v) 7 0 = n → Completes (.monTidxLatch req be v) s fun t =>
    fld (getLatch t req 0xD010) 7 0 = n ∧
    getLatch t req 0xD014 = ~~~(telWords s n).1 ∧ (∀ i : Fin 48, getLatch t req (0xD100 + 4 * i.val) = (telWords s n).2.getD i.val 0) ∧
    (s.mon.files.find? (fun x => x.1 == n) = none → ∀ i : Fin 48, getLatch t req (0xD100 + 4 * i.val) = 0) ∧ Ended req s t ∧
    Frame [.latHost, .latMon, .latFar, .out] (fun _ => False) s t)

/-- Registers and interrupts (R10, R12, R421 to R423): a plain register takes the enabled bytes, a locked one stays after commit, GL_IFORCE sets pending
bits, a W1C write clears them, GL_IEN follows its write, a clear of a line-feed latch restarts its pair, and the balls follow. -/
def Obligations.RegisterRowsComplete : Prop :=
  (∀ (s : State) (req : Req) (be : BitVec 4) (v : Word), Reaches req 0x14 be s → Completes (.registerWrite req 0x14 be v) s fun t =>
    reg t 0x14 = mergeBe be (cfgReg s 0x14) v ∧ t.boot = (noteWrite s 0x14 (mergeBe be (cfgReg s 0x14) v)).boot ∧ Ended req s t ∧
    Frame [.out, .boot] (· = 0x14) s t) ∧
  (∀ (s : State) (req : Req) (be : BitVec 4) (v : Word) (off : Nat), Reaches req off be s → off % 4 = 0 → off / 0x1000 = 4 → committed s = true →
    s.boot.locked = true →
    Completes (.registerWrite req off be v) s fun t =>
      reg t off = rwMerge s off be v ∧ (∀ d : Desc, desc off = some d → d.rw = 0 → reg t off = reg s off) ∧ Ended req s t ∧
      Frame [.out] (· = off) s t) ∧
  (∀ (s : State) (req : Req) (be : BitVec 4) (v : Word) (off : Nat), Reaches req off be s → (desc off).isNone = true →
    Completes (.registerWrite req off be v) s fun t => Ended req s t ∧ Frame [.out] (fun _ => False) s t) ∧
  (∀ (s : State) (req : Req) (be : BitVec 4) (v : Word), Reaches req 0x40 be s → Completes (.ipendClear req be v) s fun t =>
    reg t 0x40 = reg s 0x40 &&& ~~~(maskBe be v &&& 0xFF03FF) ∧ t.pins = pinsOf t ∧ Ended req s t ∧ Frame [.out] (fun _ => False) s t) ∧
  (∀ (s : State) (req : Req) (be : BitVec 4) (v : Word), Reaches req 0x4C be s → Completes (.irqForce req be v) s fun t =>
    reg t 0x40 = reg s 0x40 ||| (maskBe be v &&& 0xFF03FF) ∧ t.pins = pinsOf t ∧ Ended req s t ∧ Frame [.out] (fun _ => False) s t) ∧
  (∀ (s : State) (req : Req) (be : BitVec 4) (v : Word), Reaches req 0x44 be s → Completes (.ienWrite req be v) s fun t =>
    reg t 0x44 = (cfgReg s 0x44 &&& ~~~(beMask be &&& 0xFF07FF)) ||| (v &&& (beMask be &&& 0xFF07FF)) ∧ reg t 0x40 = reg s 0x40 ∧ t.pins = pinsOf t ∧
    t.boot = (noteWrite s 0x44 (reg t 0x44)).boot ∧ Ended req s t ∧ Frame [.out, .boot] (· = 0x44) s t) ∧
  (∀ (s : State) (req : Req) (v : Word), Reaches req 0xA104 0xF s → switchBusy s = false → s.line.core = true → s.line.ov = false → s.line.railOk = true →
    (∀ p : Fin 4, portI1g s (portOf p) = false) → Completes (.lfstatLatchClear req 0xF v) s fun t =>
      (∀ p : Fin 4, t.line.pairs[p] = if bitAt v (16 + p.val) = true ∧ s.line.pairs[p].latch = true then
        { s.line.pairs[p] with latch := false, trips := 0, sink := if s.line.pairs[p].st = .latched then false else s.line.pairs[p].sink, st := if s.line.pairs[p].st = .latched then (if pairMode (lfctl s) p.val = 0 then .off else .softStart) else s.line.pairs[p].st }
        else s.line.pairs[p]) ∧ Ended req s t ∧ Frame [.line, .out] (fun _ => False) s t)

/-- The queue is first in, first out: a step takes the command at its front and answers what exec does with the rest. -/
def Obligations.StepTakesFrontCommand : Prop :=
  ∀ (s : State) (c : Instr) (rest : List Instr), s.pending = c :: rest → step s = exec c { s with pending := rest }

/-- With no command waiting a nanosecond passes (the model's choice, log entry 2). With the core off nothing else changes but the readings taken every
1 ms; with it running, and no work in hand, the counter moves by one, every 16 ns the Lamplighter turns to its next slot (R23), and a spare slot that
nobody borrows is counted (R287). -/
def Obligations.IdleStepPassesTime : Prop :=
  (∀ (s : State), s.pending = [] → coreRun s = false → (s.now + 1) % 1000000 ≠ 0 ∨ s.line.node = .off → ∃ t, step s = .next t ∧ t.now = s.now + 1 ∧
    t.pending = [] ∧ Frame [.now] (fun _ => False) s t) ∧
  (∀ (s : State), s.pending = [] → coreRun s = true → (s.now + 1) % 1000000 ≠ 0 → s.sch.ctl = [] → s.sch.relays = [] → s.sw.fab.ins = [] →
    s.hb.inq = [] → s.log.raised = [] → s.sg.jobs = [] → ∃ t, step s = .next t ∧ t.now = s.now + 1 ∧ t.tb = { s.tb with ctr := s.tb.ctr + 1 } ∧
    t.lamp = { s.lamp with slot := if (s.tb.ctr + 1) % 16 = 0 then (s.lamp.slot + 1) % 32 else s.lamp.slot } ∧
    ((s.tb.ctr + 1) % 16 = 0 ∧ slotUser ((s.lamp.slot + 1) % 32) = .spare → Counted 0x804C 1 s t) ∧
    (¬ ((s.tb.ctr + 1) % 16 = 0 ∧ slotUser ((s.lamp.slot + 1) % 32) = .spare) → reg t 0x804C = reg s 0x804C) ∧
    Frame [.now, .tb, .lamp] (· = 0x804C) s t) ∧
  (∀ (s : State), s.pending = [] → ∃ t, step s = .next t ∧ t.pending = [] ∧ t.uid = s.uid)

/-- Every command completes in every state (the model's choice, log entry 1: a command whose event cannot happen changes nothing); none faults and
none is refused. -/
def Obligations.EveryCommandCompletes : Prop := ∀ (c : Instr) (s : State), ∃ t, exec c s = .next t

/-- No command changes the UID or the commands that wait (R121). -/
def Obligations.ExecKeepsQueueAndUid : Prop :=
  ∀ (c : Instr) (s t : State), exec c s = .next t → t.pending = s.pending ∧ t.uid = s.uid

/-- The state after reset: no command waits, no frame has left, the sequencer is in RESET, both inaugurations IDLE, time FREE, every channel OFF, every
lane DISABLED, every output DISABLED, every register at its reset word, and the balls fit it. -/
def Obligations.ResetState : Prop :=
  State.reset.pending = [] ∧ State.reset.out = [] ∧ State.reset.boot.phase = .reset ∧ (∀ g : Fin 2, State.reset.inaug[g].st = .idle) ∧
  State.reset.tb.st = .free ∧ (∀ c : Fin 8, State.reset.can[c].st = 0) ∧ (∀ l : Fin 4, State.reset.lanes[l].st = .disabled) ∧
  (∀ p : Fin 20, State.reset.sw.ports[p].hst = 3) ∧ (∀ off : Nat, reg State.reset off = regReset off) ∧ coreRun State.reset = false ∧
  PinsFit State.reset

/-- Whatever step is taken, the balls that the state fixes fit it afterwards (R422, R56, Table 2-8). -/
def Obligations.StepKeepsPinsFit : Prop := ∀ (s t : State), PinsFit s → step s = .next t → PinsFit t

/-- Every change that an interrupt source signals sets its GL_IPEND bit, whichever command brings it and whether or not the bit is enabled, while the
core runs (R422, Table 17-6). -/
def Obligations.ChangesSetPendingBits : Prop :=
  ∀ (c : Instr) (s t : State), exec c s = .next t → coreRun s = true → coreRun t = true →
    (s.boot.phase ≠ t.boot.phase → bitAt (reg t 0x40) 0 = true) ∧
    ((∃ g : Fin 2, s.inaug[g].epoch ≠ t.inaug[g].epoch) → bitAt (reg t 0x40) 1 = true) ∧
    (s.tb.st ≠ t.tb.st → bitAt (reg t 0x40) 2 = true) ∧
    (s.sch.bound.valid ≠ t.sch.bound.valid ∨ s.sch.fold ≠ t.sch.fold → bitAt (reg t 0x40) 3 = true) ∧
    ((∃ p : Fin 20, s.sw.ports[p].hst ≠ t.sw.ports[p].hst) → bitAt (reg t 0x40) 4 = true) ∧
    (s.sg.seq ≠ t.sg.seq ∨ s.sg.epoch ≠ t.sg.epoch → bitAt (reg t 0x40) 5 = true) ∧
    (s.line.node ≠ t.line.node → bitAt (reg t 0x40) 6 = true) ∧
    (s.flt.queue.length ≠ t.flt.queue.length ∨ (∃ u : Fin 50, (fUnit s u.val).held ≠ (fUnit t u.val).held) → bitAt (reg t 0x40) 7 = true) ∧
    (fld (recStat s) 7 2 ≠ fld (recStat t) 7 2 → bitAt (reg t 0x40) 8 = true) ∧
    ((∃ l : Fin 4, s.lanes[l].st ≠ t.lanes[l].st ∨ s.lanes[l].health ≠ t.lanes[l].health) → bitAt (reg t 0x40) 9 = true) ∧
    (∀ k : Fin 8, s.can[k].st ≠ t.can[k].st ∨ s.can[k].qwr ≠ t.can[k].qwr → bitAt (reg t 0x40) (16 + k.val) = true)

/-- After every command with no boundary-scan instruction that drives the balls, IRQ# is low exactly while GL_IACT is non-zero from commit to the own
sleep instant, never before commit or in REPEATER, and SYNCO has the level the node gives it; under HIGHZ neither is driven; LF_ON, which no instruction
reaches, follows the pairs and the bias enable, and V3P3OUT the running core (R422, R171, R46, R56, Table 2-8). -/
def Obligations.BallsAfterCommands : Prop :=
  ∀ (c : Instr) (s t : State), exec c s = .next t →
    (bscan t = false → (t.pins.irqLow = true ↔ iact t ≠ 0 ∧ committed t = true ∧ t.snuf.pastSi = false) ∧
      (t.boot.phase = .repeater → t.pins.irqLow = false) ∧ t.pins.synco = some t.tb.synco) ∧
    (t.tap = 3 → t.pins.irqLow = false ∧ t.pins.synco = none) ∧
    (t.pins.lfOn = true ↔ t.line.node ≠ .off ∧ ((∃ p : Fin 4, pairMode (lfctl t) p.val = 1) ∨
      bitAt (lfctl t) 16 = true ∧ (t.line.node = .ember ∨ t.line.node = .doze))) ∧
    (t.pins.v3p3 = true ↔ coreRun t = true ∧ t.line.shed = false)

/-- RWL fields (R12): from commit until the next reset no write changes the RWL bits of the register it goes to, but during the load of an authorised
switch they are written in the blocks from the switch core on. -/
def Obligations.LockedFieldsStay : Prop :=
  (∀ (s : State) (req : Req) (off : Nat) (be : BitVec 4) (v : Word) (d : Desc), s.boot.locked = true → imageLoads s = false → s.boot.phase ≠ .switchLoad ∨ off < 0x5000 →
    desc off = some d → reg (regWrite s req off be v false).1 off &&& BitVec.ofNat 32 d.rwl &&& ~~~BitVec.ofNat 32 d.rw =
      reg s off &&& BitVec.ofNat 32 d.rwl &&& ~~~BitVec.ofNat 32 d.rw) ∧
  (∀ (s : State) (off : Nat) (d : Desc), desc off = some d → s.boot.locked = false ∨ (s.boot.phase = .switchLoad ∧ 0x5000 ≤ off) →
    rwBits s off = BitVec.ofNat 32 (d.rw ||| d.rwl)) ∧
  (∀ (s : State) (req : Req) (be : BitVec 4) (v : Word) (n : Fin 8), req ≠ .host → committed s = true → s.boot.phase = .switchLoad →
    reg (regWrite s req (0x5020 + 4 * n.val) be v false).1 (0x5020 + 4 * n.val) = rwMerge s (0x5020 + 4 * n.val) be v ∧
    rwBits s (0x5020 + 4 * n.val) = BitVec.ofNat 32 ((((desc (0x5020 + 4 * n.val)).map Desc.rw).getD 0) ||| (((desc (0x5020 + 4 * n.val)).map Desc.rwl).getD 0)))

/-- Reads (R417): none has an effect but those of TB_NOW_LO, which latches, TB_SIFIFO_LO, which pops, and TOP_ETBDATA, which advances its index; and
offsets with no register read as zero and take no write (R13). -/
def Obligations.UnassignedOffsetsAndReads : Prop :=
  (∀ (s : State) (req : Req) (off : Nat), off ≠ 0x3010 → off ≠ 0x3048 → off ≠ 0x206C → readEffect s req off = s) ∧
  (∀ (s : State) (req : Req), getLatch (readEffect s req 0x3010) req 0x3014 = BitVec.ofNat 32 (ttNow s / 2 ^ 32) ∧
    getLatch (readEffect s req 0x3010) req 0x3018 = BitVec.ofNat 32 s.tb.ctr ∧
    getLatch (readEffect s req 0x3010) req 0x301C = BitVec.ofNat 32 (s.tb.ctr / 2 ^ 32)) ∧
  (∀ (s : State) (req : Req), readEffect s req 0x3048 = { s with tb := { s.tb with sififo := s.tb.sififo.tail } }) ∧
  (∀ (s : State) (req : Req),
    getLatch (readEffect s req 0x206C) req 0x2068 = BitVec.ofNat 32 ((fld (getLatch s req 0x2068) 9 0 + 1) % 1024)) ∧
  (∀ (s : State) (req : Req) (off : Nat), (desc off).isNone = true → regRead s req off = 0) ∧
  (∀ (s : State) (req : Req) (off : Nat) (be : BitVec 4) (v : Word) (w : Bool), (desc off).isNone = true → regWrite s req off be v w = (s, 0))

/-- Byte enables (R416): of a command, clear or W1C register the bytes not enabled act as written with 0, so that its MAGIC acts only whole; a command
register takes nothing from another requester than the local host (R419); a host write whose enables are not contiguous ends with an error and no
effect (R294). -/
def Obligations.ByteEnablesOfCommands : Prop :=
  (∀ (s : State) (req : Req) (off : Nat) (be : BitVec 4) (v : Word) (w : Bool),
    off ∈ [0x40, 0x4C, 0x120, 0x1004, 0x2008, 0x5F00, 0x6010, 0x60FC, 0x7010, 0x8004, 0x9020, 0x902C, 0x9504, 0x96FC, 0xA014, 0xA104, 0xA3FC, 0xB00C, 0xB0FC,
      0xC0C0, 0xC1FC] → regWrite s req off be v w = regWrite s req off 0xF (maskBe be v) w) ∧
  (∀ (s : State) (req : Req) (off : Nat) (be : BitVec 4) (v : Word) (w : Bool), cmdReg off = true → req ≠ .host → regWrite s req off be v w = (s, 0)) ∧
  (∀ (s : State) (off : Nat) (be : BitVec 4) (v : Word), reqAlive s .host = true → contiguous be = false →
    Completes (.registerWrite .host off be v) s fun t =>
      t.out = .access 1 0 :: s.out ∧ t.hb = { s.hb with lastErr := BitVec.ofNat 32 (1 * 2 ^ 24 + off / 4 % 2 ^ 24) } ∧ Counted 0x9618 1 s t ∧
      Frame [.hb, .out] (· = 0x9618) s t)

/-- The host is shut out before commit and after the own sleep instant: none of the commands that write a register for it, nor an access on LBUS, changes
anything then (R422, Table 13-8); and during a profile switch its writes outside the global block end and change nothing else (R87, Table 4-10). -/
def Obligations.HostShutOut : Prop :=
  (∀ (s : State) (be : BitVec 4) (v : Word) (w : Bool) (off n : Nat) (c : Fin 8) (o : Fin 128), hostAlive s = false →
    ∀ i ∈ [Instr.registerWrite .host off be v, .ipendClear .host be v, .irqForce .host be v, .ienWrite .host be v, .profileSwitchRequest .host be v,
      .bbCntClear .host be v, .topLeadWrite .host be v, .replanRequest .host be v, .topTidxLatch .host be v, .swFdbLatch .host be v,
      .swCntClear .host be v, .hostCommit .host be v, .sgCntClear .host be v, .canRecoverCmd .host c be v, .canQueueAck .host c be v,
      .canQidxLatch .host c be v, .canCntClear .host be v, .canRequest .host c o, .canStage .host c o, .canCancel .host c o w, .canRelease .host c o,
      .irqSend .host be v, .lockAcquire .host be v, .lockRelease .host be v, .hbLogClear .host be v, .hbCntClear .host be v, .polledModeExit .host be v,
      .roundStart .host be v w, .sleepAbortCmd .host be v, .pwrCntClear .host be v, .lfstatLatchClear .host be v, .unitTestCmd .host be v,
      .unitRetireCmd .host be v, .unitReturnCmd .host be v, .fltCntClear .host be v, .recRidxLatch .host be v, .recSidxLatch .host be v,
      .clearReq .host be v, .clearGo .host be v, .recCntClear .host be v, .monTidxLatch .host be v, .remoteRead n be, .remotePostedWrite n be v w,
      .remoteNpWrite n be v, .sigWindowWrite n be v, .canBufferWrite n be v],
      Completes i s fun t => Frame [] (fun _ => False) s t) ∧
  (∀ (s : State) (off : Nat) (be : BitVec 4) (v : Word), reqAlive s .host = true → switchBusy s = true → 0x1000 ≤ off → contiguous be = true →
    Completes (.registerWrite .host off be v) s fun t => t.out = .access 0 0 :: s.out ∧ Frame [.out] (fun _ => False) s t)

/-- POISON (R315): with POISON_EN set the first LATE on a window sets POISON and raises WIN_POISONED; while it is set every write to the window ends
with LERR#, code POISONED, and what is queued stays; writing 1 clears it. -/
def Obligations.PoisonedWindows : Prop :=
  (∀ (s : State) (f b : Bytes) (stamp : Nat) (n : Fin 16), coreRun s = true → bridgeMsg f = some b → forUs s b = true → byteAt b 14 = 0x90 →
    byteAt b 21 ≠ 0x16 → byteAt b 21 ≠ 0x18 → byteAt b 16 % 16 = n.val → s.hb.log.length < 16 → bitAt (winCfg s n.val) 16 = true →
    s.hb.wins[n].poison = false → mget s.log.limits (4096 * 0x9010 + n.val) = none → Completes (.lateRx f stamp) s fun t =>
      t.hb.wins[n].poison = true ∧ (∀ m : Fin 16, m ≠ n → t.hb.wins[m] = s.hb.wins[m]) ∧ t.sch = s.sch ∧ t.hb.tags = s.hb.tags ∧
      Raised [(0x9010, 2, n.val, [n.val, (readHdr f).src, beAt b 18 2, byteAt b 21]),
        (0x9011, 5, n.val, [n.val, (readHdr f).src, beAt b 18 2, byteAt b 21])] s t) ∧
  (∀ (s : State) (addr n : Nat) (be : BitVec 4) (v : Word) (merge : Bool), lbusFree s = true → 0x1000000 ≤ addr → addr < 0x4000000 →
    contiguous be = true → remoteRefuse s addr be.toNat true = (0x04, n) → Completes (.remotePostedWrite addr be v merge) s fun t =>
      t.out = .access 0x04 0 :: s.out ∧ t.hb = { s.hb with lastErr := BitVec.ofNat 32 (0x04 * 2 ^ 24 + addr / 4 % 2 ^ 24) } ∧ Counted 0x9618 1 s t ∧
      Frame [.hb, .out] (· = 0x9618) s t) ∧
  (∀ (s : State) (addr n : Nat) (be : Nat), hbClosed s = false → winAt s addr = some n → sizeOk (winSpace s n) (winOrder s n) be = true →
    winHandle s n ≠ 0 → ((s.hb.wins[n]?).getD {}).poison = true → remoteRefuse s addr be true = (0x04, n)) ∧
  (∀ (s : State) (req : Req) (n : Fin 16) (v : Word), Reaches req 0x9210 0xF s → bitAt v 31 = true →
    Completes (.registerWrite req (0x9210 + 0x20 * n.val) 0xF v) s fun t =>
      t.hb.wins[n] = { s.hb.wins[n] with poison := false } ∧ (∀ m : Fin 16, m ≠ n → t.hb.wins[m] = s.hb.wins[m]) ∧ Ended req s t ∧
      Frame [.hb, .out] (fun _ => False) s t)

/-- Tags end (R311): a tag not answered in time ends TIMEOUT, its next matching retry ends with LERR#, a later answer is discarded; an answer not
collected is discarded and counted, the tag freed, and a later retry starts a new read. -/
def Obligations.TagsEnd : Prop :=
  (∀ (s : State) (n : Fin 64) (x : Tag), coreRun s = true → mget s.hb.tags n.val = some x → x.answer = none → x.held = false →
    mget s.log.limits (4096 * 0x9020 + 0xFFF) = none → Completes (.tagTimeout n) s fun t =>
      mget t.hb.tags n.val = some { x with answer := some (0x20, 0) } ∧ Raised [(0x9020, 2, 0xFFF, [x.win, x.handle, x.tseq, 0x20])] s t) ∧
  (∀ (s : State) (addr n g : Nat) (be : BitVec 4) (x : Tag) (d : Word), lbusFree s = true → 0x1000000 ≤ addr → addr < 0x4000000 → contiguous be = true →
    remoteRefuse s addr be.toNat false = (0, n) →
    s.hb.tags.find? (fun y => y.2.kind == 0 && y.2.win == n && y.2.addr == addr && y.2.be == be.toNat) = some (g, x) → x.answer = some (0x20, d) →
    Completes (.remoteRead addr be) s fun t =>
      t.out = .access 0x20 0 :: s.out ∧ t.hb.tags = mdel s.hb.tags g ∧
      t.hb.lastErr = BitVec.ofNat 32 (0x20 * 2 ^ 24 + addr / 4 % 2 ^ 24) ∧ Frame [.hb, .out] (· = 0x9618) s t) ∧
  (∀ (s : State) (f b : Bytes), bridgeMsg f = some b → forUs s b = true → byteAt b 14 = 0x83 → answers s b (readHdr f).src 0 = none →
    Completes (.rdataRx f) s fun t => Counted 0x9624 1 s t ∧ Frame [] (· = 0x9624) s t) ∧
  (∀ (s : State) (n : Fin 64) (x : Tag) (c : Nat) (d : Word), coreRun s = true → mget s.hb.tags n.val = some x → x.answer = some (c, d) → x.kind ≠ 2 →
    mget s.log.limits (4096 * 0x9021 + 0xFFF) = none → Completes (.delayedDiscard n) s fun t =>
      t.hb.tags = mdel s.hb.tags n.val ∧ Counted 0x9624 1 s t ∧ Raised [(0x9021, 1, 0xFFF, [x.win, x.handle, x.tseq, c])] s t) ∧
  (∀ (s : State) (addr n g : Nat) (be : BitVec 4), lbusFree s = true → 0x1000000 ≤ addr → addr < 0x4000000 → contiguous be = true →
    remoteRefuse s addr be.toNat false = (0, n) → BridgeSends s →
    s.hb.tags.find? (fun y => y.2.kind == 0 && y.2.win == n && y.2.addr == addr && y.2.be == be.toNat) = none → bridgeBusy s = false →
    freeTag s = some g → Completes (.remoteRead addr be) s fun t =>
      (mget t.hb.tags g).map (fun y => (y.kind, y.win, y.addr, y.be, y.answer)) = some (0, n, addr, be.toNat, none) ∧
      Sent [([BitVec.ofNat 8 (winHandle s n)], [3, n, nextTseq s (winHandle s n) % 65536, g, 0])] s t)

/-- Requests out of order or to another node (R305, R306): one not newer than the last applied is answered STALE and counted, one that leaves a gap
sends a LATE with code LOST first, one for another UID is answered WRONG_NODE; only the second is applied. -/
def Obligations.RequestsOutOfOrder : Prop :=
  (∀ (s : State) (f b : Bytes) (r : HbReq), BridgeIdle s → BridgeSends s → bridgeMsg f = some b → forUs s b = true → readReq f b = r → r.bop = 2 →
    (byteAt b 15).testBit 1 = false → mget s.hb.applied r.src = some r.tseq → Completes (.npwriteRx f) s fun t =>
      Sent [([BitVec.ofNat 8 r.src], [0x81, r.win, r.tseq, r.tag, 0x15])] s t ∧ t.hb = s.hb ∧ Counted 0x9630 1 s t ∧
      Frame [.sch, .log] (fun o => o = 0x960C ∨ o = 0x9610 ∨ o = 0x9630 ∨ o = 0xC180) s t) ∧
  (∀ (s : State) (f b : Bytes) (r : HbReq) (q : Nat), BridgeIdle s → BridgeSends s → bridgeMsg f = some b → forUs s b = true → readReq f b = r → r.bop = 4 →
    (byteAt b 15).testBit 1 = false → mget s.hb.applied r.src = some q → q < 65536 → r.tseq = (q + 3) % 65536 → tgtRefuse s r = 0 →
    Completes (.irqRx f) s fun t =>
      Sent [([BitVec.ofNat 8 r.src], [0x90, r.win, (q + 1) % 65536, 0xFF, 0x16])] s t ∧ mget t.hb.applied r.src = some r.tseq ∧
      t.hb.rirq = s.hb.rirq ||| BitVec.ofNat 32 (2 ^ (r.addr % 32)) ∧ Frame [.hb, .sch] (fun o => o = 0x960C ∨ o = 0x9610) s t) ∧
  (∀ (s : State) (f b : Bytes) (r : HbReq), BridgeIdle s → BridgeSends s → bridgeMsg f = some b → forUs s b = false → readReq f b = r → r.bop = 2 →
    Completes (.npwriteRx f) s fun t =>
      Sent [([BitVec.ofNat 8 r.src], [0x81, r.win, r.tseq, r.tag, 0x14])] s t ∧ t.hb = s.hb ∧ Counted 0x9634 1 s t ∧
      Frame [.sch, .log] (fun o => o = 0x960C ∨ o = 0x9610 ∨ o = 0x9634 ∨ o = 0xC180) s t)

/-- Far nodes are held to HB_RACC, the mailbox regions and the registers open to them (R302, R303, R419): a request that none of these allows is
refused with REFUSED or RANGE and changes no register. -/
def Obligations.FarRequestsRefused : Prop :=
  (∀ (s : State) (r : HbReq), hbClosed s = false → hbOn s = true → r.space = 0 → r.bop = 2 → regB s 0x9008 1 = false → tgtRefuse s r = 0x10) ∧
  (∀ (s : State) (r : HbReq), hbClosed s = false → hbOn s = true → r.space = 0 → r.bop = 2 → r.data.length = 4 → magicReg r.addr = true →
    tgtRefuse s r = 0x10) ∧
  (∀ (s : State) (r : HbReq), hbClosed s = false → hbOn s = true → r.space = 0 → r.bop = 2 → monReg r.addr = true → tgtRefuse s r = 0x10) ∧
  (∀ (s : State) (r : HbReq), hbClosed s = false → hbOn s = true → r.space = 2 → r.bop = 3 → canMaster s = true →
    (∀ m : Fin 16, bitAt (mbxCfg s m.val) 31 = false) → tgtRefuse s r = 0x11) ∧
  (∀ (s : State) (f b : Bytes) (r : HbReq), BridgeIdle s → BridgeSends s → bridgeMsg f = some b → forUs s b = true → readReq f b = r → r.bop = 2 →
    InSeq s b r → tgtRefuse s r = 0x10 → Completes (.npwriteRx f) s fun t =>
      Sent [([BitVec.ofNat 8 r.src], [0x81, r.win, r.tseq, r.tag, 0x10])] s t ∧ t.hb = { s.hb with applied := mput s.hb.applied r.src r.tseq } ∧
      Frame [.hb, .sch] (fun o => o = 0x960C ∨ o = 0x9610) s t)

/-- Wrong responses (R391, R401): one to `unlock` is denied with ERR 8 and counted, the third in a row locks unlocking for 600 s; a wrong clear response
is rejected with reason 3, the third locks clearing, and no record goes. -/
def Obligations.WrongResponsesLock : Prop :=
  (∀ (s : State) (x : Ses) (r key c : Bytes), MonReady x s → s.mon.lockEnd = none → s.otp.mon = some key → (sessOf s x).chal = some c →
    r ≠ hmac key (c ++ beBytes 8 s.uid ++ [0x02#8]) → s.mon.fails < 2 → Completes (.monUnlockResponse x r) s fun t =>
      (sessOf t x).level = (sessOf s x).level ∧ (sessOf t x).chal = none ∧ t.mon.fails = s.mon.fails + 1 ∧ t.mon.lockEnd = none ∧
      Answered x [("ERR", [8])] s t ∧ Raised [(0xD002, 2, 0xFFF, initiator s x)] s t) ∧
  (∀ (s : State) (x : Ses) (r key c : Bytes), MonReady x s → s.mon.lockEnd = none → s.otp.mon = some key → (sessOf s x).chal = some c →
    r ≠ hmac key (c ++ beBytes 8 s.uid ++ [0x02#8]) → s.mon.fails = 2 → Completes (.monUnlockResponse x r) s fun t =>
      (sessOf t x).level = (sessOf s x).level ∧ t.mon.lockEnd = some (s.now + 600000000000) ∧ t.mon.fails = 0 ∧ Answered x [("ERR", [8])] s t ∧
      Raised [(0xD003, 5, 0xFFF, initiator s x), (0xD002, 2, 0xFFF, initiator s x)] s t) ∧
  (∀ (s : State) (x : Ses), MonReady x s → s.mon.lockEnd ≠ none → Completes (.monUnlockRequest x) s fun t =>
    Answered x [("ERR", [8])] s t ∧ t.mon = s.mon ∧ SchKept s t ∧ Frame [.out, .sch] (· = 0xD080) s t) ∧
  (∀ (s : State) (v : Word) (key : Bytes), Reaches .host 0xC0C0 0xF s → switchBusy s = false → coreRun s = true → fld v 31 16 = 0xB7C1 → bitAt v 8 = false →
    bitAt v 9 = true → regB s 0xC000 0 = true → s.log.lockout = false → s.otp.clr = some key → s.log.chalOk = true →
    hmac key (s.log.chal ++ beBytes 8 s.uid ++ [BitVec.ofNat 8 s.log.scope] ++ beBytes 4 s.log.chalHead) ≠ respBytes s →
    Completes (.clearGo .host 0xF v) s fun t =>
      t.log.chalOk = false ∧ t.log.fails = min 255 (s.log.fails + 1) ∧ t.log.lockout = decide (3 ≤ s.log.fails + 1) ∧ t.mram = s.mram ∧
      Raised [(0xB005, 6, 0xFFF, [3, 3])] s t ∧ Counted 0xC1A4 1 s t ∧ Ended .host s t ∧
      Frame [.log, .out] (fun o => o = 0xC180 ∨ o = 0xC1A4) s t)

/-- Saturating counters and the recorder's intake (R388, Table 5-16): a counter at its highest word stays there, below it one more is one more, and an
event raised while the core is off or in reset leaves no trace. -/
def Obligations.CountersAndIntake : Prop :=
  (∀ (s : State) (off : Nat), reg s off = 0xFFFFFFFF → reg (bump s off) off = 0xFFFFFFFF) ∧
  (∀ (s : State) (off : Nat), reg s off ≠ 0xFFFFFFFF → reg (bump s off) off = reg s off + 1) ∧
  (∀ (s : State) (off o : Nat), o ≠ off → reg (bump s off) o = reg s o) ∧
  (∀ (s : State) (code sev inst : Nat) (vals : List Nat), coreRun s = false → raise s code sev inst vals = s)

/-- No register shows an OTP key (R402): two nodes that differ only in the keys they hold, with the same slots programmed, read the same at every
offset for every requester. -/
def Obligations.RegistersHideKeys : Prop :=
  ∀ (s : State) (o : Otp) (req : Req) (off : Nat), o.img.isSome = s.otp.img.isSome → o.mon.isSome = s.otp.mon.isSome →
    o.clr.isSome = s.otp.clr.isSome → regRead { s with otp := o } req off = regRead s req off
end

