-- ==== Sys2Proof/Laws/Sparse.lean ====
section
/-! SUPPORT. Sparse storage: a read after a write gives the value written, a write leaves every other key alone, and both keep the keys
rising. -/

namespace Sys2Proof.Machine

variable {α : Type}

@[simp] theorem mget_mput_same (l : List (Nat × α)) (k : Nat) (v : α) : mget (mput l k v) k = some v := by
  induction l with
  | nil => simp [mput, mget]
  | cons x r ih =>
    simp only [mput]
    split
    · simp [mget]
    · split
      · simp [mget]
      · rename_i h1 h2
        simp [mget, Ne.symm h2, ih]

theorem mget_mput_ne (l : List (Nat × α)) {k j : Nat} (v : α) (h : j ≠ k) : mget (mput l k v) j = mget l j := by
  induction l with
  | nil => simp [mput, mget, Ne.symm h]
  | cons x r ih =>
    simp only [mput]
    split
    · simp [mget, Ne.symm h]
    · split
      · rename_i h1 h2
        subst h2
        simp [mget, Ne.symm h]
      · simp only [mget, ih]

theorem mget_mput (l : List (Nat × α)) (k j : Nat) (v : α) : mget (mput l k v) j = if j = k then some v else mget l j := by
  split
  · rename_i h; subst h; simp
  · rename_i h; exact mget_mput_ne l v h

@[simp] theorem mget_mdel_same (l : List (Nat × α)) (k : Nat) : mget (mdel l k) k = none := by
  induction l with
  | nil => simp [mdel, mget]
  | cons x r ih =>
    simp only [mdel]
    split
    · exact ih
    · rename_i h; simp [mget, h, ih]

theorem mget_mdel_ne (l : List (Nat × α)) {k j : Nat} (h : j ≠ k) : mget (mdel l k) j = mget l j := by
  induction l with
  | nil => simp [mdel]
  | cons x r ih =>
    simp only [mdel]
    split
    · rename_i h1
      simp [mget, h1, Ne.symm h, ih]
    · simp only [mget, ih]

/-- Keeping the keys of a predicate keeps their values and loses the others. -/
theorem mget_filter (l : List (Nat × α)) (p : Nat → Bool) (k : Nat) :
    mget (l.filter (fun e => p e.1)) k = if p k = true then mget l k else none := by
  induction l with
  | nil => simp [mget]
  | cons x r ih =>
    by_cases hx : p x.1 = true
    · by_cases hk : x.1 = k
      · subst hk; simp [hx, mget]
      · simp [hx, mget, hk, ih]
    · by_cases hk : x.1 = k
      · subst hk; simp [hx, ih]
      · simp [hx, mget, hk, ih]

/-- Every key of the list lies above b. -/
def keysAbove (b : Nat) : List (Nat × α) → Bool
  | [] => true
  | (j, _) :: r => decide (b < j) && keysAbove b r

theorem keysRise_cons (k : Nat) (v : α) (r : List (Nat × α)) : keysRise ((k, v) :: r) = (keysAbove k r && keysRise r) := by
  induction r generalizing k v with
  | nil => simp [keysRise, keysAbove]
  | cons x r ih =>
    obtain ⟨j, w⟩ := x
    simp only [keysRise, keysAbove, ih]
    by_cases h : k < j
    · simp only [h, decide_true, Bool.true_and]
      have hm : keysAbove j r = true → keysAbove k r = true := by
        clear ih
        induction r with
        | nil => simp [keysAbove]
        | cons y r ih2 =>
          simp only [keysAbove, Bool.and_eq_true, decide_eq_true_eq]
          intro hh
          exact ⟨by omega, ih2 hh.2⟩
      cases h1 : keysAbove j r <;> simp_all
    · simp [h]

theorem keysAbove_mput (b k : Nat) (v : α) (l : List (Nat × α)) (hb : b < k) (hl : keysAbove b l = true) :
    keysAbove b (mput l k v) = true := by
  induction l with
  | nil => simp [mput, keysAbove, hb]
  | cons x r ih =>
    obtain ⟨j, w⟩ := x
    simp only [keysAbove, Bool.and_eq_true, decide_eq_true_eq] at hl
    simp only [mput]
    split
    · simp [keysAbove, hb, hl]
    · split
      · simp [keysAbove, hb, hl]
      · simp [keysAbove, hl.1, ih hl.2]

theorem keysAbove_mono {a b : Nat} (l : List (Nat × α)) (h : a ≤ b) (hl : keysAbove b l = true) : keysAbove a l = true := by
  induction l with
  | nil => simp [keysAbove]
  | cons x r ih =>
    obtain ⟨j, w⟩ := x
    simp only [keysAbove, Bool.and_eq_true, decide_eq_true_eq] at hl ⊢
    exact ⟨by omega, ih hl.2⟩

/-- A write keeps the keys rising. -/
theorem keysRise_mput (k : Nat) (v : α) (l : List (Nat × α)) (h : keysRise l = true) : keysRise (mput l k v) = true := by
  induction l with
  | nil => simp [mput, keysRise]
  | cons x r ih =>
    obtain ⟨j, w⟩ := x
    rw [keysRise_cons, Bool.and_eq_true] at h
    simp only [mput]
    split
    · rename_i hk
      rw [keysRise_cons, keysRise_cons]
      simp [keysAbove, hk, h.1, h.2, keysAbove_mono r (Nat.le_of_lt hk) h.1]
    · split
      · rename_i h1 h2
        subst h2
        rw [keysRise_cons]; simp [h]
      · rename_i h1 h2
        rw [keysRise_cons]
        simp [ih h.2, keysAbove_mput j k v r (by omega) h.1]

theorem keysAbove_mdel (b k : Nat) (l : List (Nat × α)) (h : keysAbove b l = true) : keysAbove b (mdel l k) = true := by
  induction l with
  | nil => simp [mdel, keysAbove]
  | cons x r ih =>
    obtain ⟨j, w⟩ := x
    simp only [keysAbove, Bool.and_eq_true, decide_eq_true_eq] at h
    simp only [mdel]
    split
    · exact ih h.2
    · simp [keysAbove, h.1, ih h.2]

/-- A removal keeps the keys rising. -/
theorem keysRise_mdel (k : Nat) (l : List (Nat × α)) (h : keysRise l = true) : keysRise (mdel l k) = true := by
  induction l with
  | nil => simp [mdel, keysRise]
  | cons x r ih =>
    obtain ⟨j, w⟩ := x
    rw [keysRise_cons, Bool.and_eq_true] at h
    simp only [mdel]
    split
    · exact ih h.2
    · rw [keysRise_cons]; simp [ih h.2, keysAbove_mdel j k r h.1]

end Sys2Proof.Machine
end

