-- ==== Sys2Proof/Laws/State.lean ====
section
/-! SUPPORT. What each shared operation leaves of the state: one lemma a field, so that no proof unfolds a record update, and how the
register words read after it. -/

namespace Sys2Proof.Machine

@[simp] theorem setReg_now (s : State) (off : Nat) (v : Word) : (setReg s off v).now = s.now := rfl
@[simp] theorem setReg_free (s : State) (off : Nat) (v : Word) : (setReg s off v).free = s.free := rfl
@[simp] theorem setReg_uid (s : State) (off : Nat) (v : Word) : (setReg s off v).uid = s.uid := rfl
@[simp] theorem setReg_otp (s : State) (off : Nat) (v : Word) : (setReg s off v).otp = s.otp := rfl
@[simp] theorem setReg_latHost (s : State) (off : Nat) (v : Word) : (setReg s off v).latHost = s.latHost := rfl
@[simp] theorem setReg_latMon (s : State) (off : Nat) (v : Word) : (setReg s off v).latMon = s.latMon := rfl
@[simp] theorem setReg_latFar (s : State) (off : Nat) (v : Word) : (setReg s off v).latFar = s.latFar := rfl
@[simp] theorem setReg_tables (s : State) (off : Nat) (v : Word) : (setReg s off v).tables = s.tables := rfl
@[simp] theorem setReg_line (s : State) (off : Nat) (v : Word) : (setReg s off v).line = s.line := rfl
@[simp] theorem setReg_boot (s : State) (off : Nat) (v : Word) : (setReg s off v).boot = s.boot := rfl
@[simp] theorem setReg_tap (s : State) (off : Nat) (v : Word) : (setReg s off v).tap = s.tap := rfl
@[simp] theorem setReg_bcells (s : State) (off : Nat) (v : Word) : (setReg s off v).bcells = s.bcells := rfl
@[simp] theorem setReg_lanes (s : State) (off : Nat) (v : Word) : (setReg s off v).lanes = s.lanes := rfl
@[simp] theorem setReg_inaug (s : State) (off : Nat) (v : Word) : (setReg s off v).inaug = s.inaug := rfl
@[simp] theorem setReg_etb (s : State) (off : Nat) (v : Word) : (setReg s off v).etb = s.etb := rfl
@[simp] theorem setReg_tb (s : State) (off : Nat) (v : Word) : (setReg s off v).tb = s.tb := rfl
@[simp] theorem setReg_sch (s : State) (off : Nat) (v : Word) : (setReg s off v).sch = s.sch := rfl
@[simp] theorem setReg_sw (s : State) (off : Nat) (v : Word) : (setReg s off v).sw = s.sw := rfl
@[simp] theorem setReg_sg (s : State) (off : Nat) (v : Word) : (setReg s off v).sg = s.sg := rfl
@[simp] theorem setReg_can (s : State) (off : Nat) (v : Word) : (setReg s off v).can = s.can := rfl
@[simp] theorem setReg_lamp (s : State) (off : Nat) (v : Word) : (setReg s off v).lamp = s.lamp := rfl
@[simp] theorem setReg_hb (s : State) (off : Nat) (v : Word) : (setReg s off v).hb = s.hb := rfl
@[simp] theorem setReg_mon (s : State) (off : Nat) (v : Word) : (setReg s off v).mon = s.mon := rfl
@[simp] theorem setReg_pilot (s : State) (off : Nat) (v : Word) : (setReg s off v).pilot = s.pilot := rfl
@[simp] theorem setReg_snuf (s : State) (off : Nat) (v : Word) : (setReg s off v).snuf = s.snuf := rfl
@[simp] theorem setReg_flt (s : State) (off : Nat) (v : Word) : (setReg s off v).flt = s.flt := rfl
@[simp] theorem setReg_pol (s : State) (off : Nat) (v : Word) : (setReg s off v).pol = s.pol := rfl
@[simp] theorem setReg_mram (s : State) (off : Nat) (v : Word) : (setReg s off v).mram = s.mram := rfl
@[simp] theorem setReg_log (s : State) (off : Nat) (v : Word) : (setReg s off v).log = s.log := rfl
@[simp] theorem setReg_pins (s : State) (off : Nat) (v : Word) : (setReg s off v).pins = s.pins := rfl
@[simp] theorem setReg_out (s : State) (off : Nat) (v : Word) : (setReg s off v).out = s.out := rfl
@[simp] theorem setReg_pending (s : State) (off : Nat) (v : Word) : (setReg s off v).pending = s.pending := rfl

@[simp] theorem bumpBy_now (s : State) (off n : Nat) : (bumpBy s off n).now = s.now := rfl
@[simp] theorem bumpBy_free (s : State) (off n : Nat) : (bumpBy s off n).free = s.free := rfl
@[simp] theorem bumpBy_uid (s : State) (off n : Nat) : (bumpBy s off n).uid = s.uid := rfl
@[simp] theorem bumpBy_otp (s : State) (off n : Nat) : (bumpBy s off n).otp = s.otp := rfl
@[simp] theorem bumpBy_latHost (s : State) (off n : Nat) : (bumpBy s off n).latHost = s.latHost := rfl
@[simp] theorem bumpBy_latMon (s : State) (off n : Nat) : (bumpBy s off n).latMon = s.latMon := rfl
@[simp] theorem bumpBy_latFar (s : State) (off n : Nat) : (bumpBy s off n).latFar = s.latFar := rfl
@[simp] theorem bumpBy_tables (s : State) (off n : Nat) : (bumpBy s off n).tables = s.tables := rfl
@[simp] theorem bumpBy_line (s : State) (off n : Nat) : (bumpBy s off n).line = s.line := rfl
@[simp] theorem bumpBy_boot (s : State) (off n : Nat) : (bumpBy s off n).boot = s.boot := rfl
@[simp] theorem bumpBy_tap (s : State) (off n : Nat) : (bumpBy s off n).tap = s.tap := rfl
@[simp] theorem bumpBy_bcells (s : State) (off n : Nat) : (bumpBy s off n).bcells = s.bcells := rfl
@[simp] theorem bumpBy_lanes (s : State) (off n : Nat) : (bumpBy s off n).lanes = s.lanes := rfl
@[simp] theorem bumpBy_inaug (s : State) (off n : Nat) : (bumpBy s off n).inaug = s.inaug := rfl
@[simp] theorem bumpBy_etb (s : State) (off n : Nat) : (bumpBy s off n).etb = s.etb := rfl
@[simp] theorem bumpBy_tb (s : State) (off n : Nat) : (bumpBy s off n).tb = s.tb := rfl
@[simp] theorem bumpBy_sch (s : State) (off n : Nat) : (bumpBy s off n).sch = s.sch := rfl
@[simp] theorem bumpBy_sw (s : State) (off n : Nat) : (bumpBy s off n).sw = s.sw := rfl
@[simp] theorem bumpBy_sg (s : State) (off n : Nat) : (bumpBy s off n).sg = s.sg := rfl
@[simp] theorem bumpBy_can (s : State) (off n : Nat) : (bumpBy s off n).can = s.can := rfl
@[simp] theorem bumpBy_lamp (s : State) (off n : Nat) : (bumpBy s off n).lamp = s.lamp := rfl
@[simp] theorem bumpBy_hb (s : State) (off n : Nat) : (bumpBy s off n).hb = s.hb := rfl
@[simp] theorem bumpBy_mon (s : State) (off n : Nat) : (bumpBy s off n).mon = s.mon := rfl
@[simp] theorem bumpBy_pilot (s : State) (off n : Nat) : (bumpBy s off n).pilot = s.pilot := rfl
@[simp] theorem bumpBy_snuf (s : State) (off n : Nat) : (bumpBy s off n).snuf = s.snuf := rfl
@[simp] theorem bumpBy_flt (s : State) (off n : Nat) : (bumpBy s off n).flt = s.flt := rfl
@[simp] theorem bumpBy_pol (s : State) (off n : Nat) : (bumpBy s off n).pol = s.pol := rfl
@[simp] theorem bumpBy_mram (s : State) (off n : Nat) : (bumpBy s off n).mram = s.mram := rfl
@[simp] theorem bumpBy_log (s : State) (off n : Nat) : (bumpBy s off n).log = s.log := rfl
@[simp] theorem bumpBy_pins (s : State) (off n : Nat) : (bumpBy s off n).pins = s.pins := rfl
@[simp] theorem bumpBy_out (s : State) (off n : Nat) : (bumpBy s off n).out = s.out := rfl
@[simp] theorem bumpBy_pending (s : State) (off n : Nat) : (bumpBy s off n).pending = s.pending := rfl

@[simp] theorem bump_now (s : State) (off : Nat) : (bump s off).now = s.now := rfl
@[simp] theorem bump_free (s : State) (off : Nat) : (bump s off).free = s.free := rfl
@[simp] theorem bump_uid (s : State) (off : Nat) : (bump s off).uid = s.uid := rfl
@[simp] theorem bump_otp (s : State) (off : Nat) : (bump s off).otp = s.otp := rfl
@[simp] theorem bump_latHost (s : State) (off : Nat) : (bump s off).latHost = s.latHost := rfl
@[simp] theorem bump_latMon (s : State) (off : Nat) : (bump s off).latMon = s.latMon := rfl
@[simp] theorem bump_latFar (s : State) (off : Nat) : (bump s off).latFar = s.latFar := rfl
@[simp] theorem bump_tables (s : State) (off : Nat) : (bump s off).tables = s.tables := rfl
@[simp] theorem bump_line (s : State) (off : Nat) : (bump s off).line = s.line := rfl
@[simp] theorem bump_boot (s : State) (off : Nat) : (bump s off).boot = s.boot := rfl
@[simp] theorem bump_tap (s : State) (off : Nat) : (bump s off).tap = s.tap := rfl
@[simp] theorem bump_bcells (s : State) (off : Nat) : (bump s off).bcells = s.bcells := rfl
@[simp] theorem bump_lanes (s : State) (off : Nat) : (bump s off).lanes = s.lanes := rfl
@[simp] theorem bump_inaug (s : State) (off : Nat) : (bump s off).inaug = s.inaug := rfl
@[simp] theorem bump_etb (s : State) (off : Nat) : (bump s off).etb = s.etb := rfl
@[simp] theorem bump_tb (s : State) (off : Nat) : (bump s off).tb = s.tb := rfl
@[simp] theorem bump_sch (s : State) (off : Nat) : (bump s off).sch = s.sch := rfl
@[simp] theorem bump_sw (s : State) (off : Nat) : (bump s off).sw = s.sw := rfl
@[simp] theorem bump_sg (s : State) (off : Nat) : (bump s off).sg = s.sg := rfl
@[simp] theorem bump_can (s : State) (off : Nat) : (bump s off).can = s.can := rfl
@[simp] theorem bump_lamp (s : State) (off : Nat) : (bump s off).lamp = s.lamp := rfl
@[simp] theorem bump_hb (s : State) (off : Nat) : (bump s off).hb = s.hb := rfl
@[simp] theorem bump_mon (s : State) (off : Nat) : (bump s off).mon = s.mon := rfl
@[simp] theorem bump_pilot (s : State) (off : Nat) : (bump s off).pilot = s.pilot := rfl
@[simp] theorem bump_snuf (s : State) (off : Nat) : (bump s off).snuf = s.snuf := rfl
@[simp] theorem bump_flt (s : State) (off : Nat) : (bump s off).flt = s.flt := rfl
@[simp] theorem bump_pol (s : State) (off : Nat) : (bump s off).pol = s.pol := rfl
@[simp] theorem bump_mram (s : State) (off : Nat) : (bump s off).mram = s.mram := rfl
@[simp] theorem bump_log (s : State) (off : Nat) : (bump s off).log = s.log := rfl
@[simp] theorem bump_pins (s : State) (off : Nat) : (bump s off).pins = s.pins := rfl
@[simp] theorem bump_out (s : State) (off : Nat) : (bump s off).out = s.out := rfl
@[simp] theorem bump_pending (s : State) (off : Nat) : (bump s off).pending = s.pending := rfl

@[simp] theorem bumpPwr_now (s : State) (i : Nat) : (bumpPwr s i).now = s.now := rfl
@[simp] theorem bumpPwr_free (s : State) (i : Nat) : (bumpPwr s i).free = s.free := rfl
@[simp] theorem bumpPwr_uid (s : State) (i : Nat) : (bumpPwr s i).uid = s.uid := rfl
@[simp] theorem bumpPwr_otp (s : State) (i : Nat) : (bumpPwr s i).otp = s.otp := rfl
@[simp] theorem bumpPwr_regs (s : State) (i : Nat) : (bumpPwr s i).regs = s.regs := rfl
@[simp] theorem bumpPwr_latHost (s : State) (i : Nat) : (bumpPwr s i).latHost = s.latHost := rfl
@[simp] theorem bumpPwr_latMon (s : State) (i : Nat) : (bumpPwr s i).latMon = s.latMon := rfl
@[simp] theorem bumpPwr_latFar (s : State) (i : Nat) : (bumpPwr s i).latFar = s.latFar := rfl
@[simp] theorem bumpPwr_tables (s : State) (i : Nat) : (bumpPwr s i).tables = s.tables := rfl
@[simp] theorem bumpPwr_line (s : State) (i : Nat) : (bumpPwr s i).line = s.line := rfl
@[simp] theorem bumpPwr_boot (s : State) (i : Nat) : (bumpPwr s i).boot = s.boot := rfl
@[simp] theorem bumpPwr_tap (s : State) (i : Nat) : (bumpPwr s i).tap = s.tap := rfl
@[simp] theorem bumpPwr_bcells (s : State) (i : Nat) : (bumpPwr s i).bcells = s.bcells := rfl
@[simp] theorem bumpPwr_lanes (s : State) (i : Nat) : (bumpPwr s i).lanes = s.lanes := rfl
@[simp] theorem bumpPwr_inaug (s : State) (i : Nat) : (bumpPwr s i).inaug = s.inaug := rfl
@[simp] theorem bumpPwr_etb (s : State) (i : Nat) : (bumpPwr s i).etb = s.etb := rfl
@[simp] theorem bumpPwr_tb (s : State) (i : Nat) : (bumpPwr s i).tb = s.tb := rfl
@[simp] theorem bumpPwr_sch (s : State) (i : Nat) : (bumpPwr s i).sch = s.sch := rfl
@[simp] theorem bumpPwr_sw (s : State) (i : Nat) : (bumpPwr s i).sw = s.sw := rfl
@[simp] theorem bumpPwr_sg (s : State) (i : Nat) : (bumpPwr s i).sg = s.sg := rfl
@[simp] theorem bumpPwr_can (s : State) (i : Nat) : (bumpPwr s i).can = s.can := rfl
@[simp] theorem bumpPwr_lamp (s : State) (i : Nat) : (bumpPwr s i).lamp = s.lamp := rfl
@[simp] theorem bumpPwr_hb (s : State) (i : Nat) : (bumpPwr s i).hb = s.hb := rfl
@[simp] theorem bumpPwr_mon (s : State) (i : Nat) : (bumpPwr s i).mon = s.mon := rfl
@[simp] theorem bumpPwr_pilot (s : State) (i : Nat) : (bumpPwr s i).pilot = s.pilot := rfl
@[simp] theorem bumpPwr_snuf (s : State) (i : Nat) : (bumpPwr s i).snuf = s.snuf := rfl
@[simp] theorem bumpPwr_flt (s : State) (i : Nat) : (bumpPwr s i).flt = s.flt := rfl
@[simp] theorem bumpPwr_pol (s : State) (i : Nat) : (bumpPwr s i).pol = s.pol := rfl
@[simp] theorem bumpPwr_log (s : State) (i : Nat) : (bumpPwr s i).log = s.log := rfl
@[simp] theorem bumpPwr_pins (s : State) (i : Nat) : (bumpPwr s i).pins = s.pins := rfl
@[simp] theorem bumpPwr_out (s : State) (i : Nat) : (bumpPwr s i).out = s.out := rfl
@[simp] theorem bumpPwr_pending (s : State) (i : Nat) : (bumpPwr s i).pending = s.pending := rfl

@[simp] theorem takeFree_now (s : State) : (takeFree s).now = s.now := rfl
@[simp] theorem takeFree_uid (s : State) : (takeFree s).uid = s.uid := rfl
@[simp] theorem takeFree_otp (s : State) : (takeFree s).otp = s.otp := rfl
@[simp] theorem takeFree_regs (s : State) : (takeFree s).regs = s.regs := rfl
@[simp] theorem takeFree_latHost (s : State) : (takeFree s).latHost = s.latHost := rfl
@[simp] theorem takeFree_latMon (s : State) : (takeFree s).latMon = s.latMon := rfl
@[simp] theorem takeFree_latFar (s : State) : (takeFree s).latFar = s.latFar := rfl
@[simp] theorem takeFree_tables (s : State) : (takeFree s).tables = s.tables := rfl
@[simp] theorem takeFree_line (s : State) : (takeFree s).line = s.line := rfl
@[simp] theorem takeFree_boot (s : State) : (takeFree s).boot = s.boot := rfl
@[simp] theorem takeFree_tap (s : State) : (takeFree s).tap = s.tap := rfl
@[simp] theorem takeFree_bcells (s : State) : (takeFree s).bcells = s.bcells := rfl
@[simp] theorem takeFree_lanes (s : State) : (takeFree s).lanes = s.lanes := rfl
@[simp] theorem takeFree_inaug (s : State) : (takeFree s).inaug = s.inaug := rfl
@[simp] theorem takeFree_etb (s : State) : (takeFree s).etb = s.etb := rfl
@[simp] theorem takeFree_tb (s : State) : (takeFree s).tb = s.tb := rfl
@[simp] theorem takeFree_sch (s : State) : (takeFree s).sch = s.sch := rfl
@[simp] theorem takeFree_sw (s : State) : (takeFree s).sw = s.sw := rfl
@[simp] theorem takeFree_sg (s : State) : (takeFree s).sg = s.sg := rfl
@[simp] theorem takeFree_can (s : State) : (takeFree s).can = s.can := rfl
@[simp] theorem takeFree_lamp (s : State) : (takeFree s).lamp = s.lamp := rfl
@[simp] theorem takeFree_hb (s : State) : (takeFree s).hb = s.hb := rfl
@[simp] theorem takeFree_mon (s : State) : (takeFree s).mon = s.mon := rfl
@[simp] theorem takeFree_pilot (s : State) : (takeFree s).pilot = s.pilot := rfl
@[simp] theorem takeFree_snuf (s : State) : (takeFree s).snuf = s.snuf := rfl
@[simp] theorem takeFree_flt (s : State) : (takeFree s).flt = s.flt := rfl
@[simp] theorem takeFree_pol (s : State) : (takeFree s).pol = s.pol := rfl
@[simp] theorem takeFree_mram (s : State) : (takeFree s).mram = s.mram := rfl
@[simp] theorem takeFree_log (s : State) : (takeFree s).log = s.log := rfl
@[simp] theorem takeFree_pins (s : State) : (takeFree s).pins = s.pins := rfl
@[simp] theorem takeFree_out (s : State) : (takeFree s).out = s.out := rfl
@[simp] theorem takeFree_pending (s : State) : (takeFree s).pending = s.pending := rfl

@[simp] theorem emit_now (s : State) (o : Out) : (emit s o).now = s.now := rfl
@[simp] theorem emit_free (s : State) (o : Out) : (emit s o).free = s.free := rfl
@[simp] theorem emit_uid (s : State) (o : Out) : (emit s o).uid = s.uid := rfl
@[simp] theorem emit_otp (s : State) (o : Out) : (emit s o).otp = s.otp := rfl
@[simp] theorem emit_regs (s : State) (o : Out) : (emit s o).regs = s.regs := rfl
@[simp] theorem emit_latHost (s : State) (o : Out) : (emit s o).latHost = s.latHost := rfl
@[simp] theorem emit_latMon (s : State) (o : Out) : (emit s o).latMon = s.latMon := rfl
@[simp] theorem emit_latFar (s : State) (o : Out) : (emit s o).latFar = s.latFar := rfl
@[simp] theorem emit_tables (s : State) (o : Out) : (emit s o).tables = s.tables := rfl
@[simp] theorem emit_line (s : State) (o : Out) : (emit s o).line = s.line := rfl
@[simp] theorem emit_boot (s : State) (o : Out) : (emit s o).boot = s.boot := rfl
@[simp] theorem emit_tap (s : State) (o : Out) : (emit s o).tap = s.tap := rfl
@[simp] theorem emit_bcells (s : State) (o : Out) : (emit s o).bcells = s.bcells := rfl
@[simp] theorem emit_lanes (s : State) (o : Out) : (emit s o).lanes = s.lanes := rfl
@[simp] theorem emit_inaug (s : State) (o : Out) : (emit s o).inaug = s.inaug := rfl
@[simp] theorem emit_etb (s : State) (o : Out) : (emit s o).etb = s.etb := rfl
@[simp] theorem emit_tb (s : State) (o : Out) : (emit s o).tb = s.tb := rfl
@[simp] theorem emit_sch (s : State) (o : Out) : (emit s o).sch = s.sch := rfl
@[simp] theorem emit_sw (s : State) (o : Out) : (emit s o).sw = s.sw := rfl
@[simp] theorem emit_sg (s : State) (o : Out) : (emit s o).sg = s.sg := rfl
@[simp] theorem emit_can (s : State) (o : Out) : (emit s o).can = s.can := rfl
@[simp] theorem emit_lamp (s : State) (o : Out) : (emit s o).lamp = s.lamp := rfl
@[simp] theorem emit_hb (s : State) (o : Out) : (emit s o).hb = s.hb := rfl
@[simp] theorem emit_mon (s : State) (o : Out) : (emit s o).mon = s.mon := rfl
@[simp] theorem emit_pilot (s : State) (o : Out) : (emit s o).pilot = s.pilot := rfl
@[simp] theorem emit_snuf (s : State) (o : Out) : (emit s o).snuf = s.snuf := rfl
@[simp] theorem emit_flt (s : State) (o : Out) : (emit s o).flt = s.flt := rfl
@[simp] theorem emit_pol (s : State) (o : Out) : (emit s o).pol = s.pol := rfl
@[simp] theorem emit_mram (s : State) (o : Out) : (emit s o).mram = s.mram := rfl
@[simp] theorem emit_log (s : State) (o : Out) : (emit s o).log = s.log := rfl
@[simp] theorem emit_pins (s : State) (o : Out) : (emit s o).pins = s.pins := rfl
@[simp] theorem emit_pending (s : State) (o : Out) : (emit s o).pending = s.pending := rfl

@[simp] theorem bumpLane_now (s : State) (l : Fin 4) (n : Nat) : (bumpLane s l n).now = s.now := rfl
@[simp] theorem bumpLane_free (s : State) (l : Fin 4) (n : Nat) : (bumpLane s l n).free = s.free := rfl
@[simp] theorem bumpLane_uid (s : State) (l : Fin 4) (n : Nat) : (bumpLane s l n).uid = s.uid := rfl
@[simp] theorem bumpLane_otp (s : State) (l : Fin 4) (n : Nat) : (bumpLane s l n).otp = s.otp := rfl
@[simp] theorem bumpLane_latHost (s : State) (l : Fin 4) (n : Nat) : (bumpLane s l n).latHost = s.latHost := rfl
@[simp] theorem bumpLane_latMon (s : State) (l : Fin 4) (n : Nat) : (bumpLane s l n).latMon = s.latMon := rfl
@[simp] theorem bumpLane_latFar (s : State) (l : Fin 4) (n : Nat) : (bumpLane s l n).latFar = s.latFar := rfl
@[simp] theorem bumpLane_tables (s : State) (l : Fin 4) (n : Nat) : (bumpLane s l n).tables = s.tables := rfl
@[simp] theorem bumpLane_line (s : State) (l : Fin 4) (n : Nat) : (bumpLane s l n).line = s.line := rfl
@[simp] theorem bumpLane_boot (s : State) (l : Fin 4) (n : Nat) : (bumpLane s l n).boot = s.boot := rfl
@[simp] theorem bumpLane_tap (s : State) (l : Fin 4) (n : Nat) : (bumpLane s l n).tap = s.tap := rfl
@[simp] theorem bumpLane_bcells (s : State) (l : Fin 4) (n : Nat) : (bumpLane s l n).bcells = s.bcells := rfl
@[simp] theorem bumpLane_lanes (s : State) (l : Fin 4) (n : Nat) : (bumpLane s l n).lanes = s.lanes := rfl
@[simp] theorem bumpLane_inaug (s : State) (l : Fin 4) (n : Nat) : (bumpLane s l n).inaug = s.inaug := rfl
@[simp] theorem bumpLane_etb (s : State) (l : Fin 4) (n : Nat) : (bumpLane s l n).etb = s.etb := rfl
@[simp] theorem bumpLane_tb (s : State) (l : Fin 4) (n : Nat) : (bumpLane s l n).tb = s.tb := rfl
@[simp] theorem bumpLane_sch (s : State) (l : Fin 4) (n : Nat) : (bumpLane s l n).sch = s.sch := rfl
@[simp] theorem bumpLane_sw (s : State) (l : Fin 4) (n : Nat) : (bumpLane s l n).sw = s.sw := rfl
@[simp] theorem bumpLane_sg (s : State) (l : Fin 4) (n : Nat) : (bumpLane s l n).sg = s.sg := rfl
@[simp] theorem bumpLane_can (s : State) (l : Fin 4) (n : Nat) : (bumpLane s l n).can = s.can := rfl
@[simp] theorem bumpLane_lamp (s : State) (l : Fin 4) (n : Nat) : (bumpLane s l n).lamp = s.lamp := rfl
@[simp] theorem bumpLane_hb (s : State) (l : Fin 4) (n : Nat) : (bumpLane s l n).hb = s.hb := rfl
@[simp] theorem bumpLane_mon (s : State) (l : Fin 4) (n : Nat) : (bumpLane s l n).mon = s.mon := rfl
@[simp] theorem bumpLane_pilot (s : State) (l : Fin 4) (n : Nat) : (bumpLane s l n).pilot = s.pilot := rfl
@[simp] theorem bumpLane_snuf (s : State) (l : Fin 4) (n : Nat) : (bumpLane s l n).snuf = s.snuf := rfl
@[simp] theorem bumpLane_flt (s : State) (l : Fin 4) (n : Nat) : (bumpLane s l n).flt = s.flt := rfl
@[simp] theorem bumpLane_pol (s : State) (l : Fin 4) (n : Nat) : (bumpLane s l n).pol = s.pol := rfl
@[simp] theorem bumpLane_mram (s : State) (l : Fin 4) (n : Nat) : (bumpLane s l n).mram = s.mram := rfl
@[simp] theorem bumpLane_log (s : State) (l : Fin 4) (n : Nat) : (bumpLane s l n).log = s.log := rfl
@[simp] theorem bumpLane_pins (s : State) (l : Fin 4) (n : Nat) : (bumpLane s l n).pins = s.pins := rfl
@[simp] theorem bumpLane_out (s : State) (l : Fin 4) (n : Nat) : (bumpLane s l n).out = s.out := rfl
@[simp] theorem bumpLane_pending (s : State) (l : Fin 4) (n : Nat) : (bumpLane s l n).pending = s.pending := rfl

@[simp] theorem setLane_now (s : State) (l : Fin 4) (f : Lane → Lane) : (setLane s l f).now = s.now := rfl
@[simp] theorem setLane_free (s : State) (l : Fin 4) (f : Lane → Lane) : (setLane s l f).free = s.free := rfl
@[simp] theorem setLane_uid (s : State) (l : Fin 4) (f : Lane → Lane) : (setLane s l f).uid = s.uid := rfl
@[simp] theorem setLane_otp (s : State) (l : Fin 4) (f : Lane → Lane) : (setLane s l f).otp = s.otp := rfl
@[simp] theorem setLane_regs (s : State) (l : Fin 4) (f : Lane → Lane) : (setLane s l f).regs = s.regs := rfl
@[simp] theorem setLane_latHost (s : State) (l : Fin 4) (f : Lane → Lane) : (setLane s l f).latHost = s.latHost := rfl
@[simp] theorem setLane_latMon (s : State) (l : Fin 4) (f : Lane → Lane) : (setLane s l f).latMon = s.latMon := rfl
@[simp] theorem setLane_latFar (s : State) (l : Fin 4) (f : Lane → Lane) : (setLane s l f).latFar = s.latFar := rfl
@[simp] theorem setLane_tables (s : State) (l : Fin 4) (f : Lane → Lane) : (setLane s l f).tables = s.tables := rfl
@[simp] theorem setLane_line (s : State) (l : Fin 4) (f : Lane → Lane) : (setLane s l f).line = s.line := rfl
@[simp] theorem setLane_boot (s : State) (l : Fin 4) (f : Lane → Lane) : (setLane s l f).boot = s.boot := rfl
@[simp] theorem setLane_tap (s : State) (l : Fin 4) (f : Lane → Lane) : (setLane s l f).tap = s.tap := rfl
@[simp] theorem setLane_bcells (s : State) (l : Fin 4) (f : Lane → Lane) : (setLane s l f).bcells = s.bcells := rfl
@[simp] theorem setLane_inaug (s : State) (l : Fin 4) (f : Lane → Lane) : (setLane s l f).inaug = s.inaug := rfl
@[simp] theorem setLane_etb (s : State) (l : Fin 4) (f : Lane → Lane) : (setLane s l f).etb = s.etb := rfl
@[simp] theorem setLane_tb (s : State) (l : Fin 4) (f : Lane → Lane) : (setLane s l f).tb = s.tb := rfl
@[simp] theorem setLane_sch (s : State) (l : Fin 4) (f : Lane → Lane) : (setLane s l f).sch = s.sch := rfl
@[simp] theorem setLane_sw (s : State) (l : Fin 4) (f : Lane → Lane) : (setLane s l f).sw = s.sw := rfl
@[simp] theorem setLane_sg (s : State) (l : Fin 4) (f : Lane → Lane) : (setLane s l f).sg = s.sg := rfl
@[simp] theorem setLane_can (s : State) (l : Fin 4) (f : Lane → Lane) : (setLane s l f).can = s.can := rfl
@[simp] theorem setLane_lamp (s : State) (l : Fin 4) (f : Lane → Lane) : (setLane s l f).lamp = s.lamp := rfl
@[simp] theorem setLane_hb (s : State) (l : Fin 4) (f : Lane → Lane) : (setLane s l f).hb = s.hb := rfl
@[simp] theorem setLane_mon (s : State) (l : Fin 4) (f : Lane → Lane) : (setLane s l f).mon = s.mon := rfl
@[simp] theorem setLane_pilot (s : State) (l : Fin 4) (f : Lane → Lane) : (setLane s l f).pilot = s.pilot := rfl
@[simp] theorem setLane_snuf (s : State) (l : Fin 4) (f : Lane → Lane) : (setLane s l f).snuf = s.snuf := rfl
@[simp] theorem setLane_flt (s : State) (l : Fin 4) (f : Lane → Lane) : (setLane s l f).flt = s.flt := rfl
@[simp] theorem setLane_pol (s : State) (l : Fin 4) (f : Lane → Lane) : (setLane s l f).pol = s.pol := rfl
@[simp] theorem setLane_mram (s : State) (l : Fin 4) (f : Lane → Lane) : (setLane s l f).mram = s.mram := rfl
@[simp] theorem setLane_log (s : State) (l : Fin 4) (f : Lane → Lane) : (setLane s l f).log = s.log := rfl
@[simp] theorem setLane_pins (s : State) (l : Fin 4) (f : Lane → Lane) : (setLane s l f).pins = s.pins := rfl
@[simp] theorem setLane_out (s : State) (l : Fin 4) (f : Lane → Lane) : (setLane s l f).out = s.out := rfl
@[simp] theorem setLane_pending (s : State) (l : Fin 4) (f : Lane → Lane) : (setLane s l f).pending = s.pending := rfl

@[simp] theorem setInaug_now (s : State) (g : Fin 2) (f : Inaug → Inaug) : (setInaug s g f).now = s.now := rfl
@[simp] theorem setInaug_free (s : State) (g : Fin 2) (f : Inaug → Inaug) : (setInaug s g f).free = s.free := rfl
@[simp] theorem setInaug_uid (s : State) (g : Fin 2) (f : Inaug → Inaug) : (setInaug s g f).uid = s.uid := rfl
@[simp] theorem setInaug_otp (s : State) (g : Fin 2) (f : Inaug → Inaug) : (setInaug s g f).otp = s.otp := rfl
@[simp] theorem setInaug_regs (s : State) (g : Fin 2) (f : Inaug → Inaug) : (setInaug s g f).regs = s.regs := rfl
@[simp] theorem setInaug_latHost (s : State) (g : Fin 2) (f : Inaug → Inaug) : (setInaug s g f).latHost = s.latHost := rfl
@[simp] theorem setInaug_latMon (s : State) (g : Fin 2) (f : Inaug → Inaug) : (setInaug s g f).latMon = s.latMon := rfl
@[simp] theorem setInaug_latFar (s : State) (g : Fin 2) (f : Inaug → Inaug) : (setInaug s g f).latFar = s.latFar := rfl
@[simp] theorem setInaug_tables (s : State) (g : Fin 2) (f : Inaug → Inaug) : (setInaug s g f).tables = s.tables := rfl
@[simp] theorem setInaug_line (s : State) (g : Fin 2) (f : Inaug → Inaug) : (setInaug s g f).line = s.line := rfl
@[simp] theorem setInaug_boot (s : State) (g : Fin 2) (f : Inaug → Inaug) : (setInaug s g f).boot = s.boot := rfl
@[simp] theorem setInaug_tap (s : State) (g : Fin 2) (f : Inaug → Inaug) : (setInaug s g f).tap = s.tap := rfl
@[simp] theorem setInaug_bcells (s : State) (g : Fin 2) (f : Inaug → Inaug) : (setInaug s g f).bcells = s.bcells := rfl
@[simp] theorem setInaug_lanes (s : State) (g : Fin 2) (f : Inaug → Inaug) : (setInaug s g f).lanes = s.lanes := rfl
@[simp] theorem setInaug_etb (s : State) (g : Fin 2) (f : Inaug → Inaug) : (setInaug s g f).etb = s.etb := rfl
@[simp] theorem setInaug_tb (s : State) (g : Fin 2) (f : Inaug → Inaug) : (setInaug s g f).tb = s.tb := rfl
@[simp] theorem setInaug_sch (s : State) (g : Fin 2) (f : Inaug → Inaug) : (setInaug s g f).sch = s.sch := rfl
@[simp] theorem setInaug_sw (s : State) (g : Fin 2) (f : Inaug → Inaug) : (setInaug s g f).sw = s.sw := rfl
@[simp] theorem setInaug_sg (s : State) (g : Fin 2) (f : Inaug → Inaug) : (setInaug s g f).sg = s.sg := rfl
@[simp] theorem setInaug_can (s : State) (g : Fin 2) (f : Inaug → Inaug) : (setInaug s g f).can = s.can := rfl
@[simp] theorem setInaug_lamp (s : State) (g : Fin 2) (f : Inaug → Inaug) : (setInaug s g f).lamp = s.lamp := rfl
@[simp] theorem setInaug_hb (s : State) (g : Fin 2) (f : Inaug → Inaug) : (setInaug s g f).hb = s.hb := rfl
@[simp] theorem setInaug_mon (s : State) (g : Fin 2) (f : Inaug → Inaug) : (setInaug s g f).mon = s.mon := rfl
@[simp] theorem setInaug_pilot (s : State) (g : Fin 2) (f : Inaug → Inaug) : (setInaug s g f).pilot = s.pilot := rfl
@[simp] theorem setInaug_snuf (s : State) (g : Fin 2) (f : Inaug → Inaug) : (setInaug s g f).snuf = s.snuf := rfl
@[simp] theorem setInaug_flt (s : State) (g : Fin 2) (f : Inaug → Inaug) : (setInaug s g f).flt = s.flt := rfl
@[simp] theorem setInaug_pol (s : State) (g : Fin 2) (f : Inaug → Inaug) : (setInaug s g f).pol = s.pol := rfl
@[simp] theorem setInaug_mram (s : State) (g : Fin 2) (f : Inaug → Inaug) : (setInaug s g f).mram = s.mram := rfl
@[simp] theorem setInaug_log (s : State) (g : Fin 2) (f : Inaug → Inaug) : (setInaug s g f).log = s.log := rfl
@[simp] theorem setInaug_pins (s : State) (g : Fin 2) (f : Inaug → Inaug) : (setInaug s g f).pins = s.pins := rfl
@[simp] theorem setInaug_out (s : State) (g : Fin 2) (f : Inaug → Inaug) : (setInaug s g f).out = s.out := rfl
@[simp] theorem setInaug_pending (s : State) (g : Fin 2) (f : Inaug → Inaug) : (setInaug s g f).pending = s.pending := rfl

@[simp] theorem setPair_now (s : State) (p : Fin 4) (f : Pair → Pair) : (setPair s p f).now = s.now := rfl
@[simp] theorem setPair_free (s : State) (p : Fin 4) (f : Pair → Pair) : (setPair s p f).free = s.free := rfl
@[simp] theorem setPair_uid (s : State) (p : Fin 4) (f : Pair → Pair) : (setPair s p f).uid = s.uid := rfl
@[simp] theorem setPair_otp (s : State) (p : Fin 4) (f : Pair → Pair) : (setPair s p f).otp = s.otp := rfl
@[simp] theorem setPair_regs (s : State) (p : Fin 4) (f : Pair → Pair) : (setPair s p f).regs = s.regs := rfl
@[simp] theorem setPair_latHost (s : State) (p : Fin 4) (f : Pair → Pair) : (setPair s p f).latHost = s.latHost := rfl
@[simp] theorem setPair_latMon (s : State) (p : Fin 4) (f : Pair → Pair) : (setPair s p f).latMon = s.latMon := rfl
@[simp] theorem setPair_latFar (s : State) (p : Fin 4) (f : Pair → Pair) : (setPair s p f).latFar = s.latFar := rfl
@[simp] theorem setPair_tables (s : State) (p : Fin 4) (f : Pair → Pair) : (setPair s p f).tables = s.tables := rfl
@[simp] theorem setPair_boot (s : State) (p : Fin 4) (f : Pair → Pair) : (setPair s p f).boot = s.boot := rfl
@[simp] theorem setPair_tap (s : State) (p : Fin 4) (f : Pair → Pair) : (setPair s p f).tap = s.tap := rfl
@[simp] theorem setPair_bcells (s : State) (p : Fin 4) (f : Pair → Pair) : (setPair s p f).bcells = s.bcells := rfl
@[simp] theorem setPair_lanes (s : State) (p : Fin 4) (f : Pair → Pair) : (setPair s p f).lanes = s.lanes := rfl
@[simp] theorem setPair_inaug (s : State) (p : Fin 4) (f : Pair → Pair) : (setPair s p f).inaug = s.inaug := rfl
@[simp] theorem setPair_etb (s : State) (p : Fin 4) (f : Pair → Pair) : (setPair s p f).etb = s.etb := rfl
@[simp] theorem setPair_tb (s : State) (p : Fin 4) (f : Pair → Pair) : (setPair s p f).tb = s.tb := rfl
@[simp] theorem setPair_sch (s : State) (p : Fin 4) (f : Pair → Pair) : (setPair s p f).sch = s.sch := rfl
@[simp] theorem setPair_sw (s : State) (p : Fin 4) (f : Pair → Pair) : (setPair s p f).sw = s.sw := rfl
@[simp] theorem setPair_sg (s : State) (p : Fin 4) (f : Pair → Pair) : (setPair s p f).sg = s.sg := rfl
@[simp] theorem setPair_can (s : State) (p : Fin 4) (f : Pair → Pair) : (setPair s p f).can = s.can := rfl
@[simp] theorem setPair_lamp (s : State) (p : Fin 4) (f : Pair → Pair) : (setPair s p f).lamp = s.lamp := rfl
@[simp] theorem setPair_hb (s : State) (p : Fin 4) (f : Pair → Pair) : (setPair s p f).hb = s.hb := rfl
@[simp] theorem setPair_mon (s : State) (p : Fin 4) (f : Pair → Pair) : (setPair s p f).mon = s.mon := rfl
@[simp] theorem setPair_pilot (s : State) (p : Fin 4) (f : Pair → Pair) : (setPair s p f).pilot = s.pilot := rfl
@[simp] theorem setPair_snuf (s : State) (p : Fin 4) (f : Pair → Pair) : (setPair s p f).snuf = s.snuf := rfl
@[simp] theorem setPair_flt (s : State) (p : Fin 4) (f : Pair → Pair) : (setPair s p f).flt = s.flt := rfl
@[simp] theorem setPair_pol (s : State) (p : Fin 4) (f : Pair → Pair) : (setPair s p f).pol = s.pol := rfl
@[simp] theorem setPair_mram (s : State) (p : Fin 4) (f : Pair → Pair) : (setPair s p f).mram = s.mram := rfl
@[simp] theorem setPair_log (s : State) (p : Fin 4) (f : Pair → Pair) : (setPair s p f).log = s.log := rfl
@[simp] theorem setPair_pins (s : State) (p : Fin 4) (f : Pair → Pair) : (setPair s p f).pins = s.pins := rfl
@[simp] theorem setPair_out (s : State) (p : Fin 4) (f : Pair → Pair) : (setPair s p f).out = s.out := rfl
@[simp] theorem setPair_pending (s : State) (p : Fin 4) (f : Pair → Pair) : (setPair s p f).pending = s.pending := rfl

@[simp] theorem setChan_now (s : State) (c : Fin 8) (f : Chan → Chan) : (setChan s c f).now = s.now := rfl
@[simp] theorem setChan_free (s : State) (c : Fin 8) (f : Chan → Chan) : (setChan s c f).free = s.free := rfl
@[simp] theorem setChan_uid (s : State) (c : Fin 8) (f : Chan → Chan) : (setChan s c f).uid = s.uid := rfl
@[simp] theorem setChan_otp (s : State) (c : Fin 8) (f : Chan → Chan) : (setChan s c f).otp = s.otp := rfl
@[simp] theorem setChan_regs (s : State) (c : Fin 8) (f : Chan → Chan) : (setChan s c f).regs = s.regs := rfl
@[simp] theorem setChan_latHost (s : State) (c : Fin 8) (f : Chan → Chan) : (setChan s c f).latHost = s.latHost := rfl
@[simp] theorem setChan_latMon (s : State) (c : Fin 8) (f : Chan → Chan) : (setChan s c f).latMon = s.latMon := rfl
@[simp] theorem setChan_latFar (s : State) (c : Fin 8) (f : Chan → Chan) : (setChan s c f).latFar = s.latFar := rfl
@[simp] theorem setChan_tables (s : State) (c : Fin 8) (f : Chan → Chan) : (setChan s c f).tables = s.tables := rfl
@[simp] theorem setChan_line (s : State) (c : Fin 8) (f : Chan → Chan) : (setChan s c f).line = s.line := rfl
@[simp] theorem setChan_boot (s : State) (c : Fin 8) (f : Chan → Chan) : (setChan s c f).boot = s.boot := rfl
@[simp] theorem setChan_tap (s : State) (c : Fin 8) (f : Chan → Chan) : (setChan s c f).tap = s.tap := rfl
@[simp] theorem setChan_bcells (s : State) (c : Fin 8) (f : Chan → Chan) : (setChan s c f).bcells = s.bcells := rfl
@[simp] theorem setChan_lanes (s : State) (c : Fin 8) (f : Chan → Chan) : (setChan s c f).lanes = s.lanes := rfl
@[simp] theorem setChan_inaug (s : State) (c : Fin 8) (f : Chan → Chan) : (setChan s c f).inaug = s.inaug := rfl
@[simp] theorem setChan_etb (s : State) (c : Fin 8) (f : Chan → Chan) : (setChan s c f).etb = s.etb := rfl
@[simp] theorem setChan_tb (s : State) (c : Fin 8) (f : Chan → Chan) : (setChan s c f).tb = s.tb := rfl
@[simp] theorem setChan_sch (s : State) (c : Fin 8) (f : Chan → Chan) : (setChan s c f).sch = s.sch := rfl
@[simp] theorem setChan_sw (s : State) (c : Fin 8) (f : Chan → Chan) : (setChan s c f).sw = s.sw := rfl
@[simp] theorem setChan_sg (s : State) (c : Fin 8) (f : Chan → Chan) : (setChan s c f).sg = s.sg := rfl
@[simp] theorem setChan_lamp (s : State) (c : Fin 8) (f : Chan → Chan) : (setChan s c f).lamp = s.lamp := rfl
@[simp] theorem setChan_hb (s : State) (c : Fin 8) (f : Chan → Chan) : (setChan s c f).hb = s.hb := rfl
@[simp] theorem setChan_mon (s : State) (c : Fin 8) (f : Chan → Chan) : (setChan s c f).mon = s.mon := rfl
@[simp] theorem setChan_pilot (s : State) (c : Fin 8) (f : Chan → Chan) : (setChan s c f).pilot = s.pilot := rfl
@[simp] theorem setChan_snuf (s : State) (c : Fin 8) (f : Chan → Chan) : (setChan s c f).snuf = s.snuf := rfl
@[simp] theorem setChan_flt (s : State) (c : Fin 8) (f : Chan → Chan) : (setChan s c f).flt = s.flt := rfl
@[simp] theorem setChan_pol (s : State) (c : Fin 8) (f : Chan → Chan) : (setChan s c f).pol = s.pol := rfl
@[simp] theorem setChan_mram (s : State) (c : Fin 8) (f : Chan → Chan) : (setChan s c f).mram = s.mram := rfl
@[simp] theorem setChan_log (s : State) (c : Fin 8) (f : Chan → Chan) : (setChan s c f).log = s.log := rfl
@[simp] theorem setChan_pins (s : State) (c : Fin 8) (f : Chan → Chan) : (setChan s c f).pins = s.pins := rfl
@[simp] theorem setChan_out (s : State) (c : Fin 8) (f : Chan → Chan) : (setChan s c f).out = s.out := rfl
@[simp] theorem setChan_pending (s : State) (c : Fin 8) (f : Chan → Chan) : (setChan s c f).pending = s.pending := rfl

@[simp] theorem setUnit_now (s : State) (u : Nat) (f : FUnit → FUnit) : (setUnit s u f).now = s.now := rfl
@[simp] theorem setUnit_free (s : State) (u : Nat) (f : FUnit → FUnit) : (setUnit s u f).free = s.free := rfl
@[simp] theorem setUnit_uid (s : State) (u : Nat) (f : FUnit → FUnit) : (setUnit s u f).uid = s.uid := rfl
@[simp] theorem setUnit_otp (s : State) (u : Nat) (f : FUnit → FUnit) : (setUnit s u f).otp = s.otp := rfl
@[simp] theorem setUnit_regs (s : State) (u : Nat) (f : FUnit → FUnit) : (setUnit s u f).regs = s.regs := rfl
@[simp] theorem setUnit_latHost (s : State) (u : Nat) (f : FUnit → FUnit) : (setUnit s u f).latHost = s.latHost := rfl
@[simp] theorem setUnit_latMon (s : State) (u : Nat) (f : FUnit → FUnit) : (setUnit s u f).latMon = s.latMon := rfl
@[simp] theorem setUnit_latFar (s : State) (u : Nat) (f : FUnit → FUnit) : (setUnit s u f).latFar = s.latFar := rfl
@[simp] theorem setUnit_tables (s : State) (u : Nat) (f : FUnit → FUnit) : (setUnit s u f).tables = s.tables := rfl
@[simp] theorem setUnit_line (s : State) (u : Nat) (f : FUnit → FUnit) : (setUnit s u f).line = s.line := rfl
@[simp] theorem setUnit_boot (s : State) (u : Nat) (f : FUnit → FUnit) : (setUnit s u f).boot = s.boot := rfl
@[simp] theorem setUnit_tap (s : State) (u : Nat) (f : FUnit → FUnit) : (setUnit s u f).tap = s.tap := rfl
@[simp] theorem setUnit_bcells (s : State) (u : Nat) (f : FUnit → FUnit) : (setUnit s u f).bcells = s.bcells := rfl
@[simp] theorem setUnit_lanes (s : State) (u : Nat) (f : FUnit → FUnit) : (setUnit s u f).lanes = s.lanes := rfl
@[simp] theorem setUnit_inaug (s : State) (u : Nat) (f : FUnit → FUnit) : (setUnit s u f).inaug = s.inaug := rfl
@[simp] theorem setUnit_etb (s : State) (u : Nat) (f : FUnit → FUnit) : (setUnit s u f).etb = s.etb := rfl
@[simp] theorem setUnit_tb (s : State) (u : Nat) (f : FUnit → FUnit) : (setUnit s u f).tb = s.tb := rfl
@[simp] theorem setUnit_sch (s : State) (u : Nat) (f : FUnit → FUnit) : (setUnit s u f).sch = s.sch := rfl
@[simp] theorem setUnit_sw (s : State) (u : Nat) (f : FUnit → FUnit) : (setUnit s u f).sw = s.sw := rfl
@[simp] theorem setUnit_sg (s : State) (u : Nat) (f : FUnit → FUnit) : (setUnit s u f).sg = s.sg := rfl
@[simp] theorem setUnit_can (s : State) (u : Nat) (f : FUnit → FUnit) : (setUnit s u f).can = s.can := rfl
@[simp] theorem setUnit_lamp (s : State) (u : Nat) (f : FUnit → FUnit) : (setUnit s u f).lamp = s.lamp := rfl
@[simp] theorem setUnit_hb (s : State) (u : Nat) (f : FUnit → FUnit) : (setUnit s u f).hb = s.hb := rfl
@[simp] theorem setUnit_mon (s : State) (u : Nat) (f : FUnit → FUnit) : (setUnit s u f).mon = s.mon := rfl
@[simp] theorem setUnit_pilot (s : State) (u : Nat) (f : FUnit → FUnit) : (setUnit s u f).pilot = s.pilot := rfl
@[simp] theorem setUnit_snuf (s : State) (u : Nat) (f : FUnit → FUnit) : (setUnit s u f).snuf = s.snuf := rfl
@[simp] theorem setUnit_pol (s : State) (u : Nat) (f : FUnit → FUnit) : (setUnit s u f).pol = s.pol := rfl
@[simp] theorem setUnit_mram (s : State) (u : Nat) (f : FUnit → FUnit) : (setUnit s u f).mram = s.mram := rfl
@[simp] theorem setUnit_log (s : State) (u : Nat) (f : FUnit → FUnit) : (setUnit s u f).log = s.log := rfl
@[simp] theorem setUnit_pins (s : State) (u : Nat) (f : FUnit → FUnit) : (setUnit s u f).pins = s.pins := rfl
@[simp] theorem setUnit_out (s : State) (u : Nat) (f : FUnit → FUnit) : (setUnit s u f).out = s.out := rfl
@[simp] theorem setUnit_pending (s : State) (u : Nat) (f : FUnit → FUnit) : (setUnit s u f).pending = s.pending := rfl

@[simp] theorem setSw_now (s : State) (p : Fin 20) (f : SwPort → SwPort) : (setSw s p f).now = s.now := rfl
@[simp] theorem setSw_free (s : State) (p : Fin 20) (f : SwPort → SwPort) : (setSw s p f).free = s.free := rfl
@[simp] theorem setSw_uid (s : State) (p : Fin 20) (f : SwPort → SwPort) : (setSw s p f).uid = s.uid := rfl
@[simp] theorem setSw_otp (s : State) (p : Fin 20) (f : SwPort → SwPort) : (setSw s p f).otp = s.otp := rfl
@[simp] theorem setSw_regs (s : State) (p : Fin 20) (f : SwPort → SwPort) : (setSw s p f).regs = s.regs := rfl
@[simp] theorem setSw_latHost (s : State) (p : Fin 20) (f : SwPort → SwPort) : (setSw s p f).latHost = s.latHost := rfl
@[simp] theorem setSw_latMon (s : State) (p : Fin 20) (f : SwPort → SwPort) : (setSw s p f).latMon = s.latMon := rfl
@[simp] theorem setSw_latFar (s : State) (p : Fin 20) (f : SwPort → SwPort) : (setSw s p f).latFar = s.latFar := rfl
@[simp] theorem setSw_tables (s : State) (p : Fin 20) (f : SwPort → SwPort) : (setSw s p f).tables = s.tables := rfl
@[simp] theorem setSw_line (s : State) (p : Fin 20) (f : SwPort → SwPort) : (setSw s p f).line = s.line := rfl
@[simp] theorem setSw_boot (s : State) (p : Fin 20) (f : SwPort → SwPort) : (setSw s p f).boot = s.boot := rfl
@[simp] theorem setSw_tap (s : State) (p : Fin 20) (f : SwPort → SwPort) : (setSw s p f).tap = s.tap := rfl
@[simp] theorem setSw_bcells (s : State) (p : Fin 20) (f : SwPort → SwPort) : (setSw s p f).bcells = s.bcells := rfl
@[simp] theorem setSw_lanes (s : State) (p : Fin 20) (f : SwPort → SwPort) : (setSw s p f).lanes = s.lanes := rfl
@[simp] theorem setSw_inaug (s : State) (p : Fin 20) (f : SwPort → SwPort) : (setSw s p f).inaug = s.inaug := rfl
@[simp] theorem setSw_etb (s : State) (p : Fin 20) (f : SwPort → SwPort) : (setSw s p f).etb = s.etb := rfl
@[simp] theorem setSw_tb (s : State) (p : Fin 20) (f : SwPort → SwPort) : (setSw s p f).tb = s.tb := rfl
@[simp] theorem setSw_sch (s : State) (p : Fin 20) (f : SwPort → SwPort) : (setSw s p f).sch = s.sch := rfl
@[simp] theorem setSw_sg (s : State) (p : Fin 20) (f : SwPort → SwPort) : (setSw s p f).sg = s.sg := rfl
@[simp] theorem setSw_can (s : State) (p : Fin 20) (f : SwPort → SwPort) : (setSw s p f).can = s.can := rfl
@[simp] theorem setSw_lamp (s : State) (p : Fin 20) (f : SwPort → SwPort) : (setSw s p f).lamp = s.lamp := rfl
@[simp] theorem setSw_hb (s : State) (p : Fin 20) (f : SwPort → SwPort) : (setSw s p f).hb = s.hb := rfl
@[simp] theorem setSw_mon (s : State) (p : Fin 20) (f : SwPort → SwPort) : (setSw s p f).mon = s.mon := rfl
@[simp] theorem setSw_pilot (s : State) (p : Fin 20) (f : SwPort → SwPort) : (setSw s p f).pilot = s.pilot := rfl
@[simp] theorem setSw_snuf (s : State) (p : Fin 20) (f : SwPort → SwPort) : (setSw s p f).snuf = s.snuf := rfl
@[simp] theorem setSw_flt (s : State) (p : Fin 20) (f : SwPort → SwPort) : (setSw s p f).flt = s.flt := rfl
@[simp] theorem setSw_pol (s : State) (p : Fin 20) (f : SwPort → SwPort) : (setSw s p f).pol = s.pol := rfl
@[simp] theorem setSw_mram (s : State) (p : Fin 20) (f : SwPort → SwPort) : (setSw s p f).mram = s.mram := rfl
@[simp] theorem setSw_log (s : State) (p : Fin 20) (f : SwPort → SwPort) : (setSw s p f).log = s.log := rfl
@[simp] theorem setSw_pins (s : State) (p : Fin 20) (f : SwPort → SwPort) : (setSw s p f).pins = s.pins := rfl
@[simp] theorem setSw_out (s : State) (p : Fin 20) (f : SwPort → SwPort) : (setSw s p f).out = s.out := rfl
@[simp] theorem setSw_pending (s : State) (p : Fin 20) (f : SwPort → SwPort) : (setSw s p f).pending = s.pending := rfl

@[simp] theorem setPause_now (s : State) (l : Fin 4) (f : Pause → Pause) : (setPause s l f).now = s.now := rfl
@[simp] theorem setPause_free (s : State) (l : Fin 4) (f : Pause → Pause) : (setPause s l f).free = s.free := rfl
@[simp] theorem setPause_uid (s : State) (l : Fin 4) (f : Pause → Pause) : (setPause s l f).uid = s.uid := rfl
@[simp] theorem setPause_otp (s : State) (l : Fin 4) (f : Pause → Pause) : (setPause s l f).otp = s.otp := rfl
@[simp] theorem setPause_regs (s : State) (l : Fin 4) (f : Pause → Pause) : (setPause s l f).regs = s.regs := rfl
@[simp] theorem setPause_latHost (s : State) (l : Fin 4) (f : Pause → Pause) : (setPause s l f).latHost = s.latHost := rfl
@[simp] theorem setPause_latMon (s : State) (l : Fin 4) (f : Pause → Pause) : (setPause s l f).latMon = s.latMon := rfl
@[simp] theorem setPause_latFar (s : State) (l : Fin 4) (f : Pause → Pause) : (setPause s l f).latFar = s.latFar := rfl
@[simp] theorem setPause_tables (s : State) (l : Fin 4) (f : Pause → Pause) : (setPause s l f).tables = s.tables := rfl
@[simp] theorem setPause_line (s : State) (l : Fin 4) (f : Pause → Pause) : (setPause s l f).line = s.line := rfl
@[simp] theorem setPause_boot (s : State) (l : Fin 4) (f : Pause → Pause) : (setPause s l f).boot = s.boot := rfl
@[simp] theorem setPause_tap (s : State) (l : Fin 4) (f : Pause → Pause) : (setPause s l f).tap = s.tap := rfl
@[simp] theorem setPause_bcells (s : State) (l : Fin 4) (f : Pause → Pause) : (setPause s l f).bcells = s.bcells := rfl
@[simp] theorem setPause_lanes (s : State) (l : Fin 4) (f : Pause → Pause) : (setPause s l f).lanes = s.lanes := rfl
@[simp] theorem setPause_inaug (s : State) (l : Fin 4) (f : Pause → Pause) : (setPause s l f).inaug = s.inaug := rfl
@[simp] theorem setPause_etb (s : State) (l : Fin 4) (f : Pause → Pause) : (setPause s l f).etb = s.etb := rfl
@[simp] theorem setPause_tb (s : State) (l : Fin 4) (f : Pause → Pause) : (setPause s l f).tb = s.tb := rfl
@[simp] theorem setPause_sch (s : State) (l : Fin 4) (f : Pause → Pause) : (setPause s l f).sch = s.sch := rfl
@[simp] theorem setPause_sg (s : State) (l : Fin 4) (f : Pause → Pause) : (setPause s l f).sg = s.sg := rfl
@[simp] theorem setPause_can (s : State) (l : Fin 4) (f : Pause → Pause) : (setPause s l f).can = s.can := rfl
@[simp] theorem setPause_lamp (s : State) (l : Fin 4) (f : Pause → Pause) : (setPause s l f).lamp = s.lamp := rfl
@[simp] theorem setPause_hb (s : State) (l : Fin 4) (f : Pause → Pause) : (setPause s l f).hb = s.hb := rfl
@[simp] theorem setPause_mon (s : State) (l : Fin 4) (f : Pause → Pause) : (setPause s l f).mon = s.mon := rfl
@[simp] theorem setPause_pilot (s : State) (l : Fin 4) (f : Pause → Pause) : (setPause s l f).pilot = s.pilot := rfl
@[simp] theorem setPause_snuf (s : State) (l : Fin 4) (f : Pause → Pause) : (setPause s l f).snuf = s.snuf := rfl
@[simp] theorem setPause_flt (s : State) (l : Fin 4) (f : Pause → Pause) : (setPause s l f).flt = s.flt := rfl
@[simp] theorem setPause_pol (s : State) (l : Fin 4) (f : Pause → Pause) : (setPause s l f).pol = s.pol := rfl
@[simp] theorem setPause_mram (s : State) (l : Fin 4) (f : Pause → Pause) : (setPause s l f).mram = s.mram := rfl
@[simp] theorem setPause_log (s : State) (l : Fin 4) (f : Pause → Pause) : (setPause s l f).log = s.log := rfl
@[simp] theorem setPause_pins (s : State) (l : Fin 4) (f : Pause → Pause) : (setPause s l f).pins = s.pins := rfl
@[simp] theorem setPause_out (s : State) (l : Fin 4) (f : Pause → Pause) : (setPause s l f).out = s.out := rfl
@[simp] theorem setPause_pending (s : State) (l : Fin 4) (f : Pause → Pause) : (setPause s l f).pending = s.pending := rfl

@[simp] theorem raiseEv_now (s : State) (e : Event) : (raiseEv s e).now = s.now := by unfold raiseEv; split <;> rfl
@[simp] theorem raiseEv_free (s : State) (e : Event) : (raiseEv s e).free = s.free := by unfold raiseEv; split <;> rfl
@[simp] theorem raiseEv_uid (s : State) (e : Event) : (raiseEv s e).uid = s.uid := by unfold raiseEv; split <;> rfl
@[simp] theorem raiseEv_otp (s : State) (e : Event) : (raiseEv s e).otp = s.otp := by unfold raiseEv; split <;> rfl
@[simp] theorem raiseEv_regs (s : State) (e : Event) : (raiseEv s e).regs = s.regs := by unfold raiseEv; split <;> rfl
@[simp] theorem raiseEv_latHost (s : State) (e : Event) : (raiseEv s e).latHost = s.latHost := by unfold raiseEv; split <;> rfl
@[simp] theorem raiseEv_latMon (s : State) (e : Event) : (raiseEv s e).latMon = s.latMon := by unfold raiseEv; split <;> rfl
@[simp] theorem raiseEv_latFar (s : State) (e : Event) : (raiseEv s e).latFar = s.latFar := by unfold raiseEv; split <;> rfl
@[simp] theorem raiseEv_tables (s : State) (e : Event) : (raiseEv s e).tables = s.tables := by unfold raiseEv; split <;> rfl
@[simp] theorem raiseEv_line (s : State) (e : Event) : (raiseEv s e).line = s.line := by unfold raiseEv; split <;> rfl
@[simp] theorem raiseEv_boot (s : State) (e : Event) : (raiseEv s e).boot = s.boot := by unfold raiseEv; split <;> rfl
@[simp] theorem raiseEv_tap (s : State) (e : Event) : (raiseEv s e).tap = s.tap := by unfold raiseEv; split <;> rfl
@[simp] theorem raiseEv_bcells (s : State) (e : Event) : (raiseEv s e).bcells = s.bcells := by unfold raiseEv; split <;> rfl
@[simp] theorem raiseEv_lanes (s : State) (e : Event) : (raiseEv s e).lanes = s.lanes := by unfold raiseEv; split <;> rfl
@[simp] theorem raiseEv_inaug (s : State) (e : Event) : (raiseEv s e).inaug = s.inaug := by unfold raiseEv; split <;> rfl
@[simp] theorem raiseEv_etb (s : State) (e : Event) : (raiseEv s e).etb = s.etb := by unfold raiseEv; split <;> rfl
@[simp] theorem raiseEv_tb (s : State) (e : Event) : (raiseEv s e).tb = s.tb := by unfold raiseEv; split <;> rfl
@[simp] theorem raiseEv_sch (s : State) (e : Event) : (raiseEv s e).sch = s.sch := by unfold raiseEv; split <;> rfl
@[simp] theorem raiseEv_sw (s : State) (e : Event) : (raiseEv s e).sw = s.sw := by unfold raiseEv; split <;> rfl
@[simp] theorem raiseEv_sg (s : State) (e : Event) : (raiseEv s e).sg = s.sg := by unfold raiseEv; split <;> rfl
@[simp] theorem raiseEv_can (s : State) (e : Event) : (raiseEv s e).can = s.can := by unfold raiseEv; split <;> rfl
@[simp] theorem raiseEv_lamp (s : State) (e : Event) : (raiseEv s e).lamp = s.lamp := by unfold raiseEv; split <;> rfl
@[simp] theorem raiseEv_hb (s : State) (e : Event) : (raiseEv s e).hb = s.hb := by unfold raiseEv; split <;> rfl
@[simp] theorem raiseEv_mon (s : State) (e : Event) : (raiseEv s e).mon = s.mon := by unfold raiseEv; split <;> rfl
@[simp] theorem raiseEv_pilot (s : State) (e : Event) : (raiseEv s e).pilot = s.pilot := by unfold raiseEv; split <;> rfl
@[simp] theorem raiseEv_snuf (s : State) (e : Event) : (raiseEv s e).snuf = s.snuf := by unfold raiseEv; split <;> rfl
@[simp] theorem raiseEv_flt (s : State) (e : Event) : (raiseEv s e).flt = s.flt := by unfold raiseEv; split <;> rfl
@[simp] theorem raiseEv_pol (s : State) (e : Event) : (raiseEv s e).pol = s.pol := by unfold raiseEv; split <;> rfl
@[simp] theorem raiseEv_mram (s : State) (e : Event) : (raiseEv s e).mram = s.mram := by unfold raiseEv; split <;> rfl
@[simp] theorem raiseEv_pins (s : State) (e : Event) : (raiseEv s e).pins = s.pins := by unfold raiseEv; split <;> rfl
@[simp] theorem raiseEv_out (s : State) (e : Event) : (raiseEv s e).out = s.out := by unfold raiseEv; split <;> rfl
@[simp] theorem raiseEv_pending (s : State) (e : Event) : (raiseEv s e).pending = s.pending := by unfold raiseEv; split <;> rfl

@[simp] theorem raise_now (s : State) (code sev inst : Nat) (vals : List Nat) : (raise s code sev inst vals).now = s.now := by unfold raise; split <;> simp
@[simp] theorem raise_free (s : State) (code sev inst : Nat) (vals : List Nat) : (raise s code sev inst vals).free = s.free := by unfold raise; split <;> simp
@[simp] theorem raise_uid (s : State) (code sev inst : Nat) (vals : List Nat) : (raise s code sev inst vals).uid = s.uid := by unfold raise; split <;> simp
@[simp] theorem raise_otp (s : State) (code sev inst : Nat) (vals : List Nat) : (raise s code sev inst vals).otp = s.otp := by unfold raise; split <;> simp
@[simp] theorem raise_latHost (s : State) (code sev inst : Nat) (vals : List Nat) : (raise s code sev inst vals).latHost = s.latHost := by unfold raise; split <;> simp
@[simp] theorem raise_latMon (s : State) (code sev inst : Nat) (vals : List Nat) : (raise s code sev inst vals).latMon = s.latMon := by unfold raise; split <;> simp
@[simp] theorem raise_latFar (s : State) (code sev inst : Nat) (vals : List Nat) : (raise s code sev inst vals).latFar = s.latFar := by unfold raise; split <;> simp
@[simp] theorem raise_tables (s : State) (code sev inst : Nat) (vals : List Nat) : (raise s code sev inst vals).tables = s.tables := by unfold raise; split <;> simp
@[simp] theorem raise_line (s : State) (code sev inst : Nat) (vals : List Nat) : (raise s code sev inst vals).line = s.line := by unfold raise; split <;> simp
@[simp] theorem raise_boot (s : State) (code sev inst : Nat) (vals : List Nat) : (raise s code sev inst vals).boot = s.boot := by unfold raise; split <;> simp
@[simp] theorem raise_tap (s : State) (code sev inst : Nat) (vals : List Nat) : (raise s code sev inst vals).tap = s.tap := by unfold raise; split <;> simp
@[simp] theorem raise_bcells (s : State) (code sev inst : Nat) (vals : List Nat) : (raise s code sev inst vals).bcells = s.bcells := by unfold raise; split <;> simp
@[simp] theorem raise_lanes (s : State) (code sev inst : Nat) (vals : List Nat) : (raise s code sev inst vals).lanes = s.lanes := by unfold raise; split <;> simp
@[simp] theorem raise_inaug (s : State) (code sev inst : Nat) (vals : List Nat) : (raise s code sev inst vals).inaug = s.inaug := by unfold raise; split <;> simp
@[simp] theorem raise_etb (s : State) (code sev inst : Nat) (vals : List Nat) : (raise s code sev inst vals).etb = s.etb := by unfold raise; split <;> simp
@[simp] theorem raise_tb (s : State) (code sev inst : Nat) (vals : List Nat) : (raise s code sev inst vals).tb = s.tb := by unfold raise; split <;> simp
@[simp] theorem raise_sch (s : State) (code sev inst : Nat) (vals : List Nat) : (raise s code sev inst vals).sch = s.sch := by unfold raise; split <;> simp
@[simp] theorem raise_sw (s : State) (code sev inst : Nat) (vals : List Nat) : (raise s code sev inst vals).sw = s.sw := by unfold raise; split <;> simp
@[simp] theorem raise_sg (s : State) (code sev inst : Nat) (vals : List Nat) : (raise s code sev inst vals).sg = s.sg := by unfold raise; split <;> simp
@[simp] theorem raise_can (s : State) (code sev inst : Nat) (vals : List Nat) : (raise s code sev inst vals).can = s.can := by unfold raise; split <;> simp
@[simp] theorem raise_lamp (s : State) (code sev inst : Nat) (vals : List Nat) : (raise s code sev inst vals).lamp = s.lamp := by unfold raise; split <;> simp
@[simp] theorem raise_hb (s : State) (code sev inst : Nat) (vals : List Nat) : (raise s code sev inst vals).hb = s.hb := by unfold raise; split <;> simp
@[simp] theorem raise_mon (s : State) (code sev inst : Nat) (vals : List Nat) : (raise s code sev inst vals).mon = s.mon := by unfold raise; split <;> simp
@[simp] theorem raise_pilot (s : State) (code sev inst : Nat) (vals : List Nat) : (raise s code sev inst vals).pilot = s.pilot := by unfold raise; split <;> simp
@[simp] theorem raise_snuf (s : State) (code sev inst : Nat) (vals : List Nat) : (raise s code sev inst vals).snuf = s.snuf := by unfold raise; split <;> simp
@[simp] theorem raise_flt (s : State) (code sev inst : Nat) (vals : List Nat) : (raise s code sev inst vals).flt = s.flt := by unfold raise; split <;> simp
@[simp] theorem raise_pol (s : State) (code sev inst : Nat) (vals : List Nat) : (raise s code sev inst vals).pol = s.pol := by unfold raise; split <;> simp
@[simp] theorem raise_mram (s : State) (code sev inst : Nat) (vals : List Nat) : (raise s code sev inst vals).mram = s.mram := by unfold raise; split <;> simp
@[simp] theorem raise_pins (s : State) (code sev inst : Nat) (vals : List Nat) : (raise s code sev inst vals).pins = s.pins := by unfold raise; split <;> simp
@[simp] theorem raise_out (s : State) (code sev inst : Nat) (vals : List Nat) : (raise s code sev inst vals).out = s.out := by unfold raise; split <;> simp
@[simp] theorem raise_pending (s : State) (code sev inst : Nat) (vals : List Nat) : (raise s code sev inst vals).pending = s.pending := by unfold raise; split <;> simp

@[simp] theorem raiseSeg_now (s : State) (g : Fin 2) (code sev inst : Nat) (vals : List Nat) : (raiseSeg s g code sev inst vals).now = s.now := by unfold raiseSeg; dsimp only; split <;> simp
@[simp] theorem raiseSeg_free (s : State) (g : Fin 2) (code sev inst : Nat) (vals : List Nat) : (raiseSeg s g code sev inst vals).free = s.free := by unfold raiseSeg; dsimp only; split <;> simp
@[simp] theorem raiseSeg_uid (s : State) (g : Fin 2) (code sev inst : Nat) (vals : List Nat) : (raiseSeg s g code sev inst vals).uid = s.uid := by unfold raiseSeg; dsimp only; split <;> simp
@[simp] theorem raiseSeg_otp (s : State) (g : Fin 2) (code sev inst : Nat) (vals : List Nat) : (raiseSeg s g code sev inst vals).otp = s.otp := by unfold raiseSeg; dsimp only; split <;> simp
@[simp] theorem raiseSeg_latHost (s : State) (g : Fin 2) (code sev inst : Nat) (vals : List Nat) : (raiseSeg s g code sev inst vals).latHost = s.latHost := by unfold raiseSeg; dsimp only; split <;> simp
@[simp] theorem raiseSeg_latMon (s : State) (g : Fin 2) (code sev inst : Nat) (vals : List Nat) : (raiseSeg s g code sev inst vals).latMon = s.latMon := by unfold raiseSeg; dsimp only; split <;> simp
@[simp] theorem raiseSeg_latFar (s : State) (g : Fin 2) (code sev inst : Nat) (vals : List Nat) : (raiseSeg s g code sev inst vals).latFar = s.latFar := by unfold raiseSeg; dsimp only; split <;> simp
@[simp] theorem raiseSeg_tables (s : State) (g : Fin 2) (code sev inst : Nat) (vals : List Nat) : (raiseSeg s g code sev inst vals).tables = s.tables := by unfold raiseSeg; dsimp only; split <;> simp
@[simp] theorem raiseSeg_line (s : State) (g : Fin 2) (code sev inst : Nat) (vals : List Nat) : (raiseSeg s g code sev inst vals).line = s.line := by unfold raiseSeg; dsimp only; split <;> simp
@[simp] theorem raiseSeg_boot (s : State) (g : Fin 2) (code sev inst : Nat) (vals : List Nat) : (raiseSeg s g code sev inst vals).boot = s.boot := by unfold raiseSeg; dsimp only; split <;> simp
@[simp] theorem raiseSeg_tap (s : State) (g : Fin 2) (code sev inst : Nat) (vals : List Nat) : (raiseSeg s g code sev inst vals).tap = s.tap := by unfold raiseSeg; dsimp only; split <;> simp
@[simp] theorem raiseSeg_bcells (s : State) (g : Fin 2) (code sev inst : Nat) (vals : List Nat) : (raiseSeg s g code sev inst vals).bcells = s.bcells := by unfold raiseSeg; dsimp only; split <;> simp
@[simp] theorem raiseSeg_lanes (s : State) (g : Fin 2) (code sev inst : Nat) (vals : List Nat) : (raiseSeg s g code sev inst vals).lanes = s.lanes := by unfold raiseSeg; dsimp only; split <;> simp
@[simp] theorem raiseSeg_inaug (s : State) (g : Fin 2) (code sev inst : Nat) (vals : List Nat) : (raiseSeg s g code sev inst vals).inaug = s.inaug := by unfold raiseSeg; dsimp only; split <;> simp
@[simp] theorem raiseSeg_etb (s : State) (g : Fin 2) (code sev inst : Nat) (vals : List Nat) : (raiseSeg s g code sev inst vals).etb = s.etb := by unfold raiseSeg; dsimp only; split <;> simp
@[simp] theorem raiseSeg_tb (s : State) (g : Fin 2) (code sev inst : Nat) (vals : List Nat) : (raiseSeg s g code sev inst vals).tb = s.tb := by unfold raiseSeg; dsimp only; split <;> simp
@[simp] theorem raiseSeg_sch (s : State) (g : Fin 2) (code sev inst : Nat) (vals : List Nat) : (raiseSeg s g code sev inst vals).sch = s.sch := by unfold raiseSeg; dsimp only; split <;> simp
@[simp] theorem raiseSeg_sw (s : State) (g : Fin 2) (code sev inst : Nat) (vals : List Nat) : (raiseSeg s g code sev inst vals).sw = s.sw := by unfold raiseSeg; dsimp only; split <;> simp
@[simp] theorem raiseSeg_sg (s : State) (g : Fin 2) (code sev inst : Nat) (vals : List Nat) : (raiseSeg s g code sev inst vals).sg = s.sg := by unfold raiseSeg; dsimp only; split <;> simp
@[simp] theorem raiseSeg_can (s : State) (g : Fin 2) (code sev inst : Nat) (vals : List Nat) : (raiseSeg s g code sev inst vals).can = s.can := by unfold raiseSeg; dsimp only; split <;> simp
@[simp] theorem raiseSeg_lamp (s : State) (g : Fin 2) (code sev inst : Nat) (vals : List Nat) : (raiseSeg s g code sev inst vals).lamp = s.lamp := by unfold raiseSeg; dsimp only; split <;> simp
@[simp] theorem raiseSeg_hb (s : State) (g : Fin 2) (code sev inst : Nat) (vals : List Nat) : (raiseSeg s g code sev inst vals).hb = s.hb := by unfold raiseSeg; dsimp only; split <;> simp
@[simp] theorem raiseSeg_mon (s : State) (g : Fin 2) (code sev inst : Nat) (vals : List Nat) : (raiseSeg s g code sev inst vals).mon = s.mon := by unfold raiseSeg; dsimp only; split <;> simp
@[simp] theorem raiseSeg_pilot (s : State) (g : Fin 2) (code sev inst : Nat) (vals : List Nat) : (raiseSeg s g code sev inst vals).pilot = s.pilot := by unfold raiseSeg; dsimp only; split <;> simp
@[simp] theorem raiseSeg_snuf (s : State) (g : Fin 2) (code sev inst : Nat) (vals : List Nat) : (raiseSeg s g code sev inst vals).snuf = s.snuf := by unfold raiseSeg; dsimp only; split <;> simp
@[simp] theorem raiseSeg_flt (s : State) (g : Fin 2) (code sev inst : Nat) (vals : List Nat) : (raiseSeg s g code sev inst vals).flt = s.flt := by unfold raiseSeg; dsimp only; split <;> simp
@[simp] theorem raiseSeg_pol (s : State) (g : Fin 2) (code sev inst : Nat) (vals : List Nat) : (raiseSeg s g code sev inst vals).pol = s.pol := by unfold raiseSeg; dsimp only; split <;> simp
@[simp] theorem raiseSeg_mram (s : State) (g : Fin 2) (code sev inst : Nat) (vals : List Nat) : (raiseSeg s g code sev inst vals).mram = s.mram := by unfold raiseSeg; dsimp only; split <;> simp
@[simp] theorem raiseSeg_pins (s : State) (g : Fin 2) (code sev inst : Nat) (vals : List Nat) : (raiseSeg s g code sev inst vals).pins = s.pins := by unfold raiseSeg; dsimp only; split <;> simp
@[simp] theorem raiseSeg_out (s : State) (g : Fin 2) (code sev inst : Nat) (vals : List Nat) : (raiseSeg s g code sev inst vals).out = s.out := by unfold raiseSeg; dsimp only; split <;> simp
@[simp] theorem raiseSeg_pending (s : State) (g : Fin 2) (code sev inst : Nat) (vals : List Nat) : (raiseSeg s g code sev inst vals).pending = s.pending := by unfold raiseSeg; dsimp only; split <;> simp

@[simp] theorem clearRecord_now (s : State) (code bits src : Nat) : (clearRecord s code bits src).now = s.now := by unfold clearRecord; simp
@[simp] theorem clearRecord_free (s : State) (code bits src : Nat) : (clearRecord s code bits src).free = s.free := by unfold clearRecord; simp
@[simp] theorem clearRecord_uid (s : State) (code bits src : Nat) : (clearRecord s code bits src).uid = s.uid := by unfold clearRecord; simp
@[simp] theorem clearRecord_otp (s : State) (code bits src : Nat) : (clearRecord s code bits src).otp = s.otp := by unfold clearRecord; simp
@[simp] theorem clearRecord_latHost (s : State) (code bits src : Nat) : (clearRecord s code bits src).latHost = s.latHost := by unfold clearRecord; simp
@[simp] theorem clearRecord_latMon (s : State) (code bits src : Nat) : (clearRecord s code bits src).latMon = s.latMon := by unfold clearRecord; simp
@[simp] theorem clearRecord_latFar (s : State) (code bits src : Nat) : (clearRecord s code bits src).latFar = s.latFar := by unfold clearRecord; simp
@[simp] theorem clearRecord_tables (s : State) (code bits src : Nat) : (clearRecord s code bits src).tables = s.tables := by unfold clearRecord; simp
@[simp] theorem clearRecord_line (s : State) (code bits src : Nat) : (clearRecord s code bits src).line = s.line := by unfold clearRecord; simp
@[simp] theorem clearRecord_boot (s : State) (code bits src : Nat) : (clearRecord s code bits src).boot = s.boot := by unfold clearRecord; simp
@[simp] theorem clearRecord_tap (s : State) (code bits src : Nat) : (clearRecord s code bits src).tap = s.tap := by unfold clearRecord; simp
@[simp] theorem clearRecord_bcells (s : State) (code bits src : Nat) : (clearRecord s code bits src).bcells = s.bcells := by unfold clearRecord; simp
@[simp] theorem clearRecord_lanes (s : State) (code bits src : Nat) : (clearRecord s code bits src).lanes = s.lanes := by unfold clearRecord; simp
@[simp] theorem clearRecord_inaug (s : State) (code bits src : Nat) : (clearRecord s code bits src).inaug = s.inaug := by unfold clearRecord; simp
@[simp] theorem clearRecord_etb (s : State) (code bits src : Nat) : (clearRecord s code bits src).etb = s.etb := by unfold clearRecord; simp
@[simp] theorem clearRecord_tb (s : State) (code bits src : Nat) : (clearRecord s code bits src).tb = s.tb := by unfold clearRecord; simp
@[simp] theorem clearRecord_sch (s : State) (code bits src : Nat) : (clearRecord s code bits src).sch = s.sch := by unfold clearRecord; simp
@[simp] theorem clearRecord_sw (s : State) (code bits src : Nat) : (clearRecord s code bits src).sw = s.sw := by unfold clearRecord; simp
@[simp] theorem clearRecord_sg (s : State) (code bits src : Nat) : (clearRecord s code bits src).sg = s.sg := by unfold clearRecord; simp
@[simp] theorem clearRecord_can (s : State) (code bits src : Nat) : (clearRecord s code bits src).can = s.can := by unfold clearRecord; simp
@[simp] theorem clearRecord_lamp (s : State) (code bits src : Nat) : (clearRecord s code bits src).lamp = s.lamp := by unfold clearRecord; simp
@[simp] theorem clearRecord_hb (s : State) (code bits src : Nat) : (clearRecord s code bits src).hb = s.hb := by unfold clearRecord; simp
@[simp] theorem clearRecord_mon (s : State) (code bits src : Nat) : (clearRecord s code bits src).mon = s.mon := by unfold clearRecord; simp
@[simp] theorem clearRecord_pilot (s : State) (code bits src : Nat) : (clearRecord s code bits src).pilot = s.pilot := by unfold clearRecord; simp
@[simp] theorem clearRecord_snuf (s : State) (code bits src : Nat) : (clearRecord s code bits src).snuf = s.snuf := by unfold clearRecord; simp
@[simp] theorem clearRecord_flt (s : State) (code bits src : Nat) : (clearRecord s code bits src).flt = s.flt := by unfold clearRecord; simp
@[simp] theorem clearRecord_pol (s : State) (code bits src : Nat) : (clearRecord s code bits src).pol = s.pol := by unfold clearRecord; simp
@[simp] theorem clearRecord_mram (s : State) (code bits src : Nat) : (clearRecord s code bits src).mram = s.mram := by unfold clearRecord; simp
@[simp] theorem clearRecord_pins (s : State) (code bits src : Nat) : (clearRecord s code bits src).pins = s.pins := by unfold clearRecord; simp
@[simp] theorem clearRecord_out (s : State) (code bits src : Nat) : (clearRecord s code bits src).out = s.out := by unfold clearRecord; simp
@[simp] theorem clearRecord_pending (s : State) (code bits src : Nat) : (clearRecord s code bits src).pending = s.pending := by unfold clearRecord; simp

@[simp] theorem raiseLim_now (s : State) (win code sev inst : Nat) (vals : List Nat) : (raiseLim s win code sev inst vals).now = s.now := by unfold raiseLim; split <;> (try split) <;> simp
@[simp] theorem raiseLim_free (s : State) (win code sev inst : Nat) (vals : List Nat) : (raiseLim s win code sev inst vals).free = s.free := by unfold raiseLim; split <;> (try split) <;> simp
@[simp] theorem raiseLim_uid (s : State) (win code sev inst : Nat) (vals : List Nat) : (raiseLim s win code sev inst vals).uid = s.uid := by unfold raiseLim; split <;> (try split) <;> simp
@[simp] theorem raiseLim_otp (s : State) (win code sev inst : Nat) (vals : List Nat) : (raiseLim s win code sev inst vals).otp = s.otp := by unfold raiseLim; split <;> (try split) <;> simp
@[simp] theorem raiseLim_latHost (s : State) (win code sev inst : Nat) (vals : List Nat) : (raiseLim s win code sev inst vals).latHost = s.latHost := by unfold raiseLim; split <;> (try split) <;> simp
@[simp] theorem raiseLim_latMon (s : State) (win code sev inst : Nat) (vals : List Nat) : (raiseLim s win code sev inst vals).latMon = s.latMon := by unfold raiseLim; split <;> (try split) <;> simp
@[simp] theorem raiseLim_latFar (s : State) (win code sev inst : Nat) (vals : List Nat) : (raiseLim s win code sev inst vals).latFar = s.latFar := by unfold raiseLim; split <;> (try split) <;> simp
@[simp] theorem raiseLim_tables (s : State) (win code sev inst : Nat) (vals : List Nat) : (raiseLim s win code sev inst vals).tables = s.tables := by unfold raiseLim; split <;> (try split) <;> simp
@[simp] theorem raiseLim_line (s : State) (win code sev inst : Nat) (vals : List Nat) : (raiseLim s win code sev inst vals).line = s.line := by unfold raiseLim; split <;> (try split) <;> simp
@[simp] theorem raiseLim_boot (s : State) (win code sev inst : Nat) (vals : List Nat) : (raiseLim s win code sev inst vals).boot = s.boot := by unfold raiseLim; split <;> (try split) <;> simp
@[simp] theorem raiseLim_tap (s : State) (win code sev inst : Nat) (vals : List Nat) : (raiseLim s win code sev inst vals).tap = s.tap := by unfold raiseLim; split <;> (try split) <;> simp
@[simp] theorem raiseLim_bcells (s : State) (win code sev inst : Nat) (vals : List Nat) : (raiseLim s win code sev inst vals).bcells = s.bcells := by unfold raiseLim; split <;> (try split) <;> simp
@[simp] theorem raiseLim_lanes (s : State) (win code sev inst : Nat) (vals : List Nat) : (raiseLim s win code sev inst vals).lanes = s.lanes := by unfold raiseLim; split <;> (try split) <;> simp
@[simp] theorem raiseLim_inaug (s : State) (win code sev inst : Nat) (vals : List Nat) : (raiseLim s win code sev inst vals).inaug = s.inaug := by unfold raiseLim; split <;> (try split) <;> simp
@[simp] theorem raiseLim_etb (s : State) (win code sev inst : Nat) (vals : List Nat) : (raiseLim s win code sev inst vals).etb = s.etb := by unfold raiseLim; split <;> (try split) <;> simp
@[simp] theorem raiseLim_tb (s : State) (win code sev inst : Nat) (vals : List Nat) : (raiseLim s win code sev inst vals).tb = s.tb := by unfold raiseLim; split <;> (try split) <;> simp
@[simp] theorem raiseLim_sch (s : State) (win code sev inst : Nat) (vals : List Nat) : (raiseLim s win code sev inst vals).sch = s.sch := by unfold raiseLim; split <;> (try split) <;> simp
@[simp] theorem raiseLim_sw (s : State) (win code sev inst : Nat) (vals : List Nat) : (raiseLim s win code sev inst vals).sw = s.sw := by unfold raiseLim; split <;> (try split) <;> simp
@[simp] theorem raiseLim_sg (s : State) (win code sev inst : Nat) (vals : List Nat) : (raiseLim s win code sev inst vals).sg = s.sg := by unfold raiseLim; split <;> (try split) <;> simp
@[simp] theorem raiseLim_can (s : State) (win code sev inst : Nat) (vals : List Nat) : (raiseLim s win code sev inst vals).can = s.can := by unfold raiseLim; split <;> (try split) <;> simp
@[simp] theorem raiseLim_lamp (s : State) (win code sev inst : Nat) (vals : List Nat) : (raiseLim s win code sev inst vals).lamp = s.lamp := by unfold raiseLim; split <;> (try split) <;> simp
@[simp] theorem raiseLim_hb (s : State) (win code sev inst : Nat) (vals : List Nat) : (raiseLim s win code sev inst vals).hb = s.hb := by unfold raiseLim; split <;> (try split) <;> simp
@[simp] theorem raiseLim_mon (s : State) (win code sev inst : Nat) (vals : List Nat) : (raiseLim s win code sev inst vals).mon = s.mon := by unfold raiseLim; split <;> (try split) <;> simp
@[simp] theorem raiseLim_pilot (s : State) (win code sev inst : Nat) (vals : List Nat) : (raiseLim s win code sev inst vals).pilot = s.pilot := by unfold raiseLim; split <;> (try split) <;> simp
@[simp] theorem raiseLim_snuf (s : State) (win code sev inst : Nat) (vals : List Nat) : (raiseLim s win code sev inst vals).snuf = s.snuf := by unfold raiseLim; split <;> (try split) <;> simp
@[simp] theorem raiseLim_flt (s : State) (win code sev inst : Nat) (vals : List Nat) : (raiseLim s win code sev inst vals).flt = s.flt := by unfold raiseLim; split <;> (try split) <;> simp
@[simp] theorem raiseLim_pol (s : State) (win code sev inst : Nat) (vals : List Nat) : (raiseLim s win code sev inst vals).pol = s.pol := by unfold raiseLim; split <;> (try split) <;> simp
@[simp] theorem raiseLim_mram (s : State) (win code sev inst : Nat) (vals : List Nat) : (raiseLim s win code sev inst vals).mram = s.mram := by unfold raiseLim; split <;> (try split) <;> simp
@[simp] theorem raiseLim_pins (s : State) (win code sev inst : Nat) (vals : List Nat) : (raiseLim s win code sev inst vals).pins = s.pins := by unfold raiseLim; split <;> (try split) <;> simp
@[simp] theorem raiseLim_out (s : State) (win code sev inst : Nat) (vals : List Nat) : (raiseLim s win code sev inst vals).out = s.out := by unfold raiseLim; split <;> (try split) <;> simp
@[simp] theorem raiseLim_pending (s : State) (win code sev inst : Nat) (vals : List Nat) : (raiseLim s win code sev inst vals).pending = s.pending := by unfold raiseLim; split <;> (try split) <;> simp

@[simp] theorem raiseOnce_now (s : State) (win code sev inst : Nat) (vals : List Nat) : (raiseOnce s win code sev inst vals).now = s.now := by unfold raiseOnce; dsimp only; split <;> (try split) <;> simp
@[simp] theorem raiseOnce_free (s : State) (win code sev inst : Nat) (vals : List Nat) : (raiseOnce s win code sev inst vals).free = s.free := by unfold raiseOnce; dsimp only; split <;> (try split) <;> simp
@[simp] theorem raiseOnce_uid (s : State) (win code sev inst : Nat) (vals : List Nat) : (raiseOnce s win code sev inst vals).uid = s.uid := by unfold raiseOnce; dsimp only; split <;> (try split) <;> simp
@[simp] theorem raiseOnce_otp (s : State) (win code sev inst : Nat) (vals : List Nat) : (raiseOnce s win code sev inst vals).otp = s.otp := by unfold raiseOnce; dsimp only; split <;> (try split) <;> simp
@[simp] theorem raiseOnce_latHost (s : State) (win code sev inst : Nat) (vals : List Nat) : (raiseOnce s win code sev inst vals).latHost = s.latHost := by unfold raiseOnce; dsimp only; split <;> (try split) <;> simp
@[simp] theorem raiseOnce_latMon (s : State) (win code sev inst : Nat) (vals : List Nat) : (raiseOnce s win code sev inst vals).latMon = s.latMon := by unfold raiseOnce; dsimp only; split <;> (try split) <;> simp
@[simp] theorem raiseOnce_latFar (s : State) (win code sev inst : Nat) (vals : List Nat) : (raiseOnce s win code sev inst vals).latFar = s.latFar := by unfold raiseOnce; dsimp only; split <;> (try split) <;> simp
@[simp] theorem raiseOnce_tables (s : State) (win code sev inst : Nat) (vals : List Nat) : (raiseOnce s win code sev inst vals).tables = s.tables := by unfold raiseOnce; dsimp only; split <;> (try split) <;> simp
@[simp] theorem raiseOnce_line (s : State) (win code sev inst : Nat) (vals : List Nat) : (raiseOnce s win code sev inst vals).line = s.line := by unfold raiseOnce; dsimp only; split <;> (try split) <;> simp
@[simp] theorem raiseOnce_boot (s : State) (win code sev inst : Nat) (vals : List Nat) : (raiseOnce s win code sev inst vals).boot = s.boot := by unfold raiseOnce; dsimp only; split <;> (try split) <;> simp
@[simp] theorem raiseOnce_tap (s : State) (win code sev inst : Nat) (vals : List Nat) : (raiseOnce s win code sev inst vals).tap = s.tap := by unfold raiseOnce; dsimp only; split <;> (try split) <;> simp
@[simp] theorem raiseOnce_bcells (s : State) (win code sev inst : Nat) (vals : List Nat) : (raiseOnce s win code sev inst vals).bcells = s.bcells := by unfold raiseOnce; dsimp only; split <;> (try split) <;> simp
@[simp] theorem raiseOnce_lanes (s : State) (win code sev inst : Nat) (vals : List Nat) : (raiseOnce s win code sev inst vals).lanes = s.lanes := by unfold raiseOnce; dsimp only; split <;> (try split) <;> simp
@[simp] theorem raiseOnce_inaug (s : State) (win code sev inst : Nat) (vals : List Nat) : (raiseOnce s win code sev inst vals).inaug = s.inaug := by unfold raiseOnce; dsimp only; split <;> (try split) <;> simp
@[simp] theorem raiseOnce_etb (s : State) (win code sev inst : Nat) (vals : List Nat) : (raiseOnce s win code sev inst vals).etb = s.etb := by unfold raiseOnce; dsimp only; split <;> (try split) <;> simp
@[simp] theorem raiseOnce_tb (s : State) (win code sev inst : Nat) (vals : List Nat) : (raiseOnce s win code sev inst vals).tb = s.tb := by unfold raiseOnce; dsimp only; split <;> (try split) <;> simp
@[simp] theorem raiseOnce_sch (s : State) (win code sev inst : Nat) (vals : List Nat) : (raiseOnce s win code sev inst vals).sch = s.sch := by unfold raiseOnce; dsimp only; split <;> (try split) <;> simp
@[simp] theorem raiseOnce_sw (s : State) (win code sev inst : Nat) (vals : List Nat) : (raiseOnce s win code sev inst vals).sw = s.sw := by unfold raiseOnce; dsimp only; split <;> (try split) <;> simp
@[simp] theorem raiseOnce_sg (s : State) (win code sev inst : Nat) (vals : List Nat) : (raiseOnce s win code sev inst vals).sg = s.sg := by unfold raiseOnce; dsimp only; split <;> (try split) <;> simp
@[simp] theorem raiseOnce_can (s : State) (win code sev inst : Nat) (vals : List Nat) : (raiseOnce s win code sev inst vals).can = s.can := by unfold raiseOnce; dsimp only; split <;> (try split) <;> simp
@[simp] theorem raiseOnce_lamp (s : State) (win code sev inst : Nat) (vals : List Nat) : (raiseOnce s win code sev inst vals).lamp = s.lamp := by unfold raiseOnce; dsimp only; split <;> (try split) <;> simp
@[simp] theorem raiseOnce_hb (s : State) (win code sev inst : Nat) (vals : List Nat) : (raiseOnce s win code sev inst vals).hb = s.hb := by unfold raiseOnce; dsimp only; split <;> (try split) <;> simp
@[simp] theorem raiseOnce_mon (s : State) (win code sev inst : Nat) (vals : List Nat) : (raiseOnce s win code sev inst vals).mon = s.mon := by unfold raiseOnce; dsimp only; split <;> (try split) <;> simp
@[simp] theorem raiseOnce_pilot (s : State) (win code sev inst : Nat) (vals : List Nat) : (raiseOnce s win code sev inst vals).pilot = s.pilot := by unfold raiseOnce; dsimp only; split <;> (try split) <;> simp
@[simp] theorem raiseOnce_snuf (s : State) (win code sev inst : Nat) (vals : List Nat) : (raiseOnce s win code sev inst vals).snuf = s.snuf := by unfold raiseOnce; dsimp only; split <;> (try split) <;> simp
@[simp] theorem raiseOnce_flt (s : State) (win code sev inst : Nat) (vals : List Nat) : (raiseOnce s win code sev inst vals).flt = s.flt := by unfold raiseOnce; dsimp only; split <;> (try split) <;> simp
@[simp] theorem raiseOnce_pol (s : State) (win code sev inst : Nat) (vals : List Nat) : (raiseOnce s win code sev inst vals).pol = s.pol := by unfold raiseOnce; dsimp only; split <;> (try split) <;> simp
@[simp] theorem raiseOnce_mram (s : State) (win code sev inst : Nat) (vals : List Nat) : (raiseOnce s win code sev inst vals).mram = s.mram := by unfold raiseOnce; dsimp only; split <;> (try split) <;> simp
@[simp] theorem raiseOnce_pins (s : State) (win code sev inst : Nat) (vals : List Nat) : (raiseOnce s win code sev inst vals).pins = s.pins := by unfold raiseOnce; dsimp only; split <;> (try split) <;> simp
@[simp] theorem raiseOnce_out (s : State) (win code sev inst : Nat) (vals : List Nat) : (raiseOnce s win code sev inst vals).out = s.out := by unfold raiseOnce; dsimp only; split <;> (try split) <;> simp
@[simp] theorem raiseOnce_pending (s : State) (win code sev inst : Nat) (vals : List Nat) : (raiseOnce s win code sev inst vals).pending = s.pending := by unfold raiseOnce; dsimp only; split <;> (try split) <;> simp

@[simp] theorem pend_now (s t : State) : (pend s t).now = t.now := by unfold pend; split <;> rfl
@[simp] theorem pend_free (s t : State) : (pend s t).free = t.free := by unfold pend; split <;> rfl
@[simp] theorem pend_uid (s t : State) : (pend s t).uid = t.uid := by unfold pend; split <;> rfl
@[simp] theorem pend_otp (s t : State) : (pend s t).otp = t.otp := by unfold pend; split <;> rfl
@[simp] theorem pend_latHost (s t : State) : (pend s t).latHost = t.latHost := by unfold pend; split <;> rfl
@[simp] theorem pend_latMon (s t : State) : (pend s t).latMon = t.latMon := by unfold pend; split <;> rfl
@[simp] theorem pend_latFar (s t : State) : (pend s t).latFar = t.latFar := by unfold pend; split <;> rfl
@[simp] theorem pend_tables (s t : State) : (pend s t).tables = t.tables := by unfold pend; split <;> rfl
@[simp] theorem pend_line (s t : State) : (pend s t).line = t.line := by unfold pend; split <;> rfl
@[simp] theorem pend_boot (s t : State) : (pend s t).boot = t.boot := by unfold pend; split <;> rfl
@[simp] theorem pend_tap (s t : State) : (pend s t).tap = t.tap := by unfold pend; split <;> rfl
@[simp] theorem pend_bcells (s t : State) : (pend s t).bcells = t.bcells := by unfold pend; split <;> rfl
@[simp] theorem pend_lanes (s t : State) : (pend s t).lanes = t.lanes := by unfold pend; split <;> rfl
@[simp] theorem pend_inaug (s t : State) : (pend s t).inaug = t.inaug := by unfold pend; split <;> rfl
@[simp] theorem pend_etb (s t : State) : (pend s t).etb = t.etb := by unfold pend; split <;> rfl
@[simp] theorem pend_tb (s t : State) : (pend s t).tb = t.tb := by unfold pend; split <;> rfl
@[simp] theorem pend_sch (s t : State) : (pend s t).sch = t.sch := by unfold pend; split <;> rfl
@[simp] theorem pend_sw (s t : State) : (pend s t).sw = t.sw := by unfold pend; split <;> rfl
@[simp] theorem pend_sg (s t : State) : (pend s t).sg = t.sg := by unfold pend; split <;> rfl
@[simp] theorem pend_can (s t : State) : (pend s t).can = t.can := by unfold pend; split <;> rfl
@[simp] theorem pend_lamp (s t : State) : (pend s t).lamp = t.lamp := by unfold pend; split <;> rfl
@[simp] theorem pend_hb (s t : State) : (pend s t).hb = t.hb := by unfold pend; split <;> rfl
@[simp] theorem pend_mon (s t : State) : (pend s t).mon = t.mon := by unfold pend; split <;> rfl
@[simp] theorem pend_pilot (s t : State) : (pend s t).pilot = t.pilot := by unfold pend; split <;> rfl
@[simp] theorem pend_snuf (s t : State) : (pend s t).snuf = t.snuf := by unfold pend; split <;> rfl
@[simp] theorem pend_flt (s t : State) : (pend s t).flt = t.flt := by unfold pend; split <;> rfl
@[simp] theorem pend_pol (s t : State) : (pend s t).pol = t.pol := by unfold pend; split <;> rfl
@[simp] theorem pend_mram (s t : State) : (pend s t).mram = t.mram := by unfold pend; split <;> rfl
@[simp] theorem pend_log (s t : State) : (pend s t).log = t.log := by unfold pend; split <;> rfl
@[simp] theorem pend_pins (s t : State) : (pend s t).pins = t.pins := by unfold pend; split <;> rfl
@[simp] theorem pend_out (s t : State) : (pend s t).out = t.out := by unfold pend; split <;> rfl
@[simp] theorem pend_pending (s t : State) : (pend s t).pending = t.pending := by unfold pend; split <;> rfl

@[simp] theorem settle_now (s t : State) : (settle s t).now = t.now := by simp [settle]
@[simp] theorem settle_free (s t : State) : (settle s t).free = t.free := by simp [settle]
@[simp] theorem settle_uid (s t : State) : (settle s t).uid = s.uid := rfl
@[simp] theorem settle_otp (s t : State) : (settle s t).otp = t.otp := by simp [settle]
@[simp] theorem settle_latHost (s t : State) : (settle s t).latHost = t.latHost := by simp [settle]
@[simp] theorem settle_latMon (s t : State) : (settle s t).latMon = t.latMon := by simp [settle]
@[simp] theorem settle_latFar (s t : State) : (settle s t).latFar = t.latFar := by simp [settle]
@[simp] theorem settle_tables (s t : State) : (settle s t).tables = t.tables := by simp [settle]
@[simp] theorem settle_line (s t : State) : (settle s t).line = t.line := by simp [settle]
@[simp] theorem settle_boot (s t : State) : (settle s t).boot = t.boot := by simp [settle]
@[simp] theorem settle_tap (s t : State) : (settle s t).tap = t.tap := by simp [settle]
@[simp] theorem settle_bcells (s t : State) : (settle s t).bcells = t.bcells := by simp [settle]
@[simp] theorem settle_lanes (s t : State) : (settle s t).lanes = t.lanes := by simp [settle]
@[simp] theorem settle_inaug (s t : State) : (settle s t).inaug = t.inaug := by simp [settle]
@[simp] theorem settle_etb (s t : State) : (settle s t).etb = t.etb := by simp [settle]
@[simp] theorem settle_tb (s t : State) : (settle s t).tb = t.tb := by simp [settle]
@[simp] theorem settle_sch (s t : State) : (settle s t).sch = t.sch := by simp [settle]
@[simp] theorem settle_sw (s t : State) : (settle s t).sw = t.sw := by simp [settle]
@[simp] theorem settle_sg (s t : State) : (settle s t).sg = t.sg := by simp [settle]
@[simp] theorem settle_can (s t : State) : (settle s t).can = t.can := by simp [settle]
@[simp] theorem settle_lamp (s t : State) : (settle s t).lamp = t.lamp := by simp [settle]
@[simp] theorem settle_hb (s t : State) : (settle s t).hb = t.hb := by simp [settle]
@[simp] theorem settle_mon (s t : State) : (settle s t).mon = t.mon := by simp [settle]
@[simp] theorem settle_pilot (s t : State) : (settle s t).pilot = t.pilot := by simp [settle]
@[simp] theorem settle_snuf (s t : State) : (settle s t).snuf = t.snuf := by simp [settle]
@[simp] theorem settle_flt (s t : State) : (settle s t).flt = t.flt := by simp [settle]
@[simp] theorem settle_pol (s t : State) : (settle s t).pol = t.pol := by simp [settle]
@[simp] theorem settle_mram (s t : State) : (settle s t).mram = t.mram := by simp [settle]
@[simp] theorem settle_log (s t : State) : (settle s t).log = t.log := by simp [settle]
@[simp] theorem settle_out (s t : State) : (settle s t).out = t.out := by simp [settle]
@[simp] theorem settle_pending (s t : State) : (settle s t).pending = s.pending := rfl

/-! ### Register words -/

/-- A register reads what was set, every other one as before. -/
theorem reg_setReg (s : State) (o k : Nat) (v : Word) : reg (setReg s o v) k = if k = o then v else reg s k := by
  unfold reg setReg
  by_cases h : k = o
  · subst h
    by_cases hv : v = regReset k <;> simp [hv]
  · by_cases hv : v = regReset o
    · simp [hv, h, mget_mdel_ne _ h]
    · simp [hv, h, mget_mput_ne _ _ h]

@[simp] theorem reg_setReg_same (s : State) (o : Nat) (v : Word) : reg (setReg s o v) o = v := by simp [reg_setReg]

@[simp] theorem reg_setReg_ne (s : State) {o k : Nat} (v : Word) (h : k ≠ o) : reg (setReg s o v) k = reg s k := by simp [reg_setReg, h]

/-- A counter moves by n and stops at its largest value; every other register is as before. -/
theorem reg_bumpBy (s : State) (o n k : Nat) :
    reg (bumpBy s o n) k = if k = o then BitVec.ofNat 32 (min 0xFFFFFFFF ((reg s o).toNat + n)) else reg s k := by
  simp [bumpBy, reg_setReg]

theorem reg_bump (s : State) (o k : Nat) :
    reg (bump s o) k = if k = o then BitVec.ofNat 32 (min 0xFFFFFFFF ((reg s o).toNat + 1)) else reg s k := by
  simp [bump, reg_bumpBy]

@[simp] theorem reg_bump_ne (s : State) {o k : Nat} (h : k ≠ o) : reg (bump s o) k = reg s k := by simp [reg_bump, h]

/-- Two states with the same stored words read the same registers. -/
theorem reg_congr {s t : State} (h : t.regs = s.regs) (k : Nat) : reg t k = reg s k := by unfold reg; rw [h]

@[simp] theorem reg_bumpPwr (s : State) (i : Nat) (k : Nat) : reg (bumpPwr s i) k = reg s k := reg_congr (by simp) k
@[simp] theorem reg_takeFree (s : State) (k : Nat) : reg (takeFree s) k = reg s k := reg_congr (by simp) k
@[simp] theorem reg_emit (s : State) (o : Out) (k : Nat) : reg (emit s o) k = reg s k := reg_congr (by simp) k
@[simp] theorem reg_setLane (s : State) (l : Fin 4) (f : Lane → Lane) (k : Nat) : reg (setLane s l f) k = reg s k := reg_congr (by simp) k
@[simp] theorem reg_setInaug (s : State) (g : Fin 2) (f : Inaug → Inaug) (k : Nat) : reg (setInaug s g f) k = reg s k := reg_congr (by simp) k
@[simp] theorem reg_setPair (s : State) (p : Fin 4) (f : Pair → Pair) (k : Nat) : reg (setPair s p f) k = reg s k := reg_congr (by simp) k
@[simp] theorem reg_setChan (s : State) (c : Fin 8) (f : Chan → Chan) (k : Nat) : reg (setChan s c f) k = reg s k := reg_congr (by simp) k
@[simp] theorem reg_setUnit (s : State) (u : Nat) (f : FUnit → FUnit) (k : Nat) : reg (setUnit s u f) k = reg s k := reg_congr (by simp) k
@[simp] theorem reg_setSw (s : State) (p : Fin 20) (f : SwPort → SwPort) (k : Nat) : reg (setSw s p f) k = reg s k := reg_congr (by simp) k
@[simp] theorem reg_setPause (s : State) (l : Fin 4) (f : Pause → Pause) (k : Nat) : reg (setPause s l f) k = reg s k := reg_congr (by simp) k
@[simp] theorem reg_raiseEv (s : State) (e : Event) (k : Nat) : reg (raiseEv s e) k = reg s k := reg_congr (by simp) k

@[simp] theorem reg_raise_ne (s : State) (code sev inst : Nat) (vals : List Nat) {k : Nat} (h : k ≠ 0xC180) :
    reg (raise s code sev inst vals) k = reg s k := by
  unfold raise
  split
  · rw [reg_raiseEv, reg_bump_ne s h]
  · rfl

@[simp] theorem reg_raiseLim_ne (s : State) (win code sev inst : Nat) (vals : List Nat) {k : Nat} (h : k ≠ 0xC180) :
    reg (raiseLim s win code sev inst vals) k = reg s k := by
  unfold raiseLim
  split
  · split
    · rfl
    · rw [reg_raise_ne _ _ _ _ _ h]; rfl
  · rw [reg_raise_ne _ _ _ _ _ h]; rfl

@[simp] theorem reg_raiseOnce_ne (s : State) (win code sev inst : Nat) (vals : List Nat) {k : Nat} (h : k ≠ 0xC180) :
    reg (raiseOnce s win code sev inst vals) k = reg s k := by
  unfold raiseOnce
  dsimp only
  split
  · split
    · rfl
    · rw [reg_raise_ne _ _ _ _ _ h]; rfl
  · rw [reg_raise_ne _ _ _ _ _ h]; rfl

/-- What follows a command sets bits of GL_IPEND and no other register. -/
@[simp] theorem reg_settle_ne (s t : State) {k : Nat} (h : k ≠ 0x40) : reg (settle s t) k = reg t k := by
  have : (settle s t).regs = (pend s t).regs := rfl
  rw [reg_congr this]
  unfold pend
  split
  · rfl
  · exact reg_setReg_ne _ _ h

/-- GL_IPEND after a command: the bits it had, and those that the change signals (R421). -/
theorem reg_settle_ipend (s t : State) : reg (settle s t) 0x40 = reg t 0x40 ||| BitVec.ofNat 32 (pendBits s t) := by
  have : (settle s t).regs = (pend s t).regs := rfl
  rw [reg_congr this]
  unfold pend
  split
  · rename_i h; simp [h]
  · simp

/-! ### The canonical form of the register words -/

/-- The list of stored words: offsets rising, no word equal to its reset value. -/
def regsWf (s : State) : Bool := keysRise s.regs

theorem setReg_wf (s : State) (o : Nat) (v : Word) (h : regsWf s = true) : regsWf (setReg s o v) = true := by
  unfold regsWf setReg at *
  dsimp only
  split
  · exact keysRise_mdel o _ h
  · exact keysRise_mput o v _ h

/-! ### Lanes, pairs and the other arrays -/

theorem setLane_get (s : State) (l : Fin 4) (f : Lane → Lane) (k : Nat) (hk : k < 4) :
    (setLane s l f).lanes[k]'hk = if k = l.val then f s.lanes[l.val] else s.lanes[k] := by
  simp only [setLane, Vector.getElem_set, Fin.getElem_fin]
  by_cases h : k = l.val
  · subst h; simp
  · simp [h, Ne.symm h]

@[simp] theorem setLane_same (s : State) (l : Fin 4) (f : Lane → Lane) : (setLane s l f).lanes[l.val] = f s.lanes[l.val] := by
  simp [setLane_get]

theorem setLane_other (s : State) (l : Fin 4) (f : Lane → Lane) (k : Nat) (hk : k < 4) (h : k ≠ l.val) :
    (setLane s l f).lanes[k]'hk = s.lanes[k] := by simp [setLane_get, h]

theorem setPair_get (s : State) (l : Fin 4) (f : Pair → Pair) (k : Nat) (hk : k < 4) :
    (setPair s l f).line.pairs[k]'hk = if k = l.val then f s.line.pairs[l.val] else s.line.pairs[k] := by
  simp only [setPair, Vector.getElem_set, Fin.getElem_fin]
  by_cases h : k = l.val
  · subst h; simp
  · simp [h, Ne.symm h]

@[simp] theorem setPair_same (s : State) (l : Fin 4) (f : Pair → Pair) : (setPair s l f).line.pairs[l.val] = f s.line.pairs[l.val] := by
  simp [setPair_get]

theorem setPair_other (s : State) (l : Fin 4) (f : Pair → Pair) (k : Nat) (hk : k < 4) (h : k ≠ l.val) :
    (setPair s l f).line.pairs[k]'hk = s.line.pairs[k] := by simp [setPair_get, h]

theorem setInaug_get (s : State) (l : Fin 2) (f : Inaug → Inaug) (k : Nat) (hk : k < 2) :
    (setInaug s l f).inaug[k]'hk = if k = l.val then f s.inaug[l.val] else s.inaug[k] := by
  simp only [setInaug, Vector.getElem_set, Fin.getElem_fin]
  by_cases h : k = l.val
  · subst h; simp
  · simp [h, Ne.symm h]

@[simp] theorem setInaug_same (s : State) (l : Fin 2) (f : Inaug → Inaug) : (setInaug s l f).inaug[l.val] = f s.inaug[l.val] := by
  simp [setInaug_get]

theorem setInaug_other (s : State) (l : Fin 2) (f : Inaug → Inaug) (k : Nat) (hk : k < 2) (h : k ≠ l.val) :
    (setInaug s l f).inaug[k]'hk = s.inaug[k] := by simp [setInaug_get, h]

theorem setChan_get (s : State) (l : Fin 8) (f : Chan → Chan) (k : Nat) (hk : k < 8) :
    (setChan s l f).can[k]'hk = if k = l.val then f s.can[l.val] else s.can[k] := by
  simp only [setChan, Vector.getElem_set, Fin.getElem_fin]
  by_cases h : k = l.val
  · subst h; simp
  · simp [h, Ne.symm h]

@[simp] theorem setChan_same (s : State) (l : Fin 8) (f : Chan → Chan) : (setChan s l f).can[l.val] = f s.can[l.val] := by
  simp [setChan_get]

theorem setChan_other (s : State) (l : Fin 8) (f : Chan → Chan) (k : Nat) (hk : k < 8) (h : k ≠ l.val) :
    (setChan s l f).can[k]'hk = s.can[k] := by simp [setChan_get, h]

theorem setSw_get (s : State) (l : Fin 20) (f : SwPort → SwPort) (k : Nat) (hk : k < 20) :
    (setSw s l f).sw.ports[k]'hk = if k = l.val then f s.sw.ports[l.val] else s.sw.ports[k] := by
  simp only [setSw, Vector.getElem_set, Fin.getElem_fin]
  by_cases h : k = l.val
  · subst h; simp
  · simp [h, Ne.symm h]

@[simp] theorem setSw_same (s : State) (l : Fin 20) (f : SwPort → SwPort) : (setSw s l f).sw.ports[l.val] = f s.sw.ports[l.val] := by
  simp [setSw_get]

theorem setSw_other (s : State) (l : Fin 20) (f : SwPort → SwPort) (k : Nat) (hk : k < 20) (h : k ≠ l.val) :
    (setSw s l f).sw.ports[k]'hk = s.sw.ports[k] := by simp [setSw_get, h]

theorem setPause_get (s : State) (l : Fin 4) (f : Pause → Pause) (k : Nat) (hk : k < 4) :
    (setPause s l f).sw.pause[k]'hk = if k = l.val then f s.sw.pause[l.val] else s.sw.pause[k] := by
  simp only [setPause, Vector.getElem_set, Fin.getElem_fin]
  by_cases h : k = l.val
  · subst h; simp
  · simp [h, Ne.symm h]

@[simp] theorem setPause_same (s : State) (l : Fin 4) (f : Pause → Pause) : (setPause s l f).sw.pause[l.val] = f s.sw.pause[l.val] := by
  simp [setPause_get]

theorem setPause_other (s : State) (l : Fin 4) (f : Pause → Pause) (k : Nat) (hk : k < 4) (h : k ≠ l.val) :
    (setPause s l f).sw.pause[k]'hk = s.sw.pause[k] := by simp [setPause_get, h]

/-! ### Events -/

/-- While the core runs, an event joins those raised and REC_CNT0 counts it. -/
theorem raise_raised (s : State) (code sev inst : Nat) (vals : List Nat) (h : coreRun s = true) :
    (raise s code sev inst vals).log.raised = s.log.raised ++ [mkEvent s code sev inst vals] := by
  have hc : coreRun (bump s 0xC180) = true := h
  have hm : mkEvent s code sev inst vals = mkEvent (bump s 0xC180) code sev inst vals := rfl
  simp [raise, raiseEv, h, hc]

/-- An event joins those raised while the core runs, and is lost otherwise. -/
@[simp] theorem raise_raised_if (s : State) (code sev inst : Nat) (vals : List Nat) :
    (raise s code sev inst vals).log.raised = if coreRun s = true then s.log.raised ++ [mkEvent s code sev inst vals] else s.log.raised := by
  by_cases h : coreRun s = true
  · simp [raise_raised, h]
  · simp [raise, h]

/-- An event while the core does not run changes nothing. -/
theorem raise_cold (s : State) (code sev inst : Nat) (vals : List Nat) (h : coreRun s = false) : raise s code sev inst vals = s := by
  simp [raise, h]

/-! ### What is read of the state after an operation that leaves it alone -/

@[simp] theorem coreRun_setReg (s : State) (off : Nat) (v : Word) : coreRun (setReg s off v) = coreRun s := rfl
@[simp] theorem committed_setReg (s : State) (off : Nat) (v : Word) : committed (setReg s off v) = committed s := rfl
@[simp] theorem service_setReg (s : State) (off : Nat) (v : Word) : service (setReg s off v) = service s := rfl
@[simp] theorem bscan_setReg (s : State) (off : Nat) (v : Word) : bscan (setReg s off v) = bscan s := rfl
@[simp] theorem eventFlags_setReg (s : State) (off : Nat) (v : Word) : eventFlags (setReg s off v) = eventFlags s := rfl
@[simp] theorem mkEvent_setReg (s : State) (off : Nat) (v : Word) (ec ek ei : Nat) (vs : List Nat) : mkEvent (setReg s off v) ec ek ei vs = mkEvent s ec ek ei vs := rfl
@[simp] theorem coreRun_bumpBy (s : State) (off n : Nat) : coreRun (bumpBy s off n) = coreRun s := rfl
@[simp] theorem committed_bumpBy (s : State) (off n : Nat) : committed (bumpBy s off n) = committed s := rfl
@[simp] theorem service_bumpBy (s : State) (off n : Nat) : service (bumpBy s off n) = service s := rfl
@[simp] theorem bscan_bumpBy (s : State) (off n : Nat) : bscan (bumpBy s off n) = bscan s := rfl
@[simp] theorem eventFlags_bumpBy (s : State) (off n : Nat) : eventFlags (bumpBy s off n) = eventFlags s := rfl
@[simp] theorem mkEvent_bumpBy (s : State) (off n : Nat) (ec ek ei : Nat) (vs : List Nat) : mkEvent (bumpBy s off n) ec ek ei vs = mkEvent s ec ek ei vs := rfl
@[simp] theorem coreRun_bump (s : State) (off : Nat) : coreRun (bump s off) = coreRun s := rfl
@[simp] theorem committed_bump (s : State) (off : Nat) : committed (bump s off) = committed s := rfl
@[simp] theorem service_bump (s : State) (off : Nat) : service (bump s off) = service s := rfl
@[simp] theorem bscan_bump (s : State) (off : Nat) : bscan (bump s off) = bscan s := rfl
@[simp] theorem eventFlags_bump (s : State) (off : Nat) : eventFlags (bump s off) = eventFlags s := rfl
@[simp] theorem mkEvent_bump (s : State) (off : Nat) (ec ek ei : Nat) (vs : List Nat) : mkEvent (bump s off) ec ek ei vs = mkEvent s ec ek ei vs := rfl
@[simp] theorem coreRun_bumpPwr (s : State) (i : Nat) : coreRun (bumpPwr s i) = coreRun s := rfl
@[simp] theorem committed_bumpPwr (s : State) (i : Nat) : committed (bumpPwr s i) = committed s := rfl
@[simp] theorem service_bumpPwr (s : State) (i : Nat) : service (bumpPwr s i) = service s := rfl
@[simp] theorem bscan_bumpPwr (s : State) (i : Nat) : bscan (bumpPwr s i) = bscan s := rfl
@[simp] theorem eventFlags_bumpPwr (s : State) (i : Nat) : eventFlags (bumpPwr s i) = eventFlags s := rfl
@[simp] theorem coreRun_takeFree (s : State) : coreRun (takeFree s) = coreRun s := rfl
@[simp] theorem committed_takeFree (s : State) : committed (takeFree s) = committed s := rfl
@[simp] theorem service_takeFree (s : State) : service (takeFree s) = service s := rfl
@[simp] theorem bscan_takeFree (s : State) : bscan (takeFree s) = bscan s := rfl
@[simp] theorem eventFlags_takeFree (s : State) : eventFlags (takeFree s) = eventFlags s := rfl
@[simp] theorem mkEvent_takeFree (s : State) (ec ek ei : Nat) (vs : List Nat) : mkEvent (takeFree s) ec ek ei vs = mkEvent s ec ek ei vs := rfl
@[simp] theorem coreRun_emit (s : State) (o : Out) : coreRun (emit s o) = coreRun s := rfl
@[simp] theorem committed_emit (s : State) (o : Out) : committed (emit s o) = committed s := rfl
@[simp] theorem service_emit (s : State) (o : Out) : service (emit s o) = service s := rfl
@[simp] theorem bscan_emit (s : State) (o : Out) : bscan (emit s o) = bscan s := rfl
@[simp] theorem eventFlags_emit (s : State) (o : Out) : eventFlags (emit s o) = eventFlags s := rfl
@[simp] theorem mkEvent_emit (s : State) (o : Out) (ec ek ei : Nat) (vs : List Nat) : mkEvent (emit s o) ec ek ei vs = mkEvent s ec ek ei vs := rfl
@[simp] theorem coreRun_bumpLane (s : State) (l : Fin 4) (n : Nat) : coreRun (bumpLane s l n) = coreRun s := rfl
@[simp] theorem committed_bumpLane (s : State) (l : Fin 4) (n : Nat) : committed (bumpLane s l n) = committed s := rfl
@[simp] theorem service_bumpLane (s : State) (l : Fin 4) (n : Nat) : service (bumpLane s l n) = service s := rfl
@[simp] theorem bscan_bumpLane (s : State) (l : Fin 4) (n : Nat) : bscan (bumpLane s l n) = bscan s := rfl
@[simp] theorem eventFlags_bumpLane (s : State) (l : Fin 4) (n : Nat) : eventFlags (bumpLane s l n) = eventFlags s := rfl
@[simp] theorem mkEvent_bumpLane (s : State) (l : Fin 4) (n : Nat) (ec ek ei : Nat) (vs : List Nat) : mkEvent (bumpLane s l n) ec ek ei vs = mkEvent s ec ek ei vs := rfl
@[simp] theorem coreRun_setLane (s : State) (l : Fin 4) (f : Lane → Lane) : coreRun (setLane s l f) = coreRun s := rfl
@[simp] theorem committed_setLane (s : State) (l : Fin 4) (f : Lane → Lane) : committed (setLane s l f) = committed s := rfl
@[simp] theorem service_setLane (s : State) (l : Fin 4) (f : Lane → Lane) : service (setLane s l f) = service s := rfl
@[simp] theorem bscan_setLane (s : State) (l : Fin 4) (f : Lane → Lane) : bscan (setLane s l f) = bscan s := rfl
@[simp] theorem eventFlags_setLane (s : State) (l : Fin 4) (f : Lane → Lane) : eventFlags (setLane s l f) = eventFlags s := rfl
@[simp] theorem mkEvent_setLane (s : State) (l : Fin 4) (f : Lane → Lane) (ec ek ei : Nat) (vs : List Nat) : mkEvent (setLane s l f) ec ek ei vs = mkEvent s ec ek ei vs := rfl
@[simp] theorem coreRun_setInaug (s : State) (g : Fin 2) (f : Inaug → Inaug) : coreRun (setInaug s g f) = coreRun s := rfl
@[simp] theorem committed_setInaug (s : State) (g : Fin 2) (f : Inaug → Inaug) : committed (setInaug s g f) = committed s := rfl
@[simp] theorem service_setInaug (s : State) (g : Fin 2) (f : Inaug → Inaug) : service (setInaug s g f) = service s := rfl
@[simp] theorem bscan_setInaug (s : State) (g : Fin 2) (f : Inaug → Inaug) : bscan (setInaug s g f) = bscan s := rfl
@[simp] theorem eventFlags_setInaug (s : State) (g : Fin 2) (f : Inaug → Inaug) : eventFlags (setInaug s g f) = eventFlags s := rfl
@[simp] theorem mkEvent_setInaug (s : State) (g : Fin 2) (f : Inaug → Inaug) (ec ek ei : Nat) (vs : List Nat) : mkEvent (setInaug s g f) ec ek ei vs = mkEvent s ec ek ei vs := rfl
@[simp] theorem coreRun_setPair (s : State) (p : Fin 4) (f : Pair → Pair) : coreRun (setPair s p f) = coreRun s := rfl
@[simp] theorem committed_setPair (s : State) (p : Fin 4) (f : Pair → Pair) : committed (setPair s p f) = committed s := rfl
@[simp] theorem service_setPair (s : State) (p : Fin 4) (f : Pair → Pair) : service (setPair s p f) = service s := rfl
@[simp] theorem bscan_setPair (s : State) (p : Fin 4) (f : Pair → Pair) : bscan (setPair s p f) = bscan s := rfl
@[simp] theorem eventFlags_setPair (s : State) (p : Fin 4) (f : Pair → Pair) : eventFlags (setPair s p f) = eventFlags s := rfl
@[simp] theorem mkEvent_setPair (s : State) (p : Fin 4) (f : Pair → Pair) (ec ek ei : Nat) (vs : List Nat) : mkEvent (setPair s p f) ec ek ei vs = mkEvent s ec ek ei vs := rfl
@[simp] theorem coreRun_setChan (s : State) (c : Fin 8) (f : Chan → Chan) : coreRun (setChan s c f) = coreRun s := rfl
@[simp] theorem committed_setChan (s : State) (c : Fin 8) (f : Chan → Chan) : committed (setChan s c f) = committed s := rfl
@[simp] theorem service_setChan (s : State) (c : Fin 8) (f : Chan → Chan) : service (setChan s c f) = service s := rfl
@[simp] theorem bscan_setChan (s : State) (c : Fin 8) (f : Chan → Chan) : bscan (setChan s c f) = bscan s := rfl
@[simp] theorem eventFlags_setChan (s : State) (c : Fin 8) (f : Chan → Chan) : eventFlags (setChan s c f) = eventFlags s := rfl
@[simp] theorem mkEvent_setChan (s : State) (c : Fin 8) (f : Chan → Chan) (ec ek ei : Nat) (vs : List Nat) : mkEvent (setChan s c f) ec ek ei vs = mkEvent s ec ek ei vs := rfl
@[simp] theorem coreRun_setUnit (s : State) (u : Nat) (f : FUnit → FUnit) : coreRun (setUnit s u f) = coreRun s := rfl
@[simp] theorem committed_setUnit (s : State) (u : Nat) (f : FUnit → FUnit) : committed (setUnit s u f) = committed s := rfl
@[simp] theorem service_setUnit (s : State) (u : Nat) (f : FUnit → FUnit) : service (setUnit s u f) = service s := rfl
@[simp] theorem bscan_setUnit (s : State) (u : Nat) (f : FUnit → FUnit) : bscan (setUnit s u f) = bscan s := rfl
@[simp] theorem eventFlags_setUnit (s : State) (u : Nat) (f : FUnit → FUnit) : eventFlags (setUnit s u f) = eventFlags s := rfl
@[simp] theorem mkEvent_setUnit (s : State) (u : Nat) (f : FUnit → FUnit) (ec ek ei : Nat) (vs : List Nat) : mkEvent (setUnit s u f) ec ek ei vs = mkEvent s ec ek ei vs := rfl
@[simp] theorem coreRun_setSw (s : State) (p : Fin 20) (f : SwPort → SwPort) : coreRun (setSw s p f) = coreRun s := rfl
@[simp] theorem committed_setSw (s : State) (p : Fin 20) (f : SwPort → SwPort) : committed (setSw s p f) = committed s := rfl
@[simp] theorem service_setSw (s : State) (p : Fin 20) (f : SwPort → SwPort) : service (setSw s p f) = service s := rfl
@[simp] theorem bscan_setSw (s : State) (p : Fin 20) (f : SwPort → SwPort) : bscan (setSw s p f) = bscan s := rfl
@[simp] theorem eventFlags_setSw (s : State) (p : Fin 20) (f : SwPort → SwPort) : eventFlags (setSw s p f) = eventFlags s := rfl
@[simp] theorem mkEvent_setSw (s : State) (p : Fin 20) (f : SwPort → SwPort) (ec ek ei : Nat) (vs : List Nat) : mkEvent (setSw s p f) ec ek ei vs = mkEvent s ec ek ei vs := rfl
@[simp] theorem coreRun_setPause (s : State) (l : Fin 4) (f : Pause → Pause) : coreRun (setPause s l f) = coreRun s := rfl
@[simp] theorem committed_setPause (s : State) (l : Fin 4) (f : Pause → Pause) : committed (setPause s l f) = committed s := rfl
@[simp] theorem service_setPause (s : State) (l : Fin 4) (f : Pause → Pause) : service (setPause s l f) = service s := rfl
@[simp] theorem bscan_setPause (s : State) (l : Fin 4) (f : Pause → Pause) : bscan (setPause s l f) = bscan s := rfl
@[simp] theorem eventFlags_setPause (s : State) (l : Fin 4) (f : Pause → Pause) : eventFlags (setPause s l f) = eventFlags s := rfl
@[simp] theorem mkEvent_setPause (s : State) (l : Fin 4) (f : Pause → Pause) (ec ek ei : Nat) (vs : List Nat) : mkEvent (setPause s l f) ec ek ei vs = mkEvent s ec ek ei vs := rfl
@[simp] theorem coreRun_raiseEv (s : State) (e : Event) : coreRun (raiseEv s e) = coreRun s := by unfold coreRun; simp only [raiseEv_line, raiseEv_boot]
@[simp] theorem committed_raiseEv (s : State) (e : Event) : committed (raiseEv s e) = committed s := by unfold committed; simp only [raiseEv_line, raiseEv_boot]
@[simp] theorem service_raiseEv (s : State) (e : Event) : service (raiseEv s e) = service s := by unfold service; simp only [raiseEv_line, raiseEv_boot]
@[simp] theorem bscan_raiseEv (s : State) (e : Event) : bscan (raiseEv s e) = bscan s := by unfold bscan; simp only [raiseEv_tap]
@[simp] theorem eventFlags_raiseEv (s : State) (e : Event) : eventFlags (raiseEv s e) = eventFlags s := by unfold eventFlags; simp only [raiseEv_boot]
@[simp] theorem mkEvent_raiseEv (s : State) (e : Event) (ec ek ei : Nat) (vs : List Nat) : mkEvent (raiseEv s e) ec ek ei vs = mkEvent s ec ek ei vs := by unfold mkEvent; simp only [eventFlags_raiseEv, raiseEv_mram]
@[simp] theorem coreRun_raise (s : State) (code sev inst : Nat) (vals : List Nat) : coreRun (raise s code sev inst vals) = coreRun s := by unfold coreRun; simp only [raise_line, raise_boot]
@[simp] theorem committed_raise (s : State) (code sev inst : Nat) (vals : List Nat) : committed (raise s code sev inst vals) = committed s := by unfold committed; simp only [raise_line, raise_boot]
@[simp] theorem service_raise (s : State) (code sev inst : Nat) (vals : List Nat) : service (raise s code sev inst vals) = service s := by unfold service; simp only [raise_line, raise_boot]
@[simp] theorem bscan_raise (s : State) (code sev inst : Nat) (vals : List Nat) : bscan (raise s code sev inst vals) = bscan s := by unfold bscan; simp only [raise_tap]
@[simp] theorem eventFlags_raise (s : State) (code sev inst : Nat) (vals : List Nat) : eventFlags (raise s code sev inst vals) = eventFlags s := by unfold eventFlags; simp only [raise_boot]
@[simp] theorem mkEvent_raise (s : State) (code sev inst : Nat) (vals : List Nat) (ec ek ei : Nat) (vs : List Nat) : mkEvent (raise s code sev inst vals) ec ek ei vs = mkEvent s ec ek ei vs := by unfold mkEvent; simp only [eventFlags_raise, raise_mram]
@[simp] theorem coreRun_raiseSeg (s : State) (g : Fin 2) (code sev inst : Nat) (vals : List Nat) : coreRun (raiseSeg s g code sev inst vals) = coreRun s := by unfold coreRun; simp only [raiseSeg_line, raiseSeg_boot]
@[simp] theorem committed_raiseSeg (s : State) (g : Fin 2) (code sev inst : Nat) (vals : List Nat) : committed (raiseSeg s g code sev inst vals) = committed s := by unfold committed; simp only [raiseSeg_line, raiseSeg_boot]
@[simp] theorem service_raiseSeg (s : State) (g : Fin 2) (code sev inst : Nat) (vals : List Nat) : service (raiseSeg s g code sev inst vals) = service s := by unfold service; simp only [raiseSeg_line, raiseSeg_boot]
@[simp] theorem bscan_raiseSeg (s : State) (g : Fin 2) (code sev inst : Nat) (vals : List Nat) : bscan (raiseSeg s g code sev inst vals) = bscan s := by unfold bscan; simp only [raiseSeg_tap]
@[simp] theorem eventFlags_raiseSeg (s : State) (g : Fin 2) (code sev inst : Nat) (vals : List Nat) : eventFlags (raiseSeg s g code sev inst vals) = eventFlags s := by unfold eventFlags; simp only [raiseSeg_boot]
@[simp] theorem mkEvent_raiseSeg (s : State) (g : Fin 2) (code sev inst : Nat) (vals : List Nat) (ec ek ei : Nat) (vs : List Nat) : mkEvent (raiseSeg s g code sev inst vals) ec ek ei vs = mkEvent s ec ek ei vs := by unfold mkEvent; simp only [eventFlags_raiseSeg, raiseSeg_mram]
@[simp] theorem coreRun_clearRecord (s : State) (code bits src : Nat) : coreRun (clearRecord s code bits src) = coreRun s := by unfold coreRun; simp only [clearRecord_line, clearRecord_boot]
@[simp] theorem committed_clearRecord (s : State) (code bits src : Nat) : committed (clearRecord s code bits src) = committed s := by unfold committed; simp only [clearRecord_line, clearRecord_boot]
@[simp] theorem service_clearRecord (s : State) (code bits src : Nat) : service (clearRecord s code bits src) = service s := by unfold service; simp only [clearRecord_line, clearRecord_boot]
@[simp] theorem bscan_clearRecord (s : State) (code bits src : Nat) : bscan (clearRecord s code bits src) = bscan s := by unfold bscan; simp only [clearRecord_tap]
@[simp] theorem eventFlags_clearRecord (s : State) (code bits src : Nat) : eventFlags (clearRecord s code bits src) = eventFlags s := by unfold eventFlags; simp only [clearRecord_boot]
@[simp] theorem mkEvent_clearRecord (s : State) (code bits src : Nat) (ec ek ei : Nat) (vs : List Nat) : mkEvent (clearRecord s code bits src) ec ek ei vs = mkEvent s ec ek ei vs := by unfold mkEvent; simp only [eventFlags_clearRecord, clearRecord_mram]
@[simp] theorem coreRun_raiseLim (s : State) (win code sev inst : Nat) (vals : List Nat) : coreRun (raiseLim s win code sev inst vals) = coreRun s := by unfold coreRun; simp only [raiseLim_line, raiseLim_boot]
@[simp] theorem committed_raiseLim (s : State) (win code sev inst : Nat) (vals : List Nat) : committed (raiseLim s win code sev inst vals) = committed s := by unfold committed; simp only [raiseLim_line, raiseLim_boot]
@[simp] theorem service_raiseLim (s : State) (win code sev inst : Nat) (vals : List Nat) : service (raiseLim s win code sev inst vals) = service s := by unfold service; simp only [raiseLim_line, raiseLim_boot]
@[simp] theorem bscan_raiseLim (s : State) (win code sev inst : Nat) (vals : List Nat) : bscan (raiseLim s win code sev inst vals) = bscan s := by unfold bscan; simp only [raiseLim_tap]
@[simp] theorem eventFlags_raiseLim (s : State) (win code sev inst : Nat) (vals : List Nat) : eventFlags (raiseLim s win code sev inst vals) = eventFlags s := by unfold eventFlags; simp only [raiseLim_boot]
@[simp] theorem mkEvent_raiseLim (s : State) (win code sev inst : Nat) (vals : List Nat) (ec ek ei : Nat) (vs : List Nat) : mkEvent (raiseLim s win code sev inst vals) ec ek ei vs = mkEvent s ec ek ei vs := by unfold mkEvent; simp only [eventFlags_raiseLim, raiseLim_mram]
@[simp] theorem coreRun_raiseOnce (s : State) (win code sev inst : Nat) (vals : List Nat) : coreRun (raiseOnce s win code sev inst vals) = coreRun s := by unfold coreRun; simp only [raiseOnce_line, raiseOnce_boot]
@[simp] theorem committed_raiseOnce (s : State) (win code sev inst : Nat) (vals : List Nat) : committed (raiseOnce s win code sev inst vals) = committed s := by unfold committed; simp only [raiseOnce_line, raiseOnce_boot]
@[simp] theorem service_raiseOnce (s : State) (win code sev inst : Nat) (vals : List Nat) : service (raiseOnce s win code sev inst vals) = service s := by unfold service; simp only [raiseOnce_line, raiseOnce_boot]
@[simp] theorem bscan_raiseOnce (s : State) (win code sev inst : Nat) (vals : List Nat) : bscan (raiseOnce s win code sev inst vals) = bscan s := by unfold bscan; simp only [raiseOnce_tap]
@[simp] theorem eventFlags_raiseOnce (s : State) (win code sev inst : Nat) (vals : List Nat) : eventFlags (raiseOnce s win code sev inst vals) = eventFlags s := by unfold eventFlags; simp only [raiseOnce_boot]
@[simp] theorem mkEvent_raiseOnce (s : State) (win code sev inst : Nat) (vals : List Nat) (ec ek ei : Nat) (vs : List Nat) : mkEvent (raiseOnce s win code sev inst vals) ec ek ei vs = mkEvent s ec ek ei vs := by unfold mkEvent; simp only [eventFlags_raiseOnce, raiseOnce_mram]
/-! The fields of the power die after an operation on one pair. -/

@[simp] theorem setPair_line_node (s : State) (p : Fin 4) (f : Pair → Pair) : (setPair s p f).line.node = s.line.node := rfl
@[simp] theorem setPair_line_fromOff (s : State) (p : Fin 4) (f : Pair → Pair) : (setPair s p f).line.fromOff = s.line.fromOff := rfl
@[simp] theorem setPair_line_por (s : State) (p : Fin 4) (f : Pair → Pair) : (setPair s p f).line.por = s.line.por := rfl
@[simp] theorem setPair_line_resetLow (s : State) (p : Fin 4) (f : Pair → Pair) : (setPair s p f).line.resetLow = s.line.resetLow := rfl
@[simp] theorem setPair_line_core (s : State) (p : Fin 4) (f : Pair → Pair) : (setPair s p f).line.core = s.line.core := rfl
@[simp] theorem setPair_line_uvlo (s : State) (p : Fin 4) (f : Pair → Pair) : (setPair s p f).line.uvlo = s.line.uvlo := rfl
@[simp] theorem setPair_line_shed (s : State) (p : Fin 4) (f : Pair → Pair) : (setPair s p f).line.shed = s.line.shed := rfl
@[simp] theorem setPair_line_ov (s : State) (p : Fin 4) (f : Pair → Pair) : (setPair s p f).line.ov = s.line.ov := rfl
@[simp] theorem setPair_line_therm (s : State) (p : Fin 4) (f : Pair → Pair) : (setPair s p f).line.therm = s.line.therm := rfl
@[simp] theorem setPair_line_thermOff (s : State) (p : Fin 4) (f : Pair → Pair) : (setPair s p f).line.thermOff = s.line.thermOff := rfl
@[simp] theorem setPair_line_temp (s : State) (p : Fin 4) (f : Pair → Pair) : (setPair s p f).line.temp = s.line.temp := rfl
@[simp] theorem setPair_line_railOk (s : State) (p : Fin 4) (f : Pair → Pair) : (setPair s p f).line.railOk = s.line.railOk := rfl
@[simp] theorem setPair_line_vf (s : State) (p : Fin 4) (f : Pair → Pair) : (setPair s p f).line.vf = s.line.vf := rfl
@[simp] theorem setPair_line_vlb (s : State) (p : Fin 4) (f : Pair → Pair) : (setPair s p f).line.vlb = s.line.vlb := rfl
@[simp] theorem setPair_line_pin (s : State) (p : Fin 4) (f : Pair → Pair) : (setPair s p f).line.pin = s.line.pin := rfl
@[simp] theorem setPair_line_cur (s : State) (p : Fin 4) (f : Pair → Pair) : (setPair s p f).line.cur = s.line.cur := rfl
@[simp] theorem setPair_line_lpn (s : State) (p : Fin 4) (f : Pair → Pair) : (setPair s p f).line.lpn = s.line.lpn := rfl

end Sys2Proof.Machine
end

