-- ==== Sys2Proof/Laws/Exec.lean ====
section
/-! SUPPORT. What a command and a step can do, said once: each answers a next state that settles what the command's own meaning left. A proof over
every command cites these and unfolds no meaning. -/

namespace Sys2Proof.Machine

/-- The one form of a command's answer. -/
theorem exec_settles (i : Instr) (s : State) : ∃ u, exec i s = .next (settle s u) := by
  cases i <;> exact ⟨_, rfl⟩

/-- The one form of a step's answer: what waits afterwards is the queue's rest. -/
theorem step_settles (s : State) : ∃ u, step s = .next (settle { s with pending := s.pending.tail } u) := by
  unfold step
  split
  · rename_i h
    exact ⟨tick s, by cases s; simp_all⟩
  · rename_i c rest h
    obtain ⟨u, hu⟩ := exec_settles c { s with pending := rest }
    exact ⟨u, by rw [hu, h]; rfl⟩

end Sys2Proof.Machine
end

