-- ==== Sys2Proof/Laws/Frame.lean ====
section
/-! SUPPORT. Frames: how they compose, and the frame of each shared operation. A proof about a command cites these and unfolds only the
command's own meaning. -/

namespace Sys2Proof.Safety

open Sys2Proof.Machine

theorem frame_refl (P : List Part) (R : Nat → Prop) (s : State) : Frame P R s s :=
  ⟨fun p _ => by cases p <;> rfl, fun _ _ _ => rfl⟩

theorem frame_mono {P Q : List Part} {R S : Nat → Prop} {s t : State} (h : Frame P R s t) (hp : ∀ p, p ∈ P → p ∈ Q)
    (hr : ∀ o, R o → S o) : Frame Q S s t :=
  ⟨fun p hq => h.1 p (fun hm => hq (hp p hm)), fun o ho hs => h.2 o ho (fun hR => hs (hr o hR))⟩

theorem same_trans {s t u : State} {p : Part} (h : Same s t p) (g : Same t u p) : Same s u p := by
  cases p <;> simp only [Same] at * <;> rw [g, h]

theorem frame_trans {P : List Part} {R : Nat → Prop} {s t u : State} (h : Frame P R s t) (g : Frame P R t u) : Frame P R s u :=
  ⟨fun p hp => same_trans (h.1 p hp) (g.1 p hp), fun o ho hr => (g.2 o ho hr).trans (h.2 o ho hr)⟩

/-- What follows a command keeps its frame. -/
theorem frame_settle {P : List Part} {R : Nat → Prop} {s t : State} (h : Frame P R s t) : Frame P R s (settle s t) := by
  refine ⟨fun p hp => ?_, fun o ho hr => (reg_settle_ne s t ho).trans (h.2 o ho hr)⟩
  have := h.1 p hp
  cases p <;> simp_all [Same]

/-- A command whose meaning is u completes with what holds of u settled. -/
theorem completes_of {c : Instr} {s u : State} {Q : State → Prop} (h : exec c s = .next (settle s u)) (q : Q (settle s u)) : Completes c s Q :=
  ⟨_, h, q⟩

theorem frame_setReg (s : State) (o : Nat) (v : Word) : Frame [] (· = o) s (setReg s o v) :=
  ⟨fun p _ => by cases p <;> rfl, fun k _ h => reg_setReg_ne s v h⟩

theorem frame_bump (s : State) (o : Nat) : Frame [] (· = o) s (bump s o) :=
  ⟨fun p _ => by cases p <;> rfl, fun _ _ h => reg_bump_ne s h⟩

theorem frame_setLane (s : State) (l : Fin 4) (f : Lane → Lane) : Frame [.lanes] (fun _ => False) s (setLane s l f) :=
  ⟨fun p h => by cases p <;> simp_all [Same], fun _ _ _ => by simp⟩

theorem frame_setPair (s : State) (p : Fin 4) (f : Pair → Pair) : Frame [.line] (fun _ => False) s (setPair s p f) :=
  ⟨fun p h => by cases p <;> simp_all [Same], fun _ _ _ => by simp⟩

theorem frame_setInaug (s : State) (g : Fin 2) (f : Inaug → Inaug) : Frame [.inaug] (fun _ => False) s (setInaug s g f) :=
  ⟨fun p h => by cases p <;> simp_all [Same], fun _ _ _ => by simp⟩

theorem frame_setChan (s : State) (c : Fin 8) (f : Chan → Chan) : Frame [.can] (fun _ => False) s (setChan s c f) :=
  ⟨fun p h => by cases p <;> simp_all [Same], fun _ _ _ => by simp⟩

theorem frame_setUnit (s : State) (u : Nat) (f : FUnit → FUnit) : Frame [.flt] (fun _ => False) s (setUnit s u f) :=
  ⟨fun p h => by cases p <;> simp_all [Same], fun _ _ _ => by simp⟩

theorem frame_emit (s : State) (o : Out) : Frame [.out] (fun _ => False) s (emit s o) :=
  ⟨fun p h => by cases p <;> simp_all [Same], fun _ _ _ => by simp⟩

theorem frame_takeFree (s : State) : Frame [.free] (fun _ => False) s (takeFree s) :=
  ⟨fun p h => by cases p <;> simp_all [Same], fun _ _ _ => by simp⟩

/-- An event touches the recorder's intake and its count of events raised. -/
theorem frame_raise (s : State) (code sev inst : Nat) (vals : List Nat) : Frame [.log] (· = 0xC180) s (raise s code sev inst vals) :=
  ⟨fun p h => by cases p <;> simp_all [Same], fun _ _ h => reg_raise_ne s _ _ _ _ h⟩

theorem frame_raiseLim (s : State) (win code sev inst : Nat) (vals : List Nat) :
    Frame [.log] (· = 0xC180) s (raiseLim s win code sev inst vals) :=
  ⟨fun p h => by cases p <;> simp_all [Same], fun _ _ h => reg_raiseLim_ne s _ _ _ _ _ h⟩

end Sys2Proof.Safety
end

