-- ==== Sys2Proof/Laws/Wire.lean ====
section
/-! SUPPORT. Bytes on the wire: a big-endian field reads back, and a frame built by `mkFrame` shows its header, its payload and good CRCs. -/

namespace Sys2Proof.Machine

@[simp] theorem length_beBytes (n v : Nat) : (beBytes n v).length = n := by
  induction n with
  | zero => rfl
  | succ n ih => simp [beBytes, ih]

theorem foldl_beBytes (n v a : Nat) : (beBytes n v).foldl (fun a x => a * 256 + x.toNat) a = a * 256 ^ n + v % 256 ^ n := by
  induction n generalizing a with
  | zero => simp [beBytes, Nat.mod_one]
  | succ n ih =>
    simp only [beBytes, List.foldl_cons, ih, BitVec.toNat_ofNat]
    have h : v % 256 ^ (n + 1) = 256 ^ n * (v / 256 ^ n % 256) + v % 256 ^ n := by
      rw [Nat.pow_succ, Nat.mod_mul, Nat.add_comm]
    rw [h, Nat.pow_succ]; ring

/-- A field of n bytes reads back modulo its size. -/
theorem beNat_beBytes (n v : Nat) : beNat (beBytes n v) = v % 256 ^ n := by simpa [beNat] using foldl_beBytes n v 0

/-- A field in the middle of a frame. -/
theorem beAt_mid (a r : Bytes) (n v : Nat) {i : Nat} (h : a.length = i) : beAt (a ++ beBytes n v ++ r) i n = v % 256 ^ n := by
  subst h
  simp [beAt, slice, List.append_assoc, beNat_beBytes]

/-- What precedes HCRC in a header. -/
def hdrHead (h : NHdr) : Bytes :=
  [BitVec.ofNat 8 h.kind, BitVec.ofNat 8 (h.cls * 32 + h.dyn.toNat * 16 + h.crit.toNat * 8 + h.fold.toNat * 4), BitVec.ofNat 8 h.src, BitVec.ofNat 8 h.dtype] ++
    (h.dest ++ List.replicate 8 0#8).take 8 ++ beBytes 4 (h.cycle % 2 ^ 32) ++ beBytes 2 h.slot ++ beBytes 2 h.len ++ [BitVec.ofNat 8 h.hops, 0#8]

theorem hdrBytes_eq (h : NHdr) : hdrBytes h = hdrHead h ++ beBytes 2 (crc16 (hdrHead h)).toNat := rfl

@[simp] theorem length_hdrHead (h : NHdr) : (hdrHead h).length = 22 := by simp [hdrHead]

@[simp] theorem length_hdrBytes (h : NHdr) : (hdrBytes h).length = 24 := by simp [hdrBytes_eq]

/-- The header of a frame built is good (R111). -/
@[simp] theorem hcrcOk_mkFrame (h : NHdr) (p : Bytes) : hcrcOk (mkFrame h p) = true := by
  have e : mkFrame h p = hdrHead { h with len := p.length } ++ beBytes 2 (crc16 (hdrHead { h with len := p.length })).toNat ++
      (p ++ beBytes 4 (crc32 p).toNat) := by simp [mkFrame, hdrBytes_eq, List.append_assoc]
  have l : 24 ≤ (mkFrame h p).length := by simp [mkFrame]
  have t : (mkFrame h p).take 22 = hdrHead { h with len := p.length } := by
    rw [e, List.append_assoc]; exact List.take_left' (by simp)
  have b : beAt (mkFrame h p) 22 2 = (crc16 (hdrHead { h with len := p.length })).toNat := by
    rw [e, beAt_mid _ _ _ _ (by simp)]
    exact Nat.mod_eq_of_lt (by have := (crc16 (hdrHead { h with len := p.length })).isLt; omega)
  simp [hcrcOk, l, t, b]

/-- LEN of a frame built. -/
theorem len_mkFrame (h : NHdr) (p : Bytes) (hp : p.length < 65536) : beAt (mkFrame h p) 18 2 = p.length := by
  have e : mkFrame h p = ([BitVec.ofNat 8 h.kind, BitVec.ofNat 8 (h.cls * 32 + h.dyn.toNat * 16 + h.crit.toNat * 8 + h.fold.toNat * 4), BitVec.ofNat 8 h.src, BitVec.ofNat 8 h.dtype] ++
    (h.dest ++ List.replicate 8 0#8).take 8 ++ beBytes 4 (h.cycle % 2 ^ 32) ++ beBytes 2 h.slot) ++ beBytes 2 p.length ++
      ([BitVec.ofNat 8 h.hops, 0#8] ++ beBytes 2 (crc16 (hdrHead { h with len := p.length })).toNat ++ p ++ beBytes 4 (crc32 p).toNat) := by
    simp [mkFrame, hdrBytes_eq, hdrHead, List.append_assoc]
  rw [e, beAt_mid _ _ _ _ (by simp)]
  exact Nat.mod_eq_of_lt (by simpa using hp)

/-- The payload of a frame built. -/
theorem payloadOf_mkFrame (h : NHdr) (p : Bytes) (hp : p.length < 65536) : payloadOf (mkFrame h p) = p := by
  rw [payloadOf, len_mkFrame h p hp]
  simp [slice, mkFrame]

/-- The trailer of a frame built is good (R112). -/
theorem trailerOk_mkFrame (h : NHdr) (p : Bytes) (hp : p.length < 65536) : trailerOk (mkFrame h p) = true := by
  have b : beAt (mkFrame h p) (24 + p.length) 4 = (crc32 p).toNat := by
    have e : mkFrame h p = (hdrBytes { h with len := p.length } ++ p) ++ beBytes 4 (crc32 p).toNat ++ [] := by simp [mkFrame]
    rw [e, beAt_mid _ _ _ _ (by simp)]
    exact Nat.mod_eq_of_lt (by have := (crc32 p).isLt; omega)
  simp [trailerOk, trailerOf, len_mkFrame h p hp, payloadOf_mkFrame h p hp, b]

end Sys2Proof.Machine
end

