-- ==== Sys2Proof/WellFormed.lean ====
section
/-! DEFINITION. The checks a command's data must pass to be one that the outside world can bring (R416: registers are
whole words at multiples of 4 in a 64 KiB map; R44, R113, R285 ...). A command that fails one is not a row's command. -/

namespace Sys2Proof

/-- A register offset of the 64 KiB map, a multiple of 4 (R416). -/
def offsetOk (off : Nat) : Bool := off < 0x10000 && off % 4 == 0

/-- A CAN frame the bus can carry: identifier, DLC and data lengths in range (R261). -/
def canFrameOk (f : CanFrame) : Bool :=
  (if f.ide then decide (f.id < 2 ^ 29) else decide (f.id < 2 ^ 11)) && decide (f.dlc < 16) && decide (f.data.length ≤ 64)

/-- Eight samples of each strap (R32). -/
def strapsOk (st : Straps) : Bool := st.psel.length == 8 && st.mtx.length == 8

/-- The checks on a command's data. -/
def Instr.wellFormed : Instr → Bool
  | .powerOnResetEnd _ st => strapsOk st
  | .resetRelease st => strapsOk st
  | .registerWrite _ off _ _ => offsetOk off
  | .sigWindowWrite off _ _ => off % 4 == 0
  | .canBufferWrite off _ _ => off % 4 == 0
  | .canFrameValid _ f => canFrameOk f
  | .remoteRead addr _ => addr % 4 == 0
  | .remotePostedWrite addr _ _ _ => addr % 4 == 0
  | .remoteNpWrite addr _ _ => addr % 4 == 0
  | .monRecStats _ ext i => if ext then decide (i < 128) else decide (i < 64)
  | .statSample ext i => if ext then decide (i < 128) else decide (i < 64)
  | .swFrameRx _ (.frame f) => canFrameOk f && !f.fdf
  | .lockAchieved _ msg => msg.length == 37
  | .nativeFrameRx _ (.line last blocks _) => last.length == 58 && blocks.all (fun b => b.length == 320)
  | .kindleWordRx _ cellsA cellsB => (cellsA.length == 32 || cellsA.isEmpty) && (cellsB.length == 32 || cellsB.isEmpty)
  | .tapBypass code _ => decide (4 < code.toNat)
  | _ => true

end Sys2Proof
end

