-- ==== Sys2Proof/Tests/Slice0.lean ====
section
/-! SUPPORT. Tests: the checks of WellFormed refuse an ill-formed command each, and every statement's hypotheses are met by some state. Expected
results come from the spec, as each test's comment says. -/

namespace Sys2Proof.Tests

set_option Elab.async false

open Sys2Proof.Machine Sys2Proof.Safety

/-- The node's row of the SLOTPLAN: slots 1 and 2 on the two lanes, quotas of 1,024. -/
def rowW : Bytes := (List.range 32).map (fun i => if i = 1 then 1 else if i = 9 then 2 else if i = 17 ∨ i = 21 then 2 else if i = 26 ∨ i = 30 then 4 else 0#8)
/-- Two signal definitions: entry 0, and entry 1 published by the host. -/
def defsW : Bytes := List.replicate 16 0 ++ [1#8, 8#8] ++ List.replicate 14 0
/-- A committed node between two others in cycle 10 of 1 ms: lanes and outputs UP, time locked, CAN channels on their buses, the bridge on. -/
def live : State :=
  { State.reset with
    uid := 77
    line := { State.reset.line with node := .run, por := false, fromOff := false, railOk := true }
    boot := { State.reset.boot with phase := .committed, committed := true, locked := true, loaded := true, flags := 254, profiles := 15, everRun := true, types := [0x10, 0x50] }
    lanes := Vector.replicate 4 { st := .up, mode := 1, exch := 2000 }
    inaug := Vector.replicate 2 { st := .settled, epoch := 3, table := [{ uid := 76, handle := 1, eflags := 16, rank := 0, slotref := 1 }, { uid := 77, handle := 2, eflags := 0, rank := 0, slotref := 1 }, { uid := 78, handle := 3, eflags := 0, rank := 0, slotref := 1 }] }
    tb := { State.reset.tb with ctr := 10000500, st := .locked, tableAt := some 0, startOk := true, served := some 10, begun := some 10, up := some .fore, accepted := [{ port := .fore, winner := true, pos := 1, steps := 1, hold := false, muid := 76 }] }
    sch := { State.reset.sch with plan := [{ laneB := false, slot := 1, owner := 2, fb := false }], gdPlan := [{ laneB := false, slot := 1, owner := 2, fb := false }] }
    sw := { State.reset.sw with ports := Vector.replicate 20 { hst := 0 } }
    can := Vector.replicate 8 { st := 2 }
    log := { State.reset.log with scanning := false }
    tables := [(65536 * 0x50 + 1, List.replicate 32 0 ++ rowW), (65536 * 0x70 + 1, defsW)]
    regs := [(0x4000, 3#32), (0x400C, 50000#32), (0x4010, 0x8064#32), (0x9000, 0x3037#32), (0x9008, 0xF#32)] }
/-- The state with remote window n on, of 16 MiB at 0x0100_0000, mailbox 0 at the far end; dice / 8 chooses its POISON_EN, dice its order, size and target. -/
def winW (s : State) (n dice : Nat) : State :=
  let s : State := setReg s (0x9200 + 0x20 * n) (BitVec.ofNat 32 (2^31 + 2^17 + (if dice % 2 = 0 then 0x800000 else 0) + (if dice / 2 % 2 = 0 then 0x80000 else 0) + 0x100000 * (dice / 4 % 3) + (if dice / 8 % 2 = 0 then 0x10000 else 0)))
  let s : State := setReg (setReg s (0x9204 + 0x20 * n) 0x1000000#32) (0x920C + 0x20 * n) 0x100#32
  let s : State := setReg (setReg s 0x9700 0xE0000000#32) 0x9704 0x40000#32
  setWin s n (fun w => { w with handle := 1 + dice / 16 % 2 * 2 })
/-- A bridge frame of node 3 to node 2 (Table 12-8). -/
def msgW (s : State) (bop win space tseq tag status addr be : Nat) (first : Bool) (d : Bytes) : Bytes :=
  mkFrame { kind := 7, cls := 3, dyn := true, crit := false, fold := false, src := 3, dtype := 0, dest := [2], cycle := 0, slot := 0, len := 0, hops := 0 }
    (bridgeBody { s with uid := 78 } (s.uid % 2 ^ 40) { bop := bop, first := first, win := win, space := space, tseq := tseq, tag := tag, status := status, addr := addr, be := be } d)

def w0 : State :=
  let s : State := live
  let s : State := { s with line := { s.line with node := .off } }
  s

def w1 : State :=
  let s : State := live
  let s : State := { s with line := { s.line with node := .ember } }
  s

def w2 : State :=
  let s : State := live
  let s : State := { s with line := { s.line with node := .ember } }
  s

def w4 : State × Straps :=
  let s : State := live
  let st : Straps := ({ psel := [0x2#2, 0x3#2, 0x1#2, 0x3#2, 0x1#2, 0x2#2, 0x3#2, 0x1#2], mtx := [true, false, false, false, true, true, true, true] })
  let s : State := { s with line := { s.line with por := true } }
  (s, st)

def w5 : State × Straps :=
  let s : State := live
  let st : Straps := ({ psel := [0x3#2, 0x0#2, 0x2#2, 0x3#2, 0x2#2, 0x0#2, 0x2#2, 0x1#2], mtx := [true, true, false, true, true, true, true, true] })
  let s : State := { s with line := { s.line with por := true } }
  (s, st)

def w7 : State :=
  let s : State := live
  let s : State := { s with line := { s.line with core := false } }
  s

def w8 : State × Straps :=
  let s : State := live
  let st : Straps := ({ psel := [0x0#2, 0x3#2, 0x1#2, 0x3#2, 0x3#2, 0x3#2, 0x0#2, 0x3#2], mtx := [false, false, true, false, false, true, false, false] })
  let s : State := { s with line := { s.line with resetLow := true } }
  (s, st)

def w9 : State × Straps :=
  let s : State := live
  let st : Straps := ({ psel := [0x2#2, 0x1#2, 0x1#2, 0x3#2, 0x0#2, 0x2#2, 0x3#2, 0x0#2], mtx := [false, true, true, true, false, true, false, true] })
  let s : State := { s with line := { s.line with resetLow := true } }
  let s : State := { s with line := { s.line with por := true } }
  (s, st)

/-- Each clause of PowerDieAndResetRowsComplete has a state and operands that meet its hypotheses. -/
theorem witness_PowerDieAndResetRowsComplete :
    (∃ (s : State), s.line.node = .off) ∧
    (∃ (s : State), (s.line.node = .ember ∨ s.line.node = .doze)) ∧
    (∃ (s : State), s.line.node = .ember ∧ s.pilot.slept = false ∧ s.line.thermOff = false) ∧
    (∃ (s : State), (s.line.node ≠ .ember ∨ s.pilot.slept = true ∨ s.line.thermOff = true)) ∧
    (∃ (s : State), s.line.core = true ∧ s.line.por = true) ∧
    (∃ (s : State), s.line.core = true ∧ s.line.por = true) ∧
    (∃ (s : State), s.line.core = true) ∧
    (∃ (s : State), s.line.core = false) ∧
    (∃ (s : State), s.line.core = true ∧ s.line.resetLow = true ∧ s.line.por = false) ∧
    (∃ (s : State), s.line.core = true ∧ s.line.resetLow = true ∧ s.line.por = true) :=
  ⟨⟨w0, by decide +kernel⟩,
   ⟨w1, by decide +kernel⟩,
   ⟨w2, by decide +kernel⟩,
   ⟨live, by decide +kernel⟩,
   ⟨w4.1, by decide +kernel⟩,
   ⟨w5.1, by decide +kernel⟩,
   ⟨live, by decide +kernel⟩,
   ⟨w7, by decide +kernel⟩,
   ⟨w8.1, by decide +kernel⟩,
   ⟨w9.1, by decide +kernel⟩⟩

def w10 : State × (Fin 4) :=
  let s : State := live
  let p : Fin 4 := 3
  let s : State := setPair s (p) (fun x => { x with st := .softStart })
  (s, p)

def w11 : State × (Fin 4) × LfMeas :=
  let s : State := live
  let p : Fin 4 := 1
  let m : LfMeas := ({ vf := 1548, lpn := 27, i := 7 })
  let s : State := setPair s (p) (fun x => { x with st := .softStart })
  (s, p, m)

def w12 : State × (Fin 4) × LfMeas :=
  let s : State := live
  let p : Fin 4 := 1
  let m : LfMeas := ({ vf := 6844, lpn := 67, i := 40 })
  let s : State := setPair s (p) (fun x => { x with st := .limit })
  (s, p, m)

def w13 : State × (Fin 4) × LfMeas :=
  let s : State := live
  let p : Fin 4 := 0
  let m : LfMeas := ({ vf := 702, lpn := 7, i := 73 })
  let s : State := setPair s (p) (fun x => { x with st := .on })
  (s, p, m)

def w14 : State × (Fin 4) × LfMeas :=
  let s : State := live
  let p : Fin 4 := 1
  let m : LfMeas := ({ vf := 1559, lpn := 47, i := 6 })
  let s : State := setPair s (p) (fun x => { x with st := .on })
  (s, p, m)

def w15 : State × (Fin 4) × LfMeas :=
  let s : State := live
  let p : Fin 4 := 3
  let m : LfMeas := ({ vf := 6855, lpn := 87, i := 39 })
  let s : State := setPair s (p) (fun x => { x with st := .on })
  let s : State := setReg s 0xA100 ((reg s 0xA100 &&& ~~~ BitVec.ofNat 32 (3 * 4 ^ p.val)) ||| BitVec.ofNat 32 (1 * 4 ^ p.val))
  (s, p, m)

/-- Each clause of LineFeedTransitionsComplete has a state and operands that meet its hypotheses. -/
theorem witness_LineFeedTransitionsComplete :
    (∃ (s : State) (p : Fin 4), s.line.pairs[p].st = .softStart) ∧
    (∃ (s : State) (p : Fin 4), s.line.pairs[p].st = .softStart) ∧
    (∃ (s : State) (p : Fin 4), s.line.pairs[p].st = .limit) ∧
    (∃ (s : State) (p : Fin 4), (s.line.pairs[p].st = .on ∨ s.line.pairs[p].st = .limit ∨ s.line.pairs[p].st = .softStart)) ∧
    (∃ (s : State) (p : Fin 4), s.line.pairs[p].st = .on) ∧
    (∃ (s : State) (p : Fin 4), (s.line.pairs[p].st = .on ∨ s.line.pairs[p].st = .limit ∨ s.line.pairs[p].st = .softStart) ∧ pairMode (reg s 0xA100) p.val ≠ 0) :=
  ⟨⟨w10.1, w10.2, by decide +kernel⟩,
   ⟨w11.1, w11.2.1, by decide +kernel⟩,
   ⟨w12.1, w12.2.1, by decide +kernel⟩,
   ⟨w13.1, w13.2.1, by decide +kernel⟩,
   ⟨w14.1, w14.2.1, by decide +kernel⟩,
   ⟨w15.1, w15.2.1, by decide +kernel⟩⟩

def w16 : State × (Fin 4) × LfMeas :=
  let s : State := live
  let p : Fin 4 := 1
  let m : LfMeas := ({ vf := 713, lpn := 27, i := 72 })
  let s : State := setPair s (p) (fun x => { x with st := .retryWait })
  (s, p, m)

def w17 : State × (Fin 4) × LfMeas :=
  let s : State := live
  let p : Fin 4 := 3
  let m : LfMeas := ({ vf := 1570, lpn := 67, i := 5 })
  let s : State := setPair s (p) (fun x => { x with st := .source })
  (s, p, m)

def w19 : State :=
  let s : State := live
  let s : State := { s with line := { s.line with ov := true } }
  s

/-- Each clause of LineFeedRestartsAndOvervoltage has a state and operands that meet its hypotheses. -/
theorem witness_LineFeedRestartsAndOvervoltage :
    (∃ (s : State) (p : Fin 4), s.line.pairs[p].st = .retryWait) ∧
    (∃ (s : State) (p : Fin 4), s.line.pairs[p].st = .source) ∧
    (∃ (s : State), s.line.node ≠ .off ∧ s.line.ov = false) ∧
    (∃ (s : State), s.line.ov = true) ∧
    (∃ (s : State), s.line.node ≠ .off) :=
  ⟨⟨w16.1, w16.2.1, by decide +kernel⟩,
   ⟨w17.1, w17.2.1, by decide +kernel⟩,
   ⟨live, by decide +kernel⟩,
   ⟨w19, by decide +kernel⟩,
   ⟨live, by decide +kernel⟩⟩

def w22 : State × Int :=
  let s : State := live
  let T : Int := 1
  let s : State := { s with line := { s.line with therm := 1 } }
  (s, T)

def w24 : State × Int :=
  let s : State := live
  let T : Int := 0
  let s : State := { s with line := { s.line with thermOff := true } }
  let s : State := { s with line := { s.line with node := .ember } }
  (s, T)

def w25 : State × Int :=
  let s : State := live
  let T : Int := 0
  let s : State := { s with line := { s.line with thermOff := true } }
  let s : State := { s with line := { s.line with uvlo := false } }
  (s, T)

/-- Each clause of ThermalAndPowerFailComplete has a state and operands that meet its hypotheses. -/
theorem witness_ThermalAndPowerFailComplete :
    (∃ (s : State), coreRun s = true ∧ s.line.therm = 0) ∧
    (∃ (s : State), coreRun s = true ∧ s.line.therm ≠ 0) ∧
    (∃ (s : State), s.line.core = true) ∧
    (∃ (s : State), s.line.thermOff = true ∧ s.line.uvlo = true ∧ s.line.node = .ember ∧ s.pilot.slept = false) ∧
    (∃ (s : State), s.line.thermOff = true ∧ s.line.uvlo = false) ∧
    (∃ (s : State), s.line.core = true) :=
  ⟨⟨live, by decide +kernel⟩,
   ⟨w22.1, by decide +kernel⟩,
   ⟨live, by decide +kernel⟩,
   ⟨w24.1, by decide +kernel⟩,
   ⟨w25.1, by decide +kernel⟩,
   ⟨live, by decide +kernel⟩⟩

/-- Each clause of ServiceSheddingComplete has a state and operands that meet its hypotheses. -/
theorem witness_ServiceSheddingComplete :
    (∃ (s : State), coreRun s = true ∧ s.line.therm ≠ 2) ∧
    (∃ (s : State), s.line.core = true ∧ s.line.shed = false) :=
  ⟨⟨live, by decide +kernel⟩,
   ⟨live, by decide +kernel⟩⟩

def w29 : State :=
  let s : State := live
  let s : State := { s with boot := { s.boot with phase := .nvmWait } }
  s

def w30 : State × Bytes :=
  let s : State := live
  let s : State := { s with boot := { s.boot with phase := .header } }
  let h : Bytes := [0x42, 0x45, 0x4E, 0x42, 0, 1, 0, 0x40, 0, 0, 1, 0, 0, 1, 0, 1] ++ List.replicate 12 0 ++ List.replicate 16 0x20 ++ List.replicate 16 0
  let l : Bytes := [0, 1, 0, 0x18] ++ List.replicate 16 0
  let d : Bytes := h ++ beBytes 4 (crc32 h).toNat ++ (l ++ beBytes 4 (crc32 l).toNat)
  (s, d)

def w31 : State × Bytes :=
  let s : State := live
  let s : State := { s with boot := { s.boot with phase := .loading, dirSeen := false, sections := 1, profiles := 1, imgLen := 256, flags := 0 } }
  let e : Bytes := [0, 0x10, 1, 0, 0, 0, 0, 0xA0, 0, 0, 0, 8, 0, 0, 0, 0]
  let d : Bytes := e ++ beBytes 4 (crc32 e).toNat
  (s, d)

def w32 : State × Bytes :=
  let s : State := live
  let e0 : DirEnt := { idx := 0, type := 0x10, pmask := 1, offset := 256, length := 0, crc := 0 }
  let s : State := { s with boot := { s.boot with phase := .loading, dirSeen := true, next := 0, dir := [e0, e0] } }
  let d : Bytes := []
  (s, d)

def w33 : State × Bytes :=
  let s : State := live
  let d : Bytes := []
  let s : State := { s with boot := { s.boot with phase := .loading } }
  let s : State := { s with boot := { s.boot with dirSeen := true } }
  (s, d)

def w34 : State × Bytes :=
  let s : State := live
  let tail : Bytes := []
  let s : State := { s with boot := { s.boot with phase := .loaded } }
  (s, tail)

def w35 : State × Word :=
  let s : State := live
  let v : Word := 0x0000000f#32
  let v : Word := 0xC9A50100#32 ||| (v &&& 3)
  (s, v)

def w36 : State × Bytes × (List Bytes) :=
  let s : State := live
  let lf : Bytes := []
  let secs : List Bytes := ([[], [0x06#8, 0x28#8, 0x02#8, 0x01#8, 0x00#8, 0x00#8, 0x00#8, 0x00#8, 0x00#8, 0x00#8, 0x00#8, 0x00#8, 0x00#8, 0x00#8, 0x00#8, 0x0a#8, 0x00#8, 0x02#8, 0x00#8, 0x00#8, 0x02#8, 0x00#8, 0x45#8, 0x5e#8, 0x00#8, 0x00#8, 0x00#8, 0x00#8], [0x04#8, 0x00#8, 0x00#8, 0x02#8, 0x00#8, 0x00#8, 0x00#8, 0x00#8, 0x00#8, 0x00#8, 0x00#8, 0x00#8, 0x00#8, 0x4d#8, 0x00#8, 0x00#8, 0x00#8, 0x00#8, 0x00#8, 0x00#8, 0x00#8, 0x00#8, 0x00#8, 0x4d#8], [0x07#8, 0xd0#8, 0x02#8, 0x05#8, 0x00#8, 0x00#8, 0x00#8, 0x00#8, 0x00#8, 0x00#8, 0x00#8, 0x00#8, 0x00#8, 0x00#8, 0x00#8, 0x0a#8, 0x00#8, 0x02#8, 0x00#8, 0x00#8, 0x00#8, 0x00#8, 0x67#8, 0x61#8, 0x00#8, 0x00#8, 0x00#8, 0x00#8]])
  let s : State := { s with boot := { s.boot with phase := .switchVerify } }
  (s, lf, secs)

def w37 : State × Bytes × (List Bytes) :=
  let s : State := live
  let lf : Bytes := []
  let secs : List Bytes := []
  let s : State := { s with boot := { s.boot with phase := .switchLoad } }
  (s, lf, secs)

/-- Each clause of ImageLoadAndSwitchRowsComplete has a state and operands that meet its hypotheses. -/
theorem witness_ImageLoadAndSwitchRowsComplete :
    (∃ (s : State), coreRun s = true ∧ s.boot.phase = .nvmWait ∧ bscan s = false) ∧
    (∃ (s : State) (d : Bytes), coreRun s = true ∧ s.boot.phase = .header ∧ bscan s = false ∧ headerCrcOk (d.take 64) = true ∧ headerFieldsOk (d.take 64) = true ∧ (byteAt (d.take 64) 14).testBit 0 = s.otp.img.isSome ∧ lfCrcOk (d.drop 64) = true ∧ ((s.otp.img.isSome = true → slice (d.drop 64) 24 32 = hmac (s.otp.img.getD []) ((d.drop 64).take 24))) ∧ lfFieldsOk (d.drop 64) s.otp.img.isSome (byteAt (d.take 64) 15) = true ∧ (byteAt (d.take 64) 15).testBit s.boot.psel = true) ∧
    (∃ (s : State) (d : Bytes), coreRun s = true ∧ s.boot.phase = .loading ∧ bscan s = false ∧ s.boot.dirSeen = false ∧ d.length = 16 * s.boot.sections + 4 ∧ beAt d (16 * s.boot.sections) 4 = (crc32 (d.take (16 * s.boot.sections))).toNat ∧ dirOk d s.boot.sections s.boot.profiles s.boot.imgLen (imgAuth s) = true) ∧
    (∃ (s : State) (d : Bytes) (e : DirEnt), coreRun s = true ∧ s.boot.phase = .loading ∧ bscan s = false ∧ s.boot.dirSeen = true ∧ s.boot.dir[s.boot.next]? = some e ∧ (d.drop (e.offset - readFrom s s.boot.next e)).length = e.length ∧ (crc32 (d.drop (e.offset - readFrom s s.boot.next e))).toNat = e.crc ∧ bodyOk e.type (d.drop (e.offset - readFrom s s.boot.next e)) = true ∧ s.boot.next + 1 < s.boot.dir.length) ∧
    (∃ (s : State), coreRun s = true ∧ s.boot.phase = .loading ∧ bscan s = false ∧ s.boot.dirSeen = true ∧ s.boot.dir[s.boot.next]? = none) ∧
    (∃ (s : State), coreRun s = true ∧ s.boot.phase = .loaded ∧ bscan s = false) ∧
    (∃ (s : State) (v : Word), reqAlive s .host = true ∧ bitAt v 8 = true ∧ fld v 31 16 = 0xC9A5 ∧ s.boot.flags.testBit 2 = true ∧ switchReason s (fld v 1 0) = 0) ∧
    (∃ (s : State) (lf : Bytes) (secs : List Bytes), coreRun s = true ∧ s.boot.phase = .switchVerify ∧ s.boot.checked = false ∧ bscan s = false ∧ switchBad s lf secs = none) ∧
    (∃ (s : State) (lf : Bytes) (secs : List Bytes), coreRun s = true ∧ s.boot.phase = .switchLoad ∧ s.boot.checked = false ∧ bscan s = false ∧ switchBad s lf secs = none) :=
  ⟨⟨w29, by decide +kernel⟩,
   ⟨w30.1, w30.2, by decide +kernel⟩,
   ⟨w31.1, w31.2, by decide +kernel⟩,
   ⟨w32.1, w32.2, ((w32.1.boot.dir[w32.1.boot.next]?).get (by decide +kernel) : DirEnt), by decide +kernel⟩,
   ⟨w33.1, by decide +kernel⟩,
   ⟨w34.1, by decide +kernel⟩,
   ⟨w35.1, w35.2, by decide +kernel⟩,
   ⟨w36.1, w36.2.1, w36.2.2, by decide +kernel⟩,
   ⟨w37.1, w37.2.1, w37.2.2, by decide +kernel⟩⟩

/-- A state and operands that meet the hypotheses of TapInstructionsComplete. -/
theorem witness_TapInstructionsComplete :
    (∃ (s : State) (code : BitVec 6), 4 < code.toNat) :=
  ⟨live, (0x0f#6 : BitVec 6), by decide +kernel⟩

def w39 : State × (Fin 4) :=
  let s : State := live
  let l : Fin 4 := 3
  let s : State := setLane s (l) (fun x => { x with st := .detect })
  (s, l)

def w40 : State × (Fin 4) :=
  let s : State := live
  let l : Fin 4 := 0
  let s : State := setLane s (l) (fun x => { x with st := .train })
  (s, l)

def w41 : State × (Fin 4) × Bytes :=
  let s : State := live
  let l : Fin 4 := 3
  let msg : Bytes := ([0x03#8, 0x60#8, 0x03#8, 0x05#8, 0x00#8, 0x00#8, 0x00#8, 0x00#8, 0x00#8, 0x00#8, 0x00#8, 0x00#8, 0x00#8, 0x00#8, 0x00#8, 0x0a#8, 0x00#8, 0x02#8, 0x00#8, 0x18#8, 0x01#8, 0x00#8, 0x99#8, 0xfa#8, 0x04#8, 0x00#8, 0x00#8, 0x00#8, 0x01#8, 0x01#8, 0x00#8, 0x00#8, 0x00#8, 0x00#8, 0x00#8, 0x00#8, 0x00#8, 0x4c#8, 0x00#8, 0x01#8, 0x00#8, 0x00#8, 0x00#8, 0x00#8, 0x00#8, 0x00#8, 0x00#8, 0x4d#8, 0xbb#8, 0x06#8, 0x4d#8, 0x27#8])
  let s : State := setLane s (l) (fun x => { x with st := .lock })
  let s : State := setReg { s with line := { s.line with core := true }, boot := { s.boot with phase := .committed } } (0x1100 + 0x100 * l.val) 9
  (s, l, msg)

def w42 : State × (Fin 4) × Bytes :=
  let s : State := live
  let l : Fin 4 := 0
  let msg : Bytes := ([0x4c#8, 0xa0#8])
  let s : State := setLane s (l) (fun x => { x with st := .lock })
  (s, l, msg)

def w43 : State × (Fin 4) × Bytes :=
  let s : State := live
  let l : Fin 4 := 1
  let msg : Bytes := ([0x4c#8, 0x02#8])
  let s : State := setLane s (l) (fun x => { x with st := .lock })
  (s, l, msg)

def w44 : State × (Fin 4) :=
  let s : State := live
  let l : Fin 4 := 0
  let s : State := setLane s (l) (fun x => { x with st := .check })
  (s, l)

def w45 : State × (Fin 4) :=
  let s : State := State.reset
  let l : Fin 4 := 1
  let s : State := { s with line := { s.line with core := true }, boot := { s.boot with phase := if s.boot.phase = .reset then .committed else s.boot.phase } }
  let s : State := setLane s (l) (fun x => { x with st := .check })
  (s, l)

def w46 : State × (Fin 4) :=
  let s : State := live
  let l : Fin 4 := 0
  let s : State := setLane s (l) (fun x => { x with st := .check })
  let s : State := setReg { s with line := { s.line with core := true }, boot := { s.boot with phase := .committed } } (0x1100 + 0x100 * l.val) 9
  (s, l)

/-- Each clause of LaneTrainingReachesUp has a state and operands that meet its hypotheses. -/
theorem witness_LaneTrainingReachesUp :
    (∃ (s : State) (l : Fin 4), coreRun s = true ∧ s.lanes[l].st = .detect) ∧
    (∃ (s : State) (l : Fin 4), coreRun s = true ∧ s.lanes[l].st = .train) ∧
    (∃ (s : State) (l : Fin 4), coreRun s = true ∧ s.lanes[l].st = .lock ∧ laneI1g s l = true) ∧
    (∃ (s : State) (l : Fin 4) (msg : Bytes), coreRun s = true ∧ s.lanes[l].st = .lock ∧ laneI1g s l = false ∧ byteAt msg 0 = 0x4C ∧ byteAt msg 1 % 2 = l.val % 2 ∧ ((s.lanes[sisterLane l].st = .up → s.lanes[sisterLane l].farUid = beAt msg 4 8))) ∧
    (∃ (s : State) (l : Fin 4) (msg : Bytes), coreRun s = true ∧ s.lanes[l].st = .lock ∧ laneI1g s l = false ∧ byteAt msg 0 = 0x4C ∧ byteAt msg 1 % 2 ≠ l.val % 2) ∧
    (∃ (s : State) (l : Fin 4), coreRun s = true ∧ s.lanes[l].st = .check ∧ laneI1g s l = false ∧ laneUp s (sisterLane l) = true ∧ s.lanes[sisterLane l].farUid = s.lanes[l].farUid ∧ s.lanes[l].mode = highestMode (commonModes s l) ∧ 1 ≤ s.lanes[l].mode ∧ s.lanes[l].mode ≤ designMode s l ∧ s.sch.fold.getLsbD l.val = false ∧ upAtDesign s (sisterLane l) = true) ∧
    (∃ (s : State) (l : Fin 4), coreRun s = true ∧ s.lanes[l].st = .check ∧ laneI1g s l = false ∧ laneUp s (sisterLane l) = false) ∧
    (∃ (s : State) (l : Fin 4), coreRun s = true ∧ s.lanes[l].st = .check ∧ laneI1g s l = true) :=
  ⟨⟨w39.1, w39.2, by decide +kernel⟩,
   ⟨w40.1, w40.2, by decide +kernel⟩,
   ⟨w41.1, w41.2.1, by decide +kernel⟩,
   ⟨w42.1, w42.2.1, w42.2.2, by decide +kernel⟩,
   ⟨w43.1, w43.2.1, w43.2.2, by decide +kernel⟩,
   ⟨w44.1, w44.2, by decide +kernel⟩,
   ⟨w45.1, w45.2, by decide +kernel⟩,
   ⟨w46.1, w46.2, by decide +kernel⟩⟩

def w47 : State × (Fin 4) :=
  let s : State := live
  let l : Fin 4 := 1
  let s : State := setLane s (l) (fun x => { x with st := .train })
  (s, l)

def w48 : State × (Fin 4) :=
  let s : State := State.reset
  let l : Fin 4 := 1
  let s : State := { s with line := { s.line with core := true }, boot := { s.boot with phase := if s.boot.phase = .reset then .committed else s.boot.phase } }
  let s : State := setLane s (l) (fun x => { x with st := .train })
  (s, l)

def w49 : State × (Fin 4) :=
  let s : State := live
  let l : Fin 4 := 1
  let s : State := setLane s (l) (fun x => { x with st := .lock })
  (s, l)

def w50 : State × (Fin 4) :=
  let s : State := live
  let l : Fin 4 := 0
  let s : State := setLane s (l) (fun x => { x with st := .check })
  (s, l)

def w52 : State × (Fin 4) :=
  let s : State := live
  let l : Fin 4 := 3
  let s : State := setLane s l (fun x => { x with st := .downWait, lossAt := some 5, byEnd := true })
  (s, l)

def w53 : State × (Fin 4) :=
  let s : State := live
  let l : Fin 4 := 1
  let s : State := setLane s l (fun x => { x with st := .downWait, lossAt := some 5, byEnd := false })
  (s, l)

def w54 : State × (Fin 4) :=
  let s : State := live
  let l : Fin 4 := 3
  let s : State := setLane s (l) (fun x => { x with st := .downWait })
  let s : State := setReg s (0x110C + 0x100 * l.val) (reg s (0x110C + 0x100 * l.val) &&& 0xF0FFFFFF#32)
  (s, l)

def w55 : State × (Fin 4) :=
  let s : State := live
  let l : Fin 4 := 0
  let s : State := setLane s (l) (fun x => { x with st := .downWait })
  let s : State := setLane s l (fun x => { x with losses := [s.now, s.now, s.now, s.now, s.now] })
  (s, l)

def w56 : State × (Fin 4) :=
  let s : State := live
  let l : Fin 4 := 2
  let s : State := setLane s (l) (fun x => { x with st := .held })
  (s, l)

/-- Each clause of LaneLossesAndRetriesComplete has a state and operands that meet its hypotheses. -/
theorem witness_LaneLossesAndRetriesComplete :
    (∃ (s : State) (l : Fin 4), coreRun s = true ∧ s.lanes[l].st = .train ∧ s.lanes[l].mode = 1 ∧ commonModes s l / 2 % 2 = 1) ∧
    (∃ (s : State) (l : Fin 4), coreRun s = true ∧ s.lanes[l].st = .train ∧ s.lanes[l].mode ≠ 1) ∧
    (∃ (s : State) (l : Fin 4), coreRun s = true ∧ s.lanes[l].st = .lock ∧ s.lanes[l].again = false) ∧
    (∃ (s : State) (l : Fin 4), coreRun s = true ∧ s.lanes[l].st = .check ∧ s.lanes[l].mode = 1 ∧ commonModes s l / 2 % 2 = 1) ∧
    (∃ (s : State) (l : Fin 4), coreRun s = true ∧ s.lanes[l].st = .up ∧ s.lanes[l].farRetAny = false) ∧
    (∃ (s : State) (l : Fin 4) (n : Nat), s.lanes[l].lossAt = some n ∧ (s.lanes[l].byEnd = true ∨ s.lanes[l].st = .retired)) ∧
    (∃ (s : State) (l : Fin 4) (n : Nat), s.lanes[l].lossAt = some n ∧ s.lanes[l].byEnd = false ∧ s.lanes[l].st ≠ .retired) ∧
    (∃ (s : State) (l : Fin 4), coreRun s = true ∧ s.lanes[l].st = .downWait ∧ fld (laneThr s l) 27 24 = 0) ∧
    (∃ (s : State) (l : Fin 4), coreRun s = true ∧ s.lanes[l].st = .downWait ∧ fld (laneThr s l) 27 24 ≠ 0 ∧ fld (laneThr s l) 27 24 ≤ (recentLosses s l).length) ∧
    (∃ (s : State) (l : Fin 4), coreRun s = true ∧ s.lanes[l].st = .held) :=
  ⟨⟨w47.1, w47.2, by decide +kernel⟩,
   ⟨w48.1, w48.2, by decide +kernel⟩,
   ⟨w49.1, w49.2, by decide +kernel⟩,
   ⟨w50.1, w50.2, by decide +kernel⟩,
   ⟨live, (2 : Fin 4), by decide +kernel⟩,
   ⟨w52.1, w52.2, ((w52.1.lanes[w52.2].lossAt).get (by decide +kernel) : Nat), by decide +kernel⟩,
   ⟨w53.1, w53.2, ((w53.1.lanes[w53.2].lossAt).get (by decide +kernel) : Nat), by decide +kernel⟩,
   ⟨w54.1, w54.2, by decide +kernel⟩,
   ⟨w55.1, w55.2, by decide +kernel⟩,
   ⟨w56.1, w56.2, by decide +kernel⟩⟩

def w60 : State × (Fin 4) × Int × (List Int) × Bytes :=
  let s : State := State.reset
  let l : Fin 4 := 3
  let m : Int := 15
  let want : List Int := []
  let ffe : Bytes := []
  let s : State := { s with line := { s.line with core := true }, boot := { s.boot with phase := if s.boot.phase = .reset then .committed else s.boot.phase } }
  let s : State := setLane s (l) (fun x => { x with st := .up })
  (s, l, m, want, ffe)

def w61 : State × (Fin 4) × Int × (List Int) × Bytes :=
  let s : State := live
  let l : Fin 4 := 2
  let m : Int := 289
  let want : List Int := []
  let ffe : Bytes := ([0x00#8, 0x1c#8])
  let s : State := setReg s (0xB004) (if false then reg s (0xB004) ||| BitVec.ofNat 32 (2 ^ (2)) else reg s (0xB004) &&& ~~~ BitVec.ofNat 32 (2 ^ (2)))
  (s, l, m, want, ffe)

def w65 : State × (Fin 4) × RxFrame :=
  let s : State := live
  let l : Fin 4 := 3
  let r : RxFrame := ({ bytes := [0xce#8, 0x02#8, 0x00#8, 0x22#8, 0x02#8, 0x57#8, 0x7f#8, 0x00#8, 0x00#8, 0xb2#8, 0x00#8, 0xed#8, 0x01#8, 0x02#8, 0x00#8, 0x03#8, 0x0d#8, 0x03#8, 0x67#8, 0x01#8, 0x03#8, 0x00#8, 0x30#8, 0xc3#8, 0x1a#8, 0xc7#8, 0x5e#8, 0x01#8, 0x03#8, 0x23#8, 0x43#8, 0xd8#8, 0x07#8, 0x03#8, 0x84#8, 0x5f#8, 0xdc#8, 0x02#8, 0x03#8, 0x20#8, 0x59#8], startBad := true, unc := 0, cut := false, stamp := 49646 })
  let s : State := setReg s (0x4100) (if false then reg s (0x4100) ||| BitVec.ofNat 32 (2 ^ (0)) else reg s (0x4100) &&& ~~~ BitVec.ofNat 32 (2 ^ (0)))
  let pm : Nat := 0
  let r := { r with bytes := mkFrame { kind := 8, cls := 7, dyn := true, crit := false, fold := false, src := 200, dtype := 4, dest := [], cycle := 0, slot := 0, len := 0, hops := 0 } [0x50#8, BitVec.ofNat 8 pm, 0#8,0#8,0#8,0#8,0#8,0#8], startBad := false, unc := 0, cut := false }
  (s, l, r)

/-- Each clause of LaneServiceRowsComplete has a state and operands that meet its hypotheses. -/
theorem witness_LaneServiceRowsComplete :
    (∃ (s : State) (l : Fin 4), s.lanes[l].st = .up) ∧
    (∃ (s : State) (l : Fin 4) (m : Int), coreRun s = true ∧ s.lanes[l].st = .up ∧ m < (fld (laneThr s l) 15 8 : Nat) ∧ s.lanes[l].health ≠ 2) ∧
    (∃ (s : State) (l : Fin 4) (m : Int), coreRun s = true ∧ s.lanes[l].st = .up ∧ laneI1g s l = false ∧ m < (fld (laneThr s l) 15 8 : Nat) ∧ regB s 0xB004 2 = true) ∧
    (∃ (s : State) (l : Fin 4) (m : Int), coreRun s = true ∧ s.lanes[l].st = .up ∧ laneI1g s l = false ∧ (fld (laneThr s l) 15 8 : Nat) ≤ m ∧ regB s 0xB004 2 = true) ∧
    (∃ (s : State), regB s 0xB004 2 = false) ∧
    (∃ (s : State) (l : Fin 4), linkOn s l = true) ∧
    (∃ (s : State) (l : Fin 4) (msg : Bytes), linkOn s l = true ∧ s.lanes[l].st ≠ .downWait ∧ s.lanes[l].st ≠ .held ∧ msg.length = 37 ∧ byteAt msg 0 = 0x4C ∧ (byteAt msg 3).testBit 3 = false ∧ s.lanes[l].pdWait = none) ∧
    (∃ (s : State) (l : Fin 4) (r : RxFrame), coreRun s = true ∧ laneUp s l = true ∧ laneI1g s l = false ∧ r.startBad = false ∧ hcrcOk r.bytes = false) ∧
    (∃ (s : State) (l : Fin 4) (r : RxFrame), coreRun s = true ∧ laneUp s l = true ∧ laneI1g s l = false ∧ r.startBad = false ∧ hcrcOk r.bytes = true ∧ (readHdr r.bytes).kind = 8 ∧ (readHdr r.bytes).dtype = 4 ∧ byteAt (payloadOf r.bytes) 0 = 0x50 ∧ (readHdr r.bytes).len = 8 ∧ (readHdr r.bytes).hops ≠ 255 ∧ (readHdr r.bytes).src ≠ 0 ∧ regB s 0x4100 0 = false ∧ r.unc = 0 ∧ r.cut = false ∧ trailerOk r.bytes = true) :=
  ⟨⟨live, (0 : Fin 4), by decide +kernel⟩,
   ⟨live, (3 : Fin 4), (0 : Int), by decide +kernel⟩,
   ⟨live, (3 : Fin 4), -8, by decide +kernel⟩,
   ⟨w60.1, w60.2.1, w60.2.2.1, by decide +kernel⟩,
   ⟨w61.1, by decide +kernel⟩,
   ⟨live, (0 : Fin 4), by decide +kernel⟩,
   ⟨live, (0 : Fin 4), ([0x4c#8, 0xe4#8, 0x9f#8, 0x01#8, 0x6b#8, 0x6a#8, 0x00#8, 0x41#8, 0x71#8, 0xd4#8, 0xa8#8, 0x09#8, 0x01#8, 0xac#8, 0x00#8, 0xd3#8, 0x00#8, 0xec#8, 0x2a#8, 0x1f#8, 0x27#8, 0xb6#8, 0x86#8, 0x4b#8, 0xb5#8, 0x02#8, 0x00#8, 0xa9#8, 0x45#8, 0xef#8, 0x03#8, 0x2e#8, 0x6e#8, 0x53#8, 0xcc#8, 0x03#8, 0xe4#8]), by decide +kernel⟩,
   ⟨live, (3 : Fin 4), ({ bytes := [0xeb#8, 0x32#8, 0x02#8, 0xc8#8, 0xc8#8, 0xfc#8, 0x51#8, 0x02#8, 0x01#8, 0xdb#8, 0x36#8, 0x00#8, 0x13#8, 0x8e#8, 0x39#8, 0x03#8, 0x3b#8, 0x23#8, 0xa0#8, 0x00#8, 0x02#8, 0xe0#8, 0x03#8, 0x34#8, 0x3a#8, 0x00#8, 0x22#8, 0x02#8, 0x03#8, 0x00#8, 0xb8#8, 0xd3#8, 0x43#8, 0x2f#8, 0xd9#8, 0x20#8, 0xc6#8, 0xd8#8, 0x67#8, 0x1a#8, 0xd7#8, 0x9f#8, 0x01#8, 0x8d#8, 0x2d#8, 0x4a#8, 0x01#8, 0x02#8], startBad := false, unc := 0, cut := false, stamp := 16228 }), by decide +kernel⟩,
   ⟨w65.1, w65.2.1, w65.2.2, by decide +kernel⟩⟩

def w66 : State × (Fin 2) :=
  let s : State := live
  let seg : Fin 2 := 0
  let s : State := setInaug s (seg) (fun x => { x with st := .listen })
  (s, seg)

def w67 : State × (Fin 2) :=
  let s : State := live
  let seg : Fin 2 := 0
  let s : State := setInaug s (seg) (fun x => { x with st := .conduct })
  (s, seg)

def w68 : State × (Fin 2) :=
  let s : State := live
  let seg : Fin 2 := 0
  let dice : Nat := 0
  let s : State := setInaug s seg (fun x => { x with st := .conduct, resends := dice % 5, sent := some (mkAssign { cab := 0, rank := 0, luid := s.uid, run := 1 } (dice % 2 = 0) false 1 0 [{ uid := s.uid, handle := 1, eflags := 0, rank := 0, slotref := 1 }]) })
  (s, seg)

def w69 : State × (Fin 2) :=
  let s : State := live
  let seg : Fin 2 := 1
  let s : State := setInaug s (seg) (fun x => { x with st := .follow })
  (s, seg)

def w70 : State × (Fin 2) :=
  let s : State := live
  let seg : Fin 2 := 1
  let s : State := setInaug s (seg) (fun x => { x with st := .joining })
  (s, seg)

def w71 : State × Port :=
  let s : State := live
  let p : Port := Port.aft
  let s : State := setInaug s (segOf s p) (fun x => { x with announce := [p] })
  (s, p)

/-- Each clause of InaugurationTimersComplete has a state and operands that meet its hypotheses. -/
theorem witness_InaugurationTimersComplete :
    (∃ (s : State) (seg : Fin 2), dawnUp s = true ∧ s.inaug[seg].st = .listen ∧ eligible s = true ∧ segPorts s seg ≠ []) ∧
    (∃ (s : State) (seg : Fin 2), dawnUp s = true ∧ s.inaug[seg].st = .conduct ∧ s.inaug[seg].sent = none ∧ segPorts s seg ≠ []) ∧
    (∃ (s : State) (seg : Fin 2), dawnUp s = true ∧ s.inaug[seg].st = .conduct ∧ s.inaug[seg].sent ≠ none ∧ s.inaug[seg].resends < 3) ∧
    (∃ (s : State) (seg : Fin 2), dawnUp s = true ∧ s.inaug[seg].st = .follow) ∧
    (∃ (s : State) (seg : Fin 2), dawnUp s = true ∧ s.inaug[seg].st = .joining ∧ s.inaug[seg].pending = none) ∧
    (∃ (s : State) (p : Port), dawnUp s = true ∧ s.inaug[segOf s p].st = .settled ∧ p ∈ s.inaug[segOf s p].announce) :=
  ⟨⟨w66.1, w66.2, by decide +kernel⟩,
   ⟨w67.1, w67.2, by decide +kernel⟩,
   ⟨w68.1, w68.2, by decide +kernel⟩,
   ⟨w69.1, w69.2, by decide +kernel⟩,
   ⟨w70.1, w70.2, by decide +kernel⟩,
   ⟨w71.1, w71.2, by decide +kernel⟩⟩

def w72 : State × Port × Bytes :=
  let s : State := live
  let p : Port := Port.aft
  let f : Bytes := ([0x08#8, 0x40#8, 0x01#8, 0x04#8, 0x00#8, 0x00#8, 0x00#8, 0x00#8, 0x00#8, 0x00#8, 0x00#8, 0x00#8, 0x00#8, 0x00#8, 0x00#8, 0x0a#8, 0x00#8, 0x03#8, 0x00#8, 0x10#8, 0x02#8, 0x00#8, 0x9f#8, 0x50#8, 0x01#8, 0x00#8, 0x00#8, 0x02#8, 0x01#8, 0x03#8, 0x00#8, 0x00#8, 0x00#8, 0x00#8, 0x00#8, 0x00#8, 0x00#8, 0x4e#8, 0x00#8, 0x03#8, 0xc3#8, 0xc5#8, 0xb4#8, 0x91#8])
  let s : State := setInaug s (segOf s p) (fun x => { x with st := .listen })
  (s, p, f)

def w73 : State × Port × Bytes :=
  let s : State := live
  let p : Port := Port.fore
  let s : State := setInaug s (segOf s p) (fun x => { x with st := .conduct })
  let r1 : Nat := 0
  let r : RunId := match s.inaug[segOf s p].adopted with | some a => a | none => { cab := 0, rank := 0, luid := s.uid, run := s.inaug[segOf s p].run }
  let r := if s.inaug[segOf s p].st = .conduct then { r with luid := s.uid, run := s.inaug[segOf s p].run } else r
  let s : State := setInaug s (segOf s p) (fun x => { x with sent := some (mkAssign r false false 1 0 []) })
  let f := dawnFrame s 0 4 [] 0 (reportPayload { r with luid := s.uid, run := s.inaug[segOf s p].run } 1 [ownReport s 0 r1 .fore false 0, { ownReport s 0 r1 .aft false 0 with uid := 5 }])
  (s, p, f)

def w74 : State × Port × Bytes :=
  let s : State := live
  let p : Port := Port.fore
  let r : RunId := { cab := 0, rank := 0, luid := 76, run := 5 }
  let s : State := setInaug s (segOf s p) (fun x => { x with st := .follow, adopted := some r, parts := none })
  let f : Bytes := dawnFrame s 0 4 [] 0 (assignPart (mkAssign r false false 4 0 []) 0 [{ uid := s.uid, handle := 1, eflags := 0, rank := 0, slotref := 1 }] |>.set 22 1)
  (s, p, f)

def w75 : State × Port × Bytes :=
  let s : State := live
  let p : Port := Port.aft
  let r1 : Nat := 1
  let r : RunId := match s.inaug[segOf s p].adopted with | some a => a | none => { cab := 0, rank := 0, luid := s.uid, run := s.inaug[segOf s p].run }
  let r := if s.inaug[segOf s p].st = .conduct then { r with luid := s.uid, run := s.inaug[segOf s p].run } else r
  let e1 : Nat := 1
  let f := dawnFrame s 0 4 [] 0 (assignPart (mkAssign r false (r1 = 1) (s.inaug[segOf s p].epoch + e1) (if e1 = 2 then 0 else 100) []) 0 [{ uid := s.uid + r1, handle := 1, eflags := 0, rank := 0, slotref := 1 }] |>.set 22 1)
  (s, p, f)

def w76 : State × Port × Bytes :=
  let s : State := live
  let p : Port := Port.aft
  let r : RunId := { cab := 0, rank := 0, luid := s.uid, run := s.inaug[segOf s p].run }
  let s : State := setInaug s (segOf s p) (fun x => { x with st := .conduct, sent := some (mkAssign r false false 4 0 [{ uid := s.uid, handle := 1, eflags := 0, rank := 0, slotref := 1 }, { uid := 78, handle := 2, eflags := 0, rank := 0, slotref := 1 }]) })
  let f : Bytes := dawnFrame s 0 4 [] 0 (dawnCommon 4 0 r 4 ++ beBytes 8 78)
  (s, p, f)

def w77 : State × Port × Bytes :=
  let s : State := { live with boot := { live.boot with phase := .loading } }
  let p : Port := Port.aft
  let f : Bytes := ([0x03#8, 0x00#8, 0x03#8, 0x00#8, 0x00#8, 0x00#8, 0x00#8, 0x00#8, 0x00#8, 0x00#8, 0x00#8, 0x00#8, 0x00#8, 0x00#8, 0x00#8, 0x00#8, 0x00#8, 0x07#8, 0x00#8, 0x14#8, 0x02#8, 0x00#8, 0xe9#8, 0x1c#8, 0x05#8, 0x00#8, 0x00#8, 0x02#8, 0x00#8, 0x04#8, 0x00#8, 0x00#8, 0x00#8, 0x00#8, 0x00#8, 0x00#8, 0x00#8, 0x4f#8, 0x00#8, 0x04#8, 0x02#8, 0x00#8, 0x00#8, 0x00#8, 0x97#8, 0xd5#8, 0xd5#8, 0xed#8])
  let s : State := setInaug s (segOf s p) (fun x => { x with st := .listen })
  (s, p, f)

/-- Each clause of DawnFramesOfRunsComplete has a state and operands that meet its hypotheses. -/
theorem witness_DawnFramesOfRunsComplete :
    (∃ (s : State) (p : Port) (f : Bytes), DawnIn p f 1 s ∧ s.inaug[segOf s p].st = .listen ∧ lowerRun s (segOf s p) (dawnRun (payloadOf f)) = false) ∧
    (∃ (s : State) (p : Port) (f : Bytes), DawnIn p f 2 s ∧ s.inaug[segOf s p].st = .conduct ∧ (dawnRun (payloadOf f)).luid = s.uid ∧ (dawnRun (payloadOf f)).run = s.inaug[segOf s p].run ∧ s.inaug[segOf s p].sent ≠ none) ∧
    (∃ (s : State) (p : Port) (f : Bytes) (a : RunId), DawnIn p f 3 s ∧ s.inaug[segOf s p].st = .follow ∧ s.inaug[segOf s p].adopted = some a ∧ a.luid = (dawnRun (payloadOf f)).luid ∧ a.run = (dawnRun (payloadOf f)).run ∧ s.inaug[segOf s p].parts = none ∧ byteAt (payloadOf f) 22 = 1 ∧ s.inaug[segOf s p].seen.contains (beAt (payloadOf f) 14 2, byteAt (payloadOf f) 21) = false ∧ (readEntries (payloadOf f)).any (fun e => e.uid == s.uid) = true) ∧
    (∃ (s : State) (p : Port) (f : Bytes), DawnIn p f 3 s ∧ s.inaug[segOf s p].st = .settled ∧ newer16 (beAt (payloadOf f) 14 2) s.inaug[segOf s p].epoch = true ∧ s.inaug[segOf s p].parts = none ∧ s.inaug[segOf s p].pending = none ∧ byteAt (payloadOf f) 22 = 1 ∧ s.inaug[segOf s p].seen.contains (beAt (payloadOf f) 14 2, byteAt (payloadOf f) 21) = false ∧ beAt (payloadOf f) 16 4 ≠ 0) ∧
    (∃ (s : State) (p : Port) (f : Bytes) (a : Assign), DawnIn p f 4 s ∧ s.inaug[segOf s p].st = .conduct ∧ s.inaug[segOf s p].sent = some a ∧ (dawnRun (payloadOf f)).luid = s.uid ∧ (dawnRun (payloadOf f)).run = s.inaug[segOf s p].run ∧ (assignTable a).all (fun e => e.uid == s.uid || e.uid == beAt (payloadOf f) 16 8 || s.inaug[segOf s p].confirms.contains e.uid) = true) ∧
    (∃ (s : State) (p : Port) (f : Bytes), DawnIn p f 5 s ∧ s.inaug[segOf s p].st = .listen) ∧
    (∃ (s : State) (p : Port) (f : Bytes) (e : TopoEnt), DawnIn p f 6 s ∧ s.inaug[segOf s p].st = .settled ∧ s.inaug[segOf s p].ring = false ∧ s.inaug[segOf s p].broke = none ∧ (readHdr f).src ≠ 0 ∧ s.inaug[segOf s p].table.find? (fun x => x.handle == (readHdr f).src) = some e ∧ s.inaug[segOf s p].table.any (fun x => x.uid == beAt (payloadOf f) 16 8) = true) :=
  ⟨⟨w72.1, w72.2.1, w72.2.2, by unfold DawnIn; decide +kernel⟩,
   ⟨w73.1, w73.2.1, w73.2.2, by unfold DawnIn; decide +kernel⟩,
   ⟨w74.1, w74.2.1, w74.2.2, ((w74.1.inaug[segOf w74.1 w74.2.1].adopted).get (by decide +kernel) : RunId), by unfold DawnIn; decide +kernel⟩,
   ⟨w75.1, w75.2.1, w75.2.2, by unfold DawnIn; decide +kernel⟩,
   ⟨w76.1, w76.2.1, w76.2.2, ((w76.1.inaug[segOf w76.1 w76.2.1].sent).get (by decide +kernel) : Assign), by unfold DawnIn; decide +kernel⟩,
   ⟨w77.1, w77.2.1, w77.2.2, by unfold DawnIn; decide +kernel⟩,
   ⟨live, Port.fore, ([0x00#8, 0x50#8, 0x03#8, 0x02#8, 0x00#8, 0x00#8, 0x00#8, 0x00#8, 0x00#8, 0x00#8, 0x00#8, 0x00#8, 0x00#8, 0x00#8, 0x00#8, 0x0a#8, 0x00#8, 0x00#8, 0x00#8, 0x1c#8, 0x02#8, 0x00#8, 0x5b#8, 0xeb#8, 0x06#8, 0x00#8, 0x00#8, 0x00#8, 0x00#8, 0x00#8, 0x00#8, 0x00#8, 0x00#8, 0x00#8, 0x00#8, 0x00#8, 0x00#8, 0x4d#8, 0x00#8, 0x00#8, 0x00#8, 0x00#8, 0x00#8, 0x00#8, 0x00#8, 0x00#8, 0x00#8, 0x4d#8, 0x00#8, 0x00#8, 0x00#8, 0x00#8, 0x13#8, 0x5a#8, 0xec#8, 0x2e#8]), ((live.inaug[segOf live Port.fore].table.find? (fun x => x.handle == (readHdr ([0x00#8, 0x50#8, 0x03#8, 0x02#8, 0x00#8, 0x00#8, 0x00#8, 0x00#8, 0x00#8, 0x00#8, 0x00#8, 0x00#8, 0x00#8, 0x00#8, 0x00#8, 0x0a#8, 0x00#8, 0x00#8, 0x00#8, 0x1c#8, 0x02#8, 0x00#8, 0x5b#8, 0xeb#8, 0x06#8, 0x00#8, 0x00#8, 0x00#8, 0x00#8, 0x00#8, 0x00#8, 0x00#8, 0x00#8, 0x00#8, 0x00#8, 0x00#8, 0x00#8, 0x4d#8, 0x00#8, 0x00#8, 0x00#8, 0x00#8, 0x00#8, 0x00#8, 0x00#8, 0x00#8, 0x00#8, 0x4d#8, 0x00#8, 0x00#8, 0x00#8, 0x00#8, 0x13#8, 0x5a#8, 0xec#8, 0x2e#8])).src)).get (by decide +kernel) : TopoEnt), by unfold DawnIn; decide +kernel⟩⟩

def w79 : State × Req × (BitVec 4) × Word :=
  let s : State := { live with line := { live.line with core := false, node := .ember } }
  let req : Req := Req.host
  let be : BitVec 4 := 0xf#4
  let v : Word := 0x00002004#32
  let s : State := { s with line := { s.line with core := true, por := false, resetLow := false }, snuf := { s.snuf with pastSi := false }, hb := { s.hb with held := none, owns := false }, flt := { s.flt with mgmtDown := false }, boot := { s.boot with phase := .committed } }
  (s, req, be, v)

def w80 : State × Word :=
  let s : State := live
  let v : Word := 0x7e9d0111#32
  let s : State := setReg s (0x2000) (if true then reg s (0x2000) ||| BitVec.ofNat 32 (2 ^ (10)) else reg s (0x2000) &&& ~~~ BitVec.ofNat 32 (2 ^ (10)))
  let s : State := setInaug s 0 (fun x => { x with table := [{ uid := 77, handle := 1, eflags := 16, rank := 0, slotref := 1 }] })
  (s, v)

def w83 : State × TtdpFrame :=
  let s : State := live
  let f : TtdpFrame := ({ topology := false, bytes := [0x49#8, 0x1b#8, 0x38#8, 0x3b#8, 0x03#8, 0x02#8, 0x65#8, 0x0f#8, 0x00#8, 0x57#8, 0x7c#8, 0x88#8, 0x84#8, 0x3c#8, 0x02#8, 0x9e#8, 0x03#8, 0xc1#8, 0x54#8, 0x00#8] })
  let dice : Nat := 0
  let s : State := setReg (setReg { s with line := { s.line with core := true }, boot := { s.boot with phase := .committed } } 0x1100 9) 0x2000 (reg s 0x2000 ||| 0x800)
  let s : State := { s with etb := { s.etb with st := if dice % 2 = 0 then 1 else 2 } }
  (s, f)

def w84 : State :=
  let s : State := live
  let dice : Nat := 0
  let s : State := setReg (setReg { s with line := { s.line with core := true }, boot := { s.boot with phase := .committed } } 0x1100 9) 0x2000 (reg s 0x2000 ||| 0x800)
  let s : State := { s with etb := { s.etb with st := if dice % 2 = 0 then 1 else 2 } }
  s

def w85 : State :=
  let s : State := live
  let dice : Nat := 0
  let s : State := setReg (setReg { s with line := { s.line with core := true }, boot := { s.boot with phase := .committed } } 0x1100 9) 0x2000 (reg s 0x2000 ||| 0x800)
  let s : State := { s with etb := { s.etb with st := if dice % 2 = 0 then 1 else 2 } }
  s

/-- Each clause of TopologyRegistersAndEtbComplete has a state and operands that meet its hypotheses. -/
theorem witness_TopologyRegistersAndEtbComplete :
    (∃ (s : State) (req : Req) (be : BitVec 4), Reaches req 0x2004 be s) ∧
    (∃ (s : State) (v : Word), Reaches .host 0x2008 0xF s ∧ bitAt v 0 = true ∧ fld v 31 16 = 0x7E9D ∧ regB s 0x2000 10 = true ∧ segGw s = false ∧ dawnUp s = true ∧ s.inaug[(0 : Fin 2)].reorder = false ∧ s.inaug[(0 : Fin 2)].st = .settled ∧ isLeader s 0 = true ∧ s.inaug[(0 : Fin 2)].pending = none ∧ s.inaug[(0 : Fin 2)].issue = none ∧ s.inaug[(0 : Fin 2)].changes = [] ∧ s.line.node = .run) ∧
    (∃ (s : State) (req : Req) (be : BitVec 4) (v : Word) (n : Nat), Reaches req 0x2020 be s ∧ fld (mergeBe be (getLatch s req 0x2020) v) 7 0 = n) ∧
    (∃ (s : State) (req : Req), reqAlive s req = true) ∧
    (∃ (s : State), etbOn s = true ∧ s.etb.st ≠ 0 ∧ s.etb.st ≠ 3) ∧
    (∃ (s : State), etbOn s = true ∧ s.etb.st ≠ 0 ∧ s.etb.st ≠ 3) ∧
    (∃ (s : State), etbOn s = true ∧ s.etb.st ≠ 0 ∧ s.etb.st ≠ 3) :=
  ⟨⟨w79.1, w79.2.1, w79.2.2.1, by unfold Reaches; decide +kernel⟩,
   ⟨w80.1, w80.2, by unfold Reaches; decide +kernel⟩,
   ⟨live, Req.host, (0xf#4 : BitVec 4), (0x00001000#32 : Word), ((fld (mergeBe (0xf#4 : BitVec 4) (getLatch live Req.host 0x2020) (0x00001000#32 : Word)) 7 0) : Nat), by unfold Reaches; decide +kernel⟩,
   ⟨live, Req.host, by decide +kernel⟩,
   ⟨w83.1, by decide +kernel⟩,
   ⟨w84, by decide +kernel⟩,
   ⟨w85, by decide +kernel⟩⟩

def w86 : State :=
  let s : State := live
  let s : State := { s with tb := { s.tb with begun := none, served := none } }
  s

def w87 : State × (Fin 4) × Bytes × Nat :=
  let s : State := live
  let l : Fin 4 := 1
  let dd : Nat := 50
  let org : Int := ttAt s.tb s.tb.ctr - s.lanes[l].delay + ((dd : Int) - 150) * nsU
  let f := mkFrame { kind := 1, cls := 7, dyn := false, crit := true, fold := false, src := 1, dtype := 4, dest := [], cycle := 0, slot := 0, len := 0, hops := 0 } (lanternPayload s 0 .fore { master := true, hold := false, gw := false, steps := dd % 4, holdcyc := 0, muid := 76 + 2 * (dd % 2) } org |>.set 40 0)
  let stamp := s.tb.ctr
  (s, l, f, stamp)

def w88 : State :=
  let s : State := live
  let s : State := { s with tb := { s.tb with accepted := [] } }
  s

def w89 : State :=
  let s : State := live
  let s : State := setInaug { s with tb := { s.tb with st := .free, tableAt := some 0 } } 0 (fun x => { x with table := [{ uid := 77, handle := 1, eflags := 16, rank := 0, slotref := 1 }] })
  s

def w96 : State × (Fin 8) :=
  let s : State := live
  let k : Fin 8 := 3
  let s : State := setReg (setReg { s with sw := { s.sw with ports := s.sw.ports.map (fun x => { x with hst := 0 }) } } 0x3080 0xFF) (0xE100 + 0x10 * k.val) 1
  (s, k)

def w97 : State × (Fin 8) :=
  let s : State := live
  let k : Fin 8 := 1
  let s : State := setReg (setReg { s with sw := { s.sw with ports := s.sw.ports.map (fun x => { x with hst := 0 }) } } 0x3080 0xFF) (0xE100 + 0x10 * k.val) 1
  (s, k)

def w98 : State × (Fin 8) :=
  let s : State := live
  let k : Fin 8 := 3
  let dice : Nat := 0
  let s : State := setGptp s k (fun x => { x with delay := 801 + dice % 50 })
  (s, k)

def w99 : State × (Fin 8) :=
  let s : State := live
  let k : Fin 8 := 4
  let dice : Nat := 0
  let s : State := setGptp s k (fun x => { x with delay := 801 + dice % 50 })
  (s, k)

def w100 : State × (Fin 8) :=
  let s : State := live
  let k : Fin 8 := 3
  let s : State := setReg (setReg { s with sw := { s.sw with ports := s.sw.ports.map (fun x => { x with hst := 0 }) } } 0x3080 0xFF) (0xE100 + 0x10 * k.val) 1
  (s, k)

def w101 : State × (Fin 8) × Bytes :=
  let s : State := live
  let k : Fin 8 := 3
  let f : Bytes := ([0x11#8, 0xae#8, 0x57#8, 0x71#8, 0x52#8, 0x02#8, 0x49#8, 0x00#8, 0x35#8, 0x46#8, 0x00#8, 0xc6#8, 0x03#8, 0x27#8, 0x0c#8, 0x21#8, 0x00#8, 0xab#8, 0x0f#8, 0xc9#8, 0x59#8, 0xf2#8, 0xa0#8, 0xe3#8, 0xbd#8, 0xd2#8, 0x76#8, 0x14#8, 0x01#8, 0x2f#8])
  let s : State := setReg (setReg { s with sw := { s.sw with ports := s.sw.ports.map (fun x => { x with hst := 0 }) } } 0x3080 0xFF) (0xE100 + 0x10 * k.val) 1
  let f := (List.replicate 14 (0#8)) ++ [0x10#8] ++ f
  (s, k, f)

def w102 : State × (Fin 8) × Bytes :=
  let s : State := live
  let k : Fin 8 := 5
  let f : Bytes := ([0x03#8, 0xd0#8, 0x02#8, 0x03#8, 0x00#8, 0x00#8, 0x00#8, 0x00#8, 0x00#8, 0x00#8, 0x00#8, 0x00#8, 0x00#8, 0x00#8, 0x00#8, 0x0a#8, 0x00#8, 0x00#8, 0x00#8, 0x20#8, 0x01#8, 0x00#8, 0xd5#8, 0x54#8, 0x02#8, 0x00#8, 0x00#8, 0x02#8, 0x00#8, 0x00#8, 0x00#8, 0x00#8, 0x00#8, 0x00#8, 0x00#8, 0x00#8, 0x00#8, 0x4d#8, 0x00#8, 0x00#8, 0x00#8, 0x00#8, 0x00#8, 0x00#8, 0x00#8, 0x00#8, 0x00#8, 0x4d#8, 0x00#8, 0x00#8, 0x02#8, 0x01#8, 0x00#8, 0x00#8, 0x00#8, 0x00#8, 0xc2#8, 0x96#8, 0xfa#8, 0x0c#8])
  let s : State := setReg (setReg { s with sw := { s.sw with ports := s.sw.ports.map (fun x => { x with hst := 0 }) } } 0x3080 0xFF) (0xE100 + 0x10 * k.val) 1
  let f := (List.replicate 14 (0#8)) ++ [0x1A#8] ++ f
  let s : State := setGptp s k (fun x => { x with pdOut := true })
  (s, k, f)

/-- Each clause of TimeBaseAndGptpRowsComplete has a state and operands that meet its hypotheses. -/
theorem witness_TimeBaseAndGptpRowsComplete :
    (∃ (s : State), coreRun s = true ∧ cycLen s ≠ none ∧ s.tb.st = .locked ∧ s.tb.begun ≠ some (cycleNo s) ∧ (s.tb.served.map (fun j => decide (j < cycleNo s))).getD true = true ∧ s.tb.reason = none ∧ s.sch.foldEnd = 0 ∧ s.sg.bindReq = false ∧ s.inaug[(0 : Fin 2)].pending = none ∧ segGw s = false ∧ s.tb.accepted.any (fun a => !a.hold) = true) ∧
    (∃ (s : State) (l : Fin 4) (f : Bytes) (stamp : Nat), hcrcOk f = true ∧ trailerOk f = true ∧ coreRun s = true ∧ laneUp s l = true ∧ laneI1g s l = false ∧ (readHdr f).kind = 1 ∧ (readHdr f).dtype = 4 ∧ (readHdr f).dyn = false ∧ (readHdr f).hops ≠ 255 ∧ (readHdr f).len = 76 ∧ byteAt (payloadOf f) 0 = 1 ∧ byteAt (payloadOf f) 40 = 0 ∧ (readHdr f).src ≠ 0 ∧ s.tb.joinStep = false ∧ segGw s = false ∧ pdValid s l = true ∧ beyond s 0 (portOf l) (readLan (payloadOf f)).muid = true ∧ clenOk s (readLan (payloadOf f)).clen = true ∧ (readLan (payloadOf f)).steps < 255 ∧ newer16 (readLan (payloadOf f)).epoch s.inaug[(0 : Fin 2)].epoch = false ∧ cycLen s ≠ none ∧ s.tb.st = .locked ∧ s.tb.followed = none ∧ s.tb.up = some (portOf l) ∧ (readLan (payloadOf f)).hold = false ∧ ((readLan (payloadOf f)).origin + s.lanes[l].delay - ttAt s.tb stamp).natAbs ≤ 100 * 4294967296) ∧
    (∃ (s : State), coreRun s = true ∧ (s.tb.st = .locked ∨ s.tb.st = .holdover) ∧ s.tb.accepted = []) ∧
    (∃ (s : State), coreRun s = true ∧ s.tb.st = .free ∧ s.tb.tableAt ≠ none ∧ isCandidate s = true) ∧
    (∃ (s : State) (k : Fin 8), gptpOn s k = true ∧ slotsOpen s = true ∧ s.tb.gptp[k].delay ≤ 800) ∧
    (∃ (s : State) (k : Fin 8), gptpOn s k = true ∧ slotsOpen s = true ∧ s.tb.gptp[k].delay ≤ 800) ∧
    (∃ (s : State) (k : Fin 8), 800 < s.tb.gptp[k].delay) ∧
    (∃ (s : State) (k : Fin 8), 800 < s.tb.gptp[k].delay) ∧
    (∃ (s : State) (k : Fin 8), gptpOn s k = true ∧ slotsOpen s = true) ∧
    (∃ (s : State) (k : Fin 8) (f : Bytes), gptpOn s k = true ∧ byteAt f 14 % 16 = 0) ∧
    (∃ (s : State) (k : Fin 8) (f : Bytes), gptpOn s k = true ∧ byteAt f 14 % 16 = 10 ∧ s.tb.gptp[k].pdOut = true) :=
  ⟨⟨w86, by decide +kernel⟩,
   ⟨w87.1, w87.2.1, w87.2.2.1, w87.2.2.2, hcrcOk_mkFrame _ _, trailerOk_mkFrame _ _ (by decide +kernel), by decide +kernel⟩,
   ⟨w88, by decide +kernel⟩,
   ⟨w89, by decide +kernel⟩,
   ⟨w96.1, w96.2, by decide +kernel⟩,
   ⟨w97.1, w97.2, by decide +kernel⟩,
   ⟨w98.1, w98.2, by decide +kernel⟩,
   ⟨w99.1, w99.2, by decide +kernel⟩,
   ⟨w100.1, w100.2, by decide +kernel⟩,
   ⟨w101.1, w101.2.1, w101.2.2, by decide +kernel⟩,
   ⟨w102.1, w102.2.1, w102.2.2, by decide +kernel⟩⟩

def w91 : State :=
  let s : State := live
  let s : State := setReg s (0x3040) ((reg s (0x3040) &&& ~~~ BitVec.ofNat 32 ((2 ^ (1 + 1 - 0) - 1) * 2 ^ (0))) ||| BitVec.ofNat 32 ((1) * 2 ^ (0)))
  s

def w92 : State × Bool × Nat :=
  let s : State := live
  let rising : Bool := true
  let stamp : Nat := 338931433
  let s : State := setReg s (0x3044) ((reg s (0x3044) &&& ~~~ BitVec.ofNat 32 ((2 ^ (1 + 1 - 0) - 1) * 2 ^ (0))) ||| BitVec.ofNat 32 ((3) * 2 ^ (0)))
  (s, rising, stamp)

def w93 : State × Bool × Nat :=
  let s : State := live
  let rising : Bool := false
  let stamp : Nat := 0
  let s : State := setReg s (0x3044) ((reg s (0x3044) &&& ~~~ BitVec.ofNat 32 ((2 ^ (1 + 1 - 0) - 1) * 2 ^ (0))) ||| BitVec.ofNat 32 ((3) * 2 ^ (0)))
  let s : State := { s with tb := { s.tb with sififo := List.replicate 16 (true, 5) } }
  (s, rising, stamp)

/-- Each clause of CommonInstantRowsComplete has a state and operands that meet its hypotheses. -/
theorem witness_CommonInstantRowsComplete :
    (∃ (s : State) (k : Nat), ciLatest s = some k ∧ service s = true ∧ s.tb.st ≠ .free ∧ s.mon.inbuf = [] ∧ (s.tb.ciServed.map (fun j => decide (j + 1 = k))).getD true = true ∧ s.boot.phase = .committed) ∧
    (∃ (s : State), regF s 0x3040 1 0 = 1) ∧
    (∃ (s : State), committed s = true ∧ bscan s = false ∧ regF s 0x3044 1 0 = 3 ∧ s.tb.sififo.length < 16) ∧
    (∃ (s : State), committed s = true ∧ bscan s = false ∧ regF s 0x3044 1 0 = 3 ∧ 16 ≤ s.tb.sififo.length ∧ coreRun s = true) ∧
    (∃ (s : State) (req : Req), reqAlive s req = true) ∧
    (∃ (s : State) (req : Req), reqAlive s req = true) :=
  ⟨⟨live, ((ciLatest live).get (by decide +kernel) : Nat), by decide +kernel⟩,
   ⟨w91, by decide +kernel⟩,
   ⟨w92.1, by decide +kernel⟩,
   ⟨w93.1, by decide +kernel⟩,
   ⟨live, Req.host, by decide +kernel⟩,
   ⟨live, Req.monitor, by decide +kernel⟩⟩

def w104 : State × Bool :=
  let s : State := live
  let laneB : Bool := false
  let s : State := { s with sch := { s.sch with openA := some 3, openB := some 4 } }
  (s, laneB)

def w105 : State :=
  let s : State := live
  let s : State := { s with sch := { s.sch with gdPlan := [] , plan := { laneB := false, slot := 1, owner := 1, fb := false } :: s.sch.plan } }
  s

def w107 : State × Nat :=
  let s : State := live
  let m : Nat := 0
  let s : State := { s with sch := { s.sch with inStatic := false } }
  (s, m)

def w108 : State × Nat :=
  let s : State := live
  let m : Nat := 1
  let s : State := { s with sch := { s.sch with inStatic := false } }
  let s : State := { s with sch := { s.sch with ctl := [{ frame := [1,2], fore := true, aft := true }] } }
  (s, m)

def w110 : State × (Fin 4) :=
  let s : State := live
  let l : Fin 4 := 2
  let s : State := { s with tables := [], sch := { s.sch with inStatic := true, relays := [], foldOut := [{ lane := l.val, at_ := 40000, frame := mkFrame { kind := 5, cls := 7, dyn := false, crit := true, fold := true, src := 1, dtype := 0, dest := [], cycle := 10, slot := 1, len := 0, hops := 1 } [1, 2, 3, 4] }], gdPlan := [{ laneB := decide (l.val % 2 = 1), slot := 1, owner := 1, fb := true }] } }
  (s, l)

/-- Each clause of ScheduleRowsComplete has a state and operands that meet its hypotheses. -/
theorem witness_ScheduleRowsComplete :
    (∃ (s : State) (laneB : Bool) (gdOfs : Int) (row : Bytes), schedCommitted s = true ∧ slotsOpen s = true ∧ s.sch.gag = false ∧ cycleOpen s = true ∧ segGw s = false ∧ ownRow s 0 = some row ∧ beAt row (if laneB then 8 else 0) 2 ≠ 0xFFFF ∧ ownHandle s 0 ≠ 0 ∧ gdClosed s = false ∧ s.sch.slotDone.contains (0, laneB) = false ∧ s.inaug[(0 : Fin 2)].yielded = false ∧ gdAccepts s 0 laneB (beAt row (if laneB then 8 else 0) 2) gdOfs = true) ∧
    (∃ (s : State) (laneB : Bool), coreRun s = true ∧ (if laneB then s.sch.openB else s.sch.openA) ≠ none) ∧
    (∃ (s : State), committed s = true ∧ s.sch.plan ≠ s.sch.gdPlan ∧ s.sch.tabFault = false) ∧
    (∃ (s : State), coreRun s = true ∧ s.sch.inStatic = true) ∧
    (∃ (s : State) (m : Nat), schedCommitted s = true ∧ s.sch.inStatic = false ∧ m < regF s 0x4010 11 0 ∧ cycleOpen s = true ∧ s.sch.miniNext ≤ m ∧ m < regF s 0x4010 19 12 ∧ s.sch.ctl.find? (fun c => decide (c.after ≤ s.now) && ctlMay s c) = none) ∧
    (∃ (s : State) (m : Nat) (c : Ctl), schedCommitted s = true ∧ s.sch.inStatic = false ∧ m < regF s 0x4010 11 0 ∧ cycleOpen s = true ∧ s.sch.miniNext ≤ m ∧ m < regF s 0x4010 19 12 ∧ s.sch.ctl.find? (fun c => decide (c.after ≤ s.now) && ctlMay s c) = some c ∧ s.sch.ctlSent < 4) ∧
    (∃ (s : State), schedCommitted s = true ∧ s.inaug[upSeg s].st = .settled) ∧
    (∃ (s : State) (l : Fin 4) (f : FoldOut) (st : Nat), nextFold s l = some f ∧ s.sch.relays.all (fun r => r.lane != l) = true ∧ relayAt { s with sch := { s.sch with foldOut := s.sch.foldOut.erase f } } (fallbackOf s l f) = some st ∧ s.sch.inStatic = true ∧ (((readHdr f.frame).hops = 0 → s.sch.gag = false ∧ slotsOpen s = true)) ∧ upAtDesign s l = true ∧ gdClosed s = false ∧ (match cycLen s with | some c => st % c | none => 0) + blockT (dmode s (decide (l.val % 2 = 1))) * ceilDiv (8 * f.frame.length) 300 ≤ dstart s ∧ s.sch.gdPlan.any (fun e => e.seg == segOf s (portOf l) && e.laneB == decide (l.val % 2 = 1) && e.slot == (readHdr f.frame).slot && e.fb) = true) :=
  ⟨⟨live, false, (0 : Int), ((ownRow live 0).get (by decide +kernel) : Bytes), by decide +kernel⟩,
   ⟨w104.1, w104.2, by decide +kernel⟩,
   ⟨w105, by decide +kernel⟩,
   ⟨live, by decide +kernel⟩,
   ⟨w107.1, w107.2, by decide +kernel⟩,
   ⟨w108.1, w108.2, ((w108.1.sch.ctl.find? (fun c => decide (c.after ≤ w108.1.now) && ctlMay w108.1 c)).get (by decide +kernel) : Ctl), by decide +kernel⟩,
   ⟨live, by decide +kernel⟩,
   ⟨w110.1, w110.2, ((nextFold w110.1 w110.2).get (by decide +kernel) : FoldOut), ((relayAt { w110.1 with sch := { w110.1.sch with foldOut := w110.1.sch.foldOut.erase ((nextFold w110.1 w110.2).get (by decide +kernel) : FoldOut) } } (fallbackOf w110.1 w110.2 ((nextFold w110.1 w110.2).get (by decide +kernel) : FoldOut))).get (by decide +kernel) : Nat), by decide +kernel⟩⟩

def w111 : State × (Fin 11) × Bytes × Nat :=
  let s : State := live
  let bp : Fin 11 := 3
  let stamp : Nat := 2
  let dice : Nat := 0
  let s : State := setReg s ((0xE100 + 0x10 * bp.val)) (if true then reg s ((0xE100 + 0x10 * bp.val)) ||| BitVec.ofNat 32 (2 ^ (0)) else reg s ((0xE100 + 0x10 * bp.val)) &&& ~~~ BitVec.ofNat 32 (2 ^ (0)))
  let s : State := { s with sw := { s.sw with ports := s.sw.ports.map (fun x => { x with hst := 0 }), fdb := [(3, { mac := 0x020000000001, vid := 5, stat := true, remote := false, seg := false, target := dice % 10, seen := 0 })] } }
  let s : State := { s with tables := mput s.tables (65536 * 0x60 + 3) ((List.range 16384).map (fun _ => 0#8) |>.set 20 0x80 |>.set 22 0x0F |>.set 23 0xFF) }
  let b : Bytes := [2,0,0,0,0,1, 2,0,0,0,0,9, 0x81, 0, 0x60, 5, 8, 0] ++ (List.replicate 40 7)
  let f := b ++ ethFcs b
  (s, bp, f, stamp)

def w112 : State × (Fin 20) :=
  let s : State := live
  let dice : Nat := 0
  let s : State := { s with sw := { s.sw with ports := s.sw.ports.map (fun x => { x with hst := 0, q := [{ frame := [1,2,3], eth := false, cls := dice % 8, slot := 0, inp := 0, since := 0 }, { frame := [1,2,4], eth := false, cls := dice % 7, slot := 0, inp := 0, since := 0 }] }) } }
  let p : Fin 20 := Fin.ofNat 20 (14 + dice % 6)
  (s, p)

def w113 : State × (Fin 20) × (Option Nat) :=
  let s : State := live
  let p : Fin 20 := 15
  let bad : Option Nat := none
  let s : State := { s with now := 1000000, sw := { s.sw with ports := Vector.replicate 20 { hst := 0, q := [{ frame := [1, 2, 3], eth := false, cls := 3, slot := 0, inp := 0, since := 0 }] } } }
  let s : State := setReg s 0x5014 0x1010101#32
  (s, p, bad)

def w114 : State × (Fin 20) :=
  let s : State := State.reset
  let p : Fin 20 := 10
  let s : State := { s with line := { s.line with core := true }, boot := { s.boot with phase := if s.boot.phase = .reset then .committed else s.boot.phase } }
  let s : State := { s with sw := { s.sw with ports := s.sw.ports.set (p) { s.sw.ports[p] with hst := 0 } } }
  (s, p)

def w115 : State × (Fin 20) :=
  let s : State := live
  let p : Fin 20 := 5
  let s : State := { s with sw := { s.sw with ports := s.sw.ports.set (p) { s.sw.ports[p] with hst := 1 } } }
  let s : State := setReg s (0xE100 + 0x10 * (p.val - 4)) 0x7001
  (s, p)

def w116 : State × (Fin 20) :=
  let s : State := live
  let p : Fin 20 := 13
  let s : State := { s with now := 2000000, sw := { s.sw with ports := Vector.replicate 20 { hst := 1 } } }
  let s : State := setReg s (0xE100 + 0x10 * (p.val - 4)) 1#32
  (s, p)

def w117 : State × (Fin 20) :=
  let s : State := live
  let p : Fin 20 := 3
  let s : State := { s with sw := { s.sw with ports := s.sw.ports.set (p) { s.sw.ports[p] with hst := 1 } } }
  (s, p)

def w118 : State × Nat :=
  let s : State := live
  let dice : Nat := 1
  let s : State := { s with sw := { s.sw with fdb := [(3, { mac := 5, vid := 5, stat := dice % 4 = 0, remote := false, seg := false, target := 3, seen := 0 }), (8, { mac := 5, vid := 5, stat := false, remote := false, seg := false, target := 3, seen := 0 })] } }
  let idx := if dice % 2 = 0 then 3 else 8
  (s, idx)

def w119 : State × (Fin 4) × Bytes :=
  let s : State := live
  let l : Fin 4 := 1
  let s : State := setReg s (0x4100) (if false then reg s (0x4100) ||| BitVec.ofNat 32 (2 ^ (0)) else reg s (0x4100) &&& ~~~ BitVec.ofNat 32 (2 ^ (0)))
  let pm : Nat := 0
  let f := mkFrame { kind := 8, cls := 7, dyn := true, crit := false, fold := false, src := 200, dtype := 4, dest := [], cycle := 0, slot := 0, len := 0, hops := 0 } [0x50#8, BitVec.ofNat 8 pm, 0#8,0#8,0#8,0#8,0#8,0#8]
  (s, l, f)

def w120 : State × (Fin 4) :=
  let s : State := State.reset
  let l : Fin 4 := 2
  let s : State := setInaug { s with uid := 77 } 0 (fun x => { x with table := [{ uid := 77, handle := 1, eflags := 16, rank := 0, slotref := 1 }] })
  let s : State := setLane (setReg (setReg s 0x5000 1) 0x2000 0) l (fun x => { x with st := .up, seam := false })
  let s : State := setPause s l (fun x => { x with tx := 5 })
  (s, l)

def w121 : State × (Fin 4) × (Fin 8) :=
  let s : State := { live with line := { live.line with core := false, node := .ember } }
  let l : Fin 4 := 0
  let c : Fin 8 := 2
  let s : State := { s with line := { s.line with core := true }, boot := { s.boot with phase := if s.boot.phase = .reset then .committed else s.boot.phase } }
  let s : State := setPause s l (fun x => { x with rx := 0x55 })
  (s, l, c)

def w122 : State × Req × (BitVec 4) × Word :=
  let s : State := State.reset
  let req : Req := Req.host
  let be : BitVec 4 := 0xf#4
  let v : Word := 0x00005400#32
  let s : State := { s with line := { s.line with core := true, por := false, resetLow := false }, snuf := { s.snuf with pastSi := false }, hb := { s.hb with held := none, owns := false }, flt := { s.flt with mgmtDown := false }, boot := { s.boot with phase := .committed } }
  (s, req, be, v)

/-- Each clause of SwitchRowsComplete has a state and operands that meet its hypotheses. -/
theorem witness_SwitchRowsComplete :
    (∃ (s : State) (bp : Fin 11) (f : Bytes) (i : Nat) (e : FdbEnt), service s = true ∧ bp.val < 10 ∧ regB s (0xE100 + 0x10 * bp.val) 0 = true ∧ s.sw.ports[Fin.ofNat 20 (bp.val + 4)].hst = 0 ∧ s.line.therm ≠ 2 ∧ s.line.shed = false ∧ NoMirror s ∧ 18 ≤ f.length ∧ f.length ≤ regF s (0xE100 + 0x10 * bp.val) 15 4 ∧ ethFcs (f.take (f.length - 4)) = f.drop (f.length - 4) ∧ tagged f = true ∧ beAt f 14 2 % 4096 ≠ 0 ∧ vlanHas (vlanWord s (beAt f 14 2 % 4096)) bp.val = true ∧ regB s 0x5000 2 = false ∧ (beAt f 0 6 / 2 ^ 40).testBit 0 = false ∧ fdbFind s (beAt f 0 6) (beAt f 14 2 % 4096) = [(i, e)] ∧ e.remote = false ∧ e.target ≠ bp.val ∧ e.target < 10 ∧ vlanHas (vlanWord s (beAt f 14 2 % 4096)) e.target = true ∧ bitAt (vlanWord s (beAt f 14 2 % 4096)) (12 + e.target) = false ∧ s.sw.ports[Fin.ofNat 20 (e.target + 4)].hst = 0 ∧ occ s (Fin.ofNat 20 (e.target + 4)) (pcpClass s (beAt f 14 2 / 8192)) + cellsOf f ≤ qMax s (pcpClass s (beAt f 14 2 / 8192))) ∧
    (∃ (s : State) (p : Fin 20) (i : Nat) (x : QFrame), coreRun s = true ∧ s.sw.ports[p].hst = 0 ∧ nextOut (match portLane p with | some l => s.sw.pause[l].rx | none => 0) s.sw.ports[p].q = some (i, x) ∧ ((lifeOf s x.cls ≠ 0 → x.copy = false → s.now ≤ x.since + lifeOf s x.cls)) ∧ ((p.val < 4 → x.eth = false → cutoffOk s (leaveTime s p x.frame) = true))) ∧
    (∃ (s : State) (p : Fin 20) (i : Nat) (x : QFrame), coreRun s = true ∧ s.sw.ports[p].hst = 0 ∧ nextOut (match portLane p with | some l => s.sw.pause[l].rx | none => 0) s.sw.ports[p].q = some (i, x) ∧ x.copy = false ∧ x.cls < 8 ∧ lifeOf s x.cls ≠ 0 ∧ x.since + lifeOf s x.cls < s.now ∧ s.sw.kept = [] ∧ NoMirror s) ∧
    (∃ (s : State) (p : Fin 20), coreRun s = true ∧ 4 ≤ p.val ∧ p.val ≤ 13 ∧ s.sw.ports[p].hst = 0 ∧ holdTime s ≠ 0) ∧
    (∃ (s : State) (p : Fin 20), 4 ≤ p.val ∧ p.val ≤ 13 ∧ lePortOn s (p.val - 4) = true ∧ s.sw.ports[p].hst = 1 ∧ s.now < s.sw.ports[p].held + 10000 * holdTime s) ∧
    (∃ (s : State) (p : Fin 20), 4 ≤ p.val ∧ p.val ≤ 13 ∧ lePortOn s (p.val - 4) = true ∧ s.sw.ports[p].hst = 1 ∧ s.sw.ports[p].held + 10000 * holdTime s ≤ s.now) ∧
    (∃ (s : State) (p : Fin 20), coreRun s = true ∧ s.sw.ports[p].hst = 1) ∧
    (∃ (s : State) (idx : Nat) (e : FdbEnt), mget s.sw.fdb idx = some e ∧ e.stat = false ∧ regF s 0x5010 15 0 ≠ 0) ∧
    (∃ (s : State) (l : Fin 4) (f : Bytes), coreRun s = true ∧ laneUp s l = true ∧ laneI1g s l = false ∧ hcrcOk f = true ∧ (readHdr f).kind = 8 ∧ (readHdr f).dtype = 4 ∧ byteAt (payloadOf f) 0 = 0x50 ∧ (readHdr f).len = 8 ∧ (readHdr f).hops ≠ 255 ∧ regB s 0x4100 0 = false ∧ NoMirror s ∧ trailerOk f = true) ∧
    (∃ (s : State) (l : Fin 4), s.sw.pause[l].tx ≠ 0 ∧ pauseLane s l = true ∧ pauseOpen s l = true) ∧
    (∃ (s : State) (l : Fin 4) (c : Fin 8), coreRun s = true ∧ s.sw.pause[l].rx.getLsbD c.val = true) ∧
    (∃ (s : State) (req : Req) (be : BitVec 4) (v : Word) (n : Nat), Reaches req 0x5400 be s ∧ fld (mergeBe be (getLatch s req 0x5400) v) 11 0 = n) :=
  ⟨⟨w111.1, w111.2.1, w111.2.2.1, (((fdbFind w111.1 (beAt w111.2.2.1 0 6) (beAt w111.2.2.1 14 2 % 4096)).head?.map (fun q_ => q_.1)).get (by decide +kernel) : Nat), (((fdbFind w111.1 (beAt w111.2.2.1 0 6) (beAt w111.2.2.1 14 2 % 4096)).head?.map (fun q_ => q_.2)).get (by decide +kernel) : FdbEnt), by unfold NoMirror; decide +kernel⟩,
   ⟨w112.1, w112.2, (((nextOut (match portLane w112.2 with | some l => w112.1.sw.pause[l].rx | none => 0) w112.1.sw.ports[w112.2].q).map (fun q_ => q_.1)).get (by decide +kernel) : Nat), (((nextOut (match portLane w112.2 with | some l => w112.1.sw.pause[l].rx | none => 0) w112.1.sw.ports[w112.2].q).map (fun q_ => q_.2)).get (by decide +kernel) : QFrame), by decide +kernel⟩,
   ⟨w113.1, w113.2.1, (((nextOut (match portLane w113.2.1 with | some l => w113.1.sw.pause[l].rx | none => 0) w113.1.sw.ports[w113.2.1].q).map (fun q_ => q_.1)).get (by decide +kernel) : Nat), (((nextOut (match portLane w113.2.1 with | some l => w113.1.sw.pause[l].rx | none => 0) w113.1.sw.ports[w113.2.1].q).map (fun q_ => q_.2)).get (by decide +kernel) : QFrame), by unfold NoMirror; decide +kernel⟩,
   ⟨w114.1, w114.2, by decide +kernel⟩,
   ⟨w115.1, w115.2, by decide +kernel⟩,
   ⟨w116.1, w116.2, by decide +kernel⟩,
   ⟨w117.1, w117.2, by decide +kernel⟩,
   ⟨w118.1, w118.2, ((mget w118.1.sw.fdb w118.2).get (by decide +kernel) : FdbEnt), by decide +kernel⟩,
   ⟨w119.1, w119.2.1, w119.2.2, by unfold NoMirror; decide +kernel⟩,
   ⟨w120.1, w120.2, by decide +kernel⟩,
   ⟨w121.1, w121.2.1, w121.2.2, by decide +kernel⟩,
   ⟨w122.1, w122.2.1, w122.2.2.1, w122.2.2.2, ((fld (mergeBe w122.2.2.1 (getLatch w122.1 w122.2.1 0x5400) w122.2.2.2) 11 0) : Nat), by unfold Reaches; decide +kernel⟩⟩

def w123 : State :=
  let s : State := live
  let dice : Nat := 0
  let s : State := { s with sg := { s.sg with jobs := [{ chan := 0, data := [1,2,3,4,5,6,7,8], stamp := dice, todo := [dice % 5], done := [] }, { chan := 0, data := [], stamp := 1, todo := [2], done := [] }] }, lamp := { s.lamp with idle := 0, dead := 0 } }
  s

def w124 : State × Nat × (BitVec 4) × Word :=
  let s : State := live
  let be : BitVec 4 := 0xf#4
  let v : Word := 0x00000000#32
  let dice : Nat := 0
  let es := (List.range 60).filter (isHostEntry s)
  let off := 16 * es.getD (dice % (max 1 es.length)) 5 + 4 * (dice / 64 % 2)
  (s, off, be, v)

/-- Each clause of SignalRowsComplete has a state and operands that meet its hypotheses. -/
theorem witness_SignalRowsComplete :
    (∃ (s : State) (j : GwJob) (r : Nat), service s = true ∧ lampServes s 8 = true ∧ s.sg.jobs.head? = some j ∧ j.todo = [r] ∧ j.done = []) ∧
    (∃ (s : State) (off : Nat) (be : BitVec 4), lbusFree s = true ∧ contiguous be = true ∧ off < 0x100000 ∧ s.boot.phase = .committed ∧ (off % 16 = 0 ∨ off % 16 = 4) ∧ isHostEntry s (off / 16) = true ∧ s.sg.staged.length < 1024 ∧ regB s 0x6000 0 = false) ∧
    (∃ (s : State) (req : Req) (v : Word), Reaches req 0x6010 0xF s ∧ bitAt v 0 = true ∧ service s = true) :=
  ⟨⟨w123, ((w123.sg.jobs.head?).get (by decide +kernel) : GwJob), (((((w123.sg.jobs.head?).get (by decide +kernel) : GwJob).todo).head?).get (by decide +kernel) : Nat), by decide +kernel⟩,
   ⟨w124.1, w124.2.1, w124.2.2.1, by decide +kernel⟩,
   ⟨live, Req.far, (0x0000000f#32 : Word), by unfold Reaches; decide +kernel⟩⟩

def w127 : State × Req × Word :=
  let s : State := State.reset
  let req : Req := Req.far
  let v : Word := 0x00000000#32
  let s : State := { s with line := { s.line with core := true, por := false, resetLow := false }, snuf := { s.snuf with pastSi := false }, hb := { s.hb with held := none, owns := false }, flt := { s.flt with mgmtDown := false }, boot := { s.boot with phase := .committed } }
  (s, req, v)

def w132 : State × Req × Word :=
  let s : State := { live with line := { live.line with core := false, node := .ember } }
  let req : Req := Req.host
  let v : Word := 0x00000000#32
  let s : State := { s with line := { s.line with core := true, por := false, resetLow := false }, snuf := { s.snuf with pastSi := false }, hb := { s.hb with held := none, owns := false }, flt := { s.flt with mgmtDown := false }, boot := { s.boot with phase := .committed } }
  (s, req, v)

def w133 : State × Req × Word :=
  let s : State := State.reset
  let req : Req := Req.far
  let v : Word := 0x0000001a#32
  let s : State := { s with line := { s.line with core := true, por := false, resetLow := false }, snuf := { s.snuf with pastSi := false }, hb := { s.hb with held := none, owns := false }, flt := { s.flt with mgmtDown := false }, boot := { s.boot with phase := .committed } }
  (s, req, v)

/-- Each clause of CounterClearsComplete has a state and operands that meet its hypotheses. -/
theorem witness_CounterClearsComplete :
    (∃ (s : State) (req : Req), Reaches req 0x1004 0xF s) ∧
    (∃ (s : State) (req : Req), Reaches req 0x5F00 0xF s) ∧
    (∃ (s : State) (req : Req), Reaches req 0x60FC 0xF s) ∧
    (∃ (s : State) (req : Req), Reaches req 0x8004 0xF s) ∧
    (∃ (s : State) (req : Req), Reaches req 0x96FC 0xF s) ∧
    (∃ (s : State) (req : Req), Reaches req 0xA3FC 0xF s) ∧
    (∃ (s : State) (req : Req), Reaches req 0xB0FC 0xF s) ∧
    (∃ (s : State) (req : Req), Reaches req 0xC1FC 0xF s) :=
  ⟨⟨live, Req.far, by unfold Reaches; decide +kernel⟩,
   ⟨w127.1, w127.2.1, by unfold Reaches; decide +kernel⟩,
   ⟨live, Req.far, by unfold Reaches; decide +kernel⟩,
   ⟨live, Req.host, by unfold Reaches; decide +kernel⟩,
   ⟨live, Req.host, by unfold Reaches; decide +kernel⟩,
   ⟨live, Req.host, by unfold Reaches; decide +kernel⟩,
   ⟨w132.1, w132.2.1, by unfold Reaches; decide +kernel⟩,
   ⟨w133.1, w133.2.1, by unfold Reaches; decide +kernel⟩⟩

def w135 : State × (Fin 8) :=
  let s : State := live
  let c : Fin 8 := 3
  let dice : Nat := 0
  let s : State := setChan (setReg s (0x7000 + 0x200 * c.val) 0x9) c (fun k => { k with objs := [], done := [{ frame := { ide := false, fdf := false, brs := false, rtr := false, esi := false, id := dice % 2048, dlc := 3, data := [1,2,3], stamp := 7 }, own := false, obj := 0 }] })
  (s, c)

def w136 : State × (Fin 8) :=
  let s : State := live
  let c : Fin 8 := 1
  let dice : Nat := 1
  let mk (cfg : Word) : CObj := { cfg := cfg, st := dice % 9, pbuf := dice / 16 % 2 = 0, b0 := { full := dice / 32 % 2 = 0 }, b1 := { full := dice / 64 % 2 = 0 }, follow := dice / 128 % 4 = 0, staged := dice / 512 % 4 = 0, cancel := dice / 2048 % 4 = 0, oid := BitVec.ofNat 32 (dice % 2048), coll := dice % 7 }
  let s : State := setChan s c (fun k => { k with objs := [(3, mk 0xC0000000), (7, mk (0xC2000000 ||| BitVec.ofNat 32 ((dice % 3) * 2^23))), (9, mk 0x80000000), (11, mk 0xC1000000)] })
  (s, c)

def w137 : State × (Fin 8) × Nat × Nat :=
  let s : State := State.reset
  let c : Fin 8 := 3
  let stamp : Nat := 26466911
  let tdcv : Nat := 239
  let dice : Nat := 240412
  let s : State := { s with line := { s.line with core := true, por := false, resetLow := false }, snuf := { s.snuf with pastSi := false }, hb := { s.hb with held := none, owns := false }, flt := { s.flt with mgmtDown := false }, boot := { s.boot with phase := .committed } }
  let s : State := setChan s (c) (fun x => { x with st := 2 })
  let mk (cfg : Word) : CObj := { cfg := cfg, st := dice % 9, pbuf := dice / 16 % 2 = 0, b0 := { full := dice / 32 % 2 = 0 }, b1 := { full := dice / 64 % 2 = 0 }, follow := dice / 128 % 4 = 0, staged := dice / 512 % 4 = 0, cancel := dice / 2048 % 4 = 0, oid := BitVec.ofNat 32 (dice % 2048), coll := dice % 7 }
  let s : State := setChan s c (fun k => { k with objs := [(3, mk 0xC0000000), (7, mk (0xC2000000 ||| BitVec.ofNat 32 ((dice % 3) * 2^23))), (9, mk 0x80000000), (11, mk 0xC1000000)] })
  let s : State := setChan s c (fun k => { k with active := some ([3,7,11].getD (dice % 3) 3) })
  (s, c, stamp, tdcv)

def w138 : State × (Fin 8) :=
  let s : State := live
  let c : Fin 8 := 3
  let dice : Nat := 137051
  let mk (cfg : Word) : CObj := { cfg := cfg, st := dice % 9, pbuf := dice / 16 % 2 = 0, b0 := { full := dice / 32 % 2 = 0 }, b1 := { full := dice / 64 % 2 = 0 }, follow := dice / 128 % 4 = 0, staged := dice / 512 % 4 = 0, cancel := dice / 2048 % 4 = 0, oid := BitVec.ofNat 32 (dice % 2048), coll := dice % 7 }
  let s : State := setChan s c (fun k => { k with objs := [(3, mk 0xC0000000), (7, mk (0xC2000000 ||| BitVec.ofNat 32 ((dice % 3) * 2^23))), (9, mk 0x80000000), (11, mk 0xC1000000)] })
  let s : State := setChan s c (fun k => { k with active := some ([3,7,11].getD (dice % 3) 3) })
  (s, c)

/-- Each clause of CanFramesComplete has a state and operands that meet its hypotheses. -/
theorem witness_CanFramesComplete :
    (∃ (s : State) (c : Fin 8) (f : CanFrame), canLive s = true ∧ s.can[c].st = 2 ∧ s.can[c].pex = false ∧ ((f.fdf = true → bitAt (canCfg s c) 1 = true)) ∧ s.can[c].rec_ ≤ 127 ∧ s.can[c].tec ≤ 127 ∧ s.can[c].ctxAt = none ∧ s.can[c].stop = false) ∧
    (∃ (s : State) (c : Fin 8) (d : CanDone), service s = true ∧ s.can[c].st = 2 ∧ lampServes s c.val = true ∧ s.can[c].fifo = [] ∧ s.can[c].done.head? = some d ∧ d.own = false ∧ d.fin = 0 ∧ s.can[c].objs = [] ∧ bitAt (canCfg s c) 3 = true ∧ qFill s.can[c] < 1024) ∧
    (∃ (s : State) (c : Fin 8) (o : Nat), service s = true ∧ canTx s.can[c] = true ∧ lampServes s c.val = true ∧ s.can[c].fifo = [] ∧ s.can[c].done = [] ∧ s.can[c].active = none ∧ s.can[c].stop = false ∧ s.can[c].pex = false ∧ s.line.shed = false ∧ s.line.therm ≠ 2 ∧ canChoose s.can[c] = some o) ∧
    (∃ (s : State) (c : Fin 8) (o : Nat) (x : CObj), canLive s = true ∧ lampServes s c.val = true ∧ s.can[c].active = some o ∧ mget s.can[c].objs o = some x ∧ x.follow = false ∧ x.staged = false ∧ x.cancel = false ∧ s.can[c].st = 2 ∧ s.can[c].tec ≤ 127 ∧ s.can[c].rec_ ≤ 127 ∧ s.can[c].stop = false) ∧
    (∃ (s : State) (c : Fin 8) (o : Nat) (x : CObj), s.can[c].active = some o ∧ mget s.can[c].objs o = some x ∧ x.cancel = false ∧ bitAt x.cfg 25 = false ∧ s.can[c].stop = false) ∧
    (∃ (s : State) (c : Fin 8), canLive s = true ∧ s.can[c].st = 2 ∧ s.can[c].pex = false ∧ s.can[c].rec_ < 127 ∧ s.can[c].tec ≤ 127 ∧ s.can[c].stop = false) :=
  ⟨⟨live, (1 : Fin 8), ({ ide := false, fdf := false, brs := false, rtr := true, esi := true, id := 836, dlc := 4, data := [0x27#8, 0x8c#8, 0xc9#8, 0x08#8], stamp := 163842 }), by decide +kernel⟩,
   ⟨w135.1, w135.2, ((w135.1.can[w135.2].done.head?).get (by decide +kernel) : CanDone), by decide +kernel⟩,
   ⟨w136.1, w136.2, ((canChoose w136.1.can[w136.2]).get (by decide +kernel) : Nat), by decide +kernel⟩,
   ⟨w137.1, w137.2.1, ((w137.1.can[w137.2.1].active).get (by decide +kernel) : Nat), ((mget w137.1.can[w137.2.1].objs ((w137.1.can[w137.2.1].active).get (by decide +kernel) : Nat)).get (by decide +kernel) : CObj), by decide +kernel⟩,
   ⟨w138.1, w138.2, ((w138.1.can[w138.2].active).get (by decide +kernel) : Nat), ((mget w138.1.can[w138.2].objs ((w138.1.can[w138.2].active).get (by decide +kernel) : Nat)).get (by decide +kernel) : CObj), by decide +kernel⟩,
   ⟨live, (1 : Fin 8), by decide +kernel⟩⟩

def w140 : State × (Fin 8) :=
  let s : State := live
  let c : Fin 8 := 0
  let s : State := setChan s (c) (fun x => { x with st := 1 })
  (s, c)

def w141 : State × (Fin 8) :=
  let s : State := live
  let c : Fin 8 := 1
  let s : State := setChan s (c) (fun x => { x with st := 5 })
  (s, c)

def w143 : State × (Fin 8) :=
  let s : State := live
  let c : Fin 8 := 1
  let s : State := setChan s (c) (fun x => { x with st := 5 })
  (s, c)

def w144 : State × (Fin 8) × Word :=
  let s : State := { live with line := { live.line with core := false, node := .ember } }
  let c : Fin 8 := 2
  let v : Word := 0x6e0f6e0f#32
  let s : State := { s with line := { s.line with core := true, por := false, resetLow := false }, snuf := { s.snuf with pastSi := false }, hb := { s.hb with held := none, owns := false }, flt := { s.flt with mgmtDown := false }, boot := { s.boot with phase := .committed } }
  let s : State := setChan s (c) (fun x => { x with st := 4 })
  (s, c, v)

def w145 : State × (Fin 8) :=
  let s : State := live
  let c : Fin 8 := 3
  let dice : Nat := 0
  let s : State := { s with flt := { s.flt with test := some { unit := dice % 50 } } }
  (s, c)

def w148 : State × Req × (Fin 8) × Word :=
  let s : State := live
  let req : Req := Req.host
  let c : Fin 8 := 3
  let dice : Nat := 6
  let s : State := setChan s c (fun k => { k with qwr := 2000, qrd := 1990 })
  let v : Word := BitVec.ofNat 32 ((1985 + dice % 20) * 65536)
  (s, req, c, v)

def w149 : State × Req × (Fin 8) × (BitVec 4) × Word :=
  let s : State := State.reset
  let req : Req := Req.host
  let c : Fin 8 := 1
  let be : BitVec 4 := 0x1#4
  let v : Word := 0x000901c5#32
  let s : State := { s with line := { s.line with core := true, por := false, resetLow := false }, snuf := { s.snuf with pastSi := false }, hb := { s.hb with held := none, owns := false }, flt := { s.flt with mgmtDown := false }, boot := { s.boot with phase := .committed } }
  (s, req, c, be, v)

/-- Each clause of CanChannelStatesComplete has a state and operands that meet its hypotheses. -/
theorem witness_CanChannelStatesComplete :
    (∃ (s : State) (c : Fin 8), canLive s = true ∧ s.can[c].st = 1 ∧ underTest s (8 + c.val) = false ∧ (fUnit s (8 + c.val)).lost = false) ∧
    (∃ (s : State) (c : Fin 8), canLive s = true ∧ s.can[c].st = 5) ∧
    (∃ (s : State) (c : Fin 8), canOnBus s.can[c] = true) ∧
    (∃ (s : State) (c : Fin 8), canLive s = true ∧ s.can[c].st = 5) ∧
    (∃ (s : State) (c : Fin 8) (v : Word), Reaches .host 0x7010 0xF s ∧ switchBusy s = false ∧ bitAt v 0 = true ∧ fld v 31 16 = 0x6E0F ∧ s.can[c].st = 4) ∧
    (∃ (s : State) (c : Fin 8) (q : QEnt), canLive s = true ∧ s.can[c].st = 2 ∧ s.can[c].active = none ∧ s.can[c].stop = false ∧ s.can[c].rec_ + 8 ≤ 127 ∧ s.can[c].tec ≤ 127 ∧ s.flt.test = some q ∧ q.unit ≠ 8 + c.val) ∧
    (∃ (s : State) (c : Fin 8), canLive s = true ∧ s.can[c].st ≠ 0) ∧
    (∃ (s : State) (c : Fin 8), canLive s = true ∧ canOnBus s.can[c] = true) ∧
    (∃ (s : State) (req : Req) (c : Fin 8) (v : Word), Reaches req 0x7020 0xF s ∧ 1 ≤ (fld v 26 16 + 2048 - s.can[c].qrd) % 2048 ∧ (fld v 26 16 + 2048 - s.can[c].qrd) % 2048 ≤ qFill s.can[c]) ∧
    (∃ (s : State) (req : Req) (c : Fin 8) (be : BitVec 4) (v : Word) (n : Nat), Reaches req 0x7028 be s ∧ fld (mergeBe be (getLatch s req (0x7028 + 0x200 * c.val)) v) 9 0 = n) :=
  ⟨⟨w140.1, w140.2, by decide +kernel⟩,
   ⟨w141.1, w141.2, by decide +kernel⟩,
   ⟨live, (2 : Fin 8), by decide +kernel⟩,
   ⟨w143.1, w143.2, by decide +kernel⟩,
   ⟨w144.1, w144.2.1, w144.2.2, by unfold Reaches; decide +kernel⟩,
   ⟨w145.1, w145.2, ((w145.1.flt.test).get (by decide +kernel) : QEnt), by decide +kernel⟩,
   ⟨live, (3 : Fin 8), by decide +kernel⟩,
   ⟨live, (2 : Fin 8), by decide +kernel⟩,
   ⟨w148.1, w148.2.1, w148.2.2.1, w148.2.2.2, by unfold Reaches; decide +kernel⟩,
   ⟨w149.1, w149.2.1, w149.2.2.1, w149.2.2.2.1, w149.2.2.2.2, ((fld (mergeBe w149.2.2.2.1 (getLatch w149.1 w149.2.1 (0x7028 + 0x200 * w149.2.2.1.val)) w149.2.2.2.2) 9 0) : Nat), by unfold Reaches; decide +kernel⟩⟩

def w150 : State × Req × (Fin 8) × (Fin 128) :=
  let s : State := live
  let req : Req := Req.far
  let c : Fin 8 := 1
  let dice : Nat := 0
  let mk (cfg : Word) : CObj := { cfg := cfg, st := dice % 9, pbuf := dice / 16 % 2 = 0, b0 := { full := dice / 32 % 2 = 0 }, b1 := { full := dice / 64 % 2 = 0 }, follow := dice / 128 % 4 = 0, staged := dice / 512 % 4 = 0, cancel := dice / 2048 % 4 = 0, oid := BitVec.ofNat 32 (dice % 2048), coll := dice % 7 }
  let s : State := setChan s c (fun k => { k with objs := [(3, mk 0xC0000000), (7, mk (0xC2000000 ||| BitVec.ofNat 32 ((dice % 3) * 2^23))), (9, mk 0x80000000), (11, mk 0xC1000000)] })
  let o : Fin 128 := Fin.ofNat 128 ([3,7,9,11].getD (dice % 4) 3)
  (s, req, c, o)

def w151 : State × Req × (Fin 8) × (Fin 128) :=
  let s : State := live
  let req : Req := Req.host
  let c : Fin 8 := 1
  let dice : Nat := 0
  let mk (cfg : Word) : CObj := { cfg := cfg, st := dice % 9, pbuf := dice / 16 % 2 = 0, b0 := { full := dice / 32 % 2 = 0 }, b1 := { full := dice / 64 % 2 = 0 }, follow := dice / 128 % 4 = 0, staged := dice / 512 % 4 = 0, cancel := dice / 2048 % 4 = 0, oid := BitVec.ofNat 32 (dice % 2048), coll := dice % 7 }
  let s : State := setChan s c (fun k => { k with objs := [(3, mk 0xC0000000), (7, mk (0xC2000000 ||| BitVec.ofNat 32 ((dice % 3) * 2^23))), (9, mk 0x80000000), (11, mk 0xC1000000)] })
  let o : Fin 128 := Fin.ofNat 128 ([3,7,9,11].getD (dice % 4) 3)
  (s, req, c, o)

def w152 : State × Req × (Fin 8) × (Fin 128) × Bool :=
  let s : State := live
  let req : Req := Req.host
  let c : Fin 8 := 2
  let early : Bool := true
  let dice : Nat := 19
  let mk (cfg : Word) : CObj := { cfg := cfg, st := dice % 9, pbuf := dice / 16 % 2 = 0, b0 := { full := dice / 32 % 2 = 0 }, b1 := { full := dice / 64 % 2 = 0 }, follow := dice / 128 % 4 = 0, staged := dice / 512 % 4 = 0, cancel := dice / 2048 % 4 = 0, oid := BitVec.ofNat 32 (dice % 2048), coll := dice % 7 }
  let s : State := setChan s c (fun k => { k with objs := [(3, mk 0xC0000000), (7, mk (0xC2000000 ||| BitVec.ofNat 32 ((dice % 3) * 2^23))), (9, mk 0x80000000), (11, mk 0xC1000000)] })
  let o : Fin 128 := Fin.ofNat 128 ([3,7,9,11].getD (dice % 4) 3)
  (s, req, c, o, early)

def w153 : State × Req × (Fin 8) × (Fin 128) :=
  let s : State := live
  let req : Req := Req.host
  let c : Fin 8 := 0
  let dice : Nat := 38
  let mk (cfg : Word) : CObj := { cfg := cfg, st := dice % 9, pbuf := dice / 16 % 2 = 0, b0 := { full := dice / 32 % 2 = 0 }, b1 := { full := dice / 64 % 2 = 0 }, follow := dice / 128 % 4 = 0, staged := dice / 512 % 4 = 0, cancel := dice / 2048 % 4 = 0, oid := BitVec.ofNat 32 (dice % 2048), coll := dice % 7 }
  let s : State := setChan s c (fun k => { k with objs := [(3, mk 0xC0000000), (7, mk (0xC2000000 ||| BitVec.ofNat 32 ((dice % 3) * 2^23))), (9, mk 0x80000000), (11, mk 0xC1000000)] })
  let o : Fin 128 := Fin.ofNat 128 ([3,7,9,11].getD (dice % 4) 3)
  (s, req, c, o)

def w154 : State × (Fin 8) × (Fin 128) × Word :=
  let s : State := live
  let c : Fin 8 := 1
  let v : Word := 0x00000000#32
  let dice : Nat := 0
  let mk (cfg : Word) : CObj := { cfg := cfg, st := dice % 9, pbuf := dice / 16 % 2 = 0, b0 := { full := dice / 32 % 2 = 0 }, b1 := { full := dice / 64 % 2 = 0 }, follow := dice / 128 % 4 = 0, staged := dice / 512 % 4 = 0, cancel := dice / 2048 % 4 = 0, oid := BitVec.ofNat 32 (dice % 2048), coll := dice % 7 }
  let s : State := setChan s c (fun k => { k with objs := [(3, mk 0xC0000000), (7, mk (0xC2000000 ||| BitVec.ofNat 32 ((dice % 3) * 2^23))), (9, mk 0x80000000), (11, mk 0xC1000000)] })
  let o : Fin 128 := Fin.ofNat 128 ([3,7,9,11].getD (dice % 4) 3)
  (s, c, o, v)

def w156 : State × (Fin 11) :=
  let s : State := { live with line := { live.line with core := false, node := .ember } }
  let u : Fin 11 := 0
  let dice : Nat := 33
  let s : State := { s with line := { s.line with core := true }, boot := { s.boot with phase := if s.boot.phase = .reset then .committed else s.boot.phase } }
  let s : State := { s with lamp := { s.lamp with idle := BitVec.ofNat 11 dice, dead := BitVec.ofNat 11 (dice / 2048), need := BitVec.ofNat 11 (dice / 32) } }
  (s, u)

/-- Each clause of CanObjectsAndLamplighterComplete has a state and operands that meet its hypotheses. -/
theorem witness_CanObjectsAndLamplighterComplete :
    (∃ (s : State) (req : Req) (c : Fin 8) (o : Fin 128) (x : CObj), mayWrite s req = true ∧ switchBusy s = false ∧ canRefused s c 1 o.val = false ∧ s.can[c].fifo = [] ∧ lampServes s c.val = true ∧ mget s.can[c].objs o.val = some x ∧ x.st ≠ 2 ∧ bitAt x.cfg 31 = true ∧ canTx s.can[c] = true) ∧
    (∃ (s : State) (req : Req) (c : Fin 8) (o : Fin 128) (x : CObj), mayWrite s req = true ∧ switchBusy s = false ∧ canRefused s c 2 o.val = false ∧ s.can[c].fifo = [] ∧ lampServes s c.val = true ∧ mget s.can[c].objs o.val = some x ∧ x.st ≠ 2) ∧
    (∃ (s : State) (req : Req) (c : Fin 8) (o : Fin 128) (x : CObj), mayWrite s req = true ∧ switchBusy s = false ∧ canRefused s c 3 o.val = false ∧ s.can[c].fifo = [] ∧ lampServes s c.val = true ∧ mget s.can[c].objs o.val = some x ∧ x.st = 1) ∧
    (∃ (s : State) (req : Req) (c : Fin 8) (o : Fin 128) (x : CObj), mayWrite s req = true ∧ switchBusy s = false ∧ canRefused s c 4 o.val = false ∧ s.can[c].fifo = [] ∧ lampServes s c.val = true ∧ mget s.can[c].objs o.val = some x ∧ (shadBuf x).full = false) ∧
    (∃ (s : State) (c : Fin 8) (o : Fin 128) (x : CObj), lbusFree s = true ∧ mget s.can[c].objs o.val = some x ∧ isTx x = true ∧ bitAt x.cfg 23 = false) ∧
    (∃ (s : State) (u : Fin 11), coreRun s = true ∧ lampServes s u.val = true) ∧
    (∃ (s : State) (u : Fin 11), coreRun s = true ∧ s.lamp.idle.getLsbD u.val = true ∧ s.lamp.need.getLsbD u.val = true ∧ s.hb.inq = []) :=
  ⟨⟨w150.1, w150.2.1, w150.2.2.1, w150.2.2.2, ((mget w150.1.can[w150.2.2.1].objs w150.2.2.2.val).get (by decide +kernel) : CObj), by decide +kernel⟩,
   ⟨w151.1, w151.2.1, w151.2.2.1, w151.2.2.2, ((mget w151.1.can[w151.2.2.1].objs w151.2.2.2.val).get (by decide +kernel) : CObj), by decide +kernel⟩,
   ⟨w152.1, w152.2.1, w152.2.2.1, w152.2.2.2.1, ((mget w152.1.can[w152.2.2.1].objs w152.2.2.2.1.val).get (by decide +kernel) : CObj), by decide +kernel⟩,
   ⟨w153.1, w153.2.1, w153.2.2.1, w153.2.2.2, ((mget w153.1.can[w153.2.2.1].objs w153.2.2.2.val).get (by decide +kernel) : CObj), by decide +kernel⟩,
   ⟨w154.1, w154.2.1, w154.2.2.1, ((mget w154.1.can[w154.2.1].objs w154.2.2.1.val).get (by decide +kernel) : CObj), by decide +kernel⟩,
   ⟨live, (9 : Fin 11), by decide +kernel⟩,
   ⟨w156.1, w156.2, by decide +kernel⟩⟩

def w157 : State × Nat × (BitVec 4) × Word × Nat :=
  let s : State := live
  let be : BitVec 4 := 0xc#4
  let v : Word := 0x00004000#32
  let dice : Nat := 32
  let n := dice % 16
  let s : State := winW s n (dice / 16)
  let addr := 0x1000000 + 4 * (dice / 64 % 1000)
  let be : BitVec 4 := if dice % 3 = 0 then be else 0xF
  (s, addr, be, v, n)

def w158 : State × Nat × (BitVec 4) × Word × Nat :=
  let s : State := live
  let be : BitVec 4 := 0x1#4
  let v : Word := 0x00000000#32
  let dice : Nat := 0
  let n := dice % 16
  let s : State := winW s n (dice / 16)
  let addr := 0x1000000 + 4 * (dice / 64 % 1000)
  let be : BitVec 4 := if dice % 3 = 0 then be else 0xF
  (s, addr, be, v, n)

def w159 : State × Nat × (BitVec 4) × Nat :=
  let s : State := live
  let be : BitVec 4 := 0xf#4
  let dice : Nat := 0
  let n := dice % 16
  let s : State := winW s n (dice / 16)
  let addr := 0x1000000 + 4 * (dice / 64 % 1000)
  let be : BitVec 4 := if dice % 3 = 0 then be else 0xF
  (s, addr, be, n)

def w160 : State × Nat × (BitVec 4) :=
  let s : State := live
  let dice : Nat := 1
  let n := dice % 16
  let s : State := winW s n (dice / 16)
  let addr := 0x1000000 + 4 * (dice / 64 % 1000)
  let be : BitVec 4 := 0xF
  let s : State := { s with hb := { s.hb with tags := (5, { kind := 0, win := n, addr := addr, be := 15, data := 0, handle := 3, tseq := 1, answer := if dice % 3 = 0 then none else some (0, 7) }) :: s.hb.tags } }
  (s, addr, be)

def w161 : State × Word × Word :=
  let s : State := live
  let v : Word := 0x0000000f#32
  let s : State := { s with boot := { s.boot with lbus := false } }
  let a : Word := 0xF0000014#32
  (s, a, v)

def w162 : State × Word :=
  let s : State := live
  let a : Word := 0x00000000#32
  let s : State := { s with boot := { s.boot with lbus := false } }
  let a : Word := 0xF0000000#32 ||| (a &&& 0xFFFC#32)
  (s, a)

/-- Each clause of RemoteAccessesComplete has a state and operands that meet its hypotheses. -/
theorem witness_RemoteAccessesComplete :
    (∃ (s : State) (addr : Nat) (be : BitVec 4) (v : Word) (n : Nat), lbusFree s = true ∧ 0x1000000 ≤ addr ∧ addr < 0x4000000 ∧ contiguous be = true ∧ remoteRefuse s addr be.toNat true = (0, n) ∧ bitAt (winCfg s n) 19 = false ∧ s.hb.locked ≠ some n ∧ writeTag s addr be.toNat v = none ∧ bridgeBusy s = false ∧ BridgeSends s) ∧
    (∃ (s : State) (addr : Nat) (be : BitVec 4) (v : Word) (n : Nat) (tg : Nat), lbusFree s = true ∧ 0x1000000 ≤ addr ∧ addr < 0x4000000 ∧ contiguous be = true ∧ remoteRefuse s addr be.toNat true = (0, n) ∧ (bitAt (winCfg s n) 19 = true ∨ s.hb.locked = some n) ∧ BridgeSends s ∧ writeTag s addr be.toNat v = none ∧ bridgeBusy s = false ∧ freeTag s = some tg) ∧
    (∃ (s : State) (addr : Nat) (be : BitVec 4) (n : Nat) (tg : Nat), lbusFree s = true ∧ 0x1000000 ≤ addr ∧ addr < 0x4000000 ∧ contiguous be = true ∧ remoteRefuse s addr be.toNat false = (0, n) ∧ BridgeSends s ∧ readTag s addr be.toNat = none ∧ bridgeBusy s = false ∧ freeTag s = some tg) ∧
    (∃ (s : State) (addr : Nat) (be : BitVec 4) (tg : Nat) (x : Tag) (d : Word), lbusFree s = true ∧ 0x1000000 ≤ addr ∧ addr < 0x4000000 ∧ contiguous be = true ∧ readTag s addr be.toNat = some (tg, x) ∧ x.answer = some (0, d)) ∧
    (∃ (s : State) (a : Word), spiAlive s = true ∧ s.hb.held = none ∧ s.hb.owns = false ∧ switchBusy s = false ∧ 4 * fld a 25 2 = 0x14 ∧ fld a 31 28 = 0xF) ∧
    (∃ (s : State) (a : Word), spiAlive s = true ∧ 4 * fld a 25 2 < 0x10000 ∧ effectReg (4 * fld a 25 2) = false ∧ fld a 31 28 = 0xF) :=
  ⟨⟨w157.1, w157.2.1, w157.2.2.1, w157.2.2.2.1, w157.2.2.2.2, by unfold BridgeSends; decide +kernel⟩,
   ⟨w158.1, w158.2.1, w158.2.2.1, w158.2.2.2.1, w158.2.2.2.2, ((freeTag w158.1).get (by decide +kernel) : Nat), by unfold BridgeSends; decide +kernel⟩,
   ⟨w159.1, w159.2.1, w159.2.2.1, w159.2.2.2, ((freeTag w159.1).get (by decide +kernel) : Nat), by unfold BridgeSends; decide +kernel⟩,
   ⟨w160.1, w160.2.1, w160.2.2, (((readTag w160.1 w160.2.1 w160.2.2.toNat).map (fun q_ => q_.1)).get (by decide +kernel) : Nat), (((readTag w160.1 w160.2.1 w160.2.2.toNat).map (fun q_ => q_.2)).get (by decide +kernel) : Tag), ((((((readTag w160.1 w160.2.1 w160.2.2.toNat).map (fun q_ => q_.2)).get (by decide +kernel) : Tag).answer).map (fun q_ => q_.2)).get (by decide +kernel) : Word), by decide +kernel⟩,
   ⟨w161.1, w161.2.1, by decide +kernel⟩,
   ⟨w162.1, w162.2, by decide +kernel⟩⟩

def w163 : State × Bytes :=
  let s : State := live
  let dice : Nat := 0
  let n := dice % 16
  let hd := true
  let s : State := { s with hb := { s.hb with tags := [(dice % 64, { kind := 1, win := n, addr := 64, be := 15, data := 0, handle := 3, tseq := 9, held := hd })], held := if hd then some { addr := 64, be := 15, data := 0, lock := 1 == 2 } else none } }
  let f := msgW s 0x81 n 0 9 (dice % 64) (if dice / 64 % 2 = 0 then 0 else 0x13) 0 15 false [1,2,3,4]
  (s, f)

def w164 : State × Bytes :=
  let s : State := live
  let dice : Nat := 0
  let n := dice % 16
  let hd := false
  let s : State := { s with hb := { s.hb with tags := [(dice % 64, { kind := 0, win := n, addr := 64, be := 15, data := 0, handle := 3, tseq := 9, held := hd })], held := if hd then some { addr := 64, be := 15, data := 0, lock := 0 == 2 } else none } }
  let f := msgW s 0x83 n 0 9 (dice % 64) (if dice / 64 % 2 = 0 then 0 else 0x13) 0 15 false [1,2,3,4]
  (s, f)

def w165 : State × Bytes :=
  let s : State := live
  let dice : Nat := 0
  let n := dice % 16
  let hd := true
  let s : State := { s with hb := { s.hb with tags := [(dice % 64, { kind := 2, win := n, addr := 64, be := 15, data := 0, handle := 3, tseq := 9, held := hd })], held := if hd then some { addr := 64, be := 15, data := 0, lock := 2 == 2 } else none, lockWin := some n } }
  let f := msgW s 0x85 n 0 9 (dice % 64) (if dice / 64 % 2 = 0 then 0 else 0x13) 0 15 false [1,2,3,4]
  (s, f)

def w166 : State × Bytes × Nat :=
  let s : State := live
  let stamp : Nat := 108493826960
  let dice : Nat := 128
  let n := dice % 16
  let f := msgW s 0x90 n 0 9 0xFF 0x11 (dice % 10000) 15 false []
  (s, f, stamp)

def w167 : State × (Fin 64) :=
  let s : State := live
  let tg : Fin 64 := 1
  let dice : Nat := 0
  let n := dice % 16
  let s : State := { s with hb := { s.hb with tags := [(tg.val, { kind := dice % 3, win := n, addr := 64, be := 15, data := 0, handle := 3, tseq := 9 })] } }
  (s, tg)

def w168 : State × (Fin 64) :=
  let s : State := live
  let tg : Fin 64 := 44
  let dice : Nat := 0
  let n := dice % 16
  let s : State := { s with hb := { s.hb with tags := [(tg.val, { kind := dice % 3, win := n, addr := 64, be := 15, data := 0, handle := 3, tseq := 9, answer := some (0, 5) })] } }
  (s, tg)

/-- Each clause of BridgeAnswersComplete has a state and operands that meet its hypotheses. -/
theorem witness_BridgeAnswersComplete :
    (∃ (s : State) (f : Bytes) (b : Bytes) (tg : Nat) (x : Tag) (h : Held), bridgeMsg f = some b ∧ forUs s b = true ∧ byteAt b 14 = 0x81 ∧ answers s b (readHdr f).src 1 = some (tg, x) ∧ x.held = true ∧ s.hb.held = some h ∧ byteAt b 21 = 0) ∧
    (∃ (s : State) (f : Bytes) (b : Bytes) (tg : Nat) (x : Tag), bridgeMsg f = some b ∧ forUs s b = true ∧ byteAt b 14 = 0x83 ∧ answers s b (readHdr f).src 0 = some (tg, x) ∧ x.held = false) ∧
    (∃ (s : State) (f : Bytes) (b : Bytes) (tg : Nat) (x : Tag) (h : Held), bridgeMsg f = some b ∧ forUs s b = true ∧ byteAt b 14 = 0x85 ∧ answers s b (readHdr f).src 2 = some (tg, x) ∧ x.held = true ∧ s.hb.held = some h ∧ byteAt b 21 = 0) ∧
    (∃ (s : State) (f : Bytes) (b : Bytes), coreRun s = true ∧ bridgeMsg f = some b ∧ forUs s b = true ∧ byteAt b 14 = 0x90 ∧ byteAt b 21 ≠ 0x16 ∧ byteAt b 21 ≠ 0x18 ∧ s.hb.log.length < 16 ∧ mget s.log.limits (4096 * 0x9010 + byteAt b 16 % 16) = none ∧ bitAt (winCfg s (byteAt b 16 % 16)) 16 = false) ∧
    (∃ (s : State) (tg : Fin 64) (x : Tag), coreRun s = true ∧ mget s.hb.tags tg.val = some x ∧ x.answer = none ∧ x.held = false ∧ mget s.log.limits (4096 * 0x9020 + 0xFFF) = none) ∧
    (∃ (s : State) (tg : Fin 64) (x : Tag) (c : Nat) (d : Word), coreRun s = true ∧ mget s.hb.tags tg.val = some x ∧ x.answer = some (c, d) ∧ x.kind ≠ 2 ∧ mget s.log.limits (4096 * 0x9021 + 0xFFF) = none) :=
  ⟨⟨w163.1, w163.2, ((bridgeMsg w163.2).get (by decide +kernel) : Bytes), (((answers w163.1 ((bridgeMsg w163.2).get (by decide +kernel) : Bytes) (readHdr w163.2).src 1).map (fun q_ => q_.1)).get (by decide +kernel) : Nat), (((answers w163.1 ((bridgeMsg w163.2).get (by decide +kernel) : Bytes) (readHdr w163.2).src 1).map (fun q_ => q_.2)).get (by decide +kernel) : Tag), ((w163.1.hb.held).get (by decide +kernel) : Held), by decide +kernel⟩,
   ⟨w164.1, w164.2, ((bridgeMsg w164.2).get (by decide +kernel) : Bytes), (((answers w164.1 ((bridgeMsg w164.2).get (by decide +kernel) : Bytes) (readHdr w164.2).src 0).map (fun q_ => q_.1)).get (by decide +kernel) : Nat), (((answers w164.1 ((bridgeMsg w164.2).get (by decide +kernel) : Bytes) (readHdr w164.2).src 0).map (fun q_ => q_.2)).get (by decide +kernel) : Tag), by decide +kernel⟩,
   ⟨w165.1, w165.2, ((bridgeMsg w165.2).get (by decide +kernel) : Bytes), (((answers w165.1 ((bridgeMsg w165.2).get (by decide +kernel) : Bytes) (readHdr w165.2).src 2).map (fun q_ => q_.1)).get (by decide +kernel) : Nat), (((answers w165.1 ((bridgeMsg w165.2).get (by decide +kernel) : Bytes) (readHdr w165.2).src 2).map (fun q_ => q_.2)).get (by decide +kernel) : Tag), ((w165.1.hb.held).get (by decide +kernel) : Held), by decide +kernel⟩,
   ⟨w166.1, w166.2.1, ((bridgeMsg w166.2.1).get (by decide +kernel) : Bytes), by decide +kernel⟩,
   ⟨w167.1, w167.2, ((mget w167.1.hb.tags w167.2.val).get (by decide +kernel) : Tag), by decide +kernel⟩,
   ⟨w168.1, w168.2, ((mget w168.1.hb.tags w168.2.val).get (by decide +kernel) : Tag), (((((mget w168.1.hb.tags w168.2.val).get (by decide +kernel) : Tag).answer).map (fun q_ => q_.1)).get (by decide +kernel) : Nat), (((((mget w168.1.hb.tags w168.2.val).get (by decide +kernel) : Tag).answer).map (fun q_ => q_.2)).get (by decide +kernel) : Word), by decide +kernel⟩⟩

def w169 : State × Bytes :=
  let s : State := live
  let dice : Nat := 0
  let n := dice % 16
  let f := msgW s 1 n 0 9 (dice % 64) 0 (0x14) 15 (dice % 3 == 2) [1,2,3,4]
  (s, f)

def w170 : State × Bytes :=
  let s : State := live
  let dice : Nat := 0
  let n := dice % 16
  let f := msgW s 2 n 0 9 (dice % 64) 0 (0x14) 15 (dice % 3 == 2) [1,2,3,4]
  (s, f)

def w171 : State × Bytes :=
  let s : State := live
  let dice : Nat := 0
  let n := dice % 16
  let f := msgW s 3 n 0 9 (dice % 64) 0 (4 * (dice % 8000)) 15 (dice % 3 == 2) [1,2,3,4]
  (s, f)

def w172 : State × Bytes :=
  let s : State := live
  let dice : Nat := 0
  let n := dice % 16
  let f := msgW s 4 n 0 9 (dice % 64) 0 (dice % 32) 15 (dice % 3 == 2) [1,2,3,4]
  (s, f)

def w173 : State × Bytes × (Fin 32) :=
  let s : State := live
  let i : Fin 32 := 1
  let dice : Nat := 1
  let n := dice % 16
  let f := msgW s 5 n (dice % 3) 9 (dice % 64) 0 (dice % 64) 15 (dice % 3 == 2) [1,2,3,4]
  (s, f, i)

def w174 : State × Bytes × (Fin 32) :=
  let s : State := live
  let i : Fin 32 := 1
  let dice : Nat := 1
  let n := dice % 16
  let s : State := { s with hb := { s.hb with sems := Vector.replicate 32 3, semSeg := [(3,1,1),(5,1,2)] } }
  let f := msgW s 6 n (dice % 3) 9 (dice % 64) 0 (dice % 64) 15 (dice % 3 == 2) [1,2,3,4]
  (s, f, i)

/-- Each clause of BridgeTargetComplete has a state and operands that meet its hypotheses. -/
theorem witness_BridgeTargetComplete :
    (∃ (s : State) (f : Bytes) (b : Bytes) (r : HbReq), BridgeIdle s ∧ bridgeMsg f = some b ∧ forUs s b = true ∧ readReq f b = r ∧ r.bop = 1 ∧ r.space = 0 ∧ r.addr = 0x14 ∧ r.be = 15 ∧ r.data.length = 4 ∧ tgtRefuse s r = 0 ∧ InSeq s b r) ∧
    (∃ (s : State) (f : Bytes) (b : Bytes) (r : HbReq), BridgeIdle s ∧ bridgeMsg f = some b ∧ forUs s b = true ∧ readReq f b = r ∧ r.bop = 2 ∧ r.space = 0 ∧ r.addr = 0x14 ∧ r.be = 15 ∧ r.data.length = 4 ∧ tgtRefuse s r = 0 ∧ InSeq s b r ∧ BridgeSends s) ∧
    (∃ (s : State) (f : Bytes) (b : Bytes) (r : HbReq), BridgeIdle s ∧ bridgeMsg f = some b ∧ forUs s b = true ∧ readReq f b = r ∧ r.bop = 3 ∧ r.space = 0 ∧ effectReg r.addr = false ∧ tgtRefuse s r = 0 ∧ InSeq s b r ∧ BridgeSends s) ∧
    (∃ (s : State) (f : Bytes) (b : Bytes) (r : HbReq), BridgeIdle s ∧ bridgeMsg f = some b ∧ forUs s b = true ∧ readReq f b = r ∧ r.bop = 4 ∧ tgtRefuse s r = 0 ∧ InSeq s b r) ∧
    (∃ (s : State) (f : Bytes) (b : Bytes) (r : HbReq) (i : Fin 32), BridgeIdle s ∧ bridgeMsg f = some b ∧ forUs s b = true ∧ readReq f b = r ∧ r.bop = 5 ∧ r.space ≠ 2 ∧ r.addr % 32 = i.val ∧ s.hb.sems[i] = 0 ∧ tgtRefuse s r = 0 ∧ InSeq s b r ∧ BridgeSends s) ∧
    (∃ (s : State) (f : Bytes) (b : Bytes) (r : HbReq) (i : Fin 32), BridgeIdle s ∧ bridgeMsg f = some b ∧ forUs s b = true ∧ readReq f b = r ∧ r.bop = 6 ∧ r.space ≠ 2 ∧ r.addr % 32 = i.val ∧ s.hb.sems[i] = r.src ∧ r.src ≠ 0 ∧ tgtRefuse s r = 0 ∧ InSeq s b r) :=
  ⟨⟨w169.1, w169.2, ((bridgeMsg w169.2).get (by decide +kernel) : Bytes), ((readReq w169.2 ((bridgeMsg w169.2).get (by decide +kernel) : Bytes)) : HbReq), by unfold BridgeIdle InSeq; decide +kernel⟩,
   ⟨w170.1, w170.2, ((bridgeMsg w170.2).get (by decide +kernel) : Bytes), ((readReq w170.2 ((bridgeMsg w170.2).get (by decide +kernel) : Bytes)) : HbReq), by unfold BridgeSends BridgeIdle InSeq; decide +kernel⟩,
   ⟨w171.1, w171.2, ((bridgeMsg w171.2).get (by decide +kernel) : Bytes), ((readReq w171.2 ((bridgeMsg w171.2).get (by decide +kernel) : Bytes)) : HbReq), by unfold BridgeSends BridgeIdle InSeq; decide +kernel⟩,
   ⟨w172.1, w172.2, ((bridgeMsg w172.2).get (by decide +kernel) : Bytes), ((readReq w172.2 ((bridgeMsg w172.2).get (by decide +kernel) : Bytes)) : HbReq), by unfold BridgeIdle InSeq; decide +kernel⟩,
   ⟨w173.1, w173.2.1, ((bridgeMsg w173.2.1).get (by decide +kernel) : Bytes), ((readReq w173.2.1 ((bridgeMsg w173.2.1).get (by decide +kernel) : Bytes)) : HbReq), w173.2.2, by unfold BridgeSends BridgeIdle InSeq; decide +kernel⟩,
   ⟨w174.1, w174.2.1, ((bridgeMsg w174.2.1).get (by decide +kernel) : Bytes), ((readReq w174.2.1 ((bridgeMsg w174.2.1).get (by decide +kernel) : Bytes)) : HbReq), w174.2.2, by unfold BridgeIdle InSeq; decide +kernel⟩⟩

def w175 : State :=
  let s : State := live
  let dice : Nat := 0
  let n := dice % 16
  let s : State := winW s n (dice / 16)
  let s : State := { s with hb := { s.hb with bus := true, owns := false, acc := false, inq := [{ bop := 3, src := 3, smac := 78, win := n, space := 2, tseq := 44, tag := 3, addr := 4 * (dice % 1024), be := 15, order := 1, data := [] }] } }
  s

def w176 : State × Word :=
  let s : State := live
  let d : Word := 0x00000001#32
  let dice : Nat := 0
  let n := dice % 16
  let s : State := { s with hb := { s.hb with bus := false, owns := true, acc := true, inq := [{ bop := 3, src := 3, smac := 78, win := n, space := 2, tseq := 44, tag := 3, addr := 4 * (dice % 1024), be := 15, order := 1, data := [] }] } }
  (s, d)

def w177 : State :=
  let s : State := live
  let dice : Nat := 0
  let n := dice % 16
  let s : State := winW s n (dice / 16)
  let s : State := { s with hb := { s.hb with bus := false, owns := true, acc := true, inq := [{ bop := 3, src := 3, smac := 78, win := n, space := 2, tseq := 44, tag := 3, addr := 4 * (dice % 1024), be := 15, order := 1, data := [] }] } }
  s

def w178 : State :=
  let s : State := live
  let dice : Nat := 0
  let n := dice % 16
  let s : State := winW s n (dice / 16)
  let s : State := { s with hb := { s.hb with bus := true, owns := false, acc := false, inq := [{ bop := 3, src := 3, smac := 78, win := n, space := 2, tseq := 44, tag := 3, addr := 4 * (dice % 1024), be := 15, order := 1, data := [] }] } }
  s

def w179 : State :=
  let s : State := live
  let dice : Nat := 0
  let n := dice % 16
  let s : State := { s with hb := { s.hb with bus := false, owns := true, acc := true, inq := [{ bop := 3, src := 3, smac := 78, win := n, space := 2, tseq := 44, tag := 3, addr := 4 * (dice % 1024), be := 15, order := 1, data := [] }] } }
  s

def w180 : State :=
  let s : State := live
  let s : State := { s with hb := { s.hb with owns := true } }
  s

/-- Each clause of BusMasteringComplete has a state and operands that meet its hypotheses. -/
theorem witness_BusMasteringComplete :
    (∃ (s : State) (r : HbReq) (m : Nat) (a : Nat), bscan s = false ∧ lampServes s 9 = true ∧ s.hb.bus = true ∧ s.hb.owns = false ∧ s.hb.acc = false ∧ s.hb.far = none ∧ s.hb.inq = [r] ∧ r.bop = 3 ∧ r.beat = 0 ∧ needsBus s r = true ∧ mbxAt s false r.addr 4 = some (m, a)) ∧
    (∃ (s : State) (r : HbReq), s.hb.acc = true ∧ s.hb.owns = true ∧ s.hb.gone = false ∧ s.hb.far = none ∧ s.hb.inq = [r] ∧ r.bop = 3 ∧ r.src < 256 ∧ r.win < 256 ∧ r.tseq < 65536 ∧ r.tag < 256 ∧ BridgeSends s) ∧
    (∃ (s : State) (r : HbReq) (m : Nat) (a : Nat), coreRun s = true ∧ s.hb.acc = true ∧ s.hb.owns = true ∧ s.hb.gone = false ∧ s.hb.far = none ∧ s.hb.inq = [r] ∧ r.bop = 3 ∧ r.src < 256 ∧ r.win < 256 ∧ r.tseq < 65536 ∧ r.tag < 256 ∧ mbxAt s false r.addr 4 = some (m, a) ∧ BridgeSends s) ∧
    (∃ (s : State) (r : HbReq) (m : Nat) (a : Nat), coreRun s = true ∧ s.hb.bus = true ∧ s.hb.owns = false ∧ s.hb.acc = false ∧ s.hb.far = none ∧ s.hb.inq = [r] ∧ r.bop = 3 ∧ r.src < 256 ∧ r.win < 256 ∧ r.tseq < 65536 ∧ r.tag < 256 ∧ mbxAt s false r.addr 4 = some (m, a) ∧ BridgeSends s) ∧
    (∃ (s : State) (r : HbReq), s.hb.owns = true ∧ s.hb.farOn = false ∧ s.hb.acc = true ∧ s.hb.inq = [r]) ∧
    (∃ (s : State), s.hb.owns = true ∧ s.hb.farOn = false ∧ s.hb.acc = false ∧ s.hb.inq = [] ∧ s.hb.far = none) :=
  ⟨⟨w175, (((w175.hb.inq).head?).get (by decide +kernel) : HbReq), (((mbxAt w175 false (((w175.hb.inq).head?).get (by decide +kernel) : HbReq).addr 4).map (fun q_ => q_.1)).get (by decide +kernel) : Nat), (((mbxAt w175 false (((w175.hb.inq).head?).get (by decide +kernel) : HbReq).addr 4).map (fun q_ => q_.2)).get (by decide +kernel) : Nat), by decide +kernel⟩,
   ⟨w176.1, (((w176.1.hb.inq).head?).get (by decide +kernel) : HbReq), by unfold BridgeSends; decide +kernel⟩,
   ⟨w177, (((w177.hb.inq).head?).get (by decide +kernel) : HbReq), (((mbxAt w177 false (((w177.hb.inq).head?).get (by decide +kernel) : HbReq).addr 4).map (fun q_ => q_.1)).get (by decide +kernel) : Nat), (((mbxAt w177 false (((w177.hb.inq).head?).get (by decide +kernel) : HbReq).addr 4).map (fun q_ => q_.2)).get (by decide +kernel) : Nat), by unfold BridgeSends; decide +kernel⟩,
   ⟨w178, (((w178.hb.inq).head?).get (by decide +kernel) : HbReq), (((mbxAt w178 false (((w178.hb.inq).head?).get (by decide +kernel) : HbReq).addr 4).map (fun q_ => q_.1)).get (by decide +kernel) : Nat), (((mbxAt w178 false (((w178.hb.inq).head?).get (by decide +kernel) : HbReq).addr 4).map (fun q_ => q_.2)).get (by decide +kernel) : Nat), by unfold BridgeSends; decide +kernel⟩,
   ⟨w179, (((w179.hb.inq).head?).get (by decide +kernel) : HbReq), by decide +kernel⟩,
   ⟨w180, by decide +kernel⟩⟩

def w181 : State × Word :=
  let s : State := live
  let dice : Nat := 0
  let n := dice % 16
  let s : State := winW s n (dice / 16)
  let v : Word := BitVec.ofNat 32 (16 * (dice % 32) + n)
  (s, v)

def w182 : State × Word :=
  let s : State := live
  let dice : Nat := 0
  let n := dice % 16
  let s : State := winW s n (dice / 16)
  let v : Word := BitVec.ofNat 32 (256 + n)
  (s, v)

def w183 : State × Word :=
  let s : State := live
  let dice : Nat := 0
  let n := dice % 16
  let v : Word := BitVec.ofNat 32 (512 + n)
  let s : State := { s with hb := { s.hb with locked := some n } }
  (s, v)

def w184 : State :=
  let s : State := live
  let dice : Nat := 0
  let n := dice % 16
  let s : State := { s with hb := { s.hb with lockWin := some n, tags := [] } }
  s

def w185 : State × (Fin 32) :=
  let s : State := live
  let i : Fin 32 := 24
  let dice : Nat := 0
  let n := dice % 16
  let s : State := { s with hb := { s.hb with sems := Vector.replicate 32 (1 + dice % 3), semSeg := [(i.val, n, 17)] } }
  (s, i)

def w186 : State × (Fin 32) × Word :=
  let s : State := State.reset
  let i : Fin 32 := 10
  let v : Word := 0x91009100#32
  let s : State := { s with line := { s.line with core := true, por := false, resetLow := false }, snuf := { s.snuf with pastSi := false }, hb := { s.hb with held := none, owns := false }, flt := { s.flt with mgmtDown := false }, boot := { s.boot with phase := .committed } }
  (s, i, v)

def w187 : State × (Fin 32) × Word :=
  let s : State := live
  let i : Fin 32 := 23
  let s : State := { s with hb := { s.hb with sems := Vector.replicate 32 0xFF } }
  let v : Word := 0x200#32
  (s, i, v)

/-- Each clause of BridgeLocksComplete has a state and operands that meet its hypotheses. -/
theorem witness_BridgeLocksComplete :
    (∃ (s : State) (v : Word) (n : Nat), Reaches .host 0x9020 0xF s ∧ switchBusy s = false ∧ fld v 3 0 = n ∧ WinReady s n ∧ bridgeBusy s = false) ∧
    (∃ (s : State) (v : Word) (n : Nat) (tg : Nat), Reaches .host 0x902C 0xF s ∧ switchBusy s = false ∧ bitAt v 8 = true ∧ fld v 3 0 = n ∧ WinReady s n ∧ bridgeBusy s = false ∧ s.hb.lockWin = none ∧ s.hb.locked = none ∧ fld (winCfg s n) 18 17 ≠ 0 ∧ freeTag s = some tg ∧ s.boot.lbus = true) ∧
    (∃ (s : State) (v : Word) (n : Nat), Reaches .host 0x902C 0xF s ∧ switchBusy s = false ∧ bitAt v 8 = false ∧ bitAt v 9 = true ∧ fld v 3 0 = n ∧ s.hb.locked = some n ∧ underTest s 0x23 = false ∧ BridgeSends s) ∧
    (∃ (s : State) (n : Nat) (tg : Nat), s.hb.lockWin = some n ∧ n < 16 ∧ lockTag s = none ∧ freeTag s = some tg ∧ BridgeSends s) ∧
    (∃ (s : State) (i : Fin 32) (w : Nat) (q : Nat), coreRun s = true ∧ s.hb.sems[i] ≠ 0 ∧ s.hb.sems[i] < 0xFF ∧ s.hb.semSeg.find? (fun x => x.1 == i.val) = some (i.val, w, q) ∧ w < 256 ∧ q < 65536 ∧ BridgeSends s) ∧
    (∃ (s : State) (i : Fin 32) (v : Word), Reaches .host 0x9100 0xF s ∧ switchBusy s = false ∧ bitAt v 8 = true ∧ s.hb.sems[i] = 0) ∧
    (∃ (s : State) (i : Fin 32) (v : Word), Reaches .host 0x9100 0xF s ∧ switchBusy s = false ∧ bitAt v 9 = true ∧ s.hb.sems[i] = 0xFF) ∧
    (∃ (s : State) (req : Req), Reaches req 0x9504 0xF s) ∧
    (∃ (s : State) (req : Req), Reaches req 0x900C 0xF s) :=
  ⟨⟨w181.1, w181.2, ((fld w181.2 3 0) : Nat), by unfold Reaches WinReady BridgeSends; decide +kernel⟩,
   ⟨w182.1, w182.2, ((fld w182.2 3 0) : Nat), ((freeTag w182.1).get (by decide +kernel) : Nat), by unfold Reaches WinReady BridgeSends; decide +kernel⟩,
   ⟨w183.1, w183.2, ((fld w183.2 3 0) : Nat), by unfold Reaches BridgeSends; decide +kernel⟩,
   ⟨w184, ((w184.hb.lockWin).get (by decide +kernel) : Nat), ((freeTag w184).get (by decide +kernel) : Nat), by unfold BridgeSends; decide +kernel⟩,
   ⟨w185.1, w185.2, (((w185.1.hb.semSeg.find? (fun x => x.1 == w185.2.val)).map (fun q_ => q_.2.1)).get (by decide +kernel) : Nat), (((w185.1.hb.semSeg.find? (fun x => x.1 == w185.2.val)).map (fun q_ => q_.2.2)).get (by decide +kernel) : Nat), by unfold BridgeSends; decide +kernel⟩,
   ⟨w186.1, w186.2.1, w186.2.2, by unfold Reaches; decide +kernel⟩,
   ⟨w187.1, w187.2.1, w187.2.2, by unfold Reaches; decide +kernel⟩,
   ⟨live, Req.host, by unfold Reaches; decide +kernel⟩,
   ⟨live, Req.host, by unfold Reaches; decide +kernel⟩⟩

def w190 : State × Word × Bool :=
  let s : State := live
  let s : State := { s with uid := 77, snuf := { s.snuf with init := false, voted := false, commit := false, comPend := false }, line := { s.line with node := .run } }
  let s : State := setReg (setReg (setReg s 0xA010 3) 0xA018 0) 0x2000 0
  let wakeLow := false
  let v : Word := 0x3C5A0001#32
  (s, v, wakeLow)

def w191 : State × Port × Bytes :=
  let s : State := live
  let p : Port := Port.fore
  let dice : Nat := 0
  let s : State := { s with uid := 77, snuf := { s.snuf with init := false, voted := false, commit := false, comPend := false }, line := { s.line with node := .run } }
  let s : State := setReg (setReg (setReg s 0xA010 3) 0xA018 0) 0x2000 0
  let x : Snuf := { sub := 1, ret := false, dirAft := p == .fore, round := dice % 60, init := 1 + dice % 2, vcount := 0, vhandle := 0, vreason := 0, sleepcyc := 0, epoch := s.inaug[(0 : Fin 2)].epoch, consent := 2 }
  let f := mkFrame { kind := 3, cls := 7, dyn := false, crit := false, fold := false, src := 1, dtype := 4, dest := [], cycle := 0, slot := 0, len := 0, hops := 0 } (snufBytes x)
  (s, p, f)

def w192 : State :=
  let s : State := live
  let s : State := { s with snuf := { s.snuf with init := true } }
  let s : State := { s with snuf := { s.snuf with result := 1 } }
  s

def w193 : State × Port × Bytes :=
  let s : State := live
  let p : Port := Port.aft
  let dice : Nat := 0
  let x : Snuf := { sub := 2, ret := false, dirAft := false, round := s.snuf.voteRound, init := s.snuf.initH, vcount := 0, vhandle := 0, vreason := 0, sleepcyc := dice, epoch := 0, consent := 2 }
  let s : State := { s with snuf := { s.snuf with voted := true, commit := false } }
  let f := mkFrame { kind := 3, cls := 7, dyn := false, crit := false, fold := false, src := 1, dtype := 3, dest := [], cycle := 0, slot := 0, len := 0, hops := 0 } (snufBytes x)
  (s, p, f)

def w194 : State × Word :=
  let s : State := live
  let dice : Nat := 1
  let s : State := { s with line := { s.line with core := true, node := if dice % 2 = 0 then .run else .drain, por := false }, boot := { s.boot with phase := .committed, flags := 255 }, snuf := { s.snuf with pastSi := false, commit := dice / 2 % 2 = 0 }, hb := { s.hb with held := none, owns := false }, flt := { s.flt with mgmtDown := false }, tap := 1, sch := { s.sch with inStatic := true }, tb := { s.tb with clen := some 2 } }
  let v : Word := 0x3C5A0002#32
  (s, v)

def w195 : State × Port × Bytes :=
  let s : State := live
  let p : Port := Port.aft
  let s : State := { s with snuf := { s.snuf with commit := true } }
  let s : State := { s with line := { s.line with node := .drain } }
  let f := mkFrame { kind := 4, cls := 7, dyn := false, crit := false, fold := false, src := 1, dtype := 3, dest := [], cycle := 0, slot := 0, len := 0, hops := 0 } (kindleWord 3 0 true ++ List.replicate 12 0)
  (s, p, f)

/-- Each clause of SnufferRoundsComplete has a state and operands that meet its hypotheses. -/
theorem witness_SnufferRoundsComplete :
    (∃ (s : State) (v : Word) (wakeLow : Bool), Reaches .host 0xA014 0xF s ∧ switchBusy s = false ∧ fld v 31 16 = 0x3C5A ∧ bitAt v 0 = true ∧ bitAt v 1 = false ∧ regB s 0xA010 1 = true ∧ inRound s = false ∧ ownVeto s wakeLow = 0 ∧ CtlWaits s ∧ tokenEnd s (segOf s .fore) .fore = false ∧ tokenEnd s (segOf s .aft) .aft = false) ∧
    (∃ (s : State) (p : Port) (f : Bytes) (x : Snuf), Taken f 3 4 48 s ∧ readSnuf (payloadOf f) = x ∧ x.sub = 1 ∧ x.ret = false ∧ ownHandle s (segOf s p) ≠ 0 ∧ x.init ≠ ownHandle s (segOf s p) ∧ s.line.node ≠ .repeater ∧ s.snuf.voted = false ∧ vetoReason s (segOf s p) false false x.epoch = 0 ∧ (cycLen s).isSome = true ∧ tokenEnd s (segOf s p) (otherPort p) = false) ∧
    (∃ (s : State), coreRun s = true ∧ s.snuf.init = true ∧ s.snuf.result = 1) ∧
    (∃ (s : State) (f : Bytes) (x : Snuf), Taken f 3 3 48 s ∧ readSnuf (payloadOf f) = x ∧ x.sub = 2 ∧ s.snuf.commit = false ∧ s.line.node = .run ∧ s.snuf.voted = true ∧ s.snuf.voteRound = x.round ∧ s.snuf.initH = x.init) ∧
    (∃ (s : State) (v : Word), Reaches .host 0xA014 0xF s ∧ switchBusy s = false ∧ fld v 31 16 = 0x3C5A ∧ bitAt v 0 = false ∧ bitAt v 1 = true ∧ wakeable s = true ∧ s.line.node = .drain ∧ CtlWaits s) ∧
    (∃ (s : State) (f : Bytes), Taken f 4 3 16 s ∧ s.snuf.pastSi = false ∧ s.snuf.commit = true ∧ s.line.node = .drain) :=
  ⟨⟨w190.1, w190.2.1, w190.2.2, by unfold Reaches CtlWaits; decide +kernel⟩,
   ⟨w191.1, w191.2.1, w191.2.2, ((readSnuf (payloadOf w191.2.2)) : Snuf), by unfold Taken; decide +kernel⟩,
   ⟨w192, by decide +kernel⟩,
   ⟨w193.1, w193.2.2, ((readSnuf (payloadOf w193.2.2)) : Snuf), by unfold Taken; decide +kernel⟩,
   ⟨w194.1, w194.2, by unfold Reaches CtlWaits; decide +kernel⟩,
   ⟨w195.1, w195.2.2, by unfold Taken; decide +kernel⟩⟩

def w196 : State :=
  let s : State := live
  let s : State := { s with snuf := { s.snuf with commit := true } }
  s

def w197 : State × Port :=
  let s : State := live
  let p : Port := Port.fore
  let s : State := { s with snuf := { s.snuf with toneEnd := [p] }, lanes := Vector.replicate 4 {} }
  (s, p)

def w198 : State :=
  let s : State := live
  let s : State := { s with snuf := { s.snuf with pastSi := true } }
  s

def w199 : State :=
  let s : State := live
  let s : State := { s with pilot := { s.pilot with slept := true } }
  let s : State := { s with line := { s.line with node := .ember } }
  s

def w200 : State × (Fin 4) :=
  let s : State := live
  let p : Fin 4 := 1
  let s : State := setPair s (p) (fun x => { x with sink := true })
  (s, p)

def w201 : State :=
  let s : State := live
  let s : State := { s with pilot := { s.pilot with committed := true } }
  s

/-- Each clause of SleepSequenceComplete has a state and operands that meet its hypotheses. -/
theorem witness_SleepSequenceComplete :
    (∃ (s : State), coreRun s = true ∧ s.snuf.pastSi = false ∧ s.snuf.commit = true ∧ s.log.scanning = false ∧ s.mon.served = none ∧ s.mon.opened = none ∧ s.sw.kept = []) ∧
    (∃ (s : State) (p : Port), coreRun s = true ∧ s.snuf.toneEnd.contains p = true ∧ portI1g s p = false ∧ portAnyUp s p = false) ∧
    (∃ (s : State), s.line.core = true ∧ s.snuf.pastSi = true ∧ s.pilot.pendWord = none ∧ s.pilot.pendTone = none ∧ s.pilot.pendCan = none ∧ s.pilot.pendPin = false) ∧
    (∃ (s : State), s.pilot.slept = true ∧ s.line.node = .ember) ∧
    (∃ (s : State) (p : Fin 4), s.line.pairs[p].sink = true) ∧
    (∃ (s : State), s.pilot.committed = true) :=
  ⟨⟨w196, by decide +kernel⟩,
   ⟨w197.1, w197.2, by decide +kernel⟩,
   ⟨w198, by decide +kernel⟩,
   ⟨w199, by decide +kernel⟩,
   ⟨w200.1, w200.2, by decide +kernel⟩,
   ⟨w201, by decide +kernel⟩⟩

def w202 : State × Port :=
  let s : State := live
  let p : Port := Port.fore
  let s : State := { s with line := { s.line with core := false } }
  let s : State := { s with line := { s.line with node := .ember } }
  (s, p)

def w203 : State × (Fin 8) :=
  let s : State := live
  let c : Fin 8 := 1
  let dice : Nat := 0
  let s : State := { s with line := { s.line with core := false, node := if dice % 2 = 0 then .ember else .doze }, pilot := { s.pilot with committed := dice / 2 % 4 = 0, entryTone := dice / 8 % 2 = 0, cfg := { s.pilot.cfg with wake := 0xFFFFFFFF#32, i1g := [], sw := Vector.replicate 8 (if dice / 16 % 2 = 0 then [0x80080000#32, 0, 0, 0, 0] else [0, 0, 0, 0, 0]) } } } 
  (s, c)

def w204 : State × (Fin 8) :=
  let s : State := live
  let c : Fin 8 := 0
  let dice : Nat := 16
  let s : State := { s with line := { s.line with core := false, node := if dice % 2 = 0 then .ember else .doze }, pilot := { s.pilot with committed := dice / 2 % 4 = 0, entryTone := dice / 8 % 2 = 0, cfg := { s.pilot.cfg with wake := 0xFFFFFFFF#32, i1g := [], sw := Vector.replicate 8 (if dice / 16 % 2 = 0 then [0x80080000#32, 0, 0, 0, 0] else [0, 0, 0, 0, 0]) } } } 
  (s, c)

def w206 : State × (Fin 4) :=
  let s : State := live
  let p : Fin 4 := 2
  let s : State := { s with line := { s.line with core := false } }
  let s : State := { s with line := { s.line with node := .ember } }
  let s : State := { s with pilot := { s.pilot with slept := true } }
  (s, p)

def w207 : State × Port × (List Nat) × (List Nat) :=
  let s : State := live
  let p : Port := Port.aft
  let cellsB : List Nat := []
  let dice : Nat := 3
  let s : State := { s with line := { s.line with core := false } }
  let s : State := { s with line := { s.line with node := .doze } }
  let s : State := { s with pilot := { s.pilot with entryTone := true } }
  let w := kindleWord (dice % 8) (dice / 8 % 256) false
  let cellsA := toneCells w
  (s, p, cellsA, cellsB)

def w208 : State :=
  let s : State := live
  let s : State := { s with line := { s.line with core := false } }
  let s : State := { s with line := { s.line with node := .doze } }
  s

def w209 : State × (Fin 8) × CanFrame :=
  let s : State := live
  let c : Fin 8 := 1
  let f : CanFrame := ({ ide := false, fdf := false, brs := false, rtr := true, esi := false, id := 268, dlc := 2, data := [0x66#8, 0x1b#8], stamp := 133414 })
  let dice : Nat := 3
  let s : State := { s with line := { s.line with core := false, node := if dice % 2 = 0 then .ember else .doze }, pilot := { s.pilot with committed := dice / 2 % 4 = 0, entryTone := dice / 8 % 2 = 0, cfg := { s.pilot.cfg with wake := 0xFFFFFFFF#32, i1g := [], sw := Vector.replicate 8 (if dice / 16 % 2 = 0 then [0x80080000#32, 0, 0, 0, 0] else [0, 0, 0, 0, 0]) } } }
  let f : CanFrame := { f with fdf := false, ide := false, rtr := false, dlc := 8, data := List.replicate 8 1 }
  (s, c, f)

def w210 : State × (Fin 8) :=
  let s : State := live
  let c : Fin 8 := 3
  let dice : Nat := 3
  let s : State := { s with line := { s.line with core := false, node := if dice % 2 = 0 then .ember else .doze }, pilot := { s.pilot with committed := dice / 2 % 4 = 0, entryTone := dice / 8 % 2 = 0, cfg := { s.pilot.cfg with wake := 0xFFFFFFFF#32, i1g := [], sw := Vector.replicate 8 (if dice / 16 % 2 = 0 then [0x80080000#32, 0, 0, 0, 0] else [0, 0, 0, 0, 0]) } } } 
  (s, c)

def w211 : State :=
  let s : State := live
  let s : State := { s with line := { s.line with core := false } }
  let s : State := { s with line := { s.line with node := .doze } }
  s

def w212 : State :=
  let s : State := live
  let s : State := { s with line := { s.line with node := .doze } }
  let s : State := { s with pilot := { s.pilot with committed := true } }
  let s : State := { s with line := { s.line with thermOff := true } }
  s

def w213 : State :=
  let s : State := live
  let s : State := { s with line := { s.line with node := .doze } }
  let s : State := { s with pilot := { s.pilot with committed := true } }
  s

def w214 : State :=
  let s : State := live
  let s : State := { s with line := { s.line with node := .doze } }
  let s : State := { s with pilot := { s.pilot with committed := true } }
  let s : State := { s with line := { s.line with thermOff := true } }
  s

def w215 : State :=
  let s : State := live
  let s : State := { s with line := { s.line with node := .doze } }
  let s : State := { s with pilot := { s.pilot with committed := true } }
  s

/-- Each clause of WakeSourcesComplete has a state and operands that meet its hypotheses. -/
theorem witness_WakeSourcesComplete :
    (∃ (s : State) (p : Port), s.line.core = false ∧ s.line.node = .ember ∧ bitAt s.pilot.cfg.wake 31 = true ∧ s.pilot.cfg.i1g.contains p = false) ∧
    (∃ (s : State) (c : Fin 8), s.line.core = false ∧ s.line.node = .ember ∧ bitAt s.pilot.cfg.wake (16 + c.val) = true ∧ swOn s.pilot.cfg.sw[c] = true) ∧
    (∃ (s : State) (c : Fin 8), PilotWatches s ∧ s.pilot.cfg.i1g = [] ∧ bitAt s.pilot.cfg.wake (16 + c.val) = true ∧ swOn s.pilot.cfg.sw[c] = false) ∧
    (∃ (s : State), PilotWatches s ∧ s.pilot.cfg.i1g = [] ∧ bitAt s.pilot.cfg.wake 30 = true) ∧
    (∃ (s : State) (p : Fin 4), s.line.core = false ∧ s.line.node = .ember ∧ s.pilot.slept = true ∧ s.pilot.cfg.i1g = [] ∧ pairMode (lfctl s) p.val ≠ 1) ∧
    (∃ (s : State) (w : Bytes) (cellsA : List Nat) (cellsB : List Nat), s.line.core = false ∧ s.line.node = .doze ∧ s.pilot.committed = false ∧ s.pilot.entryTone = true ∧ s.pilot.cfg.i1g = [] ∧ ((readCells cellsA = some w ∨ (wordValid ((readCells cellsA).getD []) = false ∧ readCells cellsB = some w))) ∧ wordValid w = true ∧ (byteAt w 1).testBit 3 = false) ∧
    (∃ (s : State), s.line.core = false ∧ s.line.node = .doze ∧ s.pilot.committed = false ∧ s.pilot.entryCan = 0) ∧
    (∃ (s : State) (c : Fin 8) (f : CanFrame), s.line.core = false ∧ s.line.node = .doze ∧ s.pilot.committed = false ∧ s.pilot.cfg.i1g = [] ∧ swOn s.pilot.cfg.sw[c] = true ∧ swMatch s.pilot.cfg.sw[c] f = true) ∧
    (∃ (s : State) (c : Fin 8), s.line.core = false ∧ s.line.node = .doze ∧ s.pilot.committed = false ∧ swOn s.pilot.cfg.sw[c] = true ∧ s.pilot.errs[c] < 31) ∧
    (∃ (s : State), s.line.core = false ∧ s.line.node = .doze ∧ s.pilot.committed = false ∧ s.pilot.entryTone = false) ∧
    (∃ (s : State), s.line.node = .doze ∧ s.pilot.committed = true ∧ s.line.thermOff = true) ∧
    (∃ (s : State), s.line.node = .doze ∧ s.pilot.committed = true ∧ s.line.thermOff = false) ∧
    (∃ (s : State), s.line.node = .doze ∧ s.pilot.committed = true ∧ s.line.thermOff = true) ∧
    (∃ (s : State), s.line.node = .doze ∧ s.pilot.committed = true ∧ s.line.thermOff = false) :=
  ⟨⟨w202.1, w202.2, by decide +kernel⟩,
   ⟨w203.1, w203.2, by decide +kernel⟩,
   ⟨w204.1, w204.2, by unfold PilotWatches; decide +kernel⟩,
   ⟨({ live with line := { live.line with core := false, node := .ember } } : State), by unfold PilotWatches; decide +kernel⟩,
   ⟨w206.1, w206.2, by decide +kernel⟩,
   ⟨w207.1, ((readCells w207.2.2.1).get (by decide +kernel) : Bytes), w207.2.2.1, w207.2.2.2, by decide +kernel⟩,
   ⟨w208, by decide +kernel⟩,
   ⟨w209.1, w209.2.1, w209.2.2, by decide +kernel⟩,
   ⟨w210.1, w210.2, by decide +kernel⟩,
   ⟨w211, by decide +kernel⟩,
   ⟨w212, by decide +kernel⟩,
   ⟨w213, by decide +kernel⟩,
   ⟨w214, by decide +kernel⟩,
   ⟨w215, by decide +kernel⟩⟩

def w216 : State × TestResult :=
  let s : State := live
  let r : TestResult := ({ pass := true, fars := false, bankB := true, region := 9 })
  let dice : Nat := 0
  let s : State := setReg s 0xB000 1
  let s : State := { s with flt := { s.flt with test := some { unit := dice % 50, code := dice % 3 }, queue := [], second := false } }
  let r := { r with pass := true }
  (s, r)

def w217 : State × (Fin 4) :=
  let s : State := live
  let l : Fin 4 := 0
  let s : State := { s with lanes := s.lanes.map (fun x => { x with st := .up, mode := 1, retSent := 4, retiring := true, retAt := 0 }), now := s.now + 100000 }
  (s, l)

def w218 : State × Word × Nat :=
  let s : State := live
  let u : Nat := 0
  let dice : Nat := 0
  let s : State := setReg s 0xB000 (0x31001#32)
  let v : Word := BitVec.ofNat 32 (0xF4170000 + 1 * 256 + dice % 50)
  let s : State := { s with flt := { s.flt with test := some { unit := 0x20, code := dice % 3 }, queue := [], units := Vector.replicate 50 { held := true, req := 1 } } }
  (s, v, u)

def w219 : State × Word × (Fin 4) :=
  let s : State := State.reset
  let l : Fin 4 := 0
  let dice : Nat := 0
  let s : State := { s with line := { s.line with core := true, por := false, resetLow := false }, boot := { s.boot with phase := .committed }, snuf := { s.snuf with pastSi := false }, hb := { s.hb with held := none, owns := false }, tap := 1, flt := { s.flt with mgmtDown := false } }
  let s : State := setReg s 0xB000 (0x31001#32)
  let v : Word := BitVec.ofNat 32 (0xF4170000 + 2 * 256 + dice % 4)
  let s : State := { s with lanes := s.lanes.map (fun x => { x with st := .up, mode := 1 }) }
  let s : State := { s with flt := { s.flt with test := some { unit := 0x20, code := dice % 3 }, queue := [], units := Vector.replicate 50 { held := true, req := 1 } } }
  (s, v, l)

def w220 : State × Word × Nat × Nat :=
  let s : State := { live with line := { live.line with core := false, node := .ember } }
  let u : Nat := 48
  let row : Nat := 0
  let dice : Nat := 537119
  let s : State := { s with line := { s.line with core := true, por := false, resetLow := false }, boot := { s.boot with phase := .committed }, snuf := { s.snuf with pastSi := false }, hb := { s.hb with held := none, owns := false }, tap := 1, flt := { s.flt with mgmtDown := false } }
  let s : State := setReg s 0xB000 (0x31001#32)
  let v : Word := BitVec.ofNat 32 (0xF4170000 + 3 * 256 + 4 + dice % 45)
  let s : State := { s with flt := { s.flt with test := some { unit := 0x20, code := dice % 3 }, queue := [], units := Vector.replicate 50 { held := true, req := 1 } } }
  (s, v, u, row)

def w221 : State × Word × (Fin 4) :=
  let s : State := { live with boot := { live.boot with phase := .loading } }
  let l : Fin 4 := 0
  let dice : Nat := 0
  let s : State := setLane s (l) (fun x => { x with st := .retired })
  let s : State := { s with line := { s.line with core := true, por := false, resetLow := false }, boot := { s.boot with phase := .committed }, snuf := { s.snuf with pastSi := false }, hb := { s.hb with held := none, owns := false }, tap := 1, flt := { s.flt with mgmtDown := false } }
  let s : State := setReg s 0xB000 (0x31001#32)
  let v : Word := BitVec.ofNat 32 (0xF4170000 + 3 * 256 + dice % 4)
  let s : State := { s with flt := { s.flt with test := some { unit := 0x20, code := dice % 3 }, queue := [], units := Vector.replicate 50 { held := true, req := 2 } } }
  (s, v, l)

def w222 : State :=
  let s : State := live
  let dice : Nat := 0
  let s : State := (List.range 8).foldl (fun t l => setReg t (0x7000 + 0x200 * l) 0) { s with lanes := s.lanes.map (fun x => { x with st := if dice % 2 = 0 then .up else .disabled }), can := s.can.map (fun c => { c with st := 0 }), sch := { s.sch with gag := false }, lamp := { s.lamp with dead := 0 }, flt := { s.flt with test := none, mgmtDown := false } }
  s

/-- Each clause of FaultHandlingComplete has a state and operands that meet its hypotheses. -/
theorem witness_FaultHandlingComplete :
    (∃ (s : State) (r : TestResult) (q : QEnt), coreRun s = true ∧ s.flt.mgmtDown = false ∧ s.flt.test = some q ∧ q.unit < 50 ∧ q.unit ≠ 0x31 ∧ r.pass = true ∧ ((∀ l : Fin 4, laneUnit q.unit = some l → laneMeasured s l = true)) ∧ s.flt.second = false ∧ regF s 0xB000 15 12 = 0 ∧ s.flt.queue = [] ∧ (fUnit s q.unit).disT = false) ∧
    (∃ (s : State) (l : Fin 4), s.lanes[l].retiring = true ∧ 4 ≤ s.lanes[l].retSent ∧ s.lanes[l].retAt + 100000 ≤ s.now ∧ upAtDesign s (sisterLane l) = true) ∧
    (∃ (s : State) (v : Word) (u : Nat), UnitCmd 1 u v s ∧ unitAssigned u = true ∧ reqState s u ≠ 0 ∧ CanQueue u s) ∧
    (∃ (s : State) (v : Word) (l : Fin 4), UnitCmd 2 l.val v s ∧ canRetire s l = true ∧ CanQueue l.val s ∧ upAtDesign s (sisterLane l) = true) ∧
    (∃ (s : State) (v : Word) (u : Nat) (row : Nat), UnitCmd 3 u v s ∧ unitAssigned u = true ∧ 4 ≤ u ∧ (fUnit s u).held = true ∧ CanQueue u s ∧ row = (if u = 0x30 then s.flt.heldRows.headD s.flt.row else s.flt.row)) ∧
    (∃ (s : State) (v : Word) (l : Fin 4), UnitCmd 3 l.val v s ∧ (fUnit s l.val).req = 2 ∧ s.lanes[l].st = .retired ∧ CanQueue l.val s) ∧
    (∃ (s : State), coreRun s = true ∧ ((∀ u : Fin 50, unitAssigned u.val = true → effState s u.val ≠ 3 ∧ reqState s u.val = effState s u.val))) :=
  ⟨⟨w216.1, w216.2, ((w216.1.flt.test).get (by decide +kernel) : QEnt), by decide +kernel⟩,
   ⟨w217.1, w217.2, by decide +kernel⟩,
   ⟨w218.1, w218.2.1, w218.2.2, by unfold UnitCmd CanQueue Reaches; decide +kernel⟩,
   ⟨w219.1, w219.2.1, w219.2.2, by unfold UnitCmd CanQueue Reaches; decide +kernel⟩,
   ⟨w220.1, w220.2.1, w220.2.2.1, w220.2.2.2, by unfold UnitCmd CanQueue Reaches; decide +kernel⟩,
   ⟨w221.1, w221.2.1, w221.2.2, by unfold UnitCmd CanQueue Reaches; decide +kernel⟩,
   ⟨w222, by decide +kernel⟩⟩

def w223 : State × Bool :=
  let s : State := live
  let e : Bool := false
  let s : State := setReg s (0xB000) ((reg s (0xB000) &&& ~~~ BitVec.ofNat 32 ((2 ^ (11 + 1 - 8) - 1) * 2 ^ (8))) ||| BitVec.ofNat 32 ((0) * 2 ^ (8)))
  (s, e)

def w224 : State :=
  let s : State := live
  let s : State := { s with flt := { s.flt with mgmtDown := true } }
  s

def w225 : State :=
  let s : State := live
  let s : State := { s with flt := { s.flt with mgmtDown := true } }
  s

def w228 : State :=
  let s : State := live
  let s : State := { s with flt := { s.flt with sLate := true } }
  s

def w229 : State :=
  let s : State := live
  let s : State := { s with flt := { s.flt with sLate := true } }
  s

def w230 : State :=
  let s : State := live
  let s : State := { s with flt := { s.flt with mLate := true } }
  s

def w232 : State × Bool × Nat × Nat :=
  let s : State := live
  let b : Bool := true
  let dice : Nat := 1
  let l := dice % 100
  let d := 96 + dice % 16
  let s : State := setBank { s with flt := { s.flt with test := none } } b (fun k => { k with st := 0, writes := [(dice % 100, 2 ^ 25)], regions := if dice % 3 = 0 then [(5, 96), (dice % 100, 97)] else [] })
  (s, b, l, d)

def w233 : State :=
  let s : State := live
  let s : State := setReg s (0xB400) ((reg s (0xB400) &&& ~~~ BitVec.ofNat 32 ((2 ^ (5 + 1 - 0) - 1) * 2 ^ (0))) ||| BitVec.ofNat 32 ((0) * 2 ^ (0)))
  s

def w234 : State :=
  let s : State := live
  let dice : Nat := 1
  let s : State := setReg s (0xB400) ((reg s (0xB400) &&& ~~~ BitVec.ofNat 32 ((2 ^ (5 + 1 - 0) - 1) * 2 ^ (0))) ||| BitVec.ofNat 32 ((0) * 2 ^ (0)))
  let rb : Bytes := [1, 1, 0, BitVec.ofNat 8 dice, 0, 0x14, 0, 32, 0, BitVec.ofNat 8 (dice % 6), 0, 0, 0, 0, 0, 9] ++ List.replicate 16 0
  let s : State := { s with tables := mput s.tables (65536 * 0xB0 + 1) rb, pol := { s.pol with nrules := 1, rules := [] } }
  s

/-- Each clause of BackgroundWorkComplete has a state and operands that meet its hypotheses. -/
theorem witness_BackgroundWorkComplete :
    (∃ (s : State), coreRun s = true ∧ s.flt.mgmtDown = false ∧ s.flt.test = none ∧ s.mon.served = none ∧ s.mon.opened = none ∧ regF s 0xB000 11 8 = 0 ∧ s.flt.restarts = [] ∧ s.sw.kept = []) ∧
    (∃ (s : State), s.flt.mgmtDown = true) ∧
    (∃ (s : State), s.flt.mgmtDown = true ∧ s.flt.waiting = false ∧ s.flt.queue = [] ∧ s.flt.dawn = []) ∧
    (∃ (s : State), coreRun s = true ∧ regB s 0xB004 0 = true) ∧
    (∃ (s : State), coreRun s = true ∧ regB s 0xB004 1 = true) ∧
    (∃ (s : State), coreRun s = true ∧ regB s 0xB004 0 = true ∧ s.flt.sLine + 1 < 229376 ∧ s.flt.sLate = true) ∧
    (∃ (s : State), coreRun s = true ∧ regB s 0xB004 0 = true ∧ s.flt.sLine + 1 < 229376 ∧ s.flt.sLate = true ∧ s.flt.corrRows = [] ∧ scrubSkips s (s.flt.sLine / 16) = false) ∧
    (∃ (s : State), coreRun s = true ∧ regB s 0xB004 1 = true ∧ s.flt.mStep + 1 < 131072 ∧ s.flt.mLate = true) ∧
    (∃ (s : State) (dev : Int), coreRun s = true ∧ regB s 0xB004 3 = true ∧ 300 < dev.natAbs) ∧
    (∃ (s : State) (b : Bool) (l : Nat) (d : Nat), coreRun s = true ∧ regB s 0xB004 4 = true ∧ l < 96 ∧ (freeRegions (bank s b)).contains d = true ∧ (freeRegions (bank s b)).all (fun p => decide (writesOf (bank s b) d ≤ writesOf (bank s b) p)) = true ∧ (bank s b).st = 0 ∧ underTest s 0x31 = false ∧ writesOf (bank s b) d + 2 ^ 24 < writesOf (bank s b) (physOf (bank s b) l)) ∧
    (∃ (s : State), service s = true ∧ s.flt.mgmtDown = false ∧ regF s 0xB400 5 0 = 0 ∧ s.pol.nrules = 0) ∧
    (∃ (s : State), service s = true ∧ s.flt.mgmtDown = false ∧ regF s 0xB400 5 0 = 0 ∧ s.pol.nrules = 1 ∧ (polRule s 0).on = true ∧ (polRule s 0).linked = false ∧ (polRule s 0).mode = 0 ∧ (polRule s 0).action = 1 ∧ ((mget s.pol.rules 0).getD {}).cond = false ∧ polCmp (polRule s 0).cmp (fld (regRead s .host (polRule s 0).src) ((polRule s 0).lo + (polRule s 0).width - 1) (polRule s 0).lo) (polRule s 0).thresh = true) :=
  ⟨⟨w223.1, by decide +kernel⟩,
   ⟨w224, by decide +kernel⟩,
   ⟨w225, by decide +kernel⟩,
   ⟨live, by decide +kernel⟩,
   ⟨live, by decide +kernel⟩,
   ⟨w228, by decide +kernel⟩,
   ⟨w229, by decide +kernel⟩,
   ⟨w230, by decide +kernel⟩,
   ⟨live, -10021, by decide +kernel⟩,
   ⟨w232.1, w232.2.1, w232.2.2.1, w232.2.2.2, by decide +kernel⟩,
   ⟨w233, by decide +kernel⟩,
   ⟨w234, by decide +kernel⟩⟩

def w235 : State :=
  let s : State := live
  let dice : Nat := 0
  let s : State := { s with log := { s.log with scanning := true } }
  let s : State := { s with log := { s.log with raised := { code := 0x1000 + dice % 5, sev := dice % 8, inst := dice % 3 } :: s.log.raised } }
  s

def w236 : State :=
  let s : State := live
  let dice : Nat := 0
  let s : State := { s with log := { s.log with scanning := true, raised := { code := 0x1000 + dice % 5, sev := dice % 8, inst := dice % 3 } :: s.log.raised, fifo := [{ code := 0x1000 + dice % 5, sev := dice % 8, inst := dice % 3 }] } }
  s

def w237 : State :=
  let s : State := live
  let dice : Nat := 0
  let s : State := { s with log := { s.log with raised := [{ code := 0x1000 + dice % 5, sev := dice % 8, inst := dice % 3 }], fifo := [], scanning := false, writing := false, ovCnt := 0, volatile := false } }
  s

def w238 : State :=
  let s : State := live
  let dice : Nat := 0
  let s : State := { s with log := { s.log with writing := true, fifo := [], ovCnt := 0, sev7Full := true }, mram := { s.mram with bankA := { s.mram.bankA with st := 0 }, bankB := { s.mram.bankB with st := 0 }, torn := some { area := 0, idx := dice % 100, rec_ := { seq := dice, ev := { code := 0x1000 + dice % 5, sev := dice % 8, inst := dice % 3 } } } } }
  s

def w240 : State × Bool × Nat :=
  let s : State := live
  let ext : Bool := false
  let dice : Nat := 0
  let i := dice % 8
  (s, ext, i)

def w242 : State :=
  let s : State := live
  let s : State := { s with log := { s.log with scanning := true } }
  s

def w243 : State × Req × (BitVec 4) × Word :=
  let s : State := State.reset
  let req : Req := Req.far
  let be : BitVec 4 := 0xf#4
  let v : Word := 0x0000c020#32
  let s : State := { s with line := { s.line with core := true, por := false, resetLow := false }, snuf := { s.snuf with pastSi := false }, hb := { s.hb with held := none, owns := false }, flt := { s.flt with mgmtDown := false }, boot := { s.boot with phase := .committed } }
  (s, req, be, v)

/-- Each clause of RecorderRowsComplete has a state and operands that meet its hypotheses. -/
theorem witness_RecorderRowsComplete :
    (∃ (s : State) (e : Event), lampServes s 10 = true ∧ s.log.raised.head? = some e ∧ s.log.fifo.any (coalesces e) = false ∧ s.log.fifo.length < 512 ∧ s.log.scanning = true) ∧
    (∃ (s : State) (e : Event) (w : Event), lampServes s 10 = true ∧ s.log.raised.head? = some e ∧ s.log.fifo = [w] ∧ coalesces e w = true ∧ s.log.scanning = true) ∧
    (∃ (s : State) (e : Event) (k : Nat), lampServes s 10 = true ∧ s.log.raised = [e] ∧ s.log.fifo = [] ∧ s.log.scanning = false ∧ s.log.writing = false ∧ s.log.ovCnt = 0 ∧ e.sev ≠ 7 ∧ s.log.volatile = false ∧ (rdBank s).gen.length < 47104 ∧ freeSlot (rdBank s).gen 47104 0 = some k) ∧
    (∃ (s : State) (sl : Slot), s.log.writing = true ∧ s.mram.torn = some sl ∧ sl.area = 0 ∧ s.mram.bankA.st = 0 ∧ s.mram.bankB.st = 0 ∧ s.log.fifo = [] ∧ s.log.ovCnt = 0 ∧ s.log.sev7Full = true) ∧
    (∃ (s : State), s.line.core = true) ∧
    (∃ (s : State) (ext : Bool) (i : Nat), coreRun s = true ∧ (byteAt (statDef s ext i) 0).testBit 0 = true) ∧
    (∃ (s : State), coreRun s = true) ∧
    (∃ (s : State), coreRun s = true ∧ s.log.scanning = true ∧ s.mram.torn = none ∧ (rdBank s).gen = [] ∧ (rdBank s).sev7 = [] ∧ s.mram.gasp.valid = false ∧ s.log.fifo = [] ∧ s.log.ovCnt = 0) ∧
    (∃ (s : State) (req : Req) (be : BitVec 4) (v : Word) (x : Word), Reaches req 0xC020 be s ∧ mergeBe be (getLatch s req 0xC020) (v &&& 0xC000FFFF) = x) ∧
    (∃ (s : State) (req : Req) (be : BitVec 4) (v : Word) (x : Word), Reaches req 0xC060 be s ∧ mergeBe be (getLatch s req 0xC060) (v &&& 0x8000007F) = x) :=
  ⟨⟨w235, ((w235.log.raised.head?).get (by decide +kernel) : Event), by decide +kernel⟩,
   ⟨w236, ((w236.log.raised.head?).get (by decide +kernel) : Event), (((w236.log.fifo).head?).get (by decide +kernel) : Event), by decide +kernel⟩,
   ⟨w237, (((w237.log.raised).head?).get (by decide +kernel) : Event), ((freeSlot (rdBank w237).gen 47104 0).get (by decide +kernel) : Nat), by decide +kernel⟩,
   ⟨w238, ((w238.mram.torn).get (by decide +kernel) : Slot), by decide +kernel⟩,
   ⟨live, by decide +kernel⟩,
   ⟨w240.1, w240.2.1, w240.2.2, by decide +kernel⟩,
   ⟨live, by decide +kernel⟩,
   ⟨w242, by decide +kernel⟩,
   ⟨w243.1, w243.2.1, w243.2.2.1, w243.2.2.2, ((mergeBe w243.2.2.1 (getLatch w243.1 w243.2.1 0xC020) (w243.2.2.2 &&& 0xC000FFFF)) : Word), by unfold Reaches; decide +kernel⟩,
   ⟨live, Req.far, (0x1#4 : BitVec 4), (0x00000019#32 : Word), ((mergeBe (0x1#4 : BitVec 4) (getLatch live Req.far 0xC060) ((0x00000019#32 : Word) &&& 0x8000007F)) : Word), by unfold Reaches; decide +kernel⟩⟩

def w245 : State × Word :=
  let s : State := live
  let dice : Nat := 0
  let s : State := setReg { s with otp := { s.otp with clr := some [1,2,3] }, log := { s.log with lockout := false } } 0xC000 1
  let v : Word := 0xB7C10100#32 + BitVec.ofNat 32 (dice % 32)
  (s, v)

def w246 : State × Word :=
  let s : State := live
  let dice : Nat := 0
  let key : Bytes := [1,2,3]
  let sc := dice % 32
  let s : State := { s with otp := { s.otp with clr := some key }, log := { s.log with lockout := false, chal := [9,8], chalOk := true, scope := sc }, mram := { s.mram with bankA := { s.mram.bankA with st := 0 } } }
  let m := hmac key (s.log.chal ++ beBytes 8 s.uid ++ [BitVec.ofNat 8 s.log.scope] ++ beBytes 4 s.log.chalHead)
  let s : State := setReg { s with log := { s.log with resp := (List.range 8).map (fun i => BitVec.ofNat 32 (beAt m (4 * i) 4)) } } 0xC000 1
  let v : Word := 0xB7C10200#32 + BitVec.ofNat 32 sc
  (s, v)

def w247 : State :=
  let s : State := live
  let s : State := { s with log := { s.log with lockout := true } }
  s

def w248 : State × Bool :=
  let s : State := live
  let b : Bool := true
  let s : State := setBank (setBank s b (fun k => { k with st := 1, resync := none })) (!b) (fun k => { k with st := 0 })
  (s, b)

/-- Each clause of RecorderClearingComplete has a state and operands that meet its hypotheses. -/
theorem witness_RecorderClearingComplete :
    (∃ (s : State) (v : Word), Reaches .host 0xC0C0 0xF s ∧ fld v 31 16 = 0xB7C1 ∧ bitAt v 8 = true ∧ regB s 0xC000 0 = true ∧ s.log.lockout = false ∧ s.otp.clr.isSome = true) ∧
    (∃ (s : State) (v : Word) (key : Bytes), Reaches .host 0xC0C0 0xF s ∧ fld v 31 16 = 0xB7C1 ∧ bitAt v 8 = false ∧ bitAt v 9 = true ∧ regB s 0xC000 0 = true ∧ s.log.lockout = false ∧ s.otp.clr = some key ∧ s.log.chalOk = true ∧ fld v 4 0 = s.log.scope ∧ hmac key (s.log.chal ++ beBytes 8 s.uid ++ [BitVec.ofNat 8 s.log.scope] ++ beBytes 4 s.log.chalHead) = respBytes s ∧ s.mram.bankA.st = 0) ∧
    (∃ (s : State), s.log.lockout = true) ∧
    (∃ (s : State) (b : Bool), coreRun s = true ∧ (bank s b).st = 1 ∧ (bank s b).resync = none ∧ (bank s (!b)).st = 0) ∧
    (∃ (s : State) (b : Bool), coreRun s = true ∧ (bank s b).st ≠ 2 ∧ (bank s (!b)).st ≠ 2) :=
  ⟨⟨w245.1, w245.2, by unfold Reaches; decide +kernel⟩,
   ⟨w246.1, w246.2, ((w246.1.otp.clr).get (by decide +kernel) : Bytes), by unfold Reaches; decide +kernel⟩,
   ⟨w247, by decide +kernel⟩,
   ⟨w248.1, w248.2, by decide +kernel⟩,
   ⟨live, false, by decide +kernel⟩⟩

def w252 : State × Ses × Nat × Nat :=
  let s : State := live
  let x : Ses := Ses.onUart
  let dice : Nat := 1
  let off := 4 * (dice % 16384)
  let n := 1 + dice % 3
  (s, x, off, n)

/-- Each clause of MonitorShowsComplete has a state and operands that meet its hypotheses. -/
theorem witness_MonitorShowsComplete :
    (∃ (s : State) (x : Ses), MonReady x s) ∧
    (∃ (s : State) (x : Ses), MonReady x s) ∧
    (∃ (s : State) (x : Ses) (off : Nat) (n : Nat), MonReady x s ∧ off % 4 = 0 ∧ 1 ≤ n ∧ n ≤ 64 ∧ off + 4 * n ≤ 65536 ∧ ((List.range n).map (fun i => off + 4 * i)).any effectReg = false) ∧
    (∃ (s : State) (x : Ses), MonReady x s) ∧
    (∃ (s : State) (x : Ses), MonReady x s) ∧
    (∃ (s : State) (x : Ses) (e : Bool) (i : Nat), MonReady x s ∧ i < (if e then 128 else 64)) ∧
    (∃ (s : State) (x : Ses), MonReady x s) ∧
    (∃ (s : State) (x : Ses), MonReady x s) ∧
    (∃ (s : State) (x : Ses), MonReady x s) ∧
    (∃ (s : State) (x : Ses), MonReady x s) ∧
    (∃ (s : State) (x : Ses), MonReady x s) ∧
    (∃ (s : State) (x : Ses), MonReady x s) ∧
    (∃ (s : State) (x : Ses), MonReady x s) :=
  ⟨⟨live, Ses.onUart, by unfold MonReady; decide +kernel⟩,
   ⟨live, Ses.onUart, by unfold MonReady; decide +kernel⟩,
   ⟨w252.1, w252.2.1, w252.2.2.1, w252.2.2.2, by unfold MonReady; decide +kernel⟩,
   ⟨live, Ses.onUart, by unfold MonReady; decide +kernel⟩,
   ⟨live, Ses.onUart, by unfold MonReady; decide +kernel⟩,
   ⟨({ live with boot := { live.boot with phase := .loading } } : State), Ses.onUart, true, (0 : Nat), by unfold MonReady; decide +kernel⟩,
   ⟨live, Ses.onUart, by unfold MonReady; decide +kernel⟩,
   ⟨({ live with boot := { live.boot with phase := .loading } } : State), Ses.onUart, by unfold MonReady; decide +kernel⟩,
   ⟨live, Ses.onUart, by unfold MonReady; decide +kernel⟩,
   ⟨live, Ses.onUart, by unfold MonReady; decide +kernel⟩,
   ⟨live, Ses.onUart, by unfold MonReady; decide +kernel⟩,
   ⟨live, Ses.onUart, by unfold MonReady; decide +kernel⟩,
   ⟨({ live with boot := { live.boot with phase := .loading } } : State), Ses.onUart, by unfold MonReady; decide +kernel⟩⟩

def w263 : State × Ses × Word :=
  let s : State := { live with boot := { live.boot with phase := .loading } }
  let x : Ses := Ses.onUart
  let v : Word := 0x00000000#32
  let s : State := { s with mon := { s.mon with rem := { level := 2 }, ses := { level := 2 } } } 
  (s, x, v)

def w264 : State × Ses × Nat :=
  let s : State := live
  let x : Ses := Ses.onUart
  let dice : Nat := 0
  let s : State := { s with mon := { s.mon with rem := { level := 2 }, ses := { level := 2 } } }
  let s : State := { s with otp := { s.otp with clr := some [1] }, log := { s.log with lockout := false } }
  let sc := dice % 40
  (s, x, sc)

def w265 : State × Ses × Bytes :=
  let s : State := live
  let x : Ses := Ses.onUart
  let dice : Nat := 0
  let s : State := { s with mon := { s.mon with rem := { level := 2 }, ses := { level := 2 } } }
  let key : Bytes := [1,2,3]
  let s : State := { s with otp := { s.otp with clr := some key }, log := { s.log with lockout := false, chal := [9,8], chalOk := true, scope := dice % 32 }, mram := { s.mram with bankA := { s.mram.bankA with st := 0 } } }
  let r := hmac key (s.log.chal ++ beBytes 8 s.uid ++ [BitVec.ofNat 8 s.log.scope] ++ beBytes 4 s.log.chalHead)
  (s, x, r)

def w266 : State × Ses × Nat :=
  let s : State := live
  let x : Ses := Ses.onUart
  let dice : Nat := 1
  let s : State := { s with mon := { s.mon with rem := { level := 2 }, ses := { level := 2 } } }
  let p := dice % 4
  (s, x, p)

def w267 : State × Ses × Nat :=
  let s : State := live
  let x : Ses := Ses.onUart
  let dice : Nat := 0
  let s : State := { s with mon := { s.mon with rem := { level := 2 }, ses := { level := 2 } } }
  let u := dice % 50
  let s : State := { s with flt := { s.flt with test := some { unit := 0x20 }, queue := [], units := Vector.replicate 50 { held := true } } }
  (s, x, u)

def w268 : State × Ses × Nat × Nat :=
  let s : State := { live with boot := { live.boot with phase := .loading } }
  let x : Ses := Ses.remote
  let row : Nat := 0
  let dice : Nat := 10
  let s : State := { s with otp := { img := none, mon := none, clr := none }, mon := { s.mon with waiting := false, prog := none, opened := none, served := if dice % 3 = 0 then none else some { seg := 0, handle := 3, uid := 78 }, rem := { level := 1 + dice % 2 }, ses := { level := 1 + dice / 2 % 2 } } }
  let s : State := { s with mon := { s.mon with rem := { level := 2 }, ses := { level := 2 } } }
  let u := dice % 50
  let s : State := { s with flt := { s.flt with test := some { unit := 0x20 }, queue := [], units := Vector.replicate 50 { held := true } } }
  (s, x, u, row)

def w269 : State × Ses × (Fin 4) :=
  let s : State := live
  let x : Ses := Ses.onUart
  let l : Fin 4 := 3
  let s : State := { s with mon := { s.mon with rem := { level := 2 }, ses := { level := 2 } } }
  (s, x, l)

def w270 : State × Ses × (Fin 8) :=
  let s : State := live
  let x : Ses := Ses.onUart
  let c : Fin 8 := 0
  let s : State := setChan s (c) (fun x => { x with st := 4 })
  let s : State := { s with mon := { s.mon with rem := { level := 2 }, ses := { level := 2 } } }
  (s, x, c)

def w271 : State × Ses :=
  let s : State := live
  let x : Ses := Ses.onUart
  let s : State := { s with mon := { s.mon with rem := { level := 2 }, ses := { level := 2 } } }
  let s : State := setInaug s 0 (fun x => { x with st := .settled, pending := none, issue := none, changes := [], table := [{ uid := 77, handle := 2, eflags := 16, rank := 0, slotref := 1 }, { uid := 78, handle := 3, eflags := 0, rank := 0, slotref := 1 }] })
  (s, x)

def w272 : State × Ses × Bool :=
  let s : State := live
  let x : Ses := Ses.onUart
  let s : State := { s with mon := { s.mon with rem := { level := 2 }, ses := { level := 2 } } }
  let s : State := setReg (setReg (setReg s 0xA010 3) 0xA018 0) 0x2000 0
  let wakeLow := false
  (s, x, wakeLow)

def w273 : State × Ses × Nat :=
  let s : State := live
  let x : Ses := Ses.remote
  let dice : Nat := 1
  let s : State := { s with otp := { img := none, mon := none, clr := none }, mon := { s.mon with waiting := false, prog := none, opened := none, served := if dice % 3 = 0 then none else some { seg := 0, handle := 3, uid := 78 }, rem := { level := 1 + dice % 2 }, ses := { level := 1 + dice / 2 % 2 } } }
  let s : State := setReg (setReg { s with mon := { s.mon with coll := 3 } } 0xB004 0xFF) 0xD008 0xC0050000#32
  let sel := dice % 3
  (s, x, sel)

/-- Each clause of MonitorActsComplete has a state and operands that meet its hypotheses. -/
theorem witness_MonitorActsComplete :
    (∃ (s : State) (x : Ses), MonReady x s ∧ (sessOf s x).level = 2) ∧
    (∃ (s : State) (x : Ses) (sc : Nat), MonReady x s ∧ (sessOf s x).level = 2 ∧ sc < 32 ∧ s.log.lockout = false ∧ s.otp.clr.isSome = true) ∧
    (∃ (s : State) (x : Ses) (r : Bytes) (key : Bytes), MonReady x s ∧ (sessOf s x).level = 2 ∧ s.log.lockout = false ∧ s.otp.clr = some key ∧ s.log.chalOk = true ∧ hmac key (s.log.chal ++ beBytes 8 s.uid ++ [BitVec.ofNat 8 s.log.scope] ++ beBytes 4 s.log.chalHead) = r ∧ s.mram.bankA.st = 0) ∧
    (∃ (s : State) (x : Ses) (p : Nat), MonReady x s ∧ (sessOf s x).level = 2 ∧ p < 4 ∧ switchReason s p = 0) ∧
    (∃ (s : State) (x : Ses) (u : Nat), MonReady x s ∧ (sessOf s x).level = 2 ∧ coreRun s = true ∧ unitAssigned u = true ∧ u < 256 ∧ reqState s u ≠ 0 ∧ CanQueue u s) ∧
    (∃ (s : State) (x : Ses) (u : Nat) (row : Nat), MonReady x s ∧ (sessOf s x).level = 2 ∧ unitAssigned u = true ∧ 4 ≤ u ∧ u < 256 ∧ (fUnit s u).held = true ∧ CanQueue u s ∧ row = (if u = 0x30 then s.flt.heldRows.headD s.flt.row else s.flt.row)) ∧
    (∃ (s : State) (x : Ses) (l : Fin 4), MonReady x s ∧ (sessOf s x).level = 2 ∧ canRetire s l = true ∧ underTest s l.val = false ∧ upAtDesign s (sisterLane l) = true) ∧
    (∃ (s : State) (x : Ses) (c : Fin 8), MonReady x s ∧ (sessOf s x).level = 2 ∧ s.can[c].st = 4) ∧
    (∃ (s : State) (x : Ses), MonReady x s ∧ (sessOf s x).level = 2 ∧ s.inaug[segSel s].st = .settled ∧ isLeader s (segSel s) = true ∧ s.inaug[segSel s].pending = none ∧ s.inaug[segSel s].issue = none ∧ s.inaug[segSel s].changes = [] ∧ s.inaug[segSel s].reorder = false ∧ s.line.node = .run) ∧
    (∃ (s : State) (x : Ses) (wakeLow : Bool), MonReady x s ∧ (sessOf s x).level = 2 ∧ inRound s = false ∧ ownVeto s wakeLow = 0 ∧ CtlWaits s ∧ tokenEnd s (segOf s .fore) .fore = false ∧ tokenEnd s (segOf s .aft) .aft = false) ∧
    (∃ (s : State) (x : Ses) (sel : Nat), MonReady x s ∧ (sessOf s x).level = 2 ∧ telOn s = true ∧ sel ≤ 1 ∧ s.mon.coll ≠ 0 ∧ s.mon.coll ≠ ownHandle s 0) :=
  ⟨⟨w263.1, w263.2.1, by unfold MonReady; decide +kernel⟩,
   ⟨w264.1, w264.2.1, w264.2.2, by unfold MonReady; decide +kernel⟩,
   ⟨w265.1, w265.2.1, w265.2.2, ((w265.1.otp.clr).get (by decide +kernel) : Bytes), by unfold MonReady; decide +kernel⟩,
   ⟨w266.1, w266.2.1, w266.2.2, by unfold MonReady; decide +kernel⟩,
   ⟨w267.1, w267.2.1, w267.2.2, by unfold MonReady CanQueue; decide +kernel⟩,
   ⟨w268.1, w268.2.1, w268.2.2.1, w268.2.2.2, by unfold MonReady CanQueue; decide +kernel⟩,
   ⟨w269.1, w269.2.1, w269.2.2, by unfold MonReady; decide +kernel⟩,
   ⟨w270.1, w270.2.1, w270.2.2, by unfold MonReady; decide +kernel⟩,
   ⟨w271.1, w271.2, by unfold MonReady; decide +kernel⟩,
   ⟨w272.1, w272.2.1, w272.2.2, by unfold CtlWaits MonReady; decide +kernel⟩,
   ⟨w273.1, w273.2.1, w273.2.2, by unfold MonReady; decide +kernel⟩⟩

def w274 : State × Ses :=
  let s : State := live
  let x : Ses := Ses.onUart
  let s : State := { s with otp := { s.otp with mon := some [1,2] }, mon := { s.mon with lockEnd := none } }
  (s, x)

def w275 : State × Ses × Bytes :=
  let s : State := live
  let x : Ses := Ses.onUart
  let s : State := { s with otp := { s.otp with mon := some [1,2] }, mon := { s.mon with lockEnd := none, ses := { level := 1, chal := some [5,6] }, rem := { level := 1, chal := some [5,6] } } }
  let r := hmac [1,2] ([5#8,6#8] ++ beBytes 8 s.uid ++ [0x02#8])
  (s, x, r)

def w277 : State × KeySlot × Bytes :=
  let s : State := live
  let k : KeySlot := KeySlot.clr
  let s : State := { s with mon := { s.mon with ses := { level := 2 } } }
  let key : Bytes := List.replicate 32 7
  (s, k, key)

def w278 : State × KeySlot × Bytes :=
  let s : State := live
  let k : KeySlot := KeySlot.img
  let key : Bytes := []
  let dice : Nat := 1
  let s : State := { s with otp := { img := none, mon := none, clr := none }, mon := { s.mon with waiting := false, prog := none, opened := none, served := if dice % 3 = 0 then none else some { seg := 0, handle := 3, uid := 78 }, rem := { level := 1 + dice % 2 }, ses := { level := 1 + dice / 2 % 2 } } } 
  (s, k, key)

/-- Each clause of MonitorLevelsComplete has a state and operands that meet its hypotheses. -/
theorem witness_MonitorLevelsComplete :
    (∃ (s : State) (x : Ses), MonReady x s ∧ s.mon.lockEnd = none ∧ s.otp.mon.isSome = true ∧ (sessOf s x).chal = none) ∧
    (∃ (s : State) (x : Ses) (r : Bytes) (key : Bytes) (c : Bytes), MonReady x s ∧ s.mon.lockEnd = none ∧ s.otp.mon = some key ∧ (sessOf s x).chal = some c ∧ hmac key (c ++ beBytes 8 s.uid ++ [0x02#8]) = r) ∧
    (∃ (s : State) (x : Ses), MonReady x s) ∧
    (∃ (s : State) (k : KeySlot) (key : Bytes), MonReady .onUart s ∧ coreRun s = true ∧ key.length = 32 ∧ s.mon.ses.level = 2 ∧ otpSlot s.otp k = none) ∧
    (∃ (s : State), MonReady .remote s) ∧
    (∃ (s : State) (x : Ses), MonReady x s) :=
  ⟨⟨w274.1, w274.2, by unfold MonReady; decide +kernel⟩,
   ⟨w275.1, w275.2.1, w275.2.2, ((w275.1.otp.mon).get (by decide +kernel) : Bytes), (((sessOf w275.1 w275.2.1).chal).get (by decide +kernel) : Bytes), by unfold MonReady; decide +kernel⟩,
   ⟨live, Ses.onUart, by unfold MonReady; decide +kernel⟩,
   ⟨w277.1, w277.2.1, w277.2.2, by unfold MonReady; decide +kernel⟩,
   ⟨w278.1, by unfold MonReady; decide +kernel⟩,
   ⟨({ live with boot := { live.boot with phase := .loading } } : State), Ses.onUart, by unfold MonReady; decide +kernel⟩⟩

def w280 : State × Nat :=
  let s : State := live
  let dice : Nat := 0
  let s : State := { s with mon := { s.mon with ses := { level := 2 } } }
  let len := 256 + 4 * (dice % 1000)
  (s, len)

def w281 : State × Bytes × Nat × Nat :=
  let s : State := live
  let dice : Nat := 0
  let s : State := { s with mon := { s.mon with prog := some { len := 256 + 4 * (dice % 1000), data := List.replicate (if dice % 2 = 0 then 0 else 1024) 3, next := dice % 256 } } }
  let blk : Bytes := List.replicate 1024 5
  let crc := xmodemCrc blk
  let num := dice % 256
  (s, blk, num, crc)

def w282 : State :=
  let s : State := live
  let dice : Nat := 0
  let h0 : Bytes := beBytes 4 0x42454E42 ++ beBytes 2 1 ++ beBytes 2 0x40 ++ beBytes 4 0x100 ++ beBytes 2 1 ++ [0, 1] ++ List.replicate 12 0 ++ List.replicate 16 0x41 ++ List.replicate 16 0
  let hd : Bytes := h0 ++ beBytes 4 (crc32 h0).toNat
  let s : State := { s with mon := { s.mon with prog := some { len := 64, data := hd, next := dice % 256 } } }
  s

def w283 : State × Nat :=
  let s : State := live
  let dice : Nat := 1
  let h := dice % 4
  (s, h)

def w285 : State :=
  let s : State := live
  let s : State := { s with mon := { s.mon with opened := some { seg := 0, handle := 3, uid := 78 }, opening := false } }
  s

def w286 : State × Bytes :=
  let s : State := live
  let s : State := setReg s (0xD000) (if true then reg s (0xD000) ||| BitVec.ofNat 32 (2 ^ (5)) else reg s (0xD000) &&& ~~~ BitVec.ofNat 32 (2 ^ (5)))
  let f := mkFrame { kind := 8, cls := 3, dyn := true, crit := false, fold := false, src := 3, dtype := 0, dest := [2], cycle := 0, slot := 0, len := 0, hops := 0 } (remotePayload 0x4D 2 5 s.uid 78 [])
  (s, f)

def w287 : State × Bytes :=
  let s : State := live
  let s : State := { s with mon := { s.mon with opened := some { seg := 0, handle := 3, uid := 78 }, opening := true, waiting := true, mseq := 5 } }
  let f := mkFrame { kind := 8, cls := 3, dyn := true, crit := false, fold := false, src := 3, dtype := 0, dest := [2], cycle := 0, slot := 0, len := 0, hops := 0 } (remotePayload 0x52 1 5 78 s.uid (lineText "OK" []))
  (s, f)

def w288 : State :=
  let s : State := live
  let s : State := { s with mon := { s.mon with waiting := true } }
  s

def w289 : State :=
  let s : State := live
  let s : State := { s with mon := { s.mon with served := some { seg := 0, handle := 3, uid := 78 } } }
  s

def w290 : State :=
  let s : State := live
  let s : State := { s with mon := { s.mon with opened := some { seg := 0, handle := 3, uid := 78 } } }
  s

/-- Each clause of NvmAndRemoteSessionsComplete has a state and operands that meet its hypotheses. -/
theorem witness_NvmAndRemoteSessionsComplete :
    (∃ (s : State) (len : Nat), MonReady .onUart s ∧ s.mon.ses.level = 2 ∧ len % 4 = 0 ∧ 256 ≤ len ∧ len ≤ 8388608 ∧ s.boot.phase = .committed) ∧
    (∃ (s : State) (blk : Bytes) (num : Nat) (crc : Nat) (p : Prog), blk.length = 1024 ∧ crc = xmodemCrc blk ∧ monAlive s = true ∧ s.mon.prog = some p ∧ num = p.next % 256 ∧ p.next < 256) ∧
    (∃ (s : State) (p : Prog), monAlive s = true ∧ coreRun s = true ∧ s.mon.prog = some p ∧ p.data.length = p.len ∧ headerCrcOk (p.data.take 64) = true ∧ headerFieldsOk (p.data.take 64) = true ∧ s.mon.opened = none) ∧
    (∃ (s : State) (h : Nat) (e : TopoEnt), MonReady .onUart s ∧ s.inaug[segSel s].table.find? (fun e => e.handle == h && h != 0) = some e ∧ 252 ≤ rowQuota (ownRow s (segSel s)) (bitAt (reg s 0x5008) (monClass s))) ∧
    (∃ (s : State), MonReady .onUart s) ∧
    (∃ (s : State) (f : Far), monAlive s = true ∧ coreRun s = true ∧ s.mon.waiting = false ∧ s.mon.prog = none ∧ s.mon.opened = some f ∧ s.mon.opening = false ∧ 252 ≤ rowQuota (ownRow s f.seg) (bitAt (reg s 0x5008) (monClass s))) ∧
    (∃ (s : State) (f : Bytes) (b : Bytes) (x : Far), monAlive s = true ∧ coreRun s = true ∧ segGw s = false ∧ remoteValid f 0x4D = true ∧ payloadOf f = b ∧ regB s 0xD000 5 = true ∧ beAt b 4 8 = s.uid ∧ (byteAt b 1).testBit 1 = true ∧ s.mon.served = none ∧ { seg := 0, handle := (readHdr f).src, uid := beAt b 12 8 } = x ∧ 252 ≤ rowQuota (ownRow s 0) (bitAt (reg s 0x5008) (monClass s))) ∧
    (∃ (s : State) (f : Bytes) (b : Bytes) (x : Far), monAlive s = true ∧ coreRun s = true ∧ remoteValid f 0x52 = true ∧ s.mon.opened = some x ∧ payloadOf f = b ∧ s.mon.waiting = true ∧ s.mon.opening = true ∧ (readHdr f).src = x.handle ∧ beAt b 2 2 = s.mon.mseq ∧ beAt b 4 8 = x.uid ∧ beAt b 12 8 = s.uid ∧ (byteAt b 1).testBit 0 = true ∧ slice b 24 (beAt b 20 2) = lineText "OK" []) ∧
    (∃ (s : State), s.mon.waiting = true ∧ s.mon.opening = false ∧ s.mon.opened = none) ∧
    (∃ (s : State) (f : Far), coreRun s = true ∧ s.mon.served = some f) ∧
    (∃ (s : State) (f : Far), coreRun s = true ∧ s.mon.opened = some f ∧ s.mon.opening = false) :=
  ⟨⟨w280.1, w280.2, by unfold MonReady; decide +kernel⟩,
   ⟨w281.1, w281.2.1, w281.2.2.1, w281.2.2.2, ((w281.1.mon.prog).get (by decide +kernel) : Prog), by simp only [w281, List.length_replicate], by simp only [w281], by decide +kernel⟩,
   ⟨w282, ((w282.mon.prog).get (by decide +kernel) : Prog), by decide +kernel⟩,
   ⟨w283.1, w283.2, ((w283.1.inaug[segSel w283.1].table.find? (fun e => e.handle == w283.2 && w283.2 != 0)).get (by decide +kernel) : TopoEnt), by unfold MonReady; decide +kernel⟩,
   ⟨live, by unfold MonReady; decide +kernel⟩,
   ⟨w285, ((w285.mon.opened).get (by decide +kernel) : Far), by decide +kernel⟩,
   ⟨w286.1, w286.2, ((payloadOf w286.2) : Bytes), (({ seg := 0, handle := (readHdr w286.2).src, uid := beAt ((payloadOf w286.2) : Bytes) 12 8 }) : Far), by decide +kernel⟩,
   ⟨w287.1, w287.2, ((payloadOf w287.2) : Bytes), ((w287.1.mon.opened).get (by decide +kernel) : Far), by decide +kernel⟩,
   ⟨w288, by decide +kernel⟩,
   ⟨w289, ((w289.mon.served).get (by decide +kernel) : Far), by decide +kernel⟩,
   ⟨w290, ((w290.mon.opened).get (by decide +kernel) : Far), by decide +kernel⟩⟩

def w291 : State :=
  let s : State := live
  let s : State := setReg (setReg { s with mon := { s.mon with coll := 3 } } 0xB004 0xFF) 0xD008 0xC0050000#32 
  s

def w292 : State × Bytes :=
  let s : State := live
  let dice : Nat := 0
  let s : State := setReg s (0xD000) (if true then reg s (0xD000) ||| BitVec.ofNat 32 (2 ^ (6)) else reg s (0xD000) &&& ~~~ BitVec.ofNat 32 (2 ^ (6)))
  let f := mkFrame { kind := 8, cls := 3, dyn := true, crit := false, fold := false, src := dice % 5, dtype := 0, dest := [2], cycle := 0, slot := 0, len := 0, hops := 0 } (telPayload s (dice % 2))
  (s, f)

def w293 : State × Bytes :=
  let s : State := live
  let dice : Nat := 0
  let f := mkFrame { kind := 8, cls := 3, dyn := true, crit := false, fold := false, src := dice % 5, dtype := 0, dest := [2], cycle := 0, slot := 0, len := 0, hops := 0 } (telPayload s (dice % 2))
  (s, f)

def w294 : State × Req × (BitVec 4) × Word :=
  let s : State := { live with boot := { live.boot with phase := .loading } }
  let req : Req := Req.host
  let be : BitVec 4 := 0xf#4
  let v : Word := 0x7593edfd#32
  let s : State := { s with line := { s.line with core := true, por := false, resetLow := false }, snuf := { s.snuf with pastSi := false }, hb := { s.hb with held := none, owns := false }, flt := { s.flt with mgmtDown := false }, boot := { s.boot with phase := .committed } }
  (s, req, be, v)

/-- Each clause of TelemetryRowsComplete has a state and operands that meet its hypotheses. -/
theorem witness_TelemetryRowsComplete :
    (∃ (s : State), telOn s = true ∧ regF s 0xD008 23 16 ≠ 0 ∧ s.mon.coll ≠ 0 ∧ s.mon.coll ≠ ownHandle s 0) ∧
    (∃ (s : State) (f : Bytes), committed s = true ∧ s.flt.mgmtDown = false ∧ hcrcOk f = true ∧ byteAt f 0 = 8 ∧ trailerOk f = true ∧ byteAt (payloadOf f) 0 = 0x54 ∧ regB s 0xD000 6 = true) ∧
    (∃ (s : State) (f : Bytes), committed s = true ∧ s.flt.mgmtDown = false ∧ hcrcOk f = true ∧ byteAt f 0 = 8 ∧ trailerOk f = true ∧ byteAt (payloadOf f) 0 = 0x54 ∧ regB s 0xD000 6 = false) ∧
    (∃ (s : State) (req : Req) (be : BitVec 4) (v : Word) (n : Nat), Reaches req 0xD010 be s ∧ fld (mergeBe be (getLatch s req 0xD010) v) 7 0 = n) :=
  ⟨⟨w291, by decide +kernel⟩,
   ⟨w292.1, w292.2, by decide +kernel⟩,
   ⟨w293.1, w293.2, by decide +kernel⟩,
   ⟨w294.1, w294.2.1, w294.2.2.1, w294.2.2.2, ((fld (mergeBe w294.2.2.1 (getLatch w294.1 w294.2.1 0xD010) w294.2.2.2) 7 0) : Nat), by unfold Reaches; decide +kernel⟩⟩

def w295 : State × Req × (BitVec 4) × Word :=
  let s : State := State.reset
  let req : Req := Req.host
  let be : BitVec 4 := 0xf#4
  let v : Word := 0x00000001#32
  let s : State := { s with line := { s.line with core := true, por := false, resetLow := false }, snuf := { s.snuf with pastSi := false }, hb := { s.hb with held := none, owns := false }, flt := { s.flt with mgmtDown := false }, boot := { s.boot with phase := .committed } }
  (s, req, be, v)

def w296 : State × Req × (BitVec 4) × Word × Nat :=
  let s : State := live
  let req : Req := Req.host
  let be : BitVec 4 := 0x1#4
  let v : Word := 0x00000006#32
  let dice : Nat := 0
  let off := 0x4000 + 4 * (dice % 64)
  (s, req, be, v, off)

def w297 : State × Req × (BitVec 4) × Word × Nat :=
  let s : State := State.reset
  let req : Req := Req.host
  let be : BitVec 4 := 0xf#4
  let v : Word := 0x10000000#32
  let dice : Nat := 2
  let s : State := { s with line := { s.line with core := true, por := false, resetLow := false }, snuf := { s.snuf with pastSi := false }, hb := { s.hb with held := none, owns := false }, flt := { s.flt with mgmtDown := false }, boot := { s.boot with phase := .committed } }
  let off := dice % 65536
  (s, req, be, v, off)

def w298 : State × Req × (BitVec 4) × Word :=
  let s : State := State.reset
  let req : Req := Req.host
  let be : BitVec 4 := 0xf#4
  let v : Word := 0x0000003a#32
  let s : State := { s with line := { s.line with core := true, por := false, resetLow := false }, snuf := { s.snuf with pastSi := false }, hb := { s.hb with held := none, owns := false }, flt := { s.flt with mgmtDown := false }, boot := { s.boot with phase := .committed } }
  (s, req, be, v)

def w300 : State × Req × (BitVec 4) × Word :=
  let s : State := State.reset
  let req : Req := Req.host
  let be : BitVec 4 := 0xf#4
  let v : Word := 0x875d60f2#32
  let s : State := { s with line := { s.line with core := true, por := false, resetLow := false }, snuf := { s.snuf with pastSi := false }, hb := { s.hb with held := none, owns := false }, flt := { s.flt with mgmtDown := false }, boot := { s.boot with phase := .committed } }
  (s, req, be, v)

def w301 : State × Req × Word :=
  let s : State := live
  let req : Req := Req.host
  let dice : Nat := 0
  let v : Word := BitVec.ofNat 32 (dice * 65536)
  (s, req, v)

/-- Each clause of RegisterRowsComplete has a state and operands that meet its hypotheses. -/
theorem witness_RegisterRowsComplete :
    (∃ (s : State) (req : Req) (be : BitVec 4), Reaches req 0x14 be s) ∧
    (∃ (s : State) (req : Req) (be : BitVec 4) (off : Nat), Reaches req off be s ∧ off % 4 = 0 ∧ off / 0x1000 = 4 ∧ committed s = true ∧ s.boot.locked = true) ∧
    (∃ (s : State) (req : Req) (be : BitVec 4) (off : Nat), Reaches req off be s ∧ (desc off).isNone = true) ∧
    (∃ (s : State) (req : Req) (be : BitVec 4), Reaches req 0x40 be s) ∧
    (∃ (s : State) (req : Req) (be : BitVec 4), Reaches req 0x4C be s) ∧
    (∃ (s : State) (req : Req) (be : BitVec 4), Reaches req 0x44 be s) ∧
    (∃ (s : State) (req : Req), Reaches req 0xA104 0xF s ∧ switchBusy s = false ∧ s.line.core = true ∧ s.line.ov = false ∧ s.line.railOk = true ∧ ((∀ p : Fin 4, portI1g s (portOf p) = false))) :=
  ⟨⟨w295.1, w295.2.1, w295.2.2.1, by unfold Reaches; decide +kernel⟩,
   ⟨w296.1, w296.2.1, w296.2.2.1, w296.2.2.2.2, by unfold Reaches; decide +kernel⟩,
   ⟨w297.1, w297.2.1, w297.2.2.1, w297.2.2.2.2, by unfold Reaches; decide +kernel⟩,
   ⟨w298.1, w298.2.1, w298.2.2.1, by unfold Reaches; decide +kernel⟩,
   ⟨live, Req.host, (0xf#4 : BitVec 4), by unfold Reaches; decide +kernel⟩,
   ⟨w300.1, w300.2.1, w300.2.2.1, by unfold Reaches; decide +kernel⟩,
   ⟨w301.1, w301.2.1, by unfold Reaches; decide +kernel⟩⟩

def w302 : State × Bytes × Nat × (Fin 16) :=
  let s : State := live
  let stamp : Nat := 1
  let dice : Nat := 0
  let n := dice % 16
  let s : State := winW s n (dice / 16)
  let f := msgW s 0x90 n 0 9 0xFF 0x11 (dice % 10000) 15 false []
  let n : Fin 16 := Fin.ofNat 16 n
  (s, f, stamp, n)

def w303 : State × Nat × (BitVec 4) × Word × Bool × Nat :=
  let s : State := live
  let be : BitVec 4 := 0xe#4
  let v : Word := 0x29321171#32
  let merge : Bool := false
  let dice : Nat := 1
  let n := dice % 16
  let s : State := winW s n (dice / 16)
  let s : State := setWin s n (fun w => { w with poison := true, handle := 3 })
  let addr := 0x1000000 + 4 * (dice / 64 % 1000)
  let be : BitVec 4 := if dice % 3 = 0 then be else 0xF
  (s, addr, be, v, merge, n)

def w304 : State × Req × (Fin 16) × Word :=
  let s : State := State.reset
  let req : Req := Req.host
  let n : Fin 16 := 3
  let v : Word := 0x921001f9#32
  let s : State := { s with line := { s.line with core := true, por := false, resetLow := false }, snuf := { s.snuf with pastSi := false }, hb := { s.hb with held := none, owns := false }, flt := { s.flt with mgmtDown := false }, boot := { s.boot with phase := .committed } }
  (s, req, n, v)

/-- Each clause of PoisonedWindows has a state and operands that meet its hypotheses. -/
theorem witness_PoisonedWindows :
    (∃ (s : State) (f : Bytes) (b : Bytes) (n : Fin 16), coreRun s = true ∧ bridgeMsg f = some b ∧ forUs s b = true ∧ byteAt b 14 = 0x90 ∧ byteAt b 21 ≠ 0x16 ∧ byteAt b 21 ≠ 0x18 ∧ byteAt b 16 % 16 = n.val ∧ s.hb.log.length < 16 ∧ bitAt (winCfg s n.val) 16 = true ∧ s.hb.wins[n].poison = false ∧ mget s.log.limits (4096 * 0x9010 + n.val) = none) ∧
    (∃ (s : State) (addr : Nat) (n : Nat) (be : BitVec 4), lbusFree s = true ∧ 0x1000000 ≤ addr ∧ addr < 0x4000000 ∧ contiguous be = true ∧ remoteRefuse s addr be.toNat true = (0x04, n)) ∧
    (∃ (s : State) (req : Req) (v : Word), Reaches req 0x9210 0xF s ∧ bitAt v 31 = true) :=
  ⟨⟨w302.1, w302.2.1, ((bridgeMsg w302.2.1).get (by decide +kernel) : Bytes), w302.2.2.2, by decide +kernel⟩,
   ⟨w303.1, w303.2.1, w303.2.2.2.2.2, w303.2.2.1, by decide +kernel⟩,
   ⟨w304.1, w304.2.1, w304.2.2.2, by unfold Reaches; decide +kernel⟩⟩

def w305 : State × (Fin 64) :=
  let s : State := live
  let dice : Nat := 0
  let n := dice % 16
  let tg : Fin 64 := Fin.ofNat 64 dice
  let s : State := { s with hb := { s.hb with tags := [(tg.val, { kind := dice % 3, win := n, addr := 64, be := 15, data := 0, handle := 3, tseq := 9 })] } }
  let n := tg
  (s, n)

def w306 : State × Nat × (BitVec 4) × Nat :=
  let s : State := live
  let dice : Nat := 1
  let n := dice % 16
  let s : State := winW s n (dice / 16)
  let addr := 0x1000000 + 4 * (dice / 64 % 1000)
  let be : BitVec 4 := 0xF
  let s : State := { s with hb := { s.hb with tags := (5, { kind := 0, win := n, addr := addr, be := 15, data := 0, handle := 3, tseq := 1, answer := if dice % 3 = 0 then none else some (0x20, 7) }) :: s.hb.tags } }
  (s, addr, be, n)

def w307 : State × Bytes :=
  let s : State := live
  let dice : Nat := 0
  let n := dice % 16
  let f := msgW s 0x83 n 0 (if dice % 2 = 0 then 9 else 10) 4 0 0 15 false [1,2,3,4]
  (s, f)

def w308 : State × (Fin 64) :=
  let s : State := live
  let dice : Nat := 0
  let n := dice % 16
  let tg : Fin 64 := Fin.ofNat 64 dice
  let s : State := { s with hb := { s.hb with tags := [(tg.val, { kind := dice % 2, win := n, addr := 64, be := 15, data := 0, handle := 3, tseq := 9, answer := some (0, 5) })] } }
  let n := tg
  (s, n)

def w309 : State × Nat × (BitVec 4) × Nat :=
  let s : State := live
  let be : BitVec 4 := 0xf#4
  let dice : Nat := 0
  let n := dice % 16
  let s : State := winW s n (dice / 16)
  let addr := 0x1000000 + 4 * (dice / 64 % 1000)
  let be : BitVec 4 := if dice % 3 = 0 then be else 0xF
  (s, addr, be, n)

/-- Each clause of TagsEnd has a state and operands that meet its hypotheses. -/
theorem witness_TagsEnd :
    (∃ (s : State) (n : Fin 64) (x : Tag), coreRun s = true ∧ mget s.hb.tags n.val = some x ∧ x.answer = none ∧ x.held = false ∧ mget s.log.limits (4096 * 0x9020 + 0xFFF) = none) ∧
    (∃ (s : State) (addr : Nat) (n : Nat) (g : Nat) (be : BitVec 4) (x : Tag) (d : Word), lbusFree s = true ∧ 0x1000000 ≤ addr ∧ addr < 0x4000000 ∧ contiguous be = true ∧ remoteRefuse s addr be.toNat false = (0, n) ∧ s.hb.tags.find? (fun y => y.2.kind == 0 && y.2.win == n && y.2.addr == addr && y.2.be == be.toNat) = some (g, x) ∧ x.answer = some (0x20, d)) ∧
    (∃ (s : State) (f : Bytes) (b : Bytes), bridgeMsg f = some b ∧ forUs s b = true ∧ byteAt b 14 = 0x83 ∧ answers s b (readHdr f).src 0 = none) ∧
    (∃ (s : State) (n : Fin 64) (x : Tag) (c : Nat) (d : Word), coreRun s = true ∧ mget s.hb.tags n.val = some x ∧ x.answer = some (c, d) ∧ x.kind ≠ 2 ∧ mget s.log.limits (4096 * 0x9021 + 0xFFF) = none) ∧
    (∃ (s : State) (addr : Nat) (n : Nat) (g : Nat) (be : BitVec 4), lbusFree s = true ∧ 0x1000000 ≤ addr ∧ addr < 0x4000000 ∧ contiguous be = true ∧ remoteRefuse s addr be.toNat false = (0, n) ∧ BridgeSends s ∧ s.hb.tags.find? (fun y => y.2.kind == 0 && y.2.win == n && y.2.addr == addr && y.2.be == be.toNat) = none ∧ bridgeBusy s = false ∧ freeTag s = some g) :=
  ⟨⟨w305.1, w305.2, ((mget w305.1.hb.tags w305.2.val).get (by decide +kernel) : Tag), by decide +kernel⟩,
   ⟨w306.1, w306.2.1, w306.2.2.2, (((w306.1.hb.tags.find? (fun y => y.2.kind == 0 && y.2.win == w306.2.2.2 && y.2.addr == w306.2.1 && y.2.be == w306.2.2.1.toNat)).map (fun q_ => q_.1)).get (by decide +kernel) : Nat), w306.2.2.1, (((w306.1.hb.tags.find? (fun y => y.2.kind == 0 && y.2.win == w306.2.2.2 && y.2.addr == w306.2.1 && y.2.be == w306.2.2.1.toNat)).map (fun q_ => q_.2)).get (by decide +kernel) : Tag), ((((((w306.1.hb.tags.find? (fun y => y.2.kind == 0 && y.2.win == w306.2.2.2 && y.2.addr == w306.2.1 && y.2.be == w306.2.2.1.toNat)).map (fun q_ => q_.2)).get (by decide +kernel) : Tag).answer).map (fun q_ => q_.2)).get (by decide +kernel) : Word), by decide +kernel⟩,
   ⟨w307.1, w307.2, ((bridgeMsg w307.2).get (by decide +kernel) : Bytes), by decide +kernel⟩,
   ⟨w308.1, w308.2, ((mget w308.1.hb.tags w308.2.val).get (by decide +kernel) : Tag), (((((mget w308.1.hb.tags w308.2.val).get (by decide +kernel) : Tag).answer).map (fun q_ => q_.1)).get (by decide +kernel) : Nat), (((((mget w308.1.hb.tags w308.2.val).get (by decide +kernel) : Tag).answer).map (fun q_ => q_.2)).get (by decide +kernel) : Word), by decide +kernel⟩,
   ⟨w309.1, w309.2.1, w309.2.2.2, ((freeTag w309.1).get (by decide +kernel) : Nat), w309.2.2.1, by unfold BridgeSends; decide +kernel⟩⟩

def w310 : State × Bytes :=
  let s : State := live
  let dice : Nat := 0
  let n := dice % 16
  let s : State := { s with hb := { s.hb with applied := [(3, if 1 = 1 then 9 else 6)] } }
  let f := msgW { s with uid := if 1 = 3 then s.uid + 5 else s.uid } 2 n 0 9 (dice % 64) 0 (0x14) 15 false [1,2,3,4]
  (s, f)

def w311 : State × Bytes :=
  let s : State := live
  let dice : Nat := 0
  let n := dice % 16
  let s : State := { s with hb := { s.hb with applied := [(3, if 2 = 1 then 9 else 6)] } }
  let f := msgW { s with uid := if 2 = 3 then s.uid + 5 else s.uid } 4 n 3 9 (dice % 64) 0 (dice % 32) 15 false [1,2,3,4]
  (s, f)

def w312 : State × Bytes :=
  let s : State := live
  let dice : Nat := 0
  let n := dice % 16
  let f := msgW { s with uid := if 3 = 3 then s.uid + 5 else s.uid } 2 n 0 9 (dice % 64) 0 (0x14) 15 false [1,2,3,4]
  (s, f)

/-- Each clause of RequestsOutOfOrder has a state and operands that meet its hypotheses. -/
theorem witness_RequestsOutOfOrder :
    (∃ (s : State) (f : Bytes) (b : Bytes) (r : HbReq), BridgeIdle s ∧ BridgeSends s ∧ bridgeMsg f = some b ∧ forUs s b = true ∧ readReq f b = r ∧ r.bop = 2 ∧ (byteAt b 15).testBit 1 = false ∧ mget s.hb.applied r.src = some r.tseq) ∧
    (∃ (s : State) (f : Bytes) (b : Bytes) (r : HbReq) (q : Nat), BridgeIdle s ∧ BridgeSends s ∧ bridgeMsg f = some b ∧ forUs s b = true ∧ readReq f b = r ∧ r.bop = 4 ∧ (byteAt b 15).testBit 1 = false ∧ mget s.hb.applied r.src = some q ∧ q < 65536 ∧ r.tseq = (q + 3) % 65536 ∧ tgtRefuse s r = 0) ∧
    (∃ (s : State) (f : Bytes) (b : Bytes) (r : HbReq), BridgeIdle s ∧ BridgeSends s ∧ bridgeMsg f = some b ∧ forUs s b = false ∧ readReq f b = r ∧ r.bop = 2) :=
  ⟨⟨w310.1, w310.2, ((bridgeMsg w310.2).get (by decide +kernel) : Bytes), ((readReq w310.2 ((bridgeMsg w310.2).get (by decide +kernel) : Bytes)) : HbReq), by unfold BridgeSends BridgeIdle; decide +kernel⟩,
   ⟨w311.1, w311.2, ((bridgeMsg w311.2).get (by decide +kernel) : Bytes), ((readReq w311.2 ((bridgeMsg w311.2).get (by decide +kernel) : Bytes)) : HbReq), ((mget w311.1.hb.applied ((readReq w311.2 ((bridgeMsg w311.2).get (by decide +kernel) : Bytes)) : HbReq).src).get (by decide +kernel) : Nat), by unfold BridgeSends BridgeIdle; decide +kernel⟩,
   ⟨w312.1, w312.2, ((bridgeMsg w312.2).get (by decide +kernel) : Bytes), ((readReq w312.2 ((bridgeMsg w312.2).get (by decide +kernel) : Bytes)) : HbReq), by unfold BridgeSends BridgeIdle; decide +kernel⟩⟩

def w313 : State × Bytes :=
  let s : State := live
  let dice : Nat := 0
  let n := dice % 16
  let s : State := setReg s 0x9008 (if dice % 2 = 0 then 0 else 0xF)
  let f := msgW s 2 n 0 9 (dice % 64) 0 (if dice / 2 % 2 = 0 then 0x14 else 0xB00C) 15 false [1,2,3,4]
  (s, f)

/-- A state and operands that meet the hypotheses of FarRequestsRefused. -/
theorem witness_FarRequestsRefused :
    (∃ (s : State) (f : Bytes) (b : Bytes) (r : HbReq), BridgeIdle s ∧ BridgeSends s ∧ bridgeMsg f = some b ∧ forUs s b = true ∧ readReq f b = r ∧ r.bop = 2 ∧ InSeq s b r ∧ tgtRefuse s r = 0x10) :=
  ⟨w313.1, w313.2, ((bridgeMsg w313.2).get (by decide +kernel) : Bytes), ((readReq w313.2 ((bridgeMsg w313.2).get (by decide +kernel) : Bytes)) : HbReq), by unfold BridgeSends BridgeIdle InSeq; decide +kernel⟩

def w314 : State × Ses × Bytes :=
  let s : State := live
  let x : Ses := Ses.onUart
  let r : Bytes := []
  let dice : Nat := 0
  let s : State := { s with otp := { s.otp with mon := some [1,2] }, mon := { s.mon with lockEnd := none, ses := { level := 1, chal := some [5,6] }, rem := { level := 1, chal := some [5,6] }, fails := dice % 3 } }
  (s, x, r)

def w315 : State × Ses × Bytes :=
  let s : State := live
  let x : Ses := Ses.onUart
  let r : Bytes := ([0x02#8, 0xbb#8])
  let dice : Nat := 2
  let s : State := { s with otp := { s.otp with mon := some [1,2] }, mon := { s.mon with lockEnd := none, ses := { level := 1, chal := some [5,6] }, rem := { level := 1, chal := some [5,6] }, fails := dice % 3 } }
  (s, x, r)

def w316 : State × Ses :=
  let s : State := { live with boot := { live.boot with phase := .loading } }
  let x : Ses := Ses.onUart
  let s : State := { s with mon := { s.mon with lockEnd := some 5 } }
  (s, x)

def w317 : State × Word :=
  let s : State := live
  let dice : Nat := 1
  let s : State := setReg s (0xC000) (if true then reg s (0xC000) ||| BitVec.ofNat 32 (2 ^ (0)) else reg s (0xC000) &&& ~~~ BitVec.ofNat 32 (2 ^ (0)))
  let key : Bytes := [1,2,3]
  let sc := dice % 32
  let s : State := { s with otp := { s.otp with clr := some key }, log := { s.log with lockout := false, chal := [9,8], chalOk := true, scope := sc }, mram := { s.mram with bankA := { s.mram.bankA with st := 0 } } }
  let v : Word := 0xB7C10200#32 + BitVec.ofNat 32 sc
  (s, v)

/-- Each clause of WrongResponsesLock has a state and operands that meet its hypotheses. -/
theorem witness_WrongResponsesLock :
    (∃ (s : State) (x : Ses) (r : Bytes) (key : Bytes) (c : Bytes), MonReady x s ∧ s.mon.lockEnd = none ∧ s.otp.mon = some key ∧ (sessOf s x).chal = some c ∧ r ≠ hmac key (c ++ beBytes 8 s.uid ++ [0x02#8]) ∧ s.mon.fails < 2) ∧
    (∃ (s : State) (x : Ses) (r : Bytes) (key : Bytes) (c : Bytes), MonReady x s ∧ s.mon.lockEnd = none ∧ s.otp.mon = some key ∧ (sessOf s x).chal = some c ∧ r ≠ hmac key (c ++ beBytes 8 s.uid ++ [0x02#8]) ∧ s.mon.fails = 2) ∧
    (∃ (s : State) (x : Ses), MonReady x s ∧ s.mon.lockEnd ≠ none) ∧
    (∃ (s : State) (v : Word) (key : Bytes), Reaches .host 0xC0C0 0xF s ∧ switchBusy s = false ∧ coreRun s = true ∧ fld v 31 16 = 0xB7C1 ∧ bitAt v 8 = false ∧ bitAt v 9 = true ∧ regB s 0xC000 0 = true ∧ s.log.lockout = false ∧ s.otp.clr = some key ∧ s.log.chalOk = true ∧ hmac key (s.log.chal ++ beBytes 8 s.uid ++ [BitVec.ofNat 8 s.log.scope] ++ beBytes 4 s.log.chalHead) ≠ respBytes s) :=
  ⟨⟨w314.1, w314.2.1, w314.2.2, ((w314.1.otp.mon).get (by decide +kernel) : Bytes), (((sessOf w314.1 w314.2.1).chal).get (by decide +kernel) : Bytes), by unfold MonReady; decide +kernel⟩,
   ⟨w315.1, w315.2.1, w315.2.2, ((w315.1.otp.mon).get (by decide +kernel) : Bytes), (((sessOf w315.1 w315.2.1).chal).get (by decide +kernel) : Bytes), by unfold MonReady; decide +kernel⟩,
   ⟨w316.1, w316.2, by unfold MonReady; decide +kernel⟩,
   ⟨w317.1, w317.2, ((w317.1.otp.clr).get (by decide +kernel) : Bytes), by unfold Reaches; decide +kernel⟩⟩

/-! The general statements: a state that meets the hypotheses of each. -/

theorem witness_StepTakesFrontCommand : ∃ (s : State) (c : Instr) (rest : List Instr), s.pending = c :: rest ∧ rest ≠ [] :=
  ⟨{ live with pending := [.tapBypass 0x3F [], .tapReset] }, .tapBypass 0x3F [], [.tapReset], by decide +kernel⟩

theorem witness_IdleStepPassesTime :
    (∃ s : State, s.pending = [] ∧ coreRun s = false ∧ ((s.now + 1) % 1000000 ≠ 0 ∨ s.line.node = .off)) ∧
    (∃ s : State, s.pending = [] ∧ coreRun s = true ∧ (s.now + 1) % 1000000 ≠ 0 ∧ s.sch.ctl = [] ∧ s.sch.relays = [] ∧ s.sw.fab.ins = [] ∧
      s.hb.inq = [] ∧ s.log.raised = [] ∧ s.sg.jobs = [] ∧ (s.tb.ctr + 1) % 16 = 0 ∧ slotUser ((s.lamp.slot + 1) % 32) = .spare) :=
  ⟨⟨State.reset, by decide +kernel⟩, ⟨{ live with tb := { live.tb with ctr := 15 }, lamp := { live.lamp with slot := 14 } }, by decide +kernel⟩⟩

theorem witness_ExecKeepsQueueAndUid : ∃ (c : Instr) (s t : State), exec c s = .next t ∧ s.pending ≠ [] ∧ s.uid = 77 :=
  ⟨.tapBypass 0x3F [], { live with pending := [.tapReset] }, _, rfl, by decide +kernel⟩

/-- A command after which the core still runs and the sequencer's phase has changed. -/
theorem witness_ChangesSetPendingBits : ∃ (c : Instr) (s t : State), exec c s = .next t ∧ coreRun s = true ∧ coreRun t = true ∧ s.boot.phase ≠ t.boot.phase :=
  ⟨.nvmWaitDone, { live with boot := { live.boot with phase := .nvmWait } }, _, rfl, by decide +kernel⟩

/-- Commands that pull IRQ# low (GL_IFORCE sets a bit that GL_IEN passes) and that release the balls (HIGHZ). -/
theorem witness_BallsAfterCommands :
    (∃ (c : Instr) (s t : State), exec c s = .next t ∧ bscan t = false ∧ t.pins.irqLow = true ∧ s.pins.irqLow = false) ∧
    (∃ (c : Instr) (s t : State), exec c s = .next t ∧ t.tap = 3) :=
  ⟨⟨.irqForce .monitor 0xF 1#32, { live with mon := { live.mon with ses := { live.mon.ses with level := 2 } } }, _, rfl, by decide +kernel⟩, ⟨.tapHighz [], live, _, rfl, by decide +kernel⟩⟩

theorem witness_StepKeepsPinsFit : ∃ s t : State, PinsFit s ∧ step s = .next t ∧ s.pins.irqLow = false ∧ t.pins.irqLow = true :=
  ⟨{ live with mon := { live.mon with ses := { live.mon.ses with level := 2 } }, pending := [.irqForce .monitor 0xF 1#32], pins := pinsOf live }, _, by unfold PinsFit; decide +kernel, rfl, by decide +kernel⟩

theorem witness_LockedFieldsStay :
    (∃ (s : State) (off : Nat) (d : Desc), s.boot.locked = true ∧ imageLoads s = false ∧ (s.boot.phase ≠ .switchLoad ∨ off < 0x5000) ∧
      desc off = some d ∧ d.rwl ≠ 0) ∧
    (∃ (s : State) (off : Nat) (d : Desc), desc off = some d ∧ s.boot.locked = true ∧ s.boot.phase = .switchLoad ∧ 0x5000 ≤ off ∧ d.rwl ≠ 0) ∧
    (∃ (s : State) (off : Nat) (d : Desc), desc off = some d ∧ s.boot.locked = false ∧ d.rwl ≠ 0) ∧
    (∃ (s : State) (req : Req), req ≠ .host ∧ committed s = true ∧ s.boot.phase = .switchLoad) :=
  ⟨⟨live, 0x4000, (desc 0x4000).get (by decide +kernel), by decide +kernel⟩,
   ⟨{ live with boot := { live.boot with phase := .switchLoad } }, 0x5020, (desc 0x5020).get (by decide +kernel), by decide +kernel⟩,
   ⟨State.reset, 0x4000, (desc 0x4000).get (by decide +kernel), by decide +kernel⟩,
   ⟨{ live with boot := { live.boot with phase := .switchLoad } }, .monitor, by decide +kernel⟩⟩

theorem witness_UnassignedOffsetsAndReads : (∃ off : Nat, off ≠ 0x3010 ∧ off ≠ 0x3048 ∧ off ≠ 0x206C ∧ (desc off).isSome = true) ∧ ∃ off : Nat, (desc off).isNone = true :=
  ⟨⟨0x14, by decide +kernel⟩, ⟨0xF000, by decide +kernel⟩⟩

theorem witness_ByteEnablesOfCommands : (∃ (off : Nat) (req : Req), cmdReg off = true ∧ req ≠ .host) ∧
    ∃ (s : State) (be : BitVec 4), reqAlive s .host = true ∧ contiguous be = false :=
  ⟨⟨0xB00C, .far, by decide +kernel⟩, ⟨live, 5, by decide +kernel⟩⟩

theorem witness_HostShutOut :
    (∃ s : State, hostAlive s = false ∧ committed s = false) ∧ (∃ s : State, hostAlive s = false ∧ s.snuf.pastSi = true) ∧
    (∃ (s : State) (off : Nat) (be : BitVec 4), reqAlive s .host = true ∧ switchBusy s = true ∧ 0x1000 ≤ off ∧ contiguous be = true) :=
  ⟨⟨{ live with boot := { live.boot with phase := .loading } }, by decide +kernel⟩,
   ⟨{ live with snuf := { live.snuf with pastSi := true } }, by decide +kernel⟩,
   ⟨{ live with boot := { live.boot with phase := .switchVerify } }, 0x1000, 0xF, by decide +kernel⟩⟩

theorem witness_PoisonedWindows_code : ∃ (s : State) (addr n be : Nat), hbClosed s = false ∧ winAt s addr = some n ∧
    sizeOk (winSpace s n) (winOrder s n) be = true ∧ winHandle s n ≠ 0 ∧ ((s.hb.wins[n]?).getD {}).poison = true :=
  ⟨setWin (winW live 3 24) 3 (fun w => { w with poison := true }), 0x1000000, 3, 15, by decide +kernel⟩

/-- A write request of another node for register `addr`. -/
def reqW (addr bop space : Nat) : HbReq :=
  { bop := bop, src := 3, smac := 0, win := 0, space := space, tseq := 1, tag := 0, addr := addr, be := 15, order := 1, data := [1, 2, 3, 4] }

theorem witness_FarRequestsRefused_codes :
    (∃ (s : State) (r : HbReq), hbClosed s = false ∧ hbOn s = true ∧ r.space = 0 ∧ r.bop = 2 ∧ regB s 0x9008 1 = false) ∧
    (∃ (s : State) (r : HbReq), hbClosed s = false ∧ hbOn s = true ∧ r.space = 0 ∧ r.bop = 2 ∧ r.data.length = 4 ∧ magicReg r.addr = true) ∧
    (∃ (s : State) (r : HbReq), hbClosed s = false ∧ hbOn s = true ∧ r.space = 0 ∧ r.bop = 2 ∧ monReg r.addr = true) ∧
    (∃ (s : State) (r : HbReq), hbClosed s = false ∧ hbOn s = true ∧ r.space = 2 ∧ r.bop = 3 ∧ canMaster s = true ∧
      ∀ m : Fin 16, bitAt (mbxCfg s m.val) 31 = false) :=
  ⟨⟨setReg live 0x9008 0, reqW 0x14 2 0, by decide +kernel⟩, ⟨live, reqW 0x120 2 0, by decide +kernel⟩, ⟨live, reqW 0xD000 2 0, by decide +kernel⟩,
   ⟨live, reqW 0x14 3 2, by decide +kernel⟩⟩

theorem witness_CountersAndIntake :
    (∃ (s : State) (off : Nat), reg s off = 0xFFFFFFFF) ∧ (∃ (s : State) (off : Nat), reg s off ≠ 0xFFFFFFFF) ∧ (∃ s : State, coreRun s = false) :=
  ⟨⟨setReg live 0x1120 0xFFFFFFFF#32, 0x1120, by decide +kernel⟩, ⟨live, 0x1120, by decide +kernel⟩, ⟨State.reset, by decide +kernel⟩⟩

theorem witness_RegistersHideKeys : ∃ (s : State) (o : Otp), o.img.isSome = s.otp.img.isSome ∧ o.mon.isSome = s.otp.mon.isSome ∧
    o.clr.isSome = s.otp.clr.isSome ∧ o.mon ≠ s.otp.mon :=
  ⟨{ live with otp := { live.otp with mon := some [1] } }, { live.otp with mon := some [2] }, by decide +kernel⟩

/-! WellFormed refuses an ill-formed command for each of its checks. -/

theorem test_straps_eight_samples : Instr.wellFormed (.resetRelease { psel := [0#2], mtx := [true] }) = false := by decide

theorem test_power_on_straps : Instr.wellFormed (.powerOnResetEnd true { psel := [], mtx := List.replicate 8 true }) = false := by decide

theorem test_register_offset_multiple_of_4 : Instr.wellFormed (.registerWrite .host 0x15 0xF 0) = false := by decide

theorem test_register_offset_in_map : Instr.wellFormed (.registerWrite .host 0x10000 0xF 0) = false := by decide

theorem test_sig_window_word : Instr.wellFormed (.sigWindowWrite 2 0xF 0) = false := by decide

theorem test_can_buffer_word : Instr.wellFormed (.canBufferWrite 2 0xF 0) = false := by decide

theorem test_remote_words : (Instr.wellFormed (.remoteRead 0x1000001 0xF), Instr.wellFormed (.remotePostedWrite 0x1000001 0xF 0 false),
    Instr.wellFormed (.remoteNpWrite 0x1000001 0xF 0)) = (false, false, false) := by decide

/-- R261: a base identifier has 11 bits. -/
theorem test_can_identifier_width :
    canFrameOk { ide := false, fdf := false, brs := false, rtr := false, esi := false, id := 2048, dlc := 0, data := [], stamp := 0 } = false := by decide

theorem test_statistic_numbers : (Instr.wellFormed (.statSample false 64), Instr.wellFormed (.statSample true 128), Instr.wellFormed (.statSample true 127)) =
    (false, false, true) := by decide

/-- Table 5-7: a link message has 37 bytes. -/
theorem test_link_message_length : Instr.wellFormed (.lockAchieved 0 [0#8]) = false := by decide

/-- Table 5-2: a block has 320 bits; R95: the scrambler looks back over 58. -/
theorem test_blocks_of_320_bits : (Instr.wellFormed (.nativeFrameRx 0 (.line [] [] 0)),
    Instr.wellFormed (.nativeFrameRx 0 (.line (List.replicate 58 false) [[true]] 0))) = (false, false) := by decide

/-- R332: lane B's word counts where lane A's is not valid (the second case of WakeSourcesComplete's clause). -/
theorem test_kindle_word_lane_b :
    wordValid ((readCells []).getD []) = false ∧ readCells (toneCells (kindleWord 3 0 false)) = some (kindleWord 3 0 false) := by decide +kernel

/-- R332: a Kindle word has 32 cells. -/
theorem test_kindle_word_cells : Instr.wellFormed (.kindleWordRx .fore [125000] []) = false := by decide

/-- Table 2-12: codes 0 to 4 are instructions of their own. -/
theorem test_bypass_code : (Instr.wellFormed (.tapBypass 4 []), Instr.wellFormed (.tapBypass 0x3F [])) = (false, true) := by decide

/-! Values the spec itself gives. -/

/-- R73: over the ASCII bytes "123456789" the CRC-32 is 0xCBF4_3926. -/
theorem test_crc32_of_the_spec : crc32 [0x31, 0x32, 0x33, 0x34, 0x35, 0x36, 0x37, 0x38, 0x39] = 0xCBF43926#32 := by decide +kernel

/-- Chapter 12's example: a WORD32 region stores 0x11, 0x22, 0x33, 0x44 of the wire as 0x1122_3344. -/
theorem test_wire_of_word32 : unwire 1 [0x11#8, 0x22#8, 0x33#8, 0x44#8] = 0x11223344#32 := by decide +kernel

/-- R111: over the ASCII bytes "123456789" HCRC is 0x29B1. -/
theorem test_crc16_of_the_spec : crc16 [0x31, 0x32, 0x33, 0x34, 0x35, 0x36, 0x37, 0x38, 0x39] = 0x29B1#16 := by decide +kernel

/-- R332: over the same bytes KCRC is 0xF4. -/
theorem test_crc8_of_the_spec : crc8 [0x31, 0x32, 0x33, 0x34, 0x35, 0x36, 0x37, 0x38, 0x39] = 0xF4#8 := by decide +kernel

/-- Table 5-2: the check bits of an IDLE block of zeros are its mask 0xC_3C3C. -/
theorem test_idle_block_mask : bitsNat ((encodeBlock .idle (List.replicate 300 false)).drop 300) = 0xC3C3C := by decide +kernel

/-- R98: a block whose bits 0 to 159 are 1 and the others 0 has the pair 10 in every symbol, the level +3. -/
theorem test_symbol_pairs_halves : blockSymbols (List.replicate 160 true ++ List.replicate 160 false) = List.replicate 160 .p3 := by decide +kernel

/-- R12: a write of a locked register after commit changes nothing. -/
theorem test_sch_cfg_is_locked_after_commit : reg (regWrite live .host 0x4000 0xF 0x7#32 false).1 0x4000 = 3#32 := by decide +kernel

/-- R48: at UVLO falling the core goes off and the node is in EMBER. -/
theorem test_uvlo_falling : (match exec .uvloFalling live with | .next t => decide (t.line.node = .ember) && !t.line.core | _ => false) = true := by decide +kernel

end Sys2Proof.Tests
end

section
/-! SUPPORT. The host bridge: how its shared operations change the state, how a host access on LBUS ends, how a message leaves, and the statements
on poisoned windows and on tags. -/

namespace Sys2Proof.Bridge

open Sys2Proof.Machine Sys2Proof.Safety

/-! ### The end of a host access (R295, R312) -/

@[simp] theorem bumpHb_hb (s : State) (i : Nat) : (bumpHb s i).hb = s.hb := rfl
@[simp] theorem bumpHb_log (s : State) (i : Nat) : (bumpHb s i).log = s.log := rfl
@[simp] theorem bumpHb_sch (s : State) (i : Nat) : (bumpHb s i).sch = s.sch := rfl
@[simp] theorem coreRun_bumpHb (s : State) (i : Nat) : coreRun (bumpHb s i) = coreRun s := rfl
@[simp] theorem mkEvent_bumpHb (s : State) (i code sev inst : Nat) (vals : List Nat) :
    mkEvent (bumpHb s i) code sev inst vals = mkEvent s code sev inst vals := rfl

theorem frame_bumpHb (s : State) (i : Nat) : Frame [] (· = 0x9600 + 4 * i) s (bumpHb s i) := frame_bump s _

theorem counted_bumpHb (s : State) (i : Nat) : Counted (0x9600 + 4 * i) 1 s (bumpHb s i) := by
  simp [Counted, bumpHb, reg_bump]

/-- What follows a command leaves the count of a bridge counter. -/
theorem counted_settle {o n : Nat} {s t : State} (ho : o ≠ 0x40) (h : Counted o n s t) : Counted o n s (settle s t) :=
  (reg_settle_ne s t ho).trans h

/-- A change of the bridge's own part is framed by it. -/
theorem frame_setHb (s : State) (b : Bridge) : Frame [.hb] (fun _ => False) s { s with hb := b } :=
  ⟨fun p h => by cases p <;> simp_all [Same], fun _ _ _ => rfl⟩

@[simp] theorem lerr_out (s : State) (c a : Nat) : (lerr s c a).out = .access c 0 :: s.out := rfl
@[simp] theorem lerr_hb (s : State) (c a : Nat) :
    (lerr s c a).hb = { s.hb with lastErr := BitVec.ofNat 32 (c * 2 ^ 24 + a / 4 % 2 ^ 24) } := rfl
@[simp] theorem lrty_out (s : State) : (lrty s).out = .access retry 0 :: s.out := rfl
@[simp] theorem lrty_hb (s : State) : (lrty s).hb = s.hb := rfl
@[simp] theorem lrty_sch (s : State) : (lrty s).sch = s.sch := rfl

/-- LERR# counts in LERR_ISSUED and writes HB_LASTERR (R312). -/
theorem frame_lerr (s : State) (c a : Nat) : Frame [.hb, .out] (· = 0x9618) s (lerr s c a) :=
  frame_trans (frame_mono (frame_setHb s _) (by simp) (by simp))
    (frame_trans (frame_mono (frame_bumpHb _ 6) (by simp) (by simp)) (frame_mono (frame_emit _ _) (by simp) (by simp)))

theorem endAccess_retry (s : State) (a : Nat) : endAccess a (s, retry) = lrty s := rfl

/-- A code of Table 12-10 ends the access with LERR#. -/
theorem endAccess_code (s : State) (a : Nat) {c : Nat} (h0 : c ≠ 0) (h : c < retry) : endAccess a (s, c) = lerr s c a := by
  have hr : c ≠ retry := Nat.ne_of_lt h
  have hh : c ≠ hold := Nat.ne_of_lt (Nat.lt_trans h (by decide))
  simp [endAccess, h0, hr, hh]

/-! ### Tags (R310, R311) -/

@[simp] theorem dropTag_tags (s : State) (g : Nat) : (dropTag s g).hb.tags = mdel s.hb.tags g := rfl
@[simp] theorem dropTag_out (s : State) (g : Nat) : (dropTag s g).out = s.out := rfl
@[simp] theorem dropTag_log (s : State) (g : Nat) : (dropTag s g).log = s.log := rfl
@[simp] theorem coreRun_dropTag (s : State) (g : Nat) : coreRun (dropTag s g) = coreRun s := rfl
@[simp] theorem mkEvent_dropTag (s : State) (g code sev inst : Nat) (vals : List Nat) :
    mkEvent (dropTag s g) code sev inst vals = mkEvent s code sev inst vals := rfl
@[simp] theorem putTag_tags (s : State) (g : Nat) (x : Tag) : (putTag s g x).hb.tags = mput s.hb.tags g x := rfl
@[simp] theorem putTag_log (s : State) (g : Nat) (x : Tag) : (putTag s g x).log = s.log := rfl
@[simp] theorem setIstat_tags (s : State) (i : Nat) : (setIstat s i).hb.tags = s.hb.tags := rfl
@[simp] theorem setIstat_log (s : State) (i : Nat) : (setIstat s i).log = s.log := rfl
@[simp] theorem coreRun_setIstat (s : State) (i : Nat) : coreRun (setIstat s i) = coreRun s := rfl
@[simp] theorem mkEvent_setIstat (s : State) (i code sev inst : Nat) (vals : List Nat) :
    mkEvent (setIstat s i) code sev inst vals = mkEvent s code sev inst vals := rfl

theorem frame_dropTag (s : State) (g : Nat) : Frame [.hb] (fun _ => False) s (dropTag s g) := frame_setHb s _

/-- An answer to a tag that holds no access waits in it (R313). -/
theorem answerTag_waits (s : State) (g : Nat) (x : Tag) (c : Nat) (d : Word) (h : x.held = false) :
    answerTag s g x c d = putTag s g { x with answer := some (c, d) } := by simp [answerTag, h]

/-- A free tag is one of the 64. -/
theorem freeTag_lt {s : State} {g : Nat} (h : freeTag s = some g) : g < 64 := List.mem_range.mp (List.mem_of_find?_eq_some h)

/-! ### Events at most once per second (R327) -/

@[simp] theorem hbEventLim_hb (s : State) (code sev inst w g q c : Nat) : (hbEventLim s code sev inst w g q c).hb = s.hb :=
  raiseLim_hb s _ _ _ _ _

theorem reg_hbEventLim_ne (s : State) (code sev inst w g q c : Nat) {k : Nat} (h : k ≠ 0xC180) :
    reg (hbEventLim s code sev inst w g q c) k = reg s k := reg_raiseLim_ne s _ _ _ _ _ h

/-- The first event of its code and instance is raised. -/
theorem hbEventLim_first (s : State) (code sev inst w g q c : Nat) (hc : coreRun s = true)
    (hl : mget s.log.limits (4096 * code + inst) = none) :
    (hbEventLim s code sev inst w g q c).log.raised = s.log.raised ++ [mkEvent s code sev inst [w, g, q, c]] := by
  simp only [hbEventLim, raiseLim, hl]
  exact raise_raised _ code sev inst _ hc

/-! ### Messages (R304 to R306) -/

/-- The body of a message up to TSEQ, which begins at byte 18 (Table 12-8). -/
def msgHead (s : State) (mac : Nat) (h : HbHdr) : Bytes :=
  0x02#8 :: beBytes 5 (mac % 2 ^ 40) ++ 0x02#8 :: beBytes 5 (s.uid % 2 ^ 40) ++ [0x88#8, 0xB6#8] ++
    [BitVec.ofNat 8 h.bop, BitVec.ofNat 8 (h.lock.toNat + 2 * h.first.toNat + 4 * h.order), BitVec.ofNat 8 h.win, BitVec.ofNat 8 h.space]

@[simp] theorem length_msgHead (s : State) (mac : Nat) (h : HbHdr) : (msgHead s mac h).length = 18 := by simp [msgHead]

/-- After TSEQ stand TAG and STATUS. -/
theorem bridgeBody_eq (s : State) (mac : Nat) (h : HbHdr) (d : Bytes) : ∃ r, bridgeBody s mac h d =
    msgHead s mac h ++ beBytes 2 h.tseq ++ (BitVec.ofNat 8 h.tag :: BitVec.ofNat 8 h.status :: r) :=
  ⟨_, by simp only [bridgeBody, msgHead, List.append_assoc, List.cons_append, List.nil_append]; rfl⟩

/-- A message takes 34 bytes beside its data, and at least the 64 of an Ethernet frame. -/
theorem length_bridgeBody (s : State) (mac : Nat) (h : HbHdr) (d : Bytes) : (bridgeBody s mac h d).length = max 64 (34 + d.length) := by
  simp [bridgeBody, ethFcs]
  omega

/-- The frame of a bridge message, as it waits for admission (R188, R305). -/
def bridgeOut (s : State) (dst mac : Nat) (h : HbHdr) (d : Bytes) : DynOut :=
  { origin := 3, inp := 14, laneB := bitAt (reg s 0x5008) (bClass s), cls := bClass s, kind := 7, dtype := 0, dest := [BitVec.ofNat 8 dst]
    body := bridgeBody s mac h d, tag := h.win }

/-- A waiting message is named by the fields of its header (Table 12-8). -/
theorem msgKey_bridgeOut (s : State) (dst mac : Nat) (h : HbHdr) (d : Bytes) :
    msgKey (bridgeOut s dst mac h d) =
      ([BitVec.ofNat 8 dst], [h.bop % 256, h.win % 256, h.tseq % 65536, h.tag % 256, h.status % 256]) := by
  obtain ⟨r, hr⟩ := bridgeBody_eq s mac h d
  have hq : beAt (bridgeBody s mac h d) 18 2 = h.tseq % 65536 := by
    rw [hr, beAt_mid _ _ _ _ (length_msgHead s mac h)]
    norm_num
  have hb : byteAt (bridgeBody s mac h d) 14 = h.bop % 256 ∧ byteAt (bridgeBody s mac h d) 16 = h.win % 256 ∧
      byteAt (bridgeBody s mac h d) 20 = h.tag % 256 ∧ byteAt (bridgeBody s mac h d) 21 = h.status % 256 := by
    rw [hr]
    simp [byteAt, msgHead, beBytes]
  obtain ⟨h14, h16, h20, h21⟩ := hb
  simp only [msgKey, bridgeOut, hq, h14, h16, h20, h21]

/-- A message of at most 64 bytes of data waits for admission where the own quota holds the longest (R188, R305). -/
theorem sendBridge_pushes (s : State) (dst mac : Nat) (h : HbHdr) (d : Bytes) (hq : BridgeSends s) (hd : d.length ≤ 64) :
    sendBridge s dst mac h d = { s with sch := { s.sch with dyn := s.sch.dyn ++ [bridgeOut s dst mac h d] } } := by
  have hfit : ¬ rowQuota (ownRow s 0) (bitAt (reg s 0x5008) (bClass s)) < 28 + (bridgeBody s mac h d).length := by
    have hl := length_bridgeBody s mac h d
    unfold BridgeSends at hq
    omega
  simp only [sendBridge, pushDyn, if_neg hfit, bridgeOut]

/-- One frame at the tail of those waiting is what was sent. -/
theorem sent_push {s t : State} {x : DynOut} (h : t.sch = { s.sch with dyn := s.sch.dyn ++ [x] }) : Sent [msgKey x] s t := by simp [Sent, h]

/-- A request leaves for the window's target with the next TSEQ towards it, and the open tags stay (R305, R306). -/
theorem sendReq_sends (s : State) (n bop tag addr be off : Nat) (d : Bytes) (hq : BridgeSends s) (hd : d.length ≤ 64) :
    (sendReq s n bop tag addr be d off).hb.tags = s.hb.tags ∧
    Sent [([BitVec.ofNat 8 (winHandle s n)], [bop % 256, n % 256, nextTseq s (winHandle s n) % 65536, tag % 256, 0])] s
      (sendReq s n bop tag addr be d off) := by
  have hsend (h : HbHdr) := sendBridge_pushes s (winHandle s n) (handleMac s (winHandle s n)) h d hq hd
  have hkey := msgKey_bridgeOut s (winHandle s n) (handleMac s (winHandle s n))
    { bop := bop, lock := decide (s.hb.locked = some n), first := !s.hb.firsts.contains (winHandle s n), order := winOrder s n, win := n
      space := winSpace s n, tseq := nextTseq s (winHandle s n), tag := tag, addr := addr, be := be } d
  refine ⟨by simp only [sendReq, hsend], ?_⟩
  have hsent := sent_push (s := s) (t := sendReq s n bop tag addr be d off) (by simp only [sendReq, hsend]; rfl)
  rwa [hkey] at hsent

/-- The tag of a read through window n, as it is taken. -/
def newRead (s : State) (n addr be : Nat) : Tag :=
  { kind := 0, win := n, addr := addr, be := be, data := 0, handle := winHandle s n, tseq := nextTseq s (winHandle s n) }

/-- A READ opens its tag and leaves (R310). -/
theorem openTag_read (s : State) (g n addr be tofs off : Nat) (hq : BridgeSends s) :
    mget (openTag s g 0 n addr be 0 tofs [] off false).hb.tags g = some (newRead s n addr be) ∧
    Sent [([BitVec.ofNat 8 (winHandle s n)], [3, n % 256, nextTseq s (winHandle s n) % 65536, g % 256, 0])] s
      (openTag s g 0 n addr be 0 tofs [] off false) := by
  obtain ⟨htags, hsent⟩ := sendReq_sends (putTag s g (newRead s n addr be)) n 3 g tofs be off [] hq (by simp)
  exact ⟨(congrArg (mget · g) htags).trans (mget_mput_same _ _ _), hsent⟩

/-! ### Host accesses through a window (R300, R310) -/

/-- A window an address lies in is one of the 16. -/
theorem winAt_lt {s : State} {addr n : Nat} (h : winAt s addr = some n) : n < 16 := List.mem_range.mp (List.mem_of_find?_eq_some h)

/-- An access that nothing refuses lies in its window. -/
theorem winAt_of_not_refused {s : State} {addr be n : Nat} {w : Bool} (h : remoteRefuse s addr be w = (0, n)) : winAt s addr = some n := by
  unfold remoteRefuse at h
  split at h
  · simp at h
  · split at h
    · simp at h
    · rename_i m hm
      split_ifs at h <;> simp_all

/-- The tag that a read through window n repeats is a read of this window, address and byte enables. -/
theorem readTag_in_window {s : State} {addr n : Nat} (be : Nat) (h : winAt s addr = some n) :
    readTag s addr be = s.hb.tags.find? (fun y => y.2.kind == 0 && y.2.win == n && y.2.addr == addr && y.2.be == be) := by
  unfold readTag
  congr 1
  funext y
  simp [h, BEq.comm (a := n)]

/-- A read repeats a tag whose answer is there: it takes the code and the data, and the tag is free. -/
theorem remoteRead_answered {s : State} {addr be g c : Nat} {x : Tag} {d : Word} (h : readTag s addr be = some (g, x))
    (ha : x.answer = some (c, d)) : remoteRead s addr be = ((dropTag s g, c), d) := by simp [remoteRead, h, ha]

/-- A read that repeats none takes a tag and sends READ. -/
theorem remoteRead_starts {s : State} {addr be n g : Nat} (h : readTag s addr be = none) (hr : remoteRefuse s addr be false = (0, n))
    (hb : bridgeBusy s = false) (hg : freeTag s = some g) :
    remoteRead s addr be = ((bumpHb (openTag s g 0 n addr be 0 (winRofs s n + (addr - winBase s n)) [] (addr - winBase s n) false) 2, retry), 0) := by
  simp [remoteRead, h, hr, hb, hg]

/-- A write that repeats a delayed one not yet answered ends with LRTY#, whatever its window has become since (R321). -/
theorem remoteWrite_repeats {s : State} {addr be g : Nat} {v : Word} {x : Tag} (merge canHold : Bool) (h : writeTag s addr be v = some (g, x))
    (ha : x.answer = none) : remoteWrite s addr be v merge canHold = (s, retry) := by simp [remoteWrite, h, ha]

section Access

variable {s : State} {addr : Nat} {be : BitVec 4} (hf : lbusFree s = true) (hc : contiguous be = true) (h1 : 0x1000000 ≤ addr) (h2 : addr < 0x4000000)
include hf hc h1 h2

/-- A read in the remote region that does not end at once with data. -/
theorem lbusRead_remote {r : WRes} {d : Word} (h : remoteRead s addr be.toNat = (r, d)) (h0 : r.2 ≠ 0) : lbusRead s addr be = endAccess addr r := by
  have a1 : ¬ addr < 0x10000 := by omega
  have a2 : ¬ addr < 0x200000 := by omega
  have a3 : ¬ addr < 0x240000 := by omega
  simp [lbusRead, hostRead, hf, hc, h1, h2, a1, a2, a3, h, h0]

/-- A write in the remote region. -/
theorem lbusWrite_remote (v : Word) (merge : Bool) : lbusWrite s addr be v merge = endAccess addr (remoteWrite s addr be.toNat v merge true) := by
  have a1 : ¬ addr < 0x10000 := by omega
  have a2 : ¬ addr < 0x200000 := by omega
  have a3 : ¬ addr < 0x240000 := by omega
  simp [lbusWrite, hostWrite, hf, hc, h1, h2, a1, a2, a3]

end Access

/-! ### Tags end (R311) -/

/-- A tag not answered in time ends TIMEOUT; its answer waits in it. -/
theorem tagTimeout_ends (s : State) (n : Fin 64) (x : Tag) (hc : coreRun s = true) (hx : mget s.hb.tags n.val = some x) (ha : x.answer = none)
    (hh : x.held = false) (hl : mget s.log.limits (4096 * 0x9020 + 0xFFF) = none) :
    mget (tagTimeout s n).hb.tags n.val = some { x with answer := some (0x20, 0) } ∧
    Raised [(0x9020, 2, 0xFFF, [x.win, x.handle, x.tseq, 0x20])] s (tagTimeout s n) := by
  have e : tagTimeout s n = putTag (hbEventLim (setIstat (bumpHb s 7) 4) 0x9020 2 0xFFF x.win x.handle x.tseq 0x20) n.val
      { x with answer := some (0x20, 0) } := by
    simp only [tagTimeout, hx, ha, answerTag_waits _ _ _ _ _ hh]
    rfl
  have r := hbEventLim_first (setIstat (bumpHb s 7) 4) 0x9020 2 0xFFF x.win x.handle x.tseq 0x20 hc hl
  rw [e]
  exact ⟨by simp, by simpa [Raised] using r⟩

/-- The repeat of a read that timed out ends with LERR#, and its tag is free. -/
theorem timedOut_read_ends {s : State} {addr g : Nat} {be : BitVec 4} {x : Tag} {d : Word} (hf : lbusFree s = true) (hc : contiguous be = true)
    (h1 : 0x1000000 ≤ addr) (h2 : addr < 0x4000000) (hx : readTag s addr be.toNat = some (g, x)) (ha : x.answer = some (0x20, d)) :
    lbusRead s addr be = lerr (dropTag s g) 0x20 addr := by
  rw [lbusRead_remote hf hc h1 h2 (remoteRead_answered hx ha) (show 0x20 ≠ 0 by decide)]
  exact endAccess_code _ _ (by decide) (by decide)

/-- An answer that no open tag waits for is counted and discarded. -/
theorem rdataRx_late {s : State} {f b : Bytes} (hb : bridgeMsg f = some b) (hu : forUs s b = true) (hk : byteAt b 14 = 0x83)
    (ha : answers s b (readHdr f).src 0 = none) : rdataRx s f = bumpHb s 9 := by
  simp [rdataRx, takeAnswer, hb, hu, hk, ha, lateAnswer]

/-- An answer not collected is discarded, its tag freed, and the discard counted and raised. -/
theorem delayedDiscard_ends (s : State) (n : Fin 64) (x : Tag) (c : Nat) (d : Word) (hc : coreRun s = true) (hx : mget s.hb.tags n.val = some x)
    (ha : x.answer = some (c, d)) (hk : x.kind ≠ 2) (hl : mget s.log.limits (4096 * 0x9021 + 0xFFF) = none) :
    (delayedDiscard s n).hb.tags = mdel s.hb.tags n.val ∧ Counted 0x9624 1 s (delayedDiscard s n) ∧
    Raised [(0x9021, 1, 0xFFF, [x.win, x.handle, x.tseq, c])] s (delayedDiscard s n) := by
  have e : delayedDiscard s n = hbEventLim (dropTag (setIstat (bumpHb s 9) 3) n.val) 0x9021 1 0xFFF x.win x.handle x.tseq c := by
    simp [delayedDiscard, hx, ha, hk]
  have r := hbEventLim_first (dropTag (setIstat (bumpHb s 9) 3) n.val) 0x9021 1 0xFFF x.win x.handle x.tseq c hc hl
  rw [e]
  refine ⟨by simp, ?_, by simpa [Raised] using r⟩
  exact (reg_hbEventLim_ne _ _ _ _ _ _ _ _ (by decide)).trans (counted_bumpHb s 9)

/-- Settles O55. -/
theorem tagsEnd : Obligations.TagsEnd := by
  unfold Obligations.TagsEnd
  refine ⟨?timeout, ?retried, ?late, ?uncollected, ?fresh⟩
  case timeout =>
    intro s n x hc hx ha hh hl
    obtain ⟨htag, hev⟩ := tagTimeout_ends s n x hc hx ha hh hl
    exact completes_of rfl ⟨by rw [settle_hb, htag], by rw [Raised, settle_log, hev]⟩
  case retried =>
    intro s addr n g be x d hf h1 h2 hc hr hx ha
    have hend := timedOut_read_ends hf hc h1 h2 ((readTag_in_window _ (winAt_of_not_refused hr)).trans hx) ha
    have hframe : Frame [.hb, .out] (· = 0x9618) s (lerr (dropTag s g) 0x20 addr) :=
      frame_trans (frame_mono (frame_dropTag s g) (by simp) (by simp)) (frame_lerr _ _ _)
    exact completes_of rfl (by rw [hend]; exact ⟨by simp, by simp, by simp, frame_settle hframe⟩)
  case late =>
    intro s f b hb hu hk ha
    exact completes_of rfl (by
      rw [rdataRx_late hb hu hk ha]
      exact ⟨counted_settle (by decide) (counted_bumpHb s 9), frame_settle (frame_bumpHb s 9)⟩)
  case uncollected =>
    intro s n x c d hc hx ha hk hl
    obtain ⟨htags, hcount, hev⟩ := delayedDiscard_ends s n x c d hc hx ha hk hl
    exact completes_of rfl ⟨by rw [settle_hb, htags], counted_settle (by decide) hcount, by rw [Raised, settle_log, hev]⟩
  case fresh =>
    intro s addr n g be hf h1 h2 hc hr hq hx hb hg
    have hn := winAt_of_not_refused hr
    have hstart := remoteRead_starts ((readTag_in_window _ hn).trans hx) hr hb hg
    have hend := lbusRead_remote hf hc h1 h2 hstart (show retry ≠ 0 by decide)
    rw [endAccess_retry] at hend
    obtain ⟨htag, hsent⟩ := openTag_read s g n addr be.toNat (winRofs s n + (addr - winBase s n)) (addr - winBase s n) hq
    rw [Nat.mod_eq_of_lt (Nat.lt_trans (winAt_lt hn) (by decide)), Nat.mod_eq_of_lt (Nat.lt_trans (freeTag_lt hg) (by decide))] at hsent
    refine completes_of rfl ?_
    rw [hend]
    exact ⟨by rw [settle_hb, lrty_hb, bumpHb_hb, htag]; rfl, by simpa [Sent] using hsent⟩

/-! ### A poisoned window (R315, R321) -/

/-- A committed node whose window 0, of 4 KiB at 0x0100_0000, is poisoned while a non-posted write of its first word, delayed under R321, still
waits for its WACK under tag 0. -/
def poisonedBehindWrite : State :=
  { line := { core := true }
    boot := { phase := .committed, lbus := true }
    regs := [(0x9000, 1), (0x9200, 0x80080000), (0x9204, 0x1000000)]
    hb := { wins := Vector.replicate 16 { handle := 3, poison := true }
            tags := [(0, { kind := 1, win := 0, addr := 0x1000000, be := 15, data := 0, handle := 3, tseq := 1 })] } }

/-- Refutes O54: a host write that repeats a delayed non-posted write is looked up before its window is asked (R321), so in
`poisonedBehindWrite` the repeat ends with LRTY#, where the second clause asks for LERR# with code POISONED. -/
theorem not_poisonedWindows : ¬ Obligations.PoisonedWindows := by
  intro h
  obtain ⟨-, hpoisoned, -, -⟩ := h
  have hrefuse : remoteRefuse poisonedBehindWrite 0x1000000 15 true = (0x04, 0) := by decide
  have hrepeat : writeTag poisonedBehindWrite 0x1000000 15 0 = some (0,
      { kind := 1, win := 0, addr := 0x1000000, be := 15, data := 0, handle := 3, tseq := 1 }) := by decide
  have hretry : lbusWrite poisonedBehindWrite 0x1000000 15 0 false = lrty poisonedBehindWrite := by
    rw [lbusWrite_remote (by decide) (by decide) (by decide) (by decide)]
    exact congrArg _ (remoteWrite_repeats false true hrepeat rfl)
  obtain ⟨t, ht, hout, -⟩ := hpoisoned poisonedBehindWrite 0x1000000 0 15 0 false (by decide) (by decide) (by decide) (by decide) hrefuse
  have hend : t = settle poisonedBehindWrite (lrty poisonedBehindWrite) := by
    rw [← hretry]
    exact (Host.Outcome.next.inj ht).symm
  rw [hend, settle_out] at hout
  exact absurd hout (by decide)

end Sys2Proof.Bridge
end

section
/-! SUPPORT. Latched words, a register write that reaches its block, and the statement on telemetry (R407, R410). -/

namespace Sys2Proof.Telemetry

open Sys2Proof.Machine Sys2Proof.Safety Sys2Proof.Bridge

/-! ### Latched words (R417) -/

/-- Putting values at consecutive word offsets leaves every other key alone. -/
theorem mget_putWords_ne (f : Nat → Word) (m : List (Nat × Word)) (off : Nat) {k n : Nat} (h : ∀ i < n, k ≠ off + 4 * i) :
    mget ((List.range n).foldl (fun m i => mput m (off + 4 * i) (f i)) m) k = mget m k := by
  induction n with
  | zero => rfl
  | succ n ih =>
    rw [List.range_succ, List.foldl_append, List.foldl_cons, List.foldl_nil, mget_mput_ne _ _ (h n (by omega))]
    exact ih fun i hi => h i (by omega)

/-- The value put at each of them reads back. -/
theorem mget_putWords (f : Nat → Word) (m : List (Nat × Word)) (off : Nat) {i n : Nat} (h : i < n) :
    mget ((List.range n).foldl (fun m i => mput m (off + 4 * i) (f i)) m) (off + 4 * i) = some (f i) := by
  induction n with
  | zero => omega
  | succ n ih =>
    rw [List.range_succ, List.foldl_append, List.foldl_cons, List.foldl_nil]
    by_cases hi : i = n
    · rw [hi, mget_mput_same]
    · rw [mget_mput_ne _ _ (by omega), ih (by omega)]

theorem getLatch_setLatch (s : State) (req : Req) (off : Nat) (ws : List Word) {i : Nat} (h : i < ws.length) :
    getLatch (setLatch s req off ws) req (off + 4 * i) = ws.getD i 0 := by
  cases req <;> exact (congrArg (Option.getD · 0) (mget_putWords (ws.getD · 0) _ off h)).trans rfl

theorem getLatch_setLatch_ne (s : State) (req : Req) (off : Nat) (ws : List Word) {k : Nat} (h : ∀ i < ws.length, k ≠ off + 4 * i) :
    getLatch (setLatch s req off ws) req k = getLatch s req k := by
  cases req <;> exact congrArg (Option.getD · 0) (mget_putWords_ne _ _ off h)

theorem getLatch_setIdx (s : State) (req : Req) (off : Nat) (be : BitVec 4) (v : Word) :
    getLatch (setIdx s req off be v) req off = mergeBe be (getLatch s req off) v :=
  getLatch_setLatch s req off [mergeBe be (getLatch s req off) v] (i := 0) Nat.one_pos

@[simp] theorem setLatch_out (s : State) (req : Req) (off : Nat) (ws : List Word) : (setLatch s req off ws).out = s.out := by
  cases req <;> rfl

theorem frame_setLatch (s : State) (req : Req) (off : Nat) (ws : List Word) :
    Frame [.latHost, .latMon, .latFar] (fun _ => False) s (setLatch s req off ws) := by
  cases req <;> exact ⟨fun p h => by cases p <;> simp_all [Same, setLatch], fun _ _ _ => rfl⟩

@[simp] theorem getLatch_settle (s t : State) (req : Req) (off : Nat) : getLatch (settle s t) req off = getLatch t req off := by
  cases req <;> simp [getLatch]

/-! ### A register write that reaches its block (R294, R295) -/

/-- A write that takes effect at once ends with LRDY# on the host's bus. -/
theorem endWrite_done (s : State) (req : Req) (off : Nat) : endWrite req off (s, 0) = if req = .host then lrdy s 0 else s := by
  cases req <;> rfl

@[simp] theorem getLatch_endWrite_done (s : State) (req r : Req) (off k : Nat) : getLatch (endWrite req off (s, 0)) r k = getLatch s r k := by
  cases req <;> rfl

theorem ended_endWrite_done (s : State) (req : Req) (off : Nat) : Ended req s (endWrite req off (s, 0)) := by
  cases req <;> rfl

theorem frame_endWrite_done (s : State) (req : Req) (off : Nat) : Frame [.out] (fun _ => False) s (endWrite req off (s, 0)) := by
  rw [endWrite_done]
  split
  · exact frame_emit _ _
  · exact frame_refl _ _ _

/-- A write of an assigned register outside the global block that is no command register is its block's, from every requester it reaches from. -/
theorem regCommand_writes {s : State} {req : Req} {off : Nat} {be : BitVec 4} (h : Reaches req off be s) (v : Word) (wakeLow : Bool)
    (hd : (desc off).isSome = true) (hc : cmdReg off = false) (ho : 0x1000 ≤ off) :
    regCommand s req off be v wakeLow = endWrite req off (writeBlock s req off be v wakeLow) := by
  obtain ⟨hmay, hhost⟩ := h
  have hassigned : (desc off).isNone = false := by simpa using hd
  by_cases hr : req = .host
  · obtain ⟨hrun, hopen⟩ := hhost hr
    have hbusy : switchBusy s = false := hopen.resolve_right (by omega)
    simp [regCommand, regWrite, hmay, hrun, hbusy, hassigned, hc]
  · simp [regCommand, regWrite, hmay, hr, hassigned, hc]

/-! ### Telemetry (R407, R410) -/

theorem frame_bumpMon (s : State) (i : Nat) : Frame [] (· = 0xD080 + 4 * i) s (bumpMon s i) := frame_bump s _

theorem counted_bumpMon (s : State) (i : Nat) : Counted (0xD080 + 4 * i) 1 s (bumpMon s i) := by
  simp [Counted, bumpMon, reg_bump]

/-- A change of the monitor's own part is framed by it. -/
theorem frame_setMon (s : State) (m : Monitor) : Frame [.mon] (fun _ => False) s { s with mon := m } :=
  ⟨fun p h => by cases p <;> simp_all [Same], fun _ _ _ => rfl⟩

/-- While telemetry runs with a period and its collector is another node, the period's request waits; one that waits keeps its selector. -/
theorem telemetryPeriod_asks {s : State} (hon : telOn s = true) (hp : regF s 0xD008 23 16 ≠ 0) (hc : s.mon.coll ≠ 0)
    (ho : s.mon.coll ≠ ownHandle s 0) :
    telemetryPeriod s = { s with mon := { s.mon with telSel := some (s.mon.telSel.getD 0) } } := by
  simp [telemetryPeriod, telRequest, hon, hp, hc, ho]

/-- A good telemetry frame that arrives at a committed node is filed under its SRC. -/
theorem telemetryFrameRx_files {s : State} {f : Bytes} (hc : committed s = true) (hm : s.flt.mgmtDown = false) (hh : hcrcOk f = true)
    (hk : byteAt f 0 = 8) (ht : trailerOk f = true) (hp : byteAt (payloadOf f) 0 = 0x54) :
    telemetryFrameRx s f = telFile s (byteAt f 2) (payloadOf f) := by
  simp [telemetryFrameRx, hc, hm, hh, hk, ht, hp]

/-- The monitor with b filed as the newest payload of handle h. -/
def filed (s : State) (h : Nat) (b : Bytes) : Monitor :=
  { s.mon with files := (h, b.take 192, s.now) :: s.mon.files.filter (fun x => x.1 != h) }

theorem telFile_collects {s : State} (hc : regB s 0xD000 6 = true) (h : Nat) (b : Bytes) :
    telFile s h b = bumpMon { s with mon := filed s h b } 6 := by
  simp [telFile, filed, hc]

theorem telFile_discards {s : State} (hc : regB s 0xD000 6 = false) (h : Nat) (b : Bytes) : telFile s h b = bumpMon s 7 := by
  simp [telFile, hc]

/-- MON_TIDX stores 0 in its reserved bits; its handle field is that of the word as written. -/
theorem handle_mergeBe (be : BitVec 4) (x v : Word) : fld (mergeBe be x (v &&& 0xFF)) 7 0 = fld (mergeBe be x v) 7 0 := by
  have hfld (w : Word) : fld w 7 0 = (w.setWidth 8).toNat := by simp [fld]
  have hones : (0xFF : Word).setWidth 8 = BitVec.allOnes 8 := rfl
  simp only [hfld, mergeBe, BitVec.setWidth_or, BitVec.setWidth_and, hones, BitVec.and_allOnes]

@[simp] theorem length_telWords (s : State) (h : Nat) : (telWords s h).2.length = 48 := by
  unfold telWords
  split <;> simp

/-- A handle never heard from latches zeros. -/
theorem telWords_unheard {s : State} {h : Nat} (hf : s.mon.files.find? (fun x => x.1 == h) = none) :
    telWords s h = (0xFFFFFFFF, List.replicate 48 0) := by
  simp [telWords, hf]

section Latch

variable (s : State) (req : Req) (be : BitVec 4) (v : Word) {n : Nat} (hn : fld (mergeBe be (getLatch s req 0xD010) v) 7 0 = n)
include hn

/-- The write latches the entry of the handle n that it names: the inverted age, then the payload. -/
theorem monTidx_eq : monTidx s req be v =
    setLatch (setLatch (setIdx s req 0xD010 be (v &&& 0xFF)) req 0xD014 [~~~(telWords s n).1]) req 0xD100 (telWords s n).2 := by
  rw [← hn, ← handle_mergeBe, ← getLatch_setIdx]
  rfl

theorem monTidx_handle : fld (getLatch (monTidx s req be v) req 0xD010) 7 0 = n := by
  rw [monTidx_eq s req be v hn, getLatch_setLatch_ne _ _ _ _ fun i _ => by omega,
    getLatch_setLatch_ne _ _ _ _ fun i _ => by omega, getLatch_setIdx, handle_mergeBe, hn]

theorem monTidx_age : getLatch (monTidx s req be v) req 0xD014 = ~~~(telWords s n).1 := by
  rw [monTidx_eq s req be v hn, getLatch_setLatch_ne _ _ _ _ fun i _ => by omega]
  exact getLatch_setLatch _ req 0xD014 _ (i := 0) Nat.one_pos

theorem monTidx_payload (i : Fin 48) : getLatch (monTidx s req be v) req (0xD100 + 4 * i.val) = (telWords s n).2.getD i.val 0 := by
  rw [monTidx_eq s req be v hn]
  exact getLatch_setLatch _ _ _ _ (by simp)

end Latch

theorem monTidx_out (s : State) (req : Req) (be : BitVec 4) (v : Word) : (monTidx s req be v).out = s.out := by
  simp [monTidx_eq s req be v rfl, setIdx]

theorem frame_monTidx (s : State) (req : Req) (be : BitVec 4) (v : Word) :
    Frame [.latHost, .latMon, .latFar] (fun _ => False) s (monTidx s req be v) := by
  rw [monTidx_eq s req be v rfl]
  exact frame_trans (frame_trans (frame_setLatch _ _ _ _) (frame_setLatch _ _ _ _)) (frame_setLatch _ _ _ _)

/-- Settles O40: each clause is the equation of its command's meaning, settled, with the frame of the parts it writes. -/
theorem telemetryRowsComplete : Obligations.TelemetryRowsComplete := by
  unfold Obligations.TelemetryRowsComplete
  refine ⟨?period, ?collected, ?discarded, ?latched⟩
  case period =>
    intro s hon hp hc ho
    refine completes_of rfl ?_
    rw [telemetryPeriod_asks hon hp hc ho]
    exact ⟨by simp, frame_settle (frame_setMon _ _)⟩
  case collected =>
    intro s f hc hm hh hk ht hp hcoll
    refine completes_of rfl ?_
    rw [telemetryFrameRx_files hc hm hh hk ht hp, telFile_collects hcoll]
    refine ⟨by rw [settle_mon]; rfl, counted_settle (by decide) (counted_bumpMon { s with mon := filed s _ _ } 6), frame_settle ?_⟩
    exact frame_trans (frame_mono (frame_setMon s _) (fun _ h => h) (fun _ h => h.elim)) (frame_mono (frame_bumpMon _ 6) (by simp) (fun _ h => h))
  case discarded =>
    intro s f hc hm hh hk ht hp hcoll
    refine completes_of rfl ?_
    rw [telemetryFrameRx_files hc hm hh hk ht hp, telFile_discards hcoll]
    exact ⟨counted_settle (by decide) (counted_bumpMon s 7), frame_settle (frame_bumpMon s 7)⟩
  case latched =>
    intro s req be v n hreach hn
    have hwrite : regCommand s req 0xD010 be v false = endWrite req 0xD010 (monTidx s req be v, 0) :=
      regCommand_writes hreach v false (by decide) (by decide) (by decide)
    have hpayload (i : Fin 48) : getLatch (settle s (endWrite req 0xD010 (monTidx s req be v, 0))) req (0xD100 + 4 * i.val) =
        (telWords s n).2.getD i.val 0 := by
      rw [getLatch_settle, getLatch_endWrite_done, monTidx_payload s req be v hn]
    have hframe : Frame [.latHost, .latMon, .latFar, .out] (fun _ => False) s (endWrite req 0xD010 (monTidx s req be v, 0)) :=
      frame_trans (frame_mono (frame_monTidx s req be v) (by simp) (fun _ h => h)) (frame_mono (frame_endWrite_done _ _ _) (by simp) (fun _ h => h))
    refine completes_of rfl ?_
    rw [hwrite]
    refine ⟨?_, ?_, hpayload, fun hnone i => ?_, ?_, frame_settle hframe⟩
    · rw [getLatch_settle, getLatch_endWrite_done, monTidx_handle s req be v hn]
    · rw [getLatch_settle, getLatch_endWrite_done, monTidx_age s req be v hn]
    · rw [hpayload, telWords_unheard hnone, List.getD_replicate 0 i.isLt]
    · rw [Ended, settle_out, ended_endWrite_done, monTidx_out]

end Sys2Proof.Telemetry
end

section
/-! SUPPORT. The effects of a read, the offsets with no register, and the statement on them (R13, R372, R417). -/

namespace Sys2Proof.RegisterMap

open Sys2Proof.Machine Sys2Proof.Telemetry

/-! ### Reads with an effect (R372, R417) -/

/-- A read of any register but those that `effectReg` names leaves the whole state alone. -/
theorem readEffect_of_not_effectReg {off : Nat} (h : effectReg off = false) (s : State) (req : Req) : readEffect s req off = s := by
  unfold readEffect
  split
  case h_1 | h_2 | h_3 => exact absurd h (by decide)
  case h_4 => rfl

/-- TB_NOW_LO latches the high word of the train time and both words of the counter. -/
theorem readEffect_tbNowLo (s : State) (req : Req) :
    readEffect s req 0x3010 = setLatch s req 0x3014 [wd (ttNow s / 2 ^ 32), wd s.tb.ctr, wd (s.tb.ctr / 2 ^ 32)] := rfl

/-- TB_SIFIFO_LO pops the SYNCI FIFO. -/
theorem readEffect_tbSififoLo (s : State) (req : Req) :
    readEffect s req 0x3048 = { s with tb := { s.tb with sififo := s.tb.sififo.tail } } := rfl

/-- TOP_ETBDATA advances the requester's TOP_ETBIDX, modulo its 1,024 words. -/
theorem readEffect_topEtbData (s : State) (req : Req) :
    readEffect s req 0x206C = setLatch s req 0x2068 [wd ((fld (getLatch s req 0x2068) 9 0 + 1) % 1024)] := rfl

/-! ### Offsets with no register (R13) -/

theorem regRead_unassigned {off : Nat} (h : (desc off).isNone = true) (s : State) (req : Req) : regRead s req off = 0 := by
  simp [regRead, Option.isNone_iff_eq_none.mp h]

theorem regWrite_unassigned {off : Nat} (h : (desc off).isNone = true) (s : State) (req : Req) (be : BitVec 4) (v : Word) (wakeLow : Bool) :
    regWrite s req off be v wakeLow = (s, 0) := by
  simp [regWrite, h]

/-- Settles O51: the three registers of `effectReg` each by the equation of their read, the latched words by what a latch holds. -/
theorem unassignedOffsetsAndReads : Obligations.UnassignedOffsetsAndReads := by
  unfold Obligations.UnassignedOffsetsAndReads
  refine ⟨?plain, ?latches, readEffect_tbSififoLo, ?advances, ?reads, ?writes⟩
  case plain =>
    intro s req off hnow hfifo hdata
    exact readEffect_of_not_effectReg (by simp [effectReg, hnow, hfifo, hdata]) s req
  case latches =>
    intro s req
    rw [readEffect_tbNowLo]
    have hword (i : Nat) (hi : i < 3) := getLatch_setLatch s req 0x3014 [wd (ttNow s / 2 ^ 32), wd s.tb.ctr, wd (s.tb.ctr / 2 ^ 32)] hi
    exact ⟨hword 0 (by decide), hword 1 (by decide), hword 2 (by decide)⟩
  case advances =>
    intro s req
    rw [readEffect_topEtbData]
    exact getLatch_setLatch s req 0x2068 [_] Nat.one_pos
  case reads => exact fun s req off h => regRead_unassigned h s req
  case writes => exact fun s req off be v w h => regWrite_unassigned h s req be v w

end Sys2Proof.RegisterMap
end

section
/-! SUPPORT. What every command and every step settles, and the statements on it: the queue, the UID, the interrupt bits, the balls and the state
after reset (R121, R422, R56, R171). -/

namespace Sys2Proof.Settling

open Sys2Proof.Machine Sys2Proof.Safety

/-! ### The balls fit (R422, R56, Table 2-8) -/

-- Elaborated by itself, so that the proofs before it are checked before those after it begin: this bounds the memory that proofs under way take at once.
set_option Elab.async false in
/-- The balls are a reading of the rest of the state, so setting them anew changes nothing they are read from. -/
theorem pinsFit_settle (s u : State) : PinsFit (settle s u) := rfl

/-- Settles O47: every step settles. -/
theorem stepKeepsPinsFit : Obligations.StepKeepsPinsFit := by
  intro s t _ h
  obtain ⟨u, hu⟩ := step_settles s
  obtain rfl : settle _ u = t := Host.Outcome.next.inj (hu.symm.trans h)
  exact pinsFit_settle _ u

/-- Settles O44. -/
theorem everyCommandCompletes : Obligations.EveryCommandCompletes := by
  intro c s
  obtain ⟨u, hu⟩ := exec_settles c s
  exact ⟨_, hu⟩

/-- Settles O45. -/
theorem execKeepsQueueAndUid : Obligations.ExecKeepsQueueAndUid := by
  intro c s t h
  obtain ⟨u, hu⟩ := exec_settles c s
  obtain rfl : settle s u = t := Host.Outcome.next.inj (hu.symm.trans h)
  exact ⟨settle_pending s u, settle_uid s u⟩

/-- Settles O42. -/
theorem stepTakesFrontCommand : Obligations.StepTakesFrontCommand := by
  intro s c rest h
  simp only [step, h]

/-! ### The pending bits (R422, Table 17-6) -/

/-- Bit i of the number is bit i of the list. -/
theorem testBit_bitsOf (l : List Bool) (i : Nat) : (bitsOf l).testBit i = l.getD i false := by
  induction l generalizing i with
  | nil => simp [bitsOf]
  | cons b r ih =>
    cases i with
    | zero => cases b <;> simp [bitsOf, Nat.testBit_zero]
    | succ i =>
      have hhalf : (b.toNat + 2 * bitsOf r) / 2 = bitsOf r := by cases b <;> simp; omega
      simp [bitsOf, Nat.testBit_succ, hhalf, ih]

theorem bitsOf_lt (l : List Bool) : bitsOf l < 2 ^ l.length := by
  induction l with
  | nil => simp [bitsOf]
  | cons b r ih =>
    have hb : b.toNat ≤ 1 := Bool.toNat_le b
    simp only [bitsOf, List.length_cons, Nat.pow_succ]
    omega

/-- The bits of two groups, the second from bit 16 on. -/
theorem testBit_groups {a : Nat} (b i : Nat) (ha : a < 65536) :
    (a + 65536 * b).testBit i = if i < 16 then a.testBit i else b.testBit (i - 16) := by
  rw [Nat.add_comm, show (65536 : Nat) = 2 ^ 16 from rfl, Nat.testBit_two_pow_mul_add b (by simpa using ha)]

section Running

variable {s t : State} (hs : coreRun s = true) (ht : coreRun t = true)
include hs ht

/-- While the core runs, GL_IPEND bit i, below 10, is set by the i-th source. -/
theorem pendBits_source (i : Nat) (hi : i < 10) : (pendBits s t).testBit i = (signals s t).getD i false := by
  have hlt : bitsOf (signals s t) < 65536 := Nat.lt_trans (bitsOf_lt _) (by simp [signals])
  simp only [pendBits, hs, ht, Bool.and_self, if_true]
  rw [testBit_groups _ _ hlt, if_pos (by omega), testBit_bitsOf]

/-- GL_IPEND bit 16 + k is set by CAN channel k. -/
theorem pendBits_can (k : Fin 8) : (pendBits s t).testBit (16 + k.val) = canSignals s t k := by
  have hlt : bitsOf (signals s t) < 65536 := Nat.lt_trans (bitsOf_lt _) (by simp [signals])
  simp only [pendBits, hs, ht, Bool.and_self, if_true]
  rw [testBit_groups _ _ hlt, if_neg (by omega), testBit_bitsOf, Nat.add_sub_cancel_left]
  simp

end Running

/-- A pending bit set by the change stands in GL_IPEND afterwards. -/
theorem ipend_of_pendBits {s u : State} {i : Nat} (hi : i < 32) (h : (pendBits s u).testBit i = true) : bitAt (reg (settle s u) 0x40) i = true := by
  have hmod : (pendBits s u % 2 ^ 32).testBit i = true := by rw [Nat.testBit_mod_two_pow, h]; simp [hi]
  rw [reg_settle_ipend, bitAt, BitVec.toNat_or, Nat.testBit_or, BitVec.toNat_ofNat, hmod, Bool.or_true]

@[simp] theorem coreRun_settle (s u : State) : coreRun (settle s u) = coreRun u := by simp [coreRun]

@[simp] theorem fUnit_settle (s u : State) (n : Nat) : fUnit (settle s u) n = fUnit u n := by simp [fUnit]

@[simp] theorem recStat_settle (s u : State) : recStat (settle s u) = recStat u := by simp [recStat, readB]

/-- Settles O48: settling sets the bit of each source that signals, and touches nothing a source reads. -/
theorem changesSetPendingBits : Obligations.ChangesSetPendingBits := by
  intro c s t h hs ht
  obtain ⟨u, hu⟩ := exec_settles c s
  obtain rfl : settle s u = t := Host.Outcome.next.inj (hu.symm.trans h)
  rw [coreRun_settle] at ht
  have hset (i : Nat) (hi : i < 10) (hb : (signals s u).getD i false = true) : bitAt (reg (settle s u) 0x40) i = true :=
    ipend_of_pendBits (by omega) ((pendBits_source hs ht i hi).trans hb)
  simp only [settle_boot, settle_inaug, settle_tb, settle_sch, settle_sw, settle_sg, settle_line, settle_flt, settle_lanes, settle_can,
    fUnit_settle, recStat_settle]
  refine ⟨fun hp => hset 0 (by decide) ?_, fun hp => hset 1 (by decide) ?_, fun hp => hset 2 (by decide) ?_, fun hp => hset 3 (by decide) ?_,
    fun hp => hset 4 (by decide) ?_, fun hp => hset 5 (by decide) ?_, fun hp => hset 6 (by decide) ?_, fun hp => hset 7 (by decide) ?_,
    fun hp => hset 8 (by decide) ?_, fun hp => hset 9 (by decide) ?_, fun k hp => ipend_of_pendBits (by omega) ((pendBits_can hs ht k).trans ?_)⟩
  all_goals simp only [signals, canSignals, List.getD_cons_zero, List.getD_cons_succ, Bool.or_eq_true, decide_eq_true_eq, List.any_eq_true, List.mem_range,
    List.mem_finRange, true_and, bne_iff_ne]
  case refine_1 => exact .inl hp
  case refine_2 =>
    obtain ⟨g, hg⟩ := hp
    match g, hg with
    | 0, hg => exact .inl hg
    | 1, hg => exact .inr hg
  case refine_8 => exact hp.imp_right fun ⟨n, hn⟩ => ⟨n.val, n.isLt, hn⟩
  case refine_10 => exact .inl (.inl hp)
  all_goals exact hp

/-! ### The balls after a command (R422, R171, R46, R56) -/

/-- The node right after its core rails have gone off, UVLO falling at power-on reset. -/
def railsOff : State := uvloFalling State.reset

/-- Refutes O49: with the core rails off nothing drives SYNCO (Table 2-8 drives it from when the supplies are up), where the statement asks for the level
the node gives it: UVLO falling at power-on reset leaves the ball undriven. -/
theorem not_ballsAfterCommands : ¬ Obligations.BallsAfterCommands := by
  intro h
  obtain ⟨hballs, -⟩ := h .uvloFalling State.reset (settle State.reset railsOff) rfl
  obtain ⟨-, -, hsynco⟩ := hballs (by decide)
  exact absurd hsynco (by decide)

/-! ### After reset -/

/-- Settles O46. -/
theorem resetState : Obligations.ResetState := by
  refine ⟨rfl, rfl, rfl, ?_, rfl, ?_, ?_, ?_, fun off => rfl, by decide, rfl⟩
  all_goals decide

/-! ### Counters and the intake (R388, Table 5-16) -/

/-- Settles O59. -/
theorem countersAndIntake : Obligations.CountersAndIntake := by
  refine ⟨fun s off h => ?_, fun s off h => ?_, fun s off o h => reg_bump_ne s h, fun s code sev inst vals h => raise_cold s code sev inst vals h⟩
  · rw [reg_bump, if_pos rfl, h]; decide
  · have hlt : (reg s off).toNat ≠ 0xFFFFFFFF := fun e => h (BitVec.eq_of_toNat_eq e)
    have hmin : min 0xFFFFFFFF ((reg s off).toNat + 1) = (reg s off).toNat + 1 := by have := (reg s off).isLt; omega
    rw [reg_bump, if_pos rfl, hmin, BitVec.ofNat_add, BitVec.ofNat_toNat]
    simp

end Sys2Proof.Settling
end

section
/-! SUPPORT. What a register reads as depends on no key in OTP, and the statement on it (R402). -/

namespace Sys2Proof.Secrets

open Sys2Proof.Machine

/-- The node with other OTP contents, other output so far and other frames waiting for admission: what no register shows, but for which key slots are
programmed and how many bridge messages wait. -/
def withUnread (o : Otp) (l : List Out) (d : List DynOut) (s : State) : State := { s with otp := o, out := l, sch := { s.sch with dyn := d } }

section

variable (o : Otp) (l : List Out) (d : List DynOut)

-- Elaborated by itself, so that the proofs before it are checked before those after it begin: this bounds the memory that proofs under way take at once.
set_option Elab.async false in
theorem imgWrite_withUnread (s : State) (off : Nat) (w : Word) : imgWrite (withUnread o l d s) off w = withUnread o l d (imgWrite s off w) := by
  unfold imgWrite
  cases desc off <;> rfl

theorem applyItem_withUnread (type : Nat) (s : State) (i : Item) : applyItem type (withUnread o l d s) i = withUnread o l d (applyItem type s i) := by
  unfold applyItem
  split
  · rfl
  · exact List.foldl_hom (withUnread o l d) fun t _ => imgWrite_withUnread o l d t _ _

theorem applyBody_withUnread (s : State) (type : Nat) (b : Bytes) : applyBody (withUnread o l d s) type b = withUnread o l d (applyBody s type b) :=
  List.foldl_hom (withUnread o l d) fun t i => applyItem_withUnread o l d type t i

/-- What an image has loaded is the same whatever the keys are. -/
theorem loaded_withUnread (s : State) : loaded (withUnread o l d s) = withUnread o l d (loaded s) :=
  List.foldl_hom (g₁ := fun t (x : Nat × Bytes) => applyBody t x.1 x.2) (g₂ := fun t x => applyBody t x.1 x.2) (withUnread o l d)
    (l := profBodies s s.boot.psel) (init := { s with regs := [], tables := [] }) fun t x => applyBody_withUnread o l d t x.1 x.2

theorem cfgReg_withUnread (s : State) (off : Nat) : cfgReg (withUnread o l d s) off = cfgReg s off := by
  unfold cfgReg
  rw [loaded_withUnread]
  rfl

theorem topWord_withUnread (s : State) (off : Nat) : topWord (withUnread o l d s) off = topWord s off := by
  have hinaug : (withUnread o l d s).inaug = s.inaug := rfl
  have hlead (g : Fin 2) : isLeader (withUnread o l d s) g = isLeader s g := rfl
  have hent (g : Fin 2) : ownEnt (withUnread o l d s) g = ownEnt s g := rfl
  have hpos (g : Fin 2) : ownPos (withUnread o l d s) g = ownPos s g := rfl
  have hsel : segSel (withUnread o l d s) = segSel s := rfl
  have hseg (p : Port) : segOf (withUnread o l d s) p = segOf s p := rfl
  have hseam (p : Port) : portSeam (withUnread o l d s) p = portSeam s p := rfl
  simp only [topWord, ownHandle, hinaug, hlead, hent, hpos, hsel, hseg, hseam]

theorem readTopology_withUnread (s : State) (req : Req) (off : Nat) : readTopology (withUnread o l d s) req off = readTopology s req off := by
  have hetb : (withUnread o l d s).etb = s.etb := rfl
  have hlatch (k : Nat) : getLatch (withUnread o l d s) req k = getLatch s req k := rfl
  unfold readTopology
  simp only [topWord_withUnread, cfgReg_withUnread, hetb, hlatch]

theorem readLanes_withUnread (s : State) (off : Nat) : readLanes (withUnread o l d s) off = readLanes s off := by
  unfold readLanes
  simp only [cfgReg_withUnread]
  rfl

theorem readTime_withUnread (s : State) (req : Req) (off : Nat) : readTime (withUnread o l d s) req off = readTime s req off := by
  unfold readTime
  simp only [cfgReg_withUnread]
  rfl

theorem readSchedule_withUnread (s : State) (off : Nat) : readSchedule (withUnread o l d s) off = readSchedule s off := by
  unfold readSchedule
  simp only [cfgReg_withUnread]
  rfl

theorem readSwitch_withUnread (s : State) (req : Req) (off : Nat) : readSwitch (withUnread o l d s) req off = readSwitch s req off := by
  have hsw : (withUnread o l d s).sw = s.sw := rfl
  have hstat (p : Fin 20) : swPstat (withUnread o l d s) p = swPstat s p := by unfold swPstat; rw [hsw]
  have hocc (p : Fin 20) : occAll (withUnread o l d s) p = occAll s p := rfl
  have hlatch (k : Nat) : getLatch (withUnread o l d s) req k = getLatch s req k := rfl
  unfold readSwitch
  simp only [cfgReg_withUnread, hsw, hstat, hocc, hlatch]

theorem readSignals_withUnread (s : State) (off : Nat) : readSignals (withUnread o l d s) off = readSignals s off := by
  unfold readSignals
  simp only [cfgReg_withUnread]
  rfl

theorem readCan_withUnread (s : State) (req : Req) (off : Nat) : readCan (withUnread o l d s) req off = readCan s req off := by
  unfold readCan
  simp only [cfgReg_withUnread]
  rfl

theorem readPower_withUnread (s : State) (off : Nat) : readPower (withUnread o l d s) off = readPower s off := by
  unfold readPower
  simp only [cfgReg_withUnread]
  rfl

theorem readFault_withUnread (s : State) (off : Nat) : readFault (withUnread o l d s) off = readFault s off := by
  have hflt : (withUnread o l d s).flt = s.flt := rfl
  have hpol : (withUnread o l d s).pol = s.pol := rfl
  have hunit (u : Nat) : unitWord (withUnread o l d s) u = unitWord s u := rfl
  have hstat : fltStat (withUnread o l d s) = fltStat s := rfl
  have hspare : fltSpare (withUnread o l d s) = fltSpare s := rfl
  unfold readFault
  simp only [cfgReg_withUnread, hflt, hpol, hunit, hstat, hspare]

theorem readRecorder_withUnread (s : State) (req : Req) (off : Nat) : readRecorder (withUnread o l d s) req off = readRecorder s req off := by
  unfold readRecorder
  simp only [cfgReg_withUnread]
  rfl

theorem readLocal_withUnread (s : State) (off : Nat) : readLocal (withUnread o l d s) off = readLocal s off := by
  unfold readLocal
  simp only [cfgReg_withUnread]
  rfl

theorem readGlobal_withUnread (s : State) (off : Nat) : readGlobal (withUnread o l d s) off = readGlobal s off := rfl

end

theorem readMonitor_withUnread {o : Otp} {l : List Out} {d : List DynOut} {s : State} (himg : o.img.isSome = s.otp.img.isSome)
    (hmon : o.mon.isSome = s.otp.mon.isSome)
    (hclr : o.clr.isSome = s.otp.clr.isSome) (req : Req) (off : Nat) : readMonitor (withUnread o l d s) req off = readMonitor s req off := by
  have hotp : (withUnread o l d s).otp = o := rfl
  unfold readMonitor
  simp only [cfgReg_withUnread, hotp, himg, hmon, hclr]
  rfl

/-- HB_STAT shows how many bridge messages wait. -/
theorem readBridge_withUnread (o : Otp) (l : List Out) {d : List DynOut} {s : State} (hd : d.filter (fun x => x.origin == 3) = outQ s) (off : Nat) :
    readBridge (withUnread o l d s) off = readBridge s off := by
  have hhb : (withUnread o l d s).hb = s.hb := rfl
  have hpolled : polled (withUnread o l d s) = polled s := rfl
  have hq : outQ (withUnread o l d s) = outQ s := hd
  have hstat : hbStat (withUnread o l d s) = hbStat s := by simp only [hbStat, hhb, hpolled, hq]
  have histat : hbIstat (withUnread o l d s) = hbIstat s := rfl
  have hlate (i k : Nat) : leWord (withUnread o l d s) i k = leWord s i k := rfl
  unfold readBridge
  simp only [cfgReg_withUnread, hhb, hstat, histat, hlate]

theorem regRead_withUnread {o : Otp} {s : State} (l : List Out) {d : List DynOut} (hd : d.filter (fun x => x.origin == 3) = outQ s)
    (himg : o.img.isSome = s.otp.img.isSome)
    (hmon : o.mon.isSome = s.otp.mon.isSome) (hclr : o.clr.isSome = s.otp.clr.isSome) (req : Req) (off : Nat) :
    regRead (withUnread o l d s) req off = regRead s req off := by
  unfold regRead
  simp only [readGlobal_withUnread, readLanes_withUnread, readTopology_withUnread, readTime_withUnread, readSchedule_withUnread, readSwitch_withUnread,
    readSignals_withUnread, readCan_withUnread, readBridge_withUnread o l hd, readPower_withUnread, readFault_withUnread, readRecorder_withUnread,
    readLocal_withUnread, readMonitor_withUnread himg hmon hclr]

/-- Settles O60: no block but the monitor's reads OTP, and that one reads which slots are programmed. -/
theorem registersHideKeys : Obligations.RegistersHideKeys :=
  fun s _ req off himg hmon hclr => regRead_withUnread s.out rfl himg hmon hclr req off

end Sys2Proof.Secrets
end

section
/-! SUPPORT. The node's own clock with nothing in hand, and the statement on an idle step (R148, R23, R287). -/

namespace Sys2Proof.Clock

open Sys2Proof.Machine Sys2Proof.Safety

/-- The state a nanosecond later. -/
def later (s : State) : State := { s with now := s.now + 1 }

-- Elaborated by itself, so that the proofs before it are checked before those after it begin: this bounds the memory that proofs under way take at once.
set_option Elab.async false in
/-- An idle step settles the tick. -/
theorem step_idle {s : State} (h : s.pending = []) : step s = .next (settle s (tick s)) := by simp [step, h]

/-- No reading is due: the nanosecond is not one of the 1 ms readings, or the node is off. -/
theorem tick_off {s : State} (hc : coreRun s = false) (hr : (s.now + 1) % 1000000 ≠ 0 ∨ s.line.node = .off) : tick s = later s := by
  have hl : coreRun (later s) = false := hc
  have hd : ¬ ((s.now + 1) % 1000000 = 0 ∧ s.line.node ≠ .off) := fun ⟨ha, hb⟩ => hr.elim (· ha) hb
  unfold tick
  change (if (if coreRun (later s) then _ else later s).now % 1000000 = 0 ∧ (if coreRun (later s) then _ else later s).line.node ≠ .off then _
    else if coreRun (later s) then _ else later s) = _
  simp only [hl]
  exact if_neg hd

/-! ### Nothing in hand -/

/-- An empty crossbar does not move. -/
theorem fabTick_empty {s : State} (h : s.sw.fab.ins = []) : fabTick s = s := by
  have hcell : cellTime s.sw.fab = s.sw.fab := by simp [cellTime, h]
  unfold fabTick
  rw [hcell]
  exact ite_self s

theorem relayAll_empty {s : State} (h : s.sch.relays = []) : relayAll s = s := by simp [relayAll, h, relayRun]

theorem ctlDue_empty {s : State} (h : s.sch.ctl = []) : ctlDue s = s := by simp [ctlDue, h]

/-- Nobody borrows a spare slot: it runs idle and is counted (R287). -/
theorem spareSlot_idle {s : State} (hq : s.hb.inq = []) (he : s.log.raised = []) (hj : s.sg.jobs = []) : spareSlot s = bump s 0x804C := by
  have hnone (u : Nat) : lampPending s u = false := by
    unfold lampPending
    split <;> simp [hq, he, hj]
  simp [spareSlot, hnone]

/-- The Lamplighter after the turn that the counter's value brings (R23). -/
def turned (s : State) : Lamp := { s.lamp with slot := if s.tb.ctr % 16 = 0 then (s.lamp.slot + 1) % 32 else s.lamp.slot }

/-- The turn reaches a spare slot. -/
def spareTurn (s : State) : Prop := s.tb.ctr % 16 = 0 ∧ slotUser ((s.lamp.slot + 1) % 32) = .spare

theorem lampTurn_stays {s : State} (h : ¬ s.tb.ctr % 16 = 0) : lampTurn s = { s with lamp := turned s } := by simp [lampTurn, turned, h]

theorem lampTurn_moves {s : State} (h : s.tb.ctr % 16 = 0) (hu : ¬ slotUser ((s.lamp.slot + 1) % 32) = .spare) : lampTurn s = { s with lamp := turned s } := by
  simp [lampTurn, turned, h, hu]

theorem lampTurn_spare {s : State} (h : spareTurn s) (hq : s.hb.inq = []) (he : s.log.raised = []) (hj : s.sg.jobs = []) :
    lampTurn s = bump { s with lamp := turned s } 0x804C := by
  obtain ⟨hn, hu⟩ := h
  simp only [lampTurn, turned, hn, hu, if_true]
  exact spareSlot_idle hq he hj

/-- The turn with no work in hand: the lamp moves on, and a spare slot is counted. -/
theorem lampTurn_idle {s : State} (hq : s.hb.inq = []) (he : s.log.raised = []) (hj : s.sg.jobs = []) :
    (spareTurn s ∧ lampTurn s = bump { s with lamp := turned s } 0x804C) ∨ (¬ spareTurn s ∧ lampTurn s = { s with lamp := turned s }) := by
  by_cases hn : s.tb.ctr % 16 = 0
  · by_cases hu : slotUser ((s.lamp.slot + 1) % 32) = .spare
    · exact .inl ⟨⟨hn, hu⟩, lampTurn_spare ⟨hn, hu⟩ hq he hj⟩
    · exact .inr ⟨fun h => hu h.2, lampTurn_moves hn hu⟩
  · exact .inr ⟨fun h => hn h.1, lampTurn_stays hn⟩

/-- The state a nanosecond later, the counter moved. -/
def counted (s : State) : State := { s with now := s.now + 1, tb := { s.tb with ctr := s.tb.ctr + 1 } }

/-- What a nanosecond brings while the core runs: the turn, the crossbar, the static and the control frames. -/
def worked (s : State) : State := ctlDue (relayAll (fabTick (lampTurn (counted s))))

theorem tick_running {s : State} (hc : coreRun s = true) :
    tick s = if (worked s).now % 1000000 = 0 ∧ (worked s).line.node ≠ .off then remeasure (worked s) else worked s := by
  have hl : coreRun (later s) = true := hc
  have hw : (if coreRun (later s) then worked s else later s) = worked s := if_pos hl
  rw [← hw]
  rfl

/-- With no work in hand a nanosecond is the Lamplighter's turn. -/
theorem tick_idle {s : State} (hc : coreRun s = true) (hr : (s.now + 1) % 1000000 ≠ 0) (hctl : s.sch.ctl = []) (hrel : s.sch.relays = [])
    (hfab : s.sw.fab.ins = []) (hq : s.hb.inq = []) (he : s.log.raised = []) (hj : s.sg.jobs = []) : tick s = lampTurn (counted s) := by
  obtain ⟨hsw, hsch, hnow⟩ : (lampTurn (counted s)).sw = s.sw ∧ (lampTurn (counted s)).sch = s.sch ∧ (lampTurn (counted s)).now = s.now + 1 := by
    rcases lampTurn_idle (s := counted s) hq he hj with ⟨-, h⟩ | ⟨-, h⟩ <;> rw [h] <;> exact ⟨rfl, rfl, rfl⟩
  have hwork : worked s = lampTurn (counted s) := by
    rw [worked, fabTick_empty (by rw [hsw, hfab]), relayAll_empty (by rw [hsch, hrel]), ctlDue_empty (by rw [hsch, hctl])]
  rw [tick_running hc, hwork, hnow]
  exact if_neg fun h => hr h.1

/-- Settles O43. -/
theorem idleStepPassesTime : Obligations.IdleStepPassesTime := by
  refine ⟨?off, ?running, fun s h => ⟨_, step_idle h, by rw [settle_pending, h], settle_uid _ _⟩⟩
  case off =>
    intro s hp hc hr
    have hframe : Frame [.now] (fun _ => False) s (later s) := ⟨fun p hn => by cases p <;> simp_all [Same, later], fun _ _ _ => rfl⟩
    refine ⟨_, step_idle hp, ?_⟩
    rw [tick_off hc hr]
    exact ⟨settle_now _ _, by rw [settle_pending, hp], frame_settle hframe⟩
  case running =>
    intro s hp hc hr hctl hrel hfab hq he hj
    have hturned : turned (counted s) = { s.lamp with slot := if (s.tb.ctr + 1) % 16 = 0 then (s.lamp.slot + 1) % 32 else s.lamp.slot } := rfl
    have hframe : Frame [.now, .tb, .lamp] (· = 0x804C) s { counted s with lamp := turned (counted s) } :=
      ⟨fun p hn => by cases p <;> simp_all [Same, counted], fun _ _ _ => rfl⟩
    refine ⟨_, step_idle hp, ?_⟩
    rw [tick_idle hc hr hctl hrel hfab hq he hj]
    rcases lampTurn_idle (s := counted s) hq he hj with ⟨hs, h⟩ | ⟨hs, h⟩
    · rw [h]
      refine ⟨by simp [counted], by simp [counted], by simp [hturned], fun _ => ?_, fun hn => absurd hs hn,
        frame_settle (frame_trans hframe (frame_mono (frame_bump _ _) (by simp) fun _ ho => ho))⟩
      rw [Counted, reg_settle_ne _ _ (by decide), reg_bump, if_pos rfl]
      rfl
    · rw [h]
      exact ⟨by simp [counted], by simp [counted], by simp [hturned], fun hn => absurd hn hs, fun _ => reg_settle_ne _ _ (by decide), frame_settle hframe⟩

end Sys2Proof.Clock
end

section
/-! SUPPORT. The line code read back: blocks, scrambler, symbols and packing, and the statement on them (R95 to R98). -/

namespace Sys2Proof.LineCode

open Sys2Proof.Machine

/-! ### Bits of a word, the first highest -/

/-- The w bits of a word, the first highest. -/
def wordBits {w : Nat} (x : BitVec w) : List Bool := (List.range w).map (fun i => x.getLsbD (w - 1 - i))

-- Elaborated by itself, so that the proofs before it are checked before those after it begin: this bounds the memory that proofs under way take at once.
set_option Elab.async false in
@[simp] theorem length_wordBits {w : Nat} (x : BitVec w) : (wordBits x).length = w := by simp [wordBits]

/-- The first k bits of a word, as a number, are its upper k bits. -/
theorem bitsNat_upper {w : Nat} (x : BitVec w) {k : Nat} (hk : k ≤ w) :
    bitsNat ((List.range k).map (fun i => x.getLsbD (w - 1 - i))) = x.toNat >>> (w - k) := by
  induction k with
  | zero => simp [bitsNat, Nat.shiftRight_eq_div_pow, Nat.div_eq_of_lt x.isLt]
  | succ k ih =>
    have hpos : w - k = (w - (k + 1)) + 1 := by omega
    have hbit : x.getLsbD (w - 1 - k) = x.toNat.testBit (w - (k + 1)) := by
      rw [BitVec.getLsbD, show w - 1 - k = w - (k + 1) by omega]
    have hfold := ih (by omega)
    rw [bitsNat] at hfold
    rw [bitsNat, List.range_succ, List.map_append, List.foldl_append, hfold, hpos, List.map_singleton, List.foldl_cons, List.foldl_nil, hbit,
      Nat.testBit, Nat.shiftRight_succ, Nat.one_and_eq_mod_two]
    generalize x.toNat >>> (w - (k + 1)) = n
    rcases Nat.mod_two_eq_zero_or_one n with h | h <;> simp [h] <;> omega

/-- The bits of a word give the word back. -/
theorem bitsNat_wordBits {w : Nat} (x : BitVec w) : bitsNat (wordBits x) = x.toNat := by
  rw [wordBits, bitsNat_upper x (Nat.le_refl w), Nat.sub_self, Nat.shiftRight_zero]

/-! ### The BCH code and the block types (R95, R96) -/

/-- A set of words as a number: bit n stands for the word n. -/
def wordSet (l : List (BitVec 20)) : Nat := l.foldl (fun m w => m ||| 2 ^ w.toNat) 0

theorem testBit_wordFold (l : List (BitVec 20)) (m i : Nat) :
    (l.foldl (fun m w => m ||| 2 ^ w.toNat) m).testBit i = (m.testBit i || l.any (fun w => w.toNat == i)) := by
  induction l generalizing m with
  | nil => simp
  | cons w r ih => simp [ih, Nat.testBit_or, Nat.testBit_two_pow, Bool.or_assoc, BEq.beq]

theorem not_mem_of_wordSet {l : List (BitVec 20)} {w : BitVec 20} (h : (wordSet l).testBit w.toNat = false) : w ∉ l := by
  rw [wordSet, testBit_wordFold] at h
  intro hm
  have hne := List.any_eq_false.mp (Bool.or_eq_false_iff.mp h).2 w hm
  simp at hne

/-- A syndrome that no error of at most two bits leaves. -/
def farSyndrome (w : BitVec 20) : Bool :=
  w != 0 && !(wordSet syndromes).testBit w.toNat && syndromes.all (fun x => !(wordSet syndromes).testBit (x ^^^ w).toNat)

theorem idxOf?_none {l : List (BitVec 20)} {w : BitVec 20} (h : (wordSet l).testBit w.toNat = false) : l.idxOf? w = none :=
  List.idxOf?_eq_none_iff.mpr (not_mem_of_wordSet h)

/-- No correction explains such a syndrome. -/
theorem explain_far {w : BitVec 20} (h : farSyndrome w = true) : explain w = none := by
  simp only [farSyndrome, Bool.and_eq_true, bne_iff_ne, Bool.not_eq_true', List.all_eq_true] at h
  obtain ⟨⟨hzero, hone⟩, htwo⟩ := h
  have hpair : syndromes.zipIdx.findSome? (fun x => (syndromes.idxOf? (x.1 ^^^ w)).map (fun j => [x.2, j])) = none := by
    rw [List.findSome?_eq_none_iff]
    intro x hx
    rw [idxOf?_none (htwo x.1 (List.fst_mem_of_mem_zipIdx hx)), Option.map_none]
  simp only [explain, hzero, if_false, idxOf?_none hone, hpair]

/-- Two masks of different types lie further apart than two errors reach (Table 5-2). -/
theorem explain_masks {t b : BlockType} (h : t ≠ b) : explain (blockMask t ^^^ blockMask b) = none := by
  match t, b, h with
  | .cont, .cont, h | .start, .start, h | .idle, .idle, h => exact absurd rfl h
  | .cont, .start, _ | .start, .cont, _ => exact explain_far (w := 0x3C3C3) (by decide +kernel)
  | .cont, .idle, _ | .idle, .cont, _ => exact explain_far (w := 0xC3C3C) (by decide +kernel)
  | .start, .idle, _ | .idle, .start, _ => exact explain_far (w := 0xFFFFF) (by decide +kernel)

theorem encodeBlock_eq (b : BlockType) (d : List Bool) : encodeBlock b d = d ++ wordBits (bchCheck d ^^^ blockMask b) := rfl

theorem flipAt_nil (l : List Bool) : flipAt l [] = l := by simp [flipAt]

/-- The syndrome of a block as sent, under a type's mask, is what the two masks differ by. -/
theorem syndrome_encodeBlock (t b : BlockType) {d : List Bool} (h : d.length = 300) :
    bchCheck ((encodeBlock b d).take 300) ^^^ blockMask t ^^^ BitVec.ofNat 20 (bitsNat ((encodeBlock b d).drop 300)) = blockMask t ^^^ blockMask b := by
  rw [encodeBlock_eq, List.take_left' h, List.drop_left' h, bitsNat_wordBits, BitVec.ofNat_toNat, BitVec.setWidth_eq]
  generalize bchCheck d = c
  rw [BitVec.xor_comm c, BitVec.xor_assoc, ← BitVec.xor_assoc c, BitVec.xor_self, BitVec.zero_xor]

theorem readAs_encodeBlock (t b : BlockType) {d : List Bool} (h : d.length = 300) :
    readAs (encodeBlock b d) t = if t = b then some { type := b, data := d, corr := 0 } else none := by
  rw [readAs, syndrome_encodeBlock t b h]
  split
  case isTrue e =>
    subst e
    simp [explain, flipAt_nil, encodeBlock_eq, List.take_left' h]
  case isFalse e => rw [explain_masks e, Option.map_none]

/-- A block reads back as the type and data it was sent with. -/
theorem decodeBlock_encodeBlock (b : BlockType) {d : List Bool} (h : d.length = 300) :
    decodeBlock (encodeBlock b d) = some { type := b, data := d, corr := 0 } := by
  have hread (t : BlockType) := readAs_encodeBlock t b h
  cases b <;> simp [decodeBlock, hread]

/-! ### The scrambler (R95) -/

/-- The scrambler's stream descrambles to its data, and leaves the same bits on the line. -/
theorem descramble_scramble (last d : List Bool) : descramble last (scramble last d).1 = (d, (scramble last d).2) := by
  induction d generalizing last with
  | nil => rfl
  | cons b r ih => simp [scramble, descramble, ih]

theorem length_scramble (last d : List Bool) : (scramble last d).1.length = d.length := by
  induction d generalizing last with
  | nil => rfl
  | cons b r ih => simp [scramble, ih]

/-! ### Symbols (R98) -/

theorem levelBits_levelOf (a b : Bool) : levelBits (levelOf a b) = (a, b) := by cases a <;> cases b <;> rfl

/-- The symbols of a block carry its two halves. -/
theorem symbolsBlock_blockSymbols {b : List Bool} (h : b.length = 320) : symbolsBlock (blockSymbols b) = b := by
  have hlen : (b.take 160).length = (b.drop 160).length := by simp [h]
  have hfst : ((b.take 160).zip (b.drop 160)).map Prod.fst = b.take 160 := List.map_fst_zip (Nat.le_of_eq hlen)
  have hsnd : ((b.take 160).zip (b.drop 160)).map Prod.snd = b.drop 160 := List.map_snd_zip (Nat.le_of_eq hlen.symm)
  simp only [symbolsBlock, blockSymbols, List.map_map, Function.comp_def, levelBits_levelOf]
  rw [hfst, hsnd, List.take_append_drop]

theorem length_blockSymbols {b : List Bool} (h : b.length = 320) : (blockSymbols b).length = 160 := by simp [blockSymbols, h]

/-! ### Packing (R97) -/

theorem byteBits_cons (b : Byte) (f : Bytes) : byteBits (b :: f) = wordBits b ++ byteBits f := rfl

@[simp] theorem length_byteBits (f : Bytes) : (byteBits f).length = 8 * f.length := by
  induction f with
  | nil => rfl
  | cons b f ih => rw [byteBits_cons, List.length_append, length_wordBits, ih, List.length_cons]; omega

/-- The bits of a frame, whatever follows them, give its first n bytes back. -/
theorem bitBytes_byteBits (n : Nat) (f : Bytes) (r : List Bool) (h : n ≤ f.length) : bitBytes n (byteBits f ++ r) = f.take n := by
  induction n generalizing f with
  | zero => rfl
  | succ n ih =>
    match f, h with
    | b :: f, h =>
      rw [byteBits_cons, List.append_assoc, bitBytes, List.take_left' (length_wordBits b), List.drop_left' (length_wordBits b), bitsNat_wordBits,
        ih f (Nat.le_of_succ_le_succ h), BitVec.ofNat_toNat, BitVec.setWidth_eq, List.take_succ_cons]

/-- Bits enough for n bytes: more behind them make no difference. -/
theorem bitBytes_take (n m : Nat) (l : List Bool) (h : 8 * n ≤ m) : bitBytes n (l.take m) = bitBytes n l := by
  induction n generalizing m l with
  | zero => rfl
  | succ n ih => rw [bitBytes, bitBytes, List.take_take, Nat.min_eq_left (by omega), List.drop_take, ih (m - 8) (l.drop 8) (by omega)]

@[simp] theorem length_dataBlocks (n : Nat) (l : List Bool) : (dataBlocks n l).length = n := by
  induction n generalizing l with
  | zero => rfl
  | succ n ih => rw [dataBlocks, List.length_cons, ih]

/-- Every data block is full. -/
theorem length_of_mem_dataBlocks {n : Nat} {l d : List Bool} (h : d ∈ dataBlocks n l) : d.length = 300 := by
  induction n generalizing l with
  | zero => simp [dataBlocks] at h
  | succ n ih =>
    rcases List.mem_cons.mp h with rfl | h
    · rw [List.length_take, List.length_append, List.length_replicate]
      exact Nat.min_eq_left (Nat.le_add_left 300 l.length)
    · exact ih h

/-- The data blocks hold the bits, then zero fill. -/
theorem flatten_dataBlocks (n : Nat) (l : List Bool) (h : l.length ≤ 300 * n) :
    (dataBlocks n l).flatten = l ++ List.replicate (300 * n - l.length) false := by
  induction n generalizing l with
  | zero => simp [dataBlocks, List.length_eq_zero_iff.mp (Nat.le_zero.mp h)]
  | succ n ih =>
    have hrest : (l.drop 300).length ≤ 300 * n := by simp; omega
    rw [dataBlocks, List.flatten_cons, ih _ hrest]
    by_cases hl : l.length ≤ 300
    · have hfill : 300 - l.length + 300 * n = 300 * (n + 1) - l.length := by omega
      rw [List.take_append, List.take_of_length_le hl, List.take_replicate, Nat.min_eq_left (Nat.sub_le _ _), List.drop_of_length_le hl, List.nil_append,
        List.length_nil, Nat.sub_zero, List.append_assoc, List.replicate_append_replicate, hfill]
    · have hfill : 300 * n - (l.length - 300) = 300 * (n + 1) - l.length := by omega
      rw [List.take_append_of_le_length (by omega), ← List.append_assoc, List.take_append_drop, List.length_drop, hfill]

/-! ### Blocks on the line -/

/-- A received block: its type, its data, nothing corrected. -/
def asReceived (x : BlockType × List Bool) : Option BlockType × List Bool × Nat := (some x.1, x.2, 0)

/-- Blocks of 300 data bits are received as they were sent, whatever the line carried before. -/
theorem receiveBlocks_sendBlocks (last : List Bool) (bs : List (BlockType × List Bool)) (h : ∀ x ∈ bs, x.2.length = 300) :
    receiveBlocks last (sendBlocks last bs) = bs.map asReceived := by
  induction bs generalizing last with
  | nil => rfl
  | cons x r ih =>
    obtain ⟨t, d⟩ := x
    have hd : (scramble last d).1.length = 300 := (length_scramble last d).trans (h (t, d) List.mem_cons_self)
    have hr := ih (scramble last d).2 fun y hy => h y (List.mem_cons_of_mem _ hy)
    simp [sendBlocks, receiveBlocks, decodeBlock_encodeBlock t hd, descramble_scramble, hr, asReceived]

/-- The number of blocks a frame of n bytes takes. -/
def blockCount (n : Nat) : Nat := ceilDiv (8 * n) 300

theorem le_blockCount (n : Nat) : 8 * n ≤ 300 * blockCount n := by
  unfold blockCount ceilDiv
  omega

/-- A frame's blocks: the first is a START block, the others CONT blocks. -/
theorem frameBlocks_eq {f : Bytes} {d : List Bool} {r : List (List Bool)} (h : dataBlocks (blockCount f.length) (byteBits f) = d :: r) :
    frameBlocks f = (.start, d) :: r.map (fun x => (.cont, x)) := by
  have hcont : (r.zipIdx 1).map (fun x => ((if x.2 = 0 then BlockType.start else .cont), x.1)) = r.map (fun x => (.cont, x)) := by
    refine List.ext_getElem (by simp) fun i _ _ => ?_
    simp
  rw [frameBlocks, show ceilDiv (8 * f.length) 300 = blockCount f.length from rfl, h, List.zipIdx_cons, List.map_cons, hcont]
  rfl

/-- What is read of a frame's blocks once its length is known. -/
theorem readFrame_frameBlocks {f : Bytes} (stamp : Nat) (h28 : 28 ≤ f.length) (hlen : f.length = 28 + (readHdr f).len) :
    readFrame ((frameBlocks f).map asReceived) stamp = { bytes := f, startBad := false, unc := 0, cut := false, stamp := stamp } := by
  have hcount := le_blockCount f.length
  obtain ⟨d, r, hblocks⟩ : ∃ d r, dataBlocks (blockCount f.length) (byteBits f) = d :: r :=
    List.exists_cons_of_length_pos (by rw [length_dataBlocks]; omega)
  have hn : blockCount f.length = r.length + 1 := by simpa using (congrArg List.length hblocks)
  have hbits : d ++ r.flatten = byteBits f ++ List.replicate (300 * blockCount f.length - 8 * f.length) false := by
    simpa [hblocks] using flatten_dataBlocks (blockCount f.length) (byteBits f) (by simpa using hcount)
  have hd : d.length = 300 := length_of_mem_dataBlocks (hblocks ▸ List.mem_cons_self)
  have hfirst : bitBytes 24 d = f.take 24 := by
    rw [← bitBytes_byteBits 24 f _ (by omega), ← hbits, ← bitBytes_take 24 300 (d ++ r.flatten) (by decide), List.take_left' hd]
  have hfield : 28 + beAt (bitBytes 24 d) 18 2 = f.length := by
    rw [hfirst, hlen, readHdr, beAt, beAt, slice, slice, List.drop_take, List.take_take]
    rfl
  have hwhole : bitBytes f.length (d ++ r.flatten) = f := by rw [hbits, bitBytes_byteBits _ _ _ (Nat.le_refl _), List.take_length]
  have hroom : f.length ≤ (d ++ r.flatten).length / 8 := by rw [hbits]; simp; omega
  have hconts : (r.map (fun x => asReceived (.cont, x))).takeWhile (fun x => x.1 != some .start && x.1 != some .idle) = r.map (fun x => asReceived (.cont, x)) := by
    rw [List.takeWhile_eq_self_iff]
    simp [asReceived]
  have hflat : (r.map (fun x => asReceived (.cont, x))).flatMap (fun x => x.2.1) = r.flatten := by
    simp [List.flatMap_map, asReceived]
  rw [frameBlocks_eq hblocks]
  simp only [List.map_cons, List.map_map, Function.comp_def, readFrame]
  rw [hconts, show (asReceived (.start, d)).2.1 = d from rfl, hfield, show ceilDiv (8 * f.length) 300 = blockCount f.length from rfl, hn,
    Nat.add_sub_cancel, List.take_of_length_le (by simp), hflat, Nat.min_eq_left hroom, hwhole]
  simp [asReceived, List.filter_map, Function.comp_def]

/-- Settles O11. -/
theorem lineCodeRoundTrip : Obligations.LineCodeRoundTrip := by
  refine ⟨fun b d h => decodeBlock_encodeBlock b h, descramble_scramble, fun b h => ⟨length_blockSymbols h, symbolsBlock_blockSymbols h⟩, ?frames,
    fun s l r => by cases r <;> rfl⟩
  case frames =>
    intro last f stamp h28 hlen
    have hfull : ∀ x ∈ frameBlocks f, x.2.length = 300 := by
      intro x hx
      obtain ⟨y, hy, rfl⟩ := List.mem_map.mp hx
      exact length_of_mem_dataBlocks (List.fst_mem_of_mem_zipIdx hy)
    rw [rxFrame, receiveBlocks_sendBlocks last _ hfull, readFrame_frameBlocks stamp h28 hlen]

end Sys2Proof.LineCode
end

section
/-! SUPPORT. How frames follow one another, and the frame of each operation on the state that several chapters share. -/

namespace Sys2Proof.Safety

open Sys2Proof.Machine

-- Elaborated by itself, so that the proofs before it are checked before those after it begin: this bounds the memory that proofs under way take at once.
set_option Elab.async false in
/-- A frame within a wider one. -/
theorem Frame.within {P Q : List Part} {R S : Nat → Prop} {s t : State} (h : Frame P R s t) (hp : P ⊆ Q := by decide)
    (hr : ∀ o, R o → S o := by simp) : Frame Q S s t :=
  frame_mono h (fun _ hm => hp hm) hr

/-- A step within the frame of what it follows. -/
theorem Frame.andThen {P Q : List Part} {R S : Nat → Prop} {s t u : State} (h : Frame P R s t) (g : Frame Q S t u) (hp : Q ⊆ P := by decide)
    (hr : ∀ o, S o → R o := by simp) : Frame P R s u :=
  frame_trans h (g.within hp hr)

/-- States that differ in no register and in these parts at most. -/
theorem frame_of_regs {P : List Part} {R : Nat → Prop} {s t : State} (h : ∀ p, p ∉ P → Same s t p := by intro p hp; cases p <;> simp_all [Same] <;> rfl)
    (hr : t.regs = s.regs := by rfl) : Frame P R s t :=
  ⟨h, fun _ _ _ => reg_congr hr _⟩

/-- A register that a frame does not name. -/
theorem Frame.reg {P : List Part} {R : Nat → Prop} {s t : State} (h : Frame P R s t) {o : Nat} (ho : ¬ R o := by simp) (h40 : o ≠ 0x40 := by decide) :
    Machine.reg t o = Machine.reg s o := h.2 o h40 ho

/-- A part that a frame does not name. -/
theorem Frame.part {P : List Part} {R : Nat → Prop} {s t : State} (h : Frame P R s t) (p : Part) (hp : p ∉ P := by decide) : Same s t p := h.1 p hp

end Sys2Proof.Safety
end

section
/-! SUPPORT. Line power (chapter 3): what each operation of the line-feed controller does to its pair and leaves of the node, and the statements on
the power die, the line feed and supervision. -/

namespace Sys2Proof.Power

open Sys2Proof.Machine Sys2Proof.Safety

/-! ### One pair after another -/

/-- Between s and t nothing of the node changed but states of pairs and, where the core runs, the recorder's intake. -/
def PairsOnly (s t : State) : Prop := t.line = { s.line with pairs := t.line.pairs } ∧ Frame [.line, .log] (· = 0xC180) s t ∧ (coreRun s = false →
    t.log = s.log ∧ Frame [.line] (fun _ => False) s t)

/-- As `PairsOnly`, of pair p alone. -/
def PairOnly (p : Fin 4) (s t : State) : Prop := PairsOnly s t ∧ ∀ q : Fin 4, q ≠ p → t.line.pairs[q] = s.line.pairs[q]

-- Elaborated by itself, so that the proofs before it are checked before those after it begin: this bounds the memory that proofs under way take at once.
set_option Elab.async false in
theorem pairsOnly_refl (s : State) : PairsOnly s s := ⟨rfl, frame_refl _ _ _, fun _ => ⟨rfl, frame_refl _ _ _⟩⟩

section

variable {s t u : State} (h : PairsOnly s t)
include h

theorem PairsOnly.core : t.line.core = s.line.core := by rw [h.1]
theorem PairsOnly.boot : t.boot = s.boot := h.2.1.part .boot
theorem PairsOnly.lfctl : lfctl t = lfctl s := h.2.1.reg
theorem PairsOnly.coreRun : coreRun t = coreRun s := by rw [Machine.coreRun, Machine.coreRun, h.core, h.boot]
theorem PairsOnly.portI1g (p : Port) : portI1g t p = portI1g s p := by
  have hreg : laneCfg t (laneA p) = laneCfg s (laneA p) :=
    match p with
    | .fore => h.2.1.reg (o := 0x1100)
    | .aft => h.2.1.reg (o := 0x1300)
  simp only [Machine.portI1g, laneI1g, committed, hreg, h.core, h.boot]
theorem PairsOnly.pairI1g (p : Fin 4) : pairI1g t p = pairI1g s p := by
  have hpilot : t.pilot = s.pilot := h.2.1.part .pilot
  simp only [Machine.pairI1g, h.core, h.portI1g, hpilot]
theorem PairsOnly.feeding : feeding t = feeding s := by
  have hpilot : t.pilot = s.pilot := h.2.1.part .pilot
  have hnode : t.line.node = s.line.node := by rw [h.1]
  simp only [Machine.feeding, h.core, hpilot, hnode]

theorem PairsOnly.trans (g : PairsOnly t u) : PairsOnly s u := by
  obtain ⟨hl, hf, hcold⟩ := h
  obtain ⟨gl, gf, gcold⟩ := g
  have hrun := PairsOnly.coreRun ⟨hl, hf, hcold⟩
  refine ⟨by rw [gl, hl], frame_trans hf gf, fun hc => ?_⟩
  obtain ⟨hlog, hframe⟩ := hcold hc
  obtain ⟨glog, gframe⟩ := gcold (hrun.trans hc)
  exact ⟨glog.trans hlog, frame_trans hframe gframe⟩

end

theorem pairsOnly_setPair (s : State) (p : Fin 4) (f : Pair → Pair) : PairsOnly s (setPair s p f) :=
  ⟨rfl, (frame_setPair s p f).within, fun _ => ⟨rfl, frame_setPair s p f⟩⟩

theorem pairOnly_setPair (s : State) (p : Fin 4) (f : Pair → Pair) : PairOnly p s (setPair s p f) :=
  ⟨pairsOnly_setPair s p f, fun q hq => setPair_other s p f q.val q.isLt fun e => hq (Fin.ext e)⟩

/-- An event reported beside changes no pair. -/
theorem pairsOnly_raise (s : State) (code sev inst : Nat) (vals : List Nat) : PairsOnly s (raise s code sev inst vals) :=
  ⟨by rw [raise_line], frame_raise s code sev inst vals |>.within, fun hc => by rw [raise_cold s _ _ _ _ hc]; exact ⟨rfl, frame_refl _ _ _⟩⟩

theorem PairOnly.raise {p : Fin 4} {s t : State} (h : PairOnly p s t) (code sev inst : Nat) (vals : List Nat) : PairOnly p s (raise t code sev inst vals) :=
  ⟨h.1.trans (pairsOnly_raise _ _ _ _ _), fun q hq => by simp only [raise_line]; exact h.2 q hq⟩

theorem PairOnly.trans {p : Fin 4} {s t u : State} (h : PairOnly p s t) (g : PairOnly p t u) : PairOnly p s u :=
  ⟨h.1.trans g.1, fun q hq => (g.2 q hq).trans (h.2 q hq)⟩

theorem pairOnly_refl (p : Fin 4) (s : State) : PairOnly p s s := ⟨pairsOnly_refl s, fun _ _ => rfl⟩

/-- What is done to every pair in turn, each by what the pair itself and the node's other parts say: every pair has its outcome g. -/
theorem eachPair_pairs {s : State} {f : State → Fin 4 → State} {g : Fin 4 → Pair}
    (h : ∀ t p, PairsOnly s t → t.line.pairs[p] = s.line.pairs[p] → PairOnly p t (f t p) ∧ (f t p).line.pairs[p] = g p) :
    PairsOnly s (eachPair s f) ∧ ∀ p : Fin 4, (eachPair s f).line.pairs[p] = g p := by
  have hstep (t : State) (p : Fin 4) (ht : PairsOnly s t) (hp : t.line.pairs[p] = s.line.pairs[p]) : PairsOnly s (f t p) ∧
      (∀ q : Fin 4, q ≠ p → (f t p).line.pairs[q] = t.line.pairs[q]) ∧ (f t p).line.pairs[p] = g p := by
    obtain ⟨⟨ho, hq⟩, hg⟩ := h t p ht hp
    exact ⟨ht.trans ho, hq, hg⟩
  obtain ⟨h0, k0, e0⟩ := hstep s 0 (pairsOnly_refl s) rfl
  obtain ⟨h1, k1, e1⟩ := hstep _ 1 h0 (k0 1 (by decide))
  obtain ⟨h2, k2, e2⟩ := hstep _ 2 h1 ((k1 2 (by decide)).trans (k0 2 (by decide)))
  obtain ⟨h3, k3, e3⟩ := hstep _ 3 h2 ((k2 3 (by decide)).trans ((k1 3 (by decide)).trans (k0 3 (by decide))))
  refine ⟨h3, fun p => ?_⟩
  match p with
  | 0 => exact (k3 0 (by decide)).trans ((k2 0 (by decide)).trans ((k1 0 (by decide)).trans e0))
  | 1 => exact (k3 1 (by decide)).trans ((k2 1 (by decide)).trans e1)
  | 2 => exact (k3 2 (by decide)).trans e2
  | 3 => exact e3

/-! ### The operations on one pair -/

/-- A pair off, not pulling the line down. -/
def offPair (x : Pair) : Pair := { x with st := .off, sink := false }

/-- What `startPair` leaves of its pair (R52, R48, R36, R117). -/
def startedPair (s : State) (p : Fin 4) : Pair :=
  if pairMode (lfctl s) p.val = 0 ∨ s.line.ov = true ∨ pairI1g s p = true ∨ (pairMode (lfctl s) p.val = 1 ∧ s.line.railOk = false) ∨ s.line.vfGnd = true then
    offPair s.line.pairs[p]
  else { s.line.pairs[p] with st := .softStart, sink := false }

theorem startPair_pair (s : State) (p : Fin 4) : PairOnly p s (startPair s p) ∧ (startPair s p).line.pairs[p] = startedPair s p := by
  have hoff : (setPair s p offPair).line.pairs[p] = offPair s.line.pairs[p] := setPair_same s p offPair
  unfold startPair
  dsimp only
  split
  case isTrue h =>
    simp only [Bool.or_eq_true, decide_eq_true_eq] at h
    exact ⟨pairOnly_setPair _ _ _, hoff.trans (if_pos (by tauto)).symm⟩
  case isFalse h =>
    simp only [Bool.or_eq_true, decide_eq_true_eq, not_or] at h
    split
    case isTrue hrail =>
      simp only [Bool.and_eq_true, decide_eq_true_eq, Bool.not_eq_true'] at hrail
      refine ⟨(pairOnly_setPair _ _ _).raise _ _ _ _, ?_⟩
      simp only [raise_line]
      exact hoff.trans (if_pos (by tauto)).symm
    case isFalse hrail =>
      simp only [Bool.and_eq_true, decide_eq_true_eq, Bool.not_eq_true'] at hrail
      split
      · exact ⟨pairOnly_setPair _ _ _, hoff.trans (if_pos (by tauto)).symm⟩
      · exact ⟨pairOnly_setPair _ _ _, (setPair_same _ _ _).trans (if_neg (by tauto)).symm⟩

/-- What `emberPair` leaves of its pair (Table 3-2). -/
def emberedPair (s : State) (p : Fin 4) : Pair :=
  if pairMode (lfctl s) p.val = 0 ∨ s.line.pairs[p].st = .latched then s.line.pairs[p]
  else if pairHeldOff s p = true then offPair s.line.pairs[p]
  else if pairMode (lfctl s) p.val = 1 then { s.line.pairs[p] with st := if bitAt (lfctl s) 16 then .bias else .off, sink := false }
  else { s.line.pairs[p] with st := .on, sink := false }

theorem emberPair_pair (s : State) (p : Fin 4) : PairOnly p s (emberPair s p) ∧ (emberPair s p).line.pairs[p] = emberedPair s p := by
  unfold emberPair emberedPair
  simp only [Bool.or_eq_true, decide_eq_true_eq, pairSt, beq_iff_eq]
  split
  · exact ⟨pairOnly_refl _ _, rfl⟩
  · split
    · exact ⟨pairOnly_setPair _ _ _, setPair_same _ _ _⟩
    · split
      · exact ⟨pairOnly_setPair _ _ _, setPair_same _ _ _⟩
      · exact ⟨pairOnly_setPair _ _ _, setPair_same _ _ _⟩

/-- What `resumePair` leaves of its pair. -/
def resumedPair (s : State) (p : Fin 4) : Pair := if feeding s then startedPair s p else emberedPair s p

theorem resumePair_pair (s : State) (p : Fin 4) : PairOnly p s (resumePair s p) ∧ (resumePair s p).line.pairs[p] = resumedPair s p := by
  unfold resumePair resumedPair
  split
  · exact startPair_pair s p
  · exact emberPair_pair s p

section

variable {s t : State} (h : PairsOnly s t) {p : Fin 4} (hp : t.line.pairs[p] = s.line.pairs[p])
include h hp

theorem startedPair_congr : startedPair t p = startedPair s p := by
  have hl := h.1
  simp only [startedPair, h.lfctl, h.pairI1g, hp]
  rw [hl]

theorem emberedPair_congr : emberedPair t p = emberedPair s p := by
  have hl := h.1
  simp only [emberedPair, pairHeldOff, h.lfctl, h.pairI1g, hp]
  rw [hl]

theorem resumedPair_congr : resumedPair t p = resumedPair s p := by
  rw [resumedPair, resumedPair, h.feeding, startedPair_congr h hp, emberedPair_congr h hp]

end

/-- Every pair takes its EMBER behaviour. -/
theorem eachPair_ember (s : State) : PairsOnly s (eachPair s emberPair) ∧ ∀ p : Fin 4, (eachPair s emberPair).line.pairs[p] = emberedPair s p :=
  eachPair_pairs fun t p ht hp => ⟨(emberPair_pair t p).1, (emberPair_pair t p).2.trans (emberedPair_congr ht hp)⟩

/-- FEED and RELAY pairs go off, latched ones stay. -/
def offedPair (s : State) (p : Fin 4) : Pair :=
  if pairMode (lfctl s) p.val = 0 ∨ s.line.pairs[p].st = .latched then s.line.pairs[p] else offPair s.line.pairs[p]

theorem pairsOff_pairs (s : State) : PairsOnly s (pairsOff s) ∧ ∀ p : Fin 4, (pairsOff s).line.pairs[p] = offedPair s p := by
  refine eachPair_pairs fun t p ht hp => ?_
  simp only [Bool.or_eq_true, decide_eq_true_eq, pairSt, beq_iff_eq, offedPair, ht.lfctl, hp]
  split
  · exact ⟨pairOnly_refl _ _, hp⟩
  · exact ⟨pairOnly_setPair _ _ _, (setPair_same _ _ _).trans (by rw [← hp]; rfl)⟩

theorem grounded_pairs (s : State) : PairsOnly s (grounded s) ∧
    ∀ p : Fin 4, (grounded s).line.pairs[p] = if s.line.vfGnd then offedPair s p else s.line.pairs[p] := by
  unfold grounded
  split
  · exact pairsOff_pairs s
  · exact ⟨pairsOnly_refl s, fun _ => rfl⟩

end Sys2Proof.Power
end

section
/-! SUPPORT. Line power (chapter 3): the statements on the line feed. -/

namespace Sys2Proof.Power

open Sys2Proof.Machine Sys2Proof.Safety

/-! ### A measurement (Table 3-6) -/

-- Elaborated by itself, so that the proofs before it are checked before those after it begin: this bounds the memory that proofs under way take at once.
set_option Elab.async false in
theorem frame_eachPair {P : List Part} {R : Nat → Prop} {f : State → Fin 4 → State} (h : ∀ t p, Frame P R t (f t p)) (s : State) :
    Frame P R s (eachPair s f) :=
  frame_trans (frame_trans (frame_trans (h _ _) (h _ _)) (h _ _)) (h _ _)

theorem frame_pairsOff (s : State) : Frame [.line] (fun _ => False) s (pairsOff s) := by
  refine frame_eachPair (fun t p => ?_) s
  split
  · exact frame_refl _ _ _
  · exact frame_setPair _ _ _

theorem frame_grounded (s : State) : Frame [.line] (fun _ => False) s (grounded s) := by
  unfold grounded
  split
  · exact frame_pairsOff s
  · exact frame_refl _ _ _

theorem frame_measured (s : State) (p : Fin 4) (m : LfMeas) : Frame [.line] (fun _ => False) s (measured s p m) := frame_of_regs

/-- A reading is beside the pair's mode and state: what follows it is told by `LfTaken`. -/
theorem lfTaken_grounded {s u : State} {p : Fin 4} {m : LfMeas} {evs : List (Nat × Nat × Nat × List Nat)} (h : PairsOnly (measured s p m) u)
    (he : coreRun s = true → Raised evs s u) : LfTaken evs m s (settle s (grounded u)) := by
  obtain ⟨hpairs, hvals⟩ := grounded_pairs u
  have hall := h.trans hpairs
  have hline : (grounded u).line = { (measured s p m).line with pairs := (grounded u).line.pairs } := hall.1
  have hlog : (grounded u).log = u.log := (frame_grounded u).part .log
  refine ⟨by rw [settle_line, hline]; rfl, by rw [settle_line, hline]; rfl, fun q hz hm => ?_, fun hc => ?_, fun hc => ?_,
    frame_settle (((frame_measured s p m).within).andThen hall.2.1)⟩
  · have hgnd : u.line.vfGnd = true := by rw [h.1]; simp [measured, measuredVf, hz]
    have hmode : ¬ pairMode (lfctl u) q.val = 0 := by rw [h.lfctl]; exact hm
    have hq := hvals q
    rw [if_pos hgnd, offedPair] at hq
    rw [settle_line, hq]
    by_cases hlat : u.line.pairs[q].st = .latched
    · exact .inr (by rw [if_pos (.inr hlat)]; exact hlat)
    · exact .inl (by rw [if_neg (by tauto)]; rfl)
  · rw [Raised, settle_log, hlog]
    exact he hc
  · rw [settle_log, hlog]
    exact (h.2.2 hc).1

/-- While LF_VF is not at ground, grounding leaves the pairs alone. -/
theorem grounded_line {s u : State} {p : Fin 4} {m : LfMeas} (h : PairsOnly (measured s p m) u) (hv : m.vf ≠ 0) : (grounded u).line = u.line := by
  have hgnd : ¬ u.line.vfGnd = true := by rw [h.1]; simp [measured, measuredVf, hv]
  rw [grounded, if_neg hgnd]

/-! ### Trips (R52) -/

/-- What a trip leaves of its pair. -/
def trippedPair (s : State) (p : Fin 4) : Pair :=
  { s.line.pairs[p] with
    st := if lastTrip s p then .latched else .retryWait, trips := s.line.pairs[p].trips + 1, latch := s.line.pairs[p].latch || lastTrip s p, sink := false }

/-- The events a trip raises. -/
def tripEvents (s : State) (p : Fin 4) (m : LfMeas) : List (Nat × Nat × Nat × List Nat) :=
  (0x1101, 3, p.val, [p.val, m.vf, m.lpn, m.i]) :: if lastTrip s p then [(0x1102, 5, p.val, [p.val, m.vf, m.lpn, m.i])] else []

theorem tripPair_pair (s : State) (p : Fin 4) (m : LfMeas) : PairOnly p s (tripPair s p m) ∧ (tripPair s p m).line.pairs[p] = trippedPair s p ∧
    (coreRun s = true → Raised (tripEvents s p m) s (tripPair s p m)) := by
  have hraise : PairOnly p s (raise s 0x1101 3 p.val (lfVals p.val m)) := (pairOnly_refl p s).raise _ _ _ _
  have hpair : (raise s 0x1101 3 p.val (lfVals p.val m)).line.pairs[p] = s.line.pairs[p] := by simp only [raise_line]
  unfold tripPair
  dsimp only
  split
  case isTrue h =>
    have hlast : lastTrip s p = true := decide_eq_true h
    refine ⟨(hraise.trans (pairOnly_setPair _ _ _)).raise _ _ _ _, ?_, fun hc => ?_⟩
    · simp only [raise_line]
      refine (setPair_same _ _ _).trans ?_
      simp [trippedPair, hlast]
    · have hc' : coreRun (raise s 0x1101 3 p.val (lfVals p.val m)) = true := by simpa using hc
      have hc2 (f : Pair → Pair) : coreRun (setPair (raise s 0x1101 3 p.val (lfVals p.val m)) p f) = true := hc'
      rw [Raised, raise_raised _ _ _ _ _ (hc2 _), tripEvents, if_pos hlast, setPair_log, raise_raised _ _ _ _ _ hc]
      have hstamp (f : Pair → Pair) : mkEvent (setPair (raise s 0x1101 3 p.val (lfVals p.val m)) p f) 0x1102 5 p.val (lfVals p.val m) =
          mkEvent s 0x1102 5 p.val (lfVals p.val m) := mkEvent_raise s 0x1101 3 p.val (lfVals p.val m) 0x1102 5 p.val (lfVals p.val m)
      rw [hstamp, List.append_assoc]
      rfl
  case isFalse h =>
    have hlast : lastTrip s p = false := decide_eq_false h
    refine ⟨hraise.trans (pairOnly_setPair _ _ _), ?_, fun hc => ?_⟩
    · refine (setPair_same _ _ _).trans ?_
      simp [trippedPair, hlast]
    · rw [Raised, setPair_log, raise_raised _ _ _ _ _ hc, tripEvents, hlast]
      rfl

/-- A trip with its measurement is as `Tripped` says. -/
theorem tripMeasured_tripped (s : State) (p : Fin 4) (m : LfMeas) : Tripped p m s (settle s (tripMeasured s p m)) := by
  obtain ⟨hpair, hval, hev⟩ := tripPair_pair (measured s p m) p m
  refine ⟨fun hv => ?_, lfTaken_grounded hpair.1 hev⟩
  rw [settle_line, tripMeasured, grounded_line hpair.1 hv]
  exact ⟨hval, hpair.2⟩

/-- A pair changed and an event raised, with a measurement. -/
theorem lfTaken_raise (s : State) (p : Fin 4) (m : LfMeas) (st : LfSt) (code sev : Nat) :
    (m.vf ≠ 0 → (settle s (grounded (raise (setPair (measured s p m) p (fun x => { x with st := st })) code sev p.val (lfVals p.val m)))).line.pairs[p] =
        { s.line.pairs[p] with st := st } ∧
      ∀ q : Fin 4, q ≠ p → (settle s (grounded (raise (setPair (measured s p m) p (fun x => { x with st := st })) code sev p.val
        (lfVals p.val m)))).line.pairs[q] =
        s.line.pairs[q]) ∧
    LfTaken [(code, sev, p.val, [p.val, m.vf, m.lpn, m.i])] m s
      (settle s (grounded (raise (setPair (measured s p m) p (fun x => { x with st := st })) code sev p.val (lfVals p.val m)))) := by
  have hset := pairOnly_setPair (measured s p m) p (fun x => { x with st := st })
  have hall := hset.raise code sev p.val (lfVals p.val m)
  refine ⟨fun hv => ?_, lfTaken_grounded hall.1 fun hc => ?_⟩
  · rw [settle_line, grounded_line hall.1 hv, raise_line]
    exact ⟨setPair_same _ _ _, hset.2⟩
  · exact raise_raised (setPair (measured s p m) p _) code sev p.val _ hc

/-- Settles O2. -/
theorem lineFeedTransitionsComplete : Obligations.LineFeedTransitionsComplete := by
  refine ⟨?done, fun s p m h => completes_of rfl ?_, fun s p m h => completes_of rfl ?_, fun s p m h => completes_of rfl ?_,
    fun s p m h => completes_of rfl ?_, fun s p m h hm => completes_of rfl ?_⟩
  case done =>
    intro s p h
    have hset := pairOnly_setPair s p (fun x => { x with st := .on, trips := 0 })
    refine completes_of rfl ?_
    rw [softStartDone, if_pos (by simpa [pairSt] using h), settle_line]
    exact ⟨setPair_same _ _ _, hset.2, frame_settle (frame_setPair _ _ _)⟩
  · rw [softStartTimeout, if_pos (by simpa [pairSt] using h)]
    exact tripMeasured_tripped s p m
  · rw [limitTimerExpiry, if_pos (by simpa [pairSt] using h)]
    exact tripMeasured_tripped s p m
  · rw [fastTrip, if_pos (by simp only [conducting, pairSt, Bool.or_eq_true, beq_iff_eq]; tauto)]
    exact tripMeasured_tripped s p m
  · rw [lfLimit, if_pos (by simpa [pairSt] using h)]
    exact lfTaken_raise s p m .limit 0x1100 2
  · have hgo : (conducting (pairSt s p) && pairMode (lfctl s) p.val != 0) = true := by
      simp only [conducting, pairSt, Bool.and_eq_true, Bool.or_eq_true, beq_iff_eq, bne_iff_ne]
      exact ⟨by tauto, hm⟩
    rw [lfReverse, if_pos hgo]
    exact lfTaken_raise s p m .source 0x1103 1

/-! ### Restarts (R48, R52, R53) -/

/-- A FEED or RELAY pair that is not latched goes on as `lfNextSt` says. -/
theorem st_resumedPair {s : State} {p : Fin 4} (hm : pairMode (reg s 0xA100) p.val ≠ 0) (hl : s.line.pairs[p].st ≠ .latched) :
    (resumedPair s p).st = lfNextSt s p s.line.vfGnd s.line.railOk s.line.ov := by
  have hm' : ¬ pairMode (lfctl s) p.val = 0 := hm
  have hlf : lfctl s = reg s 0xA100 := rfl
  unfold resumedPair lfNextSt startedPair emberedPair pairHeldOff
  simp only [hm', hl, false_or, if_false, Bool.or_eq_true, ← hlf]
  by_cases hov : s.line.ov = true <;> by_cases hg : s.line.vfGnd = true <;> by_cases hi : pairI1g s p = true <;>
    by_cases hf : feeding s = true <;> simp [hov, hg, hi, hf, offPair] <;> split <;> simp_all

theorem resumed_lfResumed {s : State} {p : Fin 4} (m : LfMeas) (hl : s.line.pairs[p].st ≠ .latched) :
    LfResumed p m s (settle s (grounded (resumePair (measured s p m) p))) := by
  obtain ⟨hpair, hval⟩ := resumePair_pair (measured s p m) p
  obtain ⟨hg, hgv⟩ := grounded_pairs (resumePair (measured s p m) p)
  have hline := (hpair.1.trans hg).1
  have hgnd : (resumePair (measured s p m) p).line.vfGnd = (m.vf == 0) := by rw [hpair.1.1]; rfl
  refine ⟨fun hm => ?_, fun hv => ?_, by rw [settle_line, hline]; rfl, by rw [settle_line, hline]; rfl,
    frame_settle ((frame_measured s p m).within.andThen (hpair.1.trans hg).2.1)⟩
  · have hst : (resumePair (measured s p m) p).line.pairs[p].st = lfNextSt s p (m.vf == 0) (railAccepted m.vf) s.line.ov := by
      rw [hval]
      exact st_resumedPair (s := measured s p m) hm hl
    rw [settle_line, hgv p, hgnd]
    split
    case isFalse => exact hst
    case isTrue hz =>
      have hoff : lfNextSt s p true (railAccepted m.vf) s.line.ov = .off := by simp [lfNextSt]
      rw [hz] at hst ⊢
      rw [hoff] at hst ⊢
      have hmode : ¬ pairMode (lfctl (resumePair (measured s p m) p)) p.val = 0 := by rw [hpair.1.lfctl]; exact hm
      rw [offedPair, if_neg (by rw [hst]; simpa using hmode)]
      rfl
  · rw [settle_line, grounded_line hpair.1 hv]
    exact hpair.2

/-- The pairs after an operation that takes FEED and RELAY pairs that are not latched, and them alone, to their next state. -/
theorem eachPair_resume (s : State) :
    let f := fun (t : State) (p : Fin 4) => if pairMode (lfctl t) p.val = 0 || pairSt t p == .latched then t else resumePair t p
    PairsOnly s (eachPair s f) ∧
    ∀ p : Fin 4, (eachPair s f).line.pairs[p] = if pairMode (lfctl s) p.val = 0 ∨ s.line.pairs[p].st = .latched then s.line.pairs[p] else resumedPair s p := by
  refine eachPair_pairs fun t p ht hp => ?_
  simp only [Bool.or_eq_true, decide_eq_true_eq, pairSt, beq_iff_eq, ht.lfctl, hp]
  split
  · exact ⟨pairOnly_refl _ _, hp⟩
  · exact ⟨(resumePair_pair t p).1, (resumePair_pair t p).2.trans (resumedPair_congr ht hp)⟩

/-- The recheck starts the FEED and RELAY pairs that are off while the rail is on the pairs. -/
theorem eachPair_recheck (s : State) :
    let f := fun (t : State) (p : Fin 4) => if pairMode (lfctl t) p.val != 0 && pairSt t p == .off && feeding t then startPair t p else t
    PairsOnly s (eachPair s f) ∧
    ∀ p : Fin 4, (eachPair s f).line.pairs[p] =
      if pairMode (lfctl s) p.val ≠ 0 ∧ s.line.pairs[p].st = .off ∧ feeding s = true then startedPair s p else s.line.pairs[p] := by
  refine eachPair_pairs fun t p ht hp => ?_
  simp only [Bool.and_eq_true, bne_iff_ne, pairSt, beq_iff_eq, ht.lfctl, hp, ht.feeding, and_assoc]
  split
  · exact ⟨(startPair_pair t p).1, (startPair_pair t p).2.trans (startedPair_congr ht hp)⟩
  · exact ⟨pairOnly_refl _ _, hp⟩

/-- The node with a line overvoltage standing or not. -/
def withOv (s : State) (b : Bool) : State := { s with line := { s.line with ov := b } }

theorem frame_withOv (s : State) (b : Bool) : Frame [.line] (fun _ => False) s (withOv s b) := frame_of_regs

theorem frame_measuredVf (s : State) (vf : Nat) : Frame [.line] (fun _ => False) s (measuredVf s vf) := frame_of_regs

/-- With a line overvoltage reported and standing, before the pairs go off. -/
def overvoltage (s : State) (m : LfMeas) : State := withOv (raise (measuredVf s m.vf) 0x1121 5 0xFFF (lfVals 0xF m)) true

theorem overvoltage_line (s : State) (m : LfMeas) : (overvoltage s m).line = { (measuredVf s m.vf).line with ov := true } := by
  simp only [overvoltage, withOv, raise_line]

theorem frame_overvoltage (s : State) (m : LfMeas) : Frame [.line, .log] (· = 0xC180) s (overvoltage s m) :=
  ((frame_measuredVf s m.vf).within.andThen (frame_raise _ _ _ _ _)).andThen (frame_withOv _ _)

theorem lineOv_rises {s : State} (m : LfMeas) (hn : s.line.node ≠ .off) (hov : s.line.ov = false) : lineOv s m = pairsOff (overvoltage s m) := by
  rw [lineOv, if_neg (by simp [hn, hov])]
  rfl

theorem lfNextSt_congr {s t : State} (h : PairsOnly s t) (p : Fin 4) (gnd ok ov : Bool) : lfNextSt t p gnd ok ov = lfNextSt s p gnd ok ov := by
  have hreg : reg t 0xA100 = reg s 0xA100 := h.lfctl
  simp only [lfNextSt, h.pairI1g, h.feeding, hreg]

/-- The pairs after a measurement of the rail alone. -/
theorem grounded_pair (s : State) (vf : Nat) (p : Fin 4) :
    (grounded (measuredVf s vf)).line.pairs[p] = if vf = 0 then offedPair s p else s.line.pairs[p] := by
  rw [(grounded_pairs (measuredVf s vf)).2 p]
  simp only [measuredVf, beq_iff_eq]
  rfl

/-- What the recheck leaves of the pairs (R52). -/
theorem railRecheck_pairs {s : State} (m : LfMeas) (hn : s.line.node ≠ .off) :
    PairsOnly (measuredVf s m.vf) (railRecheck s m) ∧
    ∀ p : Fin 4, (railRecheck s m).line.pairs[p] =
      if pairMode (lfctl s) p.val ≠ 0 ∧ (if m.vf = 0 then offedPair s p else s.line.pairs[p]).st = .off ∧ feeding s = true then
        startedPair (grounded (measuredVf s m.vf)) p else if m.vf = 0 then offedPair s p else s.line.pairs[p] := by
  obtain ⟨hg, -⟩ := grounded_pairs (measuredVf s m.vf)
  obtain ⟨hp, hv⟩ := eachPair_recheck (grounded (measuredVf s m.vf))
  have e : railRecheck s m = eachPair (grounded (measuredVf s m.vf))
      (fun t p => if pairMode (lfctl t) p.val != 0 && pairSt t p == .off && feeding t then startPair t p else t) := by
    rw [railRecheck, if_neg (by simpa using hn)]
  rw [e]
  refine ⟨hg.trans hp, fun p => ?_⟩
  rw [hv p, grounded_pair, hg.lfctl, hg.feeding]
  rfl

/-- Settles O3. -/
theorem lineFeedRestartsAndOvervoltage : Obligations.LineFeedRestartsAndOvervoltage := by
  refine ⟨fun s p m h => completes_of rfl ?_, fun s p m h => completes_of rfl ?_, ?overvoltage, ?cleared, ?recheck⟩
  · rw [retryWaitExpiry, if_pos (by simpa [pairSt] using h)]
    exact resumed_lfResumed m (by rw [h]; decide)
  · rw [sourceReturn, if_pos (by simpa [pairSt] using h)]
    exact resumed_lfResumed m (by rw [h]; decide)
  case overvoltage =>
    intro s m hn hov
    have hlf : lfctl (overvoltage s m) = reg s 0xA100 := (frame_overvoltage s m).reg
    obtain ⟨hp, hv⟩ := pairsOff_pairs (overvoltage s m)
    have hpair (p : Fin 4) : (overvoltage s m).line.pairs[p] = s.line.pairs[p] := by simp only [overvoltage_line]; rfl
    have hlog : (pairsOff (overvoltage s m)).log = (overvoltage s m).log := (frame_pairsOff _).part .log
    refine completes_of rfl ?_
    rw [lineOv_rises m hn hov, settle_line]
    refine ⟨by rw [hp.1, overvoltage_line], by rw [hp.1, overvoltage_line]; rfl, fun p hm hl => ?_, fun p h => ?_, fun hc => ?_,
      frame_settle ((frame_overvoltage s m).andThen hp.2.1)⟩
    · rw [hv p, offedPair, hlf, hpair p, if_neg (by tauto)]
      rfl
    · rw [hv p, offedPair, hlf, hpair p, if_pos h]
    · rw [Raised, settle_log, hlog]
      exact raise_raised (measuredVf s m.vf) _ _ _ _ hc
  case cleared =>
    intro s hov
    have hb : lineOvClear s = eachPair (withOv s false) (fun t p => if pairMode (lfctl t) p.val = 0 || pairSt t p == .latched then t else resumePair t p) :=
      if_pos hov
    obtain ⟨hp, hv⟩ := eachPair_resume (withOv s false)
    have hlf : lfctl (withOv s false) = reg s 0xA100 := rfl
    have hpair (p : Fin 4) : (withOv s false).line.pairs[p] = s.line.pairs[p] := rfl
    refine completes_of rfl ?_
    rw [hb, settle_line]
    refine ⟨by rw [hp.1]; rfl, fun p hm hl => ?_, fun p h => ?_, frame_settle ((frame_withOv s false).within.andThen hp.2.1)⟩
    · rw [hv p, hlf, hpair p, if_neg (by tauto)]
      exact st_resumedPair (s := withOv s false) hm hl
    · rw [hv p, hlf, hpair p, if_pos h]
  case recheck =>
    intro s m hn
    obtain ⟨hp, hv⟩ := railRecheck_pairs m hn
    have hlf : lfctl s = reg s 0xA100 := rfl
    obtain ⟨hg, -⟩ := grounded_pairs (measuredVf s m.vf)
    refine completes_of rfl ?_
    rw [settle_line]
    refine ⟨by rw [hp.1]; rfl, by rw [hp.1]; rfl, fun p hm ho hf => ?started, fun p h => ?kept, fun p hz h => ?beside, fun p hz hm hl => ?ground,
      frame_settle ((frame_measuredVf s m.vf).within.andThen hp.2.1)⟩
    case started =>
      have hoff : (if m.vf = 0 then offedPair s p else s.line.pairs[p]).st = .off := by
        split
        · rw [offedPair, hlf, if_neg (by rw [ho]; simpa using hm)]
          rfl
        · exact ho
      have hstart : startedPair (grounded (measuredVf s m.vf)) p = resumedPair (grounded (measuredVf s m.vf)) p := by
        rw [resumedPair, if_pos (hg.feeding.trans hf)]
      have hst := st_resumedPair (s := grounded (measuredVf s m.vf)) (p := p) (by rw [← lfctl, hg.lfctl]; exact hm) (by rw [grounded_pair, hoff]; decide)
      rw [hv p, if_pos ⟨hm, hoff, hf⟩, hstart, hst, lfNextSt_congr hg, hg.1]
      rfl
    case kept =>
      have hoffed : (if m.vf = 0 then offedPair s p else s.line.pairs[p]) = s.line.pairs[p] := by
        rw [offedPair, hlf, if_pos h, ite_self]
      have hnot : ¬ (pairMode (lfctl s) p.val ≠ 0 ∧ s.line.pairs[p].st = .off ∧ feeding s = true) := fun ⟨hm, ho, _⟩ =>
        h.elim hm fun hl => by rw [hl] at ho; exact absurd ho (by decide)
      rw [hv p, hoffed, if_neg hnot]
    case beside =>
      rw [hv p, if_neg hz, if_neg]
      exact fun ⟨_, ho, hf⟩ => h.elim (· ho) fun hn => by rw [hn] at hf; exact absurd hf (by decide)
    case ground =>
      have hoffed : offedPair s p = offPair s.line.pairs[p] := if_neg (by rw [hlf]; tauto)
      have hgnd : (grounded (measuredVf s m.vf)).line.vfGnd = true := by rw [hg.1]; simp [measuredVf, hz]
      rw [hv p, if_pos hz, hoffed]
      split
      · rw [startedPair, if_pos (by tauto)]
        rfl
      · rfl

end Sys2Proof.Power
end

section
/-! SUPPORT. The power die, reset and supervision (chapter 3, Table 3-17): what starts, releases and drops the core, and the statements on them. -/

namespace Sys2Proof.Power

open Sys2Proof.Machine Sys2Proof.Safety

/-! ### Settling with the core off -/

-- Elaborated by itself, so that the proofs before it are checked before those after it begin: this bounds the memory that proofs under way take at once.
set_option Elab.async false in
/-- No source sets a bit while the core does not run. -/
theorem reg_settle_cold (s : State) {u : State} (h : coreRun u = false) (o : Nat) : reg (settle s u) o = reg u o := by
  have hpend : pend s u = u := by
    have hbits : pendBits s u = 0 := by simp [pendBits, h]
    rw [pend, if_pos hbits]
  exact reg_congr (show (pend s u).regs = u.regs by rw [hpend]) o

/-! ### The start of the core -/

theorem eachPair_only {f : State → Fin 4 → State} (h : ∀ t p, PairsOnly t (f t p)) (s : State) : PairsOnly s (eachPair s f) :=
  (((h _ _).trans (h _ _)).trans (h _ _)).trans (h _ _)

theorem holdRelay_only (s : State) (p : Fin 4) : PairsOnly s (holdRelay s p) := by
  unfold holdRelay
  split
  · exact (emberPair_pair s p).1.1
  · exact pairsOnly_refl s

theorem wakePairs_only (s : State) : PairsOnly s (wakePairs s) := by
  refine eachPair_only (fun t p => ?_) s
  split
  · exact (startPair_pair t p).1.1
  · exact holdRelay_only t p

/-- The core rails start, before the pairs are brought to the rail. -/
def railsUp (s : State) : State :=
  { s with
    line := { s.line with node := .startup, core := true, por := true, fromOff := false, shed := false }
    boot := {}
    mram := { s.mram with pwrcyc := s.mram.pwrcyc + 1, optime := s.mram.optime + s.pilot.dozeTime / 10000000000 }
    pilot := { s.pilot with
      slept := false, committed := false, wakeRun := !s.line.fromOff, dozeTime := 0, armed := false
      latch := if s.pilot.slept || s.line.node == .doze then s.pilot.latch else {}
      dozes := if s.pilot.slept || s.line.node == .doze then s.pilot.dozes else 0
      asleep := if s.pilot.slept then min 0xFFFFFFFF ((s.now - s.pilot.sleptAt) / 1000000000) else 0 } }

theorem frame_railsUp (s : State) : Frame [.line, .boot, .mram, .pilot] (fun _ => False) s (railsUp s) := frame_of_regs

theorem startCore_pairs (s : State) : PairsOnly (railsUp s) (startCore s) := by
  have e : startCore s = if s.line.fromOff then railsUp s else wakePairs (railsUp s) := rfl
  rw [e]
  split
  · exact pairsOnly_refl _
  · exact wakePairs_only _

/-- Nothing of the node but the power die, the sequencer and the retained counts changes when the rails start. -/
theorem frame_startCore (s : State) : Frame [.line, .boot, .mram, .pilot] (fun _ => False) s (startCore s) :=
  (frame_railsUp s).andThen ((startCore_pairs s).2.2 rfl).2

theorem startCore_line (s : State) : (startCore s).line = { (railsUp s).line with pairs := (startCore s).line.pairs } := (startCore_pairs s).1

theorem startCore_boot (s : State) : (startCore s).boot = {} := (startCore_pairs s).boot

theorem startCore_mram (s : State) : (startCore s).mram = (railsUp s).mram := (startCore_pairs s).2.1.part .mram

/-! ### The release of internal reset -/

/-- Internal reset is released, before unsteady straps are reported. -/
def released (s : State) (st : Straps) : State :=
  { s with
    line := { s.line with node := .startup, por := false, resetLow := false }
    boot := { s.boot with phase := .nvmWait, psel := (lastSample 0#2 st.psel).toNat, lbus := lastSample true st.mtx,
                          unstable := !(steady st.psel && steady st.mtx), active := (lastSample 0#2 st.psel).toNat }
    lanes := s.lanes.map (fun x => { x with st := .detect })
    tb := {}
    sw := { s.sw with ports := s.sw.ports.mapIdx (fun i x => if 16 ≤ i && i ≤ 18 then { x with hst := 0 } else x) }
    flt := { s.flt with remap := s.mram.spares, sStart := s.now, mStart := s.now }
    log := { s.log with scanning := true, gaspRead := s.mram.gasp, stats := s.mram.stats } }

theorem releaseReset_eq (s : State) (st : Straps) : releaseReset s st =
    if !(steady st.psel && steady st.mtx) then raise (released s st) 0xC040 1 0xFFF (st.psel.map BitVec.toNat ++ st.mtx.map Bool.toNat)
    else released s st := rfl

/-- What the release leaves, with or without the report. -/
theorem releaseReset_parts (s : State) (st : Straps) :
    (releaseReset s st).boot = (released s st).boot ∧ (releaseReset s st).line = (released s st).line ∧ (releaseReset s st).lanes = (released s st).lanes ∧
    (releaseReset s st).tb = {} ∧ Frame [.line, .boot, .lanes, .tb, .sw, .flt, .log] (· = 0xC180) s (releaseReset s st) := by
  have hbase : Frame [.line, .boot, .lanes, .tb, .sw, .flt, .log] (· = 0xC180) s (released s st) := frame_of_regs
  rw [releaseReset_eq]
  split
  · exact ⟨raise_boot _ _ _ _ _, raise_line _ _ _ _ _, raise_lanes _ _ _ _ _, raise_tb _ _ _ _ _, hbase.andThen (frame_raise _ _ _ _ _)⟩
  · exact ⟨rfl, rfl, rfl, rfl, hbase⟩

theorem released_lane (s : State) (st : Straps) (l : Fin 4) : (released s st).lanes[l].st = .detect := by simp [released]

/-! ### What survives internal reset (R68) -/

/-- PWR_LFCTL survives, every other register is at its reset word. -/
theorem reg_dropCore (s : State) (off : Nat) : reg (dropCore s) off = if off = 0xA100 then reg s off else regReset off := by
  have hm : mget (dropCore s).regs off = if (off == 0xA100) = true then mget s.regs off else none := mget_filter s.regs (· == 0xA100) off
  rw [reg, hm]
  by_cases h : off = 0xA100 <;> simp [h, reg]

theorem reg_withLine (s : State) (x : Line) (off : Nat) : reg { s with line := x } off = reg s off := rfl

/-- Settles O1. -/
theorem powerDieAndResetRowsComplete : Obligations.PowerDieAndResetRowsComplete := by
  refine ⟨?pilotOn, ?pilotOff, ?railsStart, ?recovers, ?porEnds, ?porHeld, ?resetFalls, ?resetCold, ?resetRises, ?resetDuringPor⟩
  case pilotOn =>
    intro s h
    refine completes_of (u := pilotStart s) rfl ?_
    rw [pilotStart, if_pos (by simpa using h)]
    refine ⟨by simp, by simp, by simp, fun p => by simp, fun off => ?_, frame_settle ⟨fun p hp => by cases p <;> simp_all [Same], by simp⟩⟩
    rw [reg_settle_cold _ (by simp [coreRun])]
    rfl
  case pilotOff =>
    intro s h
    refine completes_of (u := pilotStop s) rfl ?_
    rw [pilotStop, if_pos (by simpa using h)]
    refine ⟨by simp, by simp, by simp, fun off => ?_, frame_settle ⟨fun p hp => by cases p <;> simp_all [Same], by simp⟩⟩
    rw [reg_settle_cold _ (by simp [coreRun])]
    rfl
  case railsStart =>
    intro s hn hs ht
    refine completes_of (u := uvloRising s) rfl ?_
    rw [uvloRising]
    simp only [hn, hs, ht, beq_self_eq_true, Bool.not_false, Bool.and_self, if_true, settle_line, settle_boot, settle_mram]
    rw [startCore_line, startCore_boot, startCore_mram]
    exact ⟨rfl, rfl, rfl, rfl, rfl, rfl, rfl, frame_settle (frame_trans frame_of_regs (frame_startCore _))⟩
  case recovers =>
    intro s h
    have hno : ¬ (s.line.node == .ember && !s.pilot.slept && !s.line.thermOff) = true := by
      simp only [Bool.and_eq_true, beq_iff_eq, Bool.not_eq_true']
      rintro ⟨⟨hn, hs⟩, ht⟩
      rcases h with h | h | h <;> simp_all
    refine completes_of (u := uvloRising s) rfl ?_
    rw [uvloRising, if_neg hno]
    exact ⟨by simp, frame_settle frame_of_regs⟩
  case porEnds =>
    intro s st hc hp
    obtain ⟨hb, hl, hlanes, htb, hframe⟩ := releaseReset_parts s st
    refine completes_of (u := powerOnResetEnd s true st) rfl ?_
    rw [powerOnResetEnd, if_pos (by simp [hc, hp]), if_pos rfl]
    simp only [settle_boot, settle_line, settle_lanes, settle_tb, hb, hl, hlanes, htb]
    exact ⟨rfl, rfl, rfl, released_lane s st, trivial, rfl, rfl, frame_settle hframe⟩
  case porHeld =>
    intro s st hc hp
    refine completes_of (u := powerOnResetEnd s false st) rfl ?_
    rw [powerOnResetEnd, if_pos (by simp [hc, hp]), if_neg (by decide)]
    exact ⟨by simp, frame_settle frame_of_regs⟩
  case resetFalls =>
    intro s hc
    refine completes_of (u := resetAssert s) rfl ?_
    rw [resetAssert, if_pos hc]
    have hcold : coreRun { dropCore s with line := { (dropCore s).line with node := .startup, resetLow := true } } = false := by simp [coreRun, dropCore]
    simp only [reg_settle_cold s hcold, reg_withLine, reg_dropCore]
    refine ⟨by simp [dropCore], by simp [dropCore], by simp [dropCore], by simp [dropCore], by simp [dropCore], by simp [dropCore], by simp [dropCore],
      by simp [dropCore], by simp [dropCore], by simp [dropCore], by simp [dropCore], by simp, fun off h => by simp [h]⟩
  case resetCold =>
    intro s hc
    refine completes_of (u := resetAssert s) rfl ?_
    rw [resetAssert, if_neg (by simp [hc])]
    exact ⟨by simp, frame_settle (frame_refl _ _ _)⟩
  case resetRises =>
    intro s st hc hr hp
    obtain ⟨hb, hl, hlanes, htb, hframe⟩ := releaseReset_parts s st
    refine completes_of (u := resetRelease s st) rfl ?_
    rw [resetRelease, if_pos (by simp [hc, hr]), if_neg (by simp [hp])]
    simp only [settle_boot, settle_line, settle_lanes, settle_tb, hb, hl, hlanes, htb]
    exact ⟨rfl, rfl, released_lane s st, trivial, rfl, frame_settle hframe⟩
  case resetDuringPor =>
    intro s st hc hr hp
    refine completes_of (u := resetRelease s st) rfl ?_
    rw [resetRelease, if_pos (by simp [hc, hr]), if_pos hp]
    exact ⟨by simp, frame_settle frame_of_regs⟩

/-! ### Supervision (R48, R65, R389) -/

/-- The core off and the node in EMBER, its pairs with their EMBER behaviour: what every unplanned fall begins with. -/
theorem fallen_line (s : State) : (eachPair (coreOff s) emberPair).line = { (coreOff s).line with pairs := (eachPair (coreOff s) emberPair).line.pairs } :=
  (eachPair_ember (coreOff s)).1.1

theorem frame_fallen (s : State) : Frame [.line] (fun _ => False) (coreOff s) (eachPair (coreOff s) emberPair) := ((eachPair_ember (coreOff s)).1.2.2 rfl).2

theorem reg_fallen (s : State) : reg (eachPair (coreOff s) emberPair) 0xA100 = reg s 0xA100 :=
  (frame_fallen s).reg.trans ((reg_dropCore s 0xA100).trans (if_pos rfl))

/-- A pair in mode OFF is untouched by the fall. -/
theorem fallen_off_pair (s : State) {p : Fin 4} (h : pairMode (lfctl s) p.val = 0) : (eachPair (coreOff s) emberPair).line.pairs[p] = s.line.pairs[p] := by
  have hlf : lfctl (coreOff s) = lfctl s := (reg_dropCore s 0xA100).trans (if_pos rfl)
  rw [(eachPair_ember (coreOff s)).2 p, emberedPair, hlf, if_pos (.inl h)]
  rfl

@[simp] theorem gaspWrite_line (s : State) (e : Event) : (gaspWrite s e).line = s.line := by unfold gaspWrite; split <;> rfl
@[simp] theorem gaspWrite_pilot (s : State) (e : Event) : (gaspWrite s e).pilot = s.pilot := by unfold gaspWrite; split <;> rfl
@[simp] theorem reg_gaspWrite (s : State) (e : Event) (o : Nat) : reg (gaspWrite s e) o = reg s o := by unfold gaspWrite; split <;> rfl

/-- The last-gasp store takes an event whose severity is not below the one it holds (R389). -/
theorem gaspWrite_stores (s : State) (e : Event) (h : s.mram.gasp.rec_.sev ≤ e.sev) :
    (gaspWrite s e).mram.gasp.valid = true ∧ (gaspWrite s e).mram.gasp.consumed = false ∧ (gaspWrite s e).mram.gasp.rec_ = e := by
  rw [gaspWrite, if_pos (by simp [h])]
  exact ⟨rfl, rfl, rfl⟩

/-- The node with the die's temperature read and its event raised, before the rails go off. -/
def overheated (s : State) (T : Int) : State := raiseGasp (setTemp s T) 0x1132 7 0xFFF (nodeVals (setTemp s T))

theorem thermalOff_eq {s : State} (T : Int) (h : s.line.core = true) : thermalOff s T =
    { eachPair (coreOff (overheated s T)) emberPair with
      line := { (eachPair (coreOff (overheated s T)) emberPair).line with thermOff := true, therm := 0 }
      pilot := { (eachPair (coreOff (overheated s T)) emberPair).pilot with slept := false, committed := false } } := if_pos h

theorem overheated_pairs (s : State) (T : Int) : (overheated s T).line.pairs = s.line.pairs := by simp [overheated, raiseGasp, setTemp]

theorem reg_overheated (s : State) (T : Int) : reg (overheated s T) 0xA100 = reg s 0xA100 := by
  rw [overheated, raiseGasp, reg_gaspWrite, reg_raise_ne _ _ _ _ _ (by decide)]
  rfl

theorem overheated_gasp {s : State} (T : Int) (h : s.mram.gasp.rec_.sev ≤ 7) :
    (overheated s T).mram.gasp.valid = true ∧ (overheated s T).mram.gasp.consumed = false ∧ (overheated s T).mram.gasp.rec_.code = 0x1132 := by
  obtain ⟨hv, hc, hr⟩ := gaspWrite_stores (raise (setTemp s T) 0x1132 7 0xFFF (nodeVals (setTemp s T))) (mkEvent (setTemp s T) 0x1132 7 0xFFF (nodeVals (setTemp s T)))
    (by rw [raise_mram]; exact h)
  exact ⟨hv, hc, by rw [overheated, raiseGasp, hr]; rfl⟩

/-- Settles O4. -/
theorem thermalAndPowerFailComplete : Obligations.ThermalAndPowerFailComplete := by
  refine ⟨?warn, ?restore, ?off, ?restart, ?cool, ?uvlo⟩
  case warn =>
    intro s T hc ht
    have hc' : coreRun { s with line := { s.line with therm := 1, temp := BitVec.ofInt 8 T } } = true := hc
    refine completes_of (u := thermalWarn s T) rfl ?_
    rw [thermalWarn, if_pos (by simp [hc, ht])]
    exact ⟨by simp [setTemp], (congrArg Recorder.raised (settle_log _ _)).trans (raise_raised _ _ _ _ _ hc'),
      frame_settle ((frame_of_regs (P := [.line, .log])).andThen (frame_raise _ _ _ _ _))⟩
  case restore =>
    intro s T hc ht
    refine completes_of (u := thermalRestore s T) rfl ?_
    rw [thermalRestore, if_pos (by simp [hc, ht])]
    exact ⟨by simp [setTemp], frame_settle frame_of_regs⟩
  case off =>
    intro s T hc
    have hline := fallen_line (overheated s T)
    have hpilot : (eachPair (coreOff (overheated s T)) emberPair).pilot = (coreOff (overheated s T)).pilot := (frame_fallen _).part .pilot
    have hboot : (eachPair (coreOff (overheated s T)) emberPair).boot = {} := (frame_fallen _).part .boot
    have hmram : (eachPair (coreOff (overheated s T)) emberPair).mram = (overheated s T).mram := (frame_fallen _).part .mram
    refine completes_of (u := thermalOff s T) rfl ?_
    rw [thermalOff_eq T hc]
    simp only [settle_line, settle_pilot, settle_boot, settle_mram, hboot, hmram]
    refine ⟨by rw [hline]; rfl, by rw [hline]; rfl, trivial, trivial, trivial, ?_, overheated_gasp T, fun p hp => ?_⟩
    · rw [reg_settle_ne _ _ (by decide)]
      exact (reg_fallen _).trans (reg_overheated s T)
    · refine (fallen_off_pair _ ?_).trans ?_
      · rw [lfctl, reg_overheated]; exact hp
      · simp only [overheated_pairs]
  case restart =>
    intro s T ht hu hn hs
    have e : thermalRestart s T = startCore (setTemp { s with line := { s.line with thermOff := false } } T) := by
      simp [thermalRestart, ht, hu, hn, hs]
    refine completes_of (u := thermalRestart s T) rfl ?_
    rw [e]
    simp only [settle_line, settle_mram, startCore_mram]
    rw [startCore_line]
    exact ⟨rfl, rfl, rfl, rfl, rfl, frame_settle (frame_trans frame_of_regs (frame_startCore _))⟩
  case cool =>
    intro s T ht hu
    refine completes_of (u := thermalRestart s T) rfl ?_
    rw [thermalRestart, if_pos ht]
    simp only [hu, Bool.not_false, if_true]
    exact ⟨by simp [setTemp], frame_settle frame_of_regs⟩
  case uvlo =>
    intro s hc
    have hline := fallen_line { s with line := { s.line with uvlo := false } }
    have hboot : (eachPair (coreOff { s with line := { s.line with uvlo := false } }) emberPair).boot = {} := (frame_fallen _).part .boot
    have e : uvloFalling s = { eachPair (coreOff { s with line := { s.line with uvlo := false } }) emberPair with
        pilot := { (eachPair (coreOff { s with line := { s.line with uvlo := false } }) emberPair).pilot with slept := false, committed := false } } := if_pos hc
    refine completes_of (u := uvloFalling s) rfl ?_
    rw [e]
    simp only [settle_line, settle_pilot, settle_boot, hboot]
    refine ⟨by rw [hline]; rfl, by rw [hline]; rfl, by rw [hline]; rfl, trivial, trivial, ?_⟩
    rw [reg_settle_ne _ _ (by decide)]
    exact reg_fallen _

end Sys2Proof.Power
end

section
/-! SUPPORT. Register writes that reach their block, and what a frame keeps of the core and its stamps. -/

namespace Sys2Proof.Registers

open Sys2Proof.Machine Sys2Proof.Safety Sys2Proof.Telemetry

/-! ### A register write as a command (R13, R87, R294, R295, R419) -/

-- Elaborated by itself, so that the proofs before it are checked before those after it begin: this bounds the memory that proofs under way take at once.
set_option Elab.async false in
/-- A write that reaches its register is its block's, where the register is assigned and no command register of another requester. -/
theorem regCommand_block {s : State} {req : Req} {off : Nat} {be : BitVec 4} (h : Reaches req off be s) (v : Word) (wakeLow : Bool)
    (hd : (desc off).isNone = false) (hc : cmdReg off = true → req = .host) :
    regCommand s req off be v wakeLow = endWrite req off (writeBlock s req off be v wakeLow) := by
  obtain ⟨hmay, hhost⟩ := h
  have hcmd : (cmdReg off && req != .host) = false := by
    by_cases hk : cmdReg off = true
    · simp [hc hk]
    · simp [hk]
  by_cases hr : req = .host
  · obtain ⟨hrun, hopen⟩ := hhost hr
    have hshut : ¬ (req = .host ∧ switchBusy s = true ∧ 0x1000 ≤ off) := by
      rintro ⟨-, hb, ho⟩
      rcases hopen with hf | hl
      · simp [hf] at hb
      · omega
    simp [regCommand, regWrite, hmay, hrun, hd, hcmd, hshut]
  · simp [regCommand, regWrite, hmay, hr, hd, hcmd]

@[simp] theorem maskBe_full (v : Word) : maskBe 0xF v = v := by
  have h : beMask 0xF = BitVec.allOnes 32 := by decide
  rw [maskBe, h, BitVec.and_allOnes]

/-- What the end of the access leaves of the state before it. -/
theorem endWrite_log (s : State) (req : Req) (off : Nat) : (endWrite req off (s, 0)).log = s.log := by rw [endWrite_done]; split <;> rfl
theorem endWrite_mram (s : State) (req : Req) (off : Nat) : (endWrite req off (s, 0)).mram = s.mram := by rw [endWrite_done]; split <;> rfl

theorem reg_endWrite (s : State) (req : Req) (off k : Nat) : reg (endWrite req off (s, 0)) k = reg s k := by
  rw [endWrite_done]
  split
  · exact reg_emit _ _ _
  · rfl

theorem ended_settle {req : Req} {s t : State} (h : Ended req s t) : Ended req s (settle s t) := by rwa [Ended, settle_out]

theorem ended_of_out {req : Req} {s u : State} {off : Nat} (h : u.out = s.out) : Ended req s (settle s (endWrite req off (u, 0))) := by
  refine ended_settle ?_
  have e := ended_endWrite_done u req off
  rwa [Ended, h] at e

theorem coreRun_of_frame {P : List Part} {R : Nat → Prop} {s u : State} (h : Frame P R s u) (hl : Part.line ∉ P := by decide)
    (hb : Part.boot ∉ P := by decide) : coreRun u = coreRun s := by
  rw [coreRun, coreRun, h.part .line hl, h.part .boot hb]

theorem mkEvent_of_frame {P : List Part} {R : Nat → Prop} {s u : State} (h : Frame P R s u) {code sev inst : Nat} {vals : List Nat}
    (hb : Part.boot ∉ P := by decide) (hm : Part.mram ∉ P := by decide) : mkEvent u code sev inst vals = mkEvent s code sev inst vals := by
  rw [mkEvent, mkEvent, eventFlags, eventFlags, h.part .boot hb, h.part .mram hm]

/-- A write, with all its bytes, that acts by the word with disabled bytes as zero. -/
theorem regCommand_masked {s : State} {req : Req} {off : Nat} {v : Word} {f : Word → State} (h : Reaches req off 0xF s) (hd : (desc off).isNone = false)
    (hc : cmdReg off = false) (hw : writeBlock s req off 0xF v false = (f (maskBe 0xF v), 0)) :
    regCommand s req off 0xF v false = endWrite req off (f v, 0) := by
  rw [regCommand_block h v false hd (by simp [hc]), hw, maskBe_full]

theorem inGroup_iff (o base n : Nat) : inGroup o base n = true ↔ base ≤ o ∧ o < base + 4 * n := by simp [inGroup]

end Sys2Proof.Registers
end

section
/-! SUPPORT. The counter clears: O20 speaks of every state, one with a word stored between two counters among them. -/

namespace Sys2Proof.Registers

open Sys2Proof.Machine Sys2Proof.Safety

/-- A committed node that holds a word at an offset that is no multiple of 4, between REC's first two counters. -/
def wordBetweenCounters : State :=
  { line := { core := true }
    boot := { phase := .committed }
    regs := [(0xC181, 5)] }

-- Elaborated by itself, so that the proofs before it are checked before those after it begin: this bounds the memory that proofs under way take at once.
set_option Elab.async false in
/-- Refutes O20: REC_CNTCLR drops every stored word from 0xC180 up to 0xC1A8, and so one at 0xC181, which the clause for the recorder keeps (it
names 0xC180 and the words from 0xC184 on). No command stores a word there, but the clause speaks of every state. -/
theorem not_counterClearsComplete : ¬ Obligations.CounterClearsComplete := by
  intro h
  obtain ⟨-, -, -, -, -, -, -, hrecorder⟩ := h
  obtain ⟨t, ht, -, -, -, hframe⟩ := hrecorder wordBetweenCounters .host 1 ⟨by decide, fun _ => ⟨by decide, .inl (by decide)⟩⟩
  obtain rfl := Host.Outcome.next.inj ht
  exact absurd (hframe.2 0xC181 (by decide) (by decide)) (by decide)

end Sys2Proof.Registers
end

section
/-! SUPPORT. Boundary scan (R44 to R46): the instruction register, and the scans through each data register. -/

namespace Sys2Proof.BoundaryScan

open Sys2Proof.Machine Sys2Proof.Safety Sys2Proof.Settling

/-! ### The instruction -/

-- Elaborated by itself, so that the proofs before it are checked before those after it begin: this bounds the memory that proofs under way take at once.
set_option Elab.async false in
theorem frame_nvmRead (s : State) (off len : Nat) : Frame [.out] (fun _ => False) s (nvmRead s off len) := frame_emit _ _

theorem frame_targetReads (s : State) : Frame [.out] (fun _ => False) s (targetReads s) := by
  unfold targetReads
  generalize targetSecs s s.boot.target = secs
  have hhead := frame_nvmRead s 0x40 (lfLen s)
  generalize nvmRead s 0x40 (lfLen s) = t at hhead
  induction secs generalizing t with
  | nil => exact hhead
  | cons e r ih => exact ih _ (frame_trans hhead (frame_nvmRead t _ _))

/-- A read of the NVM taken up afresh is a matter of the start-up and of the reads sent. -/
theorem frame_nvmAfresh (s : State) : Frame [.boot, .out] (fun _ => False) s (nvmAfresh s) := by
  unfold nvmAfresh
  split
  · split
    iterate 4 exact frame_of_regs
    iterate 2
      split
      · exact frame_refl _ _ _
      · exact (frame_of_regs (t := { s with boot := { s.boot with attempt := 0 } })).andThen (frame_targetReads _)
    exact frame_refl _ _ _
  · exact frame_refl _ _ _

theorem nvmAfresh_loading {s : State} (hc : coreRun s = true) (h : s.boot.phase = .header ∨ s.boot.phase = .loading ∨ s.boot.phase = .loaded) :
    (nvmAfresh s).boot.phase = .nvmWait ∧ (nvmAfresh s).boot.dirSeen = false := by
  unfold nvmAfresh
  rw [if_pos hc]
  rcases h with h | h | h <;> rw [h] <;> exact ⟨rfl, rfl⟩

/-- The instruction register holds n, the rest as it was. -/
def withTap (s : State) (n : Nat) : State := { s with tap := n }

theorem frame_withTap (s : State) (n : Nat) : Frame [.tap] (fun _ => False) s (withTap s n) := frame_of_regs

/-- An instruction that leaves the balls to the node. -/
theorem tapTo_leaves {s : State} {code : BitVec 6} (h : bscan (withTap s (tapDecode code)) = false) :
    tapTo s code = if bscan s then nvmAfresh (withTap s (tapDecode code)) else withTap s (tapDecode code) := by
  have hn : bscan { s with tap := tapDecode code } = false := h
  simp only [tapTo, hn]
  rfl

/-- An instruction that takes them. -/
theorem tapTo_takes {s : State} {code : BitVec 6} (h : bscan (withTap s (tapDecode code)) = true) :
    tapTo s code = if s.tap = tapDecode code then s else raise (withTap s (tapDecode code)) 0xD040 6 0xFFF [tapDecode code] := by
  have hn : bscan { s with tap := tapDecode code } = true := h
  simp only [tapTo, hn]
  rfl

/-! ### The scans -/

theorem scanOut_scanned (s : State) (r tdi : List Bool) : Frame [.out] (fun _ => False) s (scanOut s r tdi) ∧
    (tdi ≠ [] → (scanOut s r tdi).out.head? = some (.tdo ((r ++ tdi).take tdi.length))) ∧ (tdi = [] → scanOut s r tdi = s) := by
  unfold scanOut shiftDr
  split
  · exact ⟨frame_refl _ _ _, fun h => absurd ‹_› h, fun _ => rfl⟩
  · exact ⟨frame_emit _ _, fun _ => rfl, fun h => absurd h ‹_›⟩

/-- The cells as captured, nearest TDO first. -/
def captured (s : State) : List Bool := regBits 240 (Config.boundaryCapture s.free).toNat

theorem length_captured (s : State) : (captured s).length = 240 := by simp [captured, regBits]

theorem foldr_bits (l : List Bool) : l.foldr (fun b n => b.toNat + 2 * n) 0 = bitsOf l := by
  induction l with
  | nil => rfl
  | cons b r ih => rw [List.foldr_cons, ih, bitsOf]

theorem scanCells_scanned (s : State) (tdi : List Bool) : Frame [.bcells, .free, .out] (fun _ => False) s (scanCells s tdi) ∧
    (tdi ≠ [] → (scanCells s tdi).out.head? = some (.tdo ((captured s ++ tdi).take tdi.length))) ∧ (tdi = [] → scanCells s tdi = s) := by
  unfold scanCells shiftDr
  split
  · exact ⟨frame_refl _ _ _, fun h => absurd ‹_› h, fun _ => rfl⟩
  · exact ⟨frame_of_regs, fun _ => rfl, fun h => absurd h ‹_›⟩

/-- A scan of the whole boundary register leaves in each cell the bit shifted in. -/
theorem scanCells_cells (s : State) {tdi : List Bool} (h : tdi.length = 240) :
    ∀ i < 240, (scanCells s tdi).bcells.getLsbD i = tdi.getD i false := by
  intro i hi
  have hne : tdi ≠ [] := by
    rintro rfl
    cases h
  have hin : (shiftDr (captured s) tdi).2 = tdi := by
    rw [shiftDr, h, ← length_captured s, List.drop_left]
  have hcells : (scanCells s tdi).bcells = BitVec.ofNat 240 (bitsOf tdi) := by
    rw [scanCells, if_neg hne]
    exact congrArg (BitVec.ofNat 240) ((foldr_bits _).trans (congrArg bitsOf hin))
  rw [hcells, BitVec.getLsbD_ofNat, decide_eq_true hi, Bool.true_and, testBit_bitsOf]

/-! ### Instruction and scan together -/

theorem bscan_congr {s t : State} (h : t.tap = s.tap) : bscan t = bscan s := by rw [bscan, bscan, h]

/-- What the scan of an instruction does: bits through a register, nothing without bits at TDI. -/
def Scans (r tdi : List Bool) (s u : State) : Prop :=
  Frame [.bcells, .free, .out] (fun _ => False) s u ∧ (tdi ≠ [] → u.out.head? = some (.tdo ((r ++ tdi).take tdi.length))) ∧ (tdi = [] → u = s)

theorem scanOut_scans (s : State) (r tdi : List Bool) : Scans r tdi s (scanOut s r tdi) := by
  obtain ⟨hf, hout, hnil⟩ := scanOut_scanned s r tdi
  exact ⟨hf.within, hout, hnil⟩

theorem scanCells_scans {s : State} {f : Nat} (tdi : List Bool) (h : s.free = f) :
    Scans (regBits 240 (Config.boundaryCapture f).toNat) tdi s (scanCells s tdi) := by
  subst h
  exact scanCells_scanned s tdi

/-- An instruction with a scan that leaves the balls to the node. -/
theorem leavesBalls {s u : State} {code : BitVec 6} {r tdi : List Bool} (h : bscan (withTap s (tapDecode code)) = false)
    (hs : Scans r tdi (tapTo s code) u) : (settle s u).tap = tapDecode code ∧ LeavesBalls r tdi s (settle s u) := by
  obtain ⟨hf, hout, hnil⟩ := hs
  have hto := tapTo_leaves h
  have hfresh := frame_nvmAfresh (withTap s (tapDecode code))
  have htap : u.tap = tapDecode code := by
    rw [hf.part .tap, hto]
    split
    · exact hfresh.part .tap
    · rfl
  refine ⟨by simpa using htap, ?_, fun hne => by simpa using hout hne, fun hb => ?_, fun hb hc hp => ?_⟩
  · have hst : (settle s u).tap = (withTap s (tapDecode code)).tap := by
      rw [settle_tap, htap]
      rfl
    exact (bscan_congr hst).trans h
  · rw [hb] at hto
    refine ⟨fun he => ?_, frame_settle ?_⟩
    · rw [settle_out, hnil he, hto]
      rfl
    · exact ((frame_withTap s (tapDecode code)).within (Q := [.tap, .bcells, .free, .out])).andThen (hto ▸ hf)
  · rw [hb, if_pos rfl] at hto
    have hboot : u.boot = (nvmAfresh (withTap s (tapDecode code))).boot := by rw [hf.part .boot, hto]
    rw [settle_boot, hboot]
    exact nvmAfresh_loading hc hp

/-- An instruction with a scan that takes the balls. -/
theorem takesBalls {s u : State} {code : BitVec 6} {r tdi : List Bool} (h : bscan (withTap s (tapDecode code)) = true)
    (hs : Scans r tdi (tapTo s code) u) : TakesBalls (tapDecode code) r tdi s (settle s u) := by
  obtain ⟨hf, hout, hnil⟩ := hs
  have hto := tapTo_takes h
  have htap : (tapTo s code).tap = tapDecode code := by
    rw [hto]
    split
    · assumption
    · simp [withTap]
  have hst : (settle s u).tap = tapDecode code := by rw [settle_tap, hf.part .tap, htap]
  have hlog : (settle s u).log = (tapTo s code).log := by rw [settle_log, hf.part .log]
  refine ⟨hst, (bscan_congr hst).trans h, fun hne => by simpa using hout hne, fun he => ?_, fun hn => ?_, fun hc hn => ?_, frame_settle ?_⟩
  · rw [settle_out, hnil he, hto]
    split
    · rfl
    · exact raise_out _ _ _ _ _
  · rw [hlog, hto, if_pos hn]
  · rw [Raised, hlog, hto, if_neg hn, raise_raised (withTap s (tapDecode code)) _ _ _ _ hc]
    rfl
  · have hframe : Frame [.tap, .bcells, .free, .log, .out] (· = 0xC180) s (tapTo s code) := by
      rw [hto]
      split
      · exact frame_refl _ _ _
      · exact (frame_withTap s _).within.andThen (frame_raise _ _ _ _ _)
    exact hframe.andThen hf

/-- A code that Table 2-12 does not name is BYPASS. -/
theorem tapDecode_bypass {code : BitVec 6} (h : 4 < code.toNat) : tapDecode code = 0x3F := if_neg (by omega)

/-- The cells captured are those of the inputs before the instruction. -/
theorem tapTo_free (s : State) (code : BitVec 6) : (tapTo s code).free = s.free := by
  by_cases h : bscan (withTap s (tapDecode code)) = true
  · rw [tapTo_takes h]
    split
    · rfl
    · exact raise_free _ _ _ _ _
  · rw [tapTo_leaves (by simpa using h)]
    split
    · exact (frame_nvmAfresh _).part .free
    · rfl

theorem scanOut_bcells (s : State) (r tdi : List Bool) : (scanOut s r tdi).bcells = s.bcells := (scanOut_scanned s r tdi).1.part .bcells

theorem tapTo_bcells {s : State} {code : BitVec 6} (h : bscan (withTap s (tapDecode code)) = true) : (tapTo s code).bcells = s.bcells := by
  rw [tapTo_takes h]
  split
  · rfl
  · exact raise_bcells _ _ _ _ _

/-- Settles O7. -/
theorem tapInstructionsComplete : Obligations.TapInstructionsComplete := by
  unfold Obligations.TapInstructionsComplete
  refine ⟨fun s => completes_of (u := tapTo s 1) rfl ?_, fun s tdi => completes_of (u := scanOut (tapTo s 1) (regBits 32 idWord) tdi) rfl ?_,
    fun s code tdi hcode => completes_of (u := scanOut (tapTo s code) [false] tdi) rfl ?_,
    fun s tdi => completes_of (u := scanCells (tapTo s 2) tdi) rfl ⟨?_, ?_, ?_⟩,
    fun s tdi => completes_of (u := scanCells (tapTo s 0) tdi) rfl ⟨?_, ?_⟩,
    fun s tdi => completes_of (u := scanOut (tapTo s 3) [false] tdi) rfl ⟨?_, ?_⟩,
    fun s tdi => completes_of (u := scanOut (tapTo s 4) [false] tdi) rfl ⟨?_, ?_⟩⟩
  · exact leavesBalls (code := 1) rfl ⟨frame_refl _ _ _, fun h => absurd rfl h, fun _ => rfl⟩
  · exact leavesBalls (code := 1) rfl (scanOut_scans _ _ _)
  · rw [← tapDecode_bypass hcode]
    exact leavesBalls (by rw [tapDecode_bypass hcode]; rfl) (scanOut_scans _ _ _)
  · exact (leavesBalls (code := 2) rfl (scanCells_scans tdi (tapTo_free s 2))).1
  · exact (leavesBalls (code := 2) rfl (scanCells_scans tdi (tapTo_free s 2))).2
  · exact fun hl i hi => by rw [settle_bcells, scanCells_cells _ hl i hi]
  · exact takesBalls (code := 0) rfl (scanCells_scans tdi (tapTo_free s 0))
  · exact fun hl i hi => by rw [settle_bcells, scanCells_cells _ hl i hi]
  · exact takesBalls (code := 3) rfl (scanOut_scans _ _ _)
  · rw [settle_bcells, scanOut_bcells, tapTo_bcells rfl]
  · exact takesBalls (code := 4) rfl (scanOut_scans _ _ _)
  · rw [settle_bcells, scanOut_bcells, tapTo_bcells rfl]

end Sys2Proof.BoundaryScan
end

section
/-! SUPPORT. The bridge as a target: what a request finds in a state that differs only in the bridge's own part, the answers, and the arrival of a
request at an idle bridge (R302, R303, R305, R306). -/

namespace Sys2Proof.Target

open Sys2Proof.Machine Sys2Proof.Safety Sys2Proof.Bridge Sys2Proof.Registers

/-! ### States alike to a request -/

/-- The registers that say what a request may reach and how it is answered. -/
def BridgeConfig (o : Nat) : Prop := o = 0x5008 ∨ o = 0x9000 ∨ o = 0x9008 ∨ (0x9700 ≤ o ∧ o < 0x9800)

/-- Nothing changed that says what a request may reach or how it is answered. -/
def Alike (s u : State) : Prop := Frame [.hb, .sch, .log, .out] (fun o => ¬ BridgeConfig o) s u

-- Elaborated by itself, so that the proofs before it are checked before those after it begin: this bounds the memory that proofs under way take at once.
set_option Elab.async false in
theorem Alike.of {P : List Part} {R : Nat → Prop} {s u : State} (h : Frame P R s u) (hp : P ⊆ [.hb, .sch, .log, .out] := by decide)
    (hr : ∀ o, R o → ¬ BridgeConfig o := by intro o ho; simp only [BridgeConfig]; omega) : Alike s u := h.within hp hr

theorem Alike.trans {s u w : State} (h : Alike s u) (g : Alike u w) : Alike s w := frame_trans h g

section Alike

variable {s u : State} (h : Alike s u)

include h

theorem Alike.config {o : Nat} (ho : BridgeConfig o) : reg u o = reg s o :=
  h.2 o (by unfold BridgeConfig at ho; omega) (not_not.mpr ho)

theorem Alike.bClass : bClass u = bClass s := by rw [Machine.bClass, Machine.bClass, regF, regF, h.config (by simp [BridgeConfig])]

theorem Alike.ownRow (g : Fin 2) : ownRow u g = ownRow s g := by
  have hi : u.inaug = s.inaug := h.part .inaug
  have hu : u.uid = s.uid := h.part .uid
  have ht : u.tables = s.tables := h.part .tables
  unfold Machine.ownRow ownEnt planRow
  rw [hi, hu, ht]

theorem Alike.bridgeSends (hs : BridgeSends s) : BridgeSends u := by
  unfold BridgeSends at *
  rwa [h.ownRow, h.bClass, h.config (by simp [BridgeConfig])]

theorem Alike.hbOn : hbOn u = hbOn s := by rw [Machine.hbOn, Machine.hbOn, regB, regB, h.config (by simp [BridgeConfig])]

theorem Alike.canMaster : canMaster u = canMaster s := by
  have hb : u.boot = s.boot := h.part .boot
  have ht : u.tap = s.tap := h.part .tap
  rw [Machine.canMaster, Machine.canMaster, regB, regB, h.config (by simp [BridgeConfig]), hb, bscan, bscan, ht]

theorem Alike.mbxAt (w : Bool) (a n : Nat) : mbxAt u w a n = mbxAt s w a n := by
  unfold Machine.mbxAt
  have hm : ∀ m ∈ List.range 16, m < 16 := fun m => List.mem_range.mp
  generalize List.range 16 = l at hm
  induction l with
  | nil => rfl
  | cons m l ih =>
    have hm16 := hm m (List.mem_cons_self ..)
    rw [List.findSome?_cons, List.findSome?_cons, ih fun k hk => hm k (List.mem_cons_of_mem _ hk)]
    rw [mbxCfg, mbxCfg, regF, regF, h.config (by simp only [BridgeConfig]; omega), h.config (by simp only [BridgeConfig]; omega)]

theorem Alike.tgtRefuse (r : HbReq) : tgtRefuse u r = tgtRefuse s r := by
  have hb : u.boot = s.boot := h.part .boot
  have h9008 (i : Nat) : regB u 0x9008 i = regB s 0x9008 i := by rw [regB, regB, h.config (by simp [BridgeConfig])]
  rw [Machine.tgtRefuse, Machine.tgtRefuse, hbClosed, hbClosed, hb, h.hbOn, h.canMaster, h.mbxAt, h9008, h9008]

theorem Alike.needsBus (r : HbReq) : needsBus u r = needsBus s r := by rw [Machine.needsBus, Machine.needsBus, h.tgtRefuse]

theorem Alike.lampServes (n : Nat) : lampServes u n = lampServes s n := by
  have hl : u.lamp = s.lamp := h.part .lamp
  rw [Machine.lampServes, Machine.lampServes, hl]

end Alike

/-! ### Answers (Table 12-9) -/

/-- One more frame waits for admission. -/
def pushed (s : State) (x : DynOut) : State := { s with sch := { s.sch with dyn := s.sch.dyn ++ [x] } }

theorem frame_pushed (s : State) (x : DynOut) : Frame [.sch] (fun _ => False) s (pushed s x) := frame_of_regs

/-- The frame that answers a request with code c by a message of kind k and tag g. -/
def answerOut (s : State) (r : HbReq) (k g c : Nat) (d : Bytes) : DynOut :=
  bridgeOut s r.src r.smac { bop := k, win := r.win, space := r.space, tseq := r.tseq, tag := g, status := c, addr := r.addr, be := r.be } d

theorem msgKey_answerOut (s : State) (r : HbReq) (k g c : Nat) (d : Bytes) :
    msgKey (answerOut s r k g c d) = ([BitVec.ofNat 8 r.src], [k % 256, r.win % 256, r.tseq % 65536, g % 256, c % 256]) := msgKey_bridgeOut _ _ _ _ _

/-- An answer of this kind, counted in ANSWERS_SENT. -/
def answered (s : State) (r : HbReq) (k g c : Nat) (d : Bytes) : State := pushed (bumpHb s 4) (answerOut (bumpHb s 4) r k g c d)

theorem frame_answered (s : State) (r : HbReq) (k g c : Nat) (d : Bytes) : Frame [.sch] (· = 0x9610) s (answered s r k g c d) :=
  (frame_bumpHb s 4).within.andThen (frame_pushed _ _)

@[simp] theorem answered_hb (s : State) (r : HbReq) (k g c : Nat) (d : Bytes) : (answered s r k g c d).hb = s.hb := rfl

theorem counted_answered (s : State) (r : HbReq) (k g c : Nat) (d : Bytes) : Counted 0x9610 1 s (answered s r k g c d) := counted_bumpHb s 4

/-- Exactly the answer has joined the frames that wait. -/
theorem sent_answered {s w : State} (r : HbReq) (k g c : Nat) (d : Bytes) (h : w.sch = s.sch) :
    Sent [([BitVec.ofNat 8 r.src], [k % 256, r.win % 256, r.tseq % 65536, g % 256, c % 256])] s (answered w r k g c d) := by
  rw [← msgKey_answerOut (bumpHb w 4) r k g c d]
  exact sent_push (by rw [← h]; rfl)

theorem bridgeSends_bumpHb {s : State} (i : Nat) (hi : i < 16) (h : BridgeSends s) : BridgeSends (bumpHb s i) :=
  (Alike.of (frame_bumpHb s i)).bridgeSends h

section Reply

variable {s : State} (hs : BridgeSends s) (r : HbReq) (c : Nat) (d : Bytes)

include hs

theorem reply_npwrite (h : r.bop = 2) : reply s r c d = answered s r 0x81 r.tag c [] := by
  unfold reply
  simp only [h]
  exact sendBridge_pushes _ _ _ _ _ (bridgeSends_bumpHb 4 (by decide) hs) (by simp)

theorem reply_read (h : r.bop = 3) : reply s r c d = answered s r 0x83 r.tag c ((d ++ List.replicate 4 0#8).take 4) := by
  unfold reply
  simp only [h]
  exact sendBridge_pushes _ _ _ _ _ (bridgeSends_bumpHb 4 (by decide) hs) (by simp)

theorem reply_lock (h : r.bop = 5) : reply s r c d = answered s r 0x85 r.tag c [] := by
  unfold reply
  simp only [h]
  exact sendBridge_pushes _ _ _ _ _ (bridgeSends_bumpHb 4 (by decide) hs) (by simp)

/-- A LATE of its own. -/
theorem sendLate_answers (q : Nat) (h : c ≠ 0) : sendLate s r q c = answered s { r with tseq := q } 0x90 0xFF c [] := by
  unfold sendLate reply
  simp only [if_neg h]
  exact sendBridge_pushes _ _ _ _ _ (bridgeSends_bumpHb 4 (by decide) hs) (by simp)

end Reply

/-- A posted request that is applied is not answered. -/
theorem reply_posted (s : State) (r : HbReq) (d : Bytes) (h : r.bop = 1) : reply s r 0 d = s := by
  unfold reply
  simp only [h]
  rfl

end Sys2Proof.Target
end

section
/-! SUPPORT. The arrival of a request at an idle bridge, and what it leaves of the queue and the bus (R305, R306, R309). -/

namespace Sys2Proof.Target

open Sys2Proof.Machine Sys2Proof.Safety Sys2Proof.Bridge Sys2Proof.Registers

/-! ### The queue -/

/-- Nothing waits for the bridge as a target, and LBUS is the host's. -/
def Idle (b : Bridge) : Prop := b.inq = [] ∧ b.acc = false ∧ b.owns = false ∧ b.bus = false ∧ b.far = none

/-- The bridge with one request waiting. -/
def queued (s : State) (r : HbReq) : State := { s with hb := { s.hb with inq := s.hb.inq ++ [r] } }

/-- The initiator's TSEQ is that of the request. -/
def taken (s : State) (r : HbReq) : State := { s with hb := { s.hb with applied := mput s.hb.applied r.src r.tseq } }

-- Elaborated by itself, so that the proofs before it are checked before those after it begin: this bounds the memory that proofs under way take at once.
set_option Elab.async false in
theorem frame_taken (s : State) (r : HbReq) : Frame [.hb] (fun _ => False) s (taken s r) := frame_setHb s _
theorem frame_queued (s : State) (r : HbReq) : Frame [.hb] (fun _ => False) s (queued s r) := frame_setHb s _

theorem drainReqs_empty {s : State} (h : s.hb.inq = []) (n : Nat) : drainReqs n s = s := by
  cases n with
  | zero => rfl
  | succ n => simp [drainReqs, h, readyIdx]

theorem setHb_self {s : State} {b : Bridge} (h : b = s.hb) : { s with hb := b } = s := by
  subst h
  rfl

theorem busNext_idle {s : State} (h : Idle s.hb) : busNext s = s := by
  obtain ⟨hq, hacc, howns, hbus, hfar⟩ := h
  have hw : busWanted s = false := by simp [busWanted, hq, hfar]
  have hself : { s with hb := { s.hb with bus := false } } = s := setHb_self (by rw [← hbus])
  unfold busNext
  simp only [drainReqs_empty hq]
  rw [if_neg (by simp [hacc]), if_neg (by simp [howns]), if_neg (by simp [hw]), hself]

/-- The queue holds these requests. -/
def withInq (s : State) (l : List HbReq) : State := { s with hb := { s.hb with inq := l } }

theorem withInq_queued {s : State} (r : HbReq) (h : s.hb.inq = []) : withInq (queued s r) [] = s := by
  have hself : { s with hb := { s.hb with inq := [] } } = s := setHb_self (by rw [← h])
  exact hself

theorem drainReqs_serves {s : State} {r : HbReq} (hl : lampServes s 9 = true) (hinq : s.hb.inq = [r]) (hacc : s.hb.acc = false)
    (hn : needsBus s r = false) (n : Nat) : drainReqs (n + 1) s = drainReqs n (serveReq (withInq s []) r) := by
  have hready : readyIdx s (if s.hb.acc then (s.hb.inq.head?.map HbReq.src).toList else []) s.hb.inq 0 = some (0, r) := by
    simp [hacc, hinq, readyIdx, hn]
  have hpop : withInq s (s.hb.inq.take 0 ++ s.hb.inq.drop (0 + 1)) = withInq s [] := by
    rw [hinq]
    rfl
  rw [drainReqs, if_neg (by simp [hl]), hready, ← hpop]
  rfl

/-- A request that needs no bus is served at once, alone at an idle bridge. -/
theorem busNext_serves {s : State} {r : HbReq} (h : Idle s.hb) (hl : lampServes s 9 = true) (hn : needsBus s r = false)
    (hw : Idle (serveReq s r).hb) : busNext (queued s r) = serveReq s r := by
  obtain ⟨hq, hacc, -, -, -⟩ := h
  have hnq : needsBus (queued s r) r = false := ((Alike.of (frame_queued s r) (hr := by simp)).needsBus r).trans hn
  have hinq : (queued s r).hb.inq = [r] := by simp [queued, hq]
  have hdrain : drainReqs ((queued s r).hb.inq.length + 1) (queued s r) = serveReq s r := by
    rw [drainReqs_serves (s := queued s r) hl hinq hacc hnq, withInq_queued r hq, drainReqs_empty hw.1]
  have hrest := busNext_idle hw
  simp only [busNext, drainReqs_empty hw.1] at hrest
  simp only [busNext, hdrain]
  exact hrest

/-! ### Arrival -/

theorem foldl_bytes_lt (l : Bytes) (a : Nat) : l.foldl (fun a x => a * 256 + x.toNat) a < (a + 1) * 256 ^ l.length := by
  induction l generalizing a with
  | nil => simp
  | cons x l ih =>
    refine Nat.lt_of_lt_of_le (ih _) ?_
    have hx : a * 256 + x.toNat + 1 ≤ (a + 1) * 256 := by
      have := x.isLt
      omega
    calc (a * 256 + x.toNat + 1) * 256 ^ l.length ≤ (a + 1) * 256 * 256 ^ l.length := Nat.mul_le_mul_right _ hx
      _ = (a + 1) * 256 ^ (l.length + 1) := by ring

theorem beAt_lt (b : Bytes) (i n : Nat) : beAt b i n < 256 ^ n := by
  refine Nat.lt_of_lt_of_le (foldl_bytes_lt (slice b i n) 0) ?_
  rw [Nat.zero_add, Nat.one_mul]
  exact Nat.pow_le_pow_right (by decide) (by simp [slice])

theorem byteAt_lt (b : Bytes) (i : Nat) : byteAt b i < 256 := (b.getD i 0).isLt

/-- The fields of a request fit theirs in the message (Table 12-8). -/
theorem readReq_fits (f b : Bytes) : (readReq f b).src < 256 ∧ (readReq f b).win < 256 ∧ (readReq f b).tseq < 65536 ∧ (readReq f b).tag < 256 :=
  ⟨byteAt_lt f 2, byteAt_lt b 16, beAt_lt b 18 2, byteAt_lt b 20⟩

/-- A request of the next TSEQ, or the first, is taken. -/
theorem seqCheck_inSeq {s : State} {b : Bytes} {r : HbReq} (h : InSeq s b r) (hq : r.tseq < 65536) :
    seqCheck (bumpHb s 3) ((byteAt b 15).testBit 1) r = (taken (bumpHb s 3) r, true) := by
  unfold seqCheck
  rw [bumpHb_hb]
  cases hb : (byteAt b 15).testBit 1
  · rcases h with hfirst | hnone | hnext
    · simp [hb] at hfirst
    · simp only [hnone, Bool.false_eq_true, if_false]
      rfl
    · have hd : (r.tseq + 65536 - (r.tseq + 65535) % 65536) % 65536 = 1 := by omega
      simp only [hnext, Bool.false_eq_true, if_false, hd]
      rfl
  · rfl

/-- The state a request is served in: counted, and its TSEQ taken. -/
def received (s : State) (r : HbReq) : State := taken (bumpHb s 3) r

theorem frame_received (s : State) (r : HbReq) : Frame [.hb] (· = 0x960C) s (received s r) :=
  (frame_bumpHb s 3).within.andThen (frame_taken _ r)

theorem alike_received (s : State) (r : HbReq) : Alike s (received s r) := Alike.of (frame_received s r)

theorem received_hb (s : State) (r : HbReq) : (received s r).hb = { s.hb with applied := mput s.hb.applied r.src r.tseq } := rfl

theorem counted_received (s : State) (r : HbReq) : Counted 0x960C 1 s (received s r) := counted_bumpHb s 3

theorem idle_of_bridgeIdle {s : State} (h : BridgeIdle s) : Idle s.hb := by
  obtain ⟨-, -, -, hq, hacc, howns, hbus, hfar⟩ := h
  exact ⟨hq, hacc, howns, hbus, hfar⟩

section Arrive

variable {s : State} {f b : Bytes} {r : HbReq} {bop : Nat} (h : BridgeIdle s) (hb : bridgeMsg f = some b) (hr : readReq f b = r) (hk : r.bop = bop)

include h hb hr hk

/-- A request for this node reaches the check of its TSEQ. -/
theorem arrive_forUs (hu : forUs s b = true) : arrive s f bop =
    if (seqCheck (bumpHb s 3) ((byteAt b 15).testBit 1) r).2 then busNext (queued (seqCheck (bumpHb s 3) ((byteAt b 15).testBit 1) r).1 r)
    else (seqCheck (bumpHb s 3) ((byteAt b 15).testBit 1) r).1 := by
  obtain ⟨hc, ht, -, hq, -⟩ := h
  subst hr hk
  simp [arrive, hb, hc, ht, hq, hu]
  rfl

/-- One for another UID is answered WRONG_NODE. -/
theorem arrive_other (hu : forUs s b = false) :
    arrive s f bop = reply (hbEventLim (bumpHb (bumpHb s 3) 13) 0x9050 2 0xFFF r.win r.src r.tseq 0x14) r 0x14 [] := by
  obtain ⟨hc, ht, -, hq, -⟩ := h
  subst hr hk
  simp [arrive, hb, hc, ht, hq, hu]

/-- A request in order that needs no bus is served at once. -/
theorem arrive_serves (hu : forUs s b = true) (hs : InSeq s b r) (hn : needsBus s r = false) (hw : Idle (serveReq (received s r) r).hb) :
    arrive s f bop = serveReq (received s r) r := by
  have hq : r.tseq < 65536 := hr ▸ (readReq_fits f b).2.2.1
  obtain ⟨-, -, hl, -⟩ := id h
  rw [arrive_forUs h hb hr hk hu, seqCheck_inSeq hs hq, if_pos rfl]
  exact busNext_serves (idle_of_bridgeIdle h) (((alike_received s r).lampServes 9).trans hl) (((alike_received s r).needsBus r).trans hn) hw

end Arrive

/-! ### Serving -/

/-- A request that something refuses is answered with the code. -/
theorem serveReq_refused {s : State} {r : HbReq} (h : tgtRefuse s r ≠ 0) : serveReq s r = reply s r (tgtRefuse s r) [] := by
  simp [serveReq, h]

end Sys2Proof.Target
end

section
/-! SUPPORT. Requests of other nodes: refused, out of order, for another node, and served (R302, R303, R305, R306, R316, R319). -/

namespace Sys2Proof.Target

open Sys2Proof.Machine Sys2Proof.Safety Sys2Proof.Bridge Sys2Proof.Registers

-- Elaborated by itself, so that the proofs before it are checked before those after it begin: this bounds the memory that proofs under way take at once.
set_option Elab.async false in
/-- The answer to a request, whose fields fit the message. -/
theorem sent_answer {s w : State} {f b : Bytes} {r : HbReq} (hr : readReq f b = r) {k c : Nat} (d : Bytes) (h : w.sch = s.sch) (hk : k < 256 := by decide)
    (hc : c < 256 := by decide) : Sent [([BitVec.ofNat 8 r.src], [k, r.win, r.tseq, r.tag, c])] s (answered w r k r.tag c d) := by
  have hsent := sent_answered (s := s) r k r.tag c d h
  obtain ⟨-, hwin, htseq, htag⟩ := readReq_fits f b
  rw [hr] at hwin htseq htag
  rwa [Nat.mod_eq_of_lt hk, Nat.mod_eq_of_lt hc, Nat.mod_eq_of_lt hwin, Nat.mod_eq_of_lt htseq, Nat.mod_eq_of_lt htag] at hsent

theorem sent_settle {keys : List (Bytes × List Nat)} {s t : State} (h : Sent keys s t) : Sent keys s (settle s t) := by
  unfold Sent at *
  simpa using h

/-- Only the schedule says what was sent. -/
theorem sent_congr {keys : List (Bytes × List Nat)} {s t u : State} (h : Sent keys s t) (hs : u.sch = t.sch) : Sent keys s u := by
  unfold Sent at *
  rwa [hs]

theorem idle_taken {s : State} (r : HbReq) (h : Idle s.hb) : Idle (taken s r).hb := h

theorem idle_received {s : State} (r : HbReq) (h : Idle s.hb) : Idle (received s r).hb := idle_taken r (by rwa [bumpHb_hb])

/-- Settles O57. -/
theorem farRequestsRefused : Obligations.FarRequestsRefused := by
  unfold Obligations.FarRequestsRefused
  refine ⟨fun s r hclosed hon hspace hbop hacc => ?_, fun s r hclosed hon hspace hbop hlen hmagic => ?_, fun s r hclosed hon hspace hbop hmon => ?_,
    fun s r hclosed hon hspace hbop hmaster hoff => ?_, fun s f b r hidle hsends hmsg hus hread hbop hseq href => ?_⟩
  · simp [tgtRefuse, hclosed, hon, hspace, hbop, isMbx, hacc]
  · by_cases hacc : regB s 0x9008 1 = true <;> simp [tgtRefuse, hclosed, hon, hspace, hbop, isMbx, hacc, hlen, hmagic]
  · by_cases hacc : regB s 0x9008 1 = true <;> simp [tgtRefuse, hclosed, hon, hspace, hbop, isMbx, hacc, hmon]
  · have hnone : mbxAt s false r.addr 4 = none := by
      refine List.findSome?_eq_none_iff.mpr fun m hm => if_neg ?_
      have h31 := hoff ⟨m, List.mem_range.mp hm⟩
      simp only [] at h31
      simp [h31]
    simp [tgtRefuse, hclosed, hon, hspace, hbop, isMbx, hmaster, reqLen, hnone]
  · have halike := alike_received s r
    have hrefused : serveReq (received s r) r = answered (received s r) r 0x81 r.tag 0x10 [] := by
      rw [serveReq_refused (by rw [halike.tgtRefuse, href]; decide), halike.tgtRefuse, href, reply_npwrite (halike.bridgeSends hsends) r _ _ hbop]
    have hgo : arrive s f 2 = answered (received s r) r 0x81 r.tag 0x10 [] := by
      rw [arrive_serves hidle hmsg hread hbop hus hseq (by simp [needsBus, href]) (by rw [hrefused, answered_hb]; exact idle_received r (idle_of_bridgeIdle hidle)), hrefused]
    refine completes_of (u := arrive s f 2) rfl ?_
    rw [hgo]
    exact ⟨sent_settle (sent_answer hread _ rfl), by rw [settle_hb, answered_hb, received_hb],
      frame_settle ((frame_received s r).within.andThen (frame_answered _ _ _ _ _ _))⟩

/-! ### Requests not applied -/

/-- The state in which a request that is not applied is answered: it counts in counter i, and its event is raised. -/
def noted (s : State) (r : HbReq) (i code c : Nat) : State := hbEventLim (bumpHb (bumpHb s 3) i) code 2 0xFFF r.win r.src r.tseq c

theorem frame_noted (s : State) (r : HbReq) (i code c : Nat) :
    Frame [.log] (fun o => o = 0x960C ∨ o = 0x9600 + 4 * i ∨ o = 0xC180) s (noted s r i code c) :=
  ((frame_bumpHb s 3).within (by decide) (fun _ => Or.inl)).andThen (frame_bumpHb _ i) (by decide) (fun _ h => Or.inr (Or.inl h))
    |>.andThen (frame_raiseLim _ _ _ _ _ _) (by decide) (fun _ h => Or.inr (Or.inr h))

theorem counted_noted (s : State) (r : HbReq) (i code c : Nat) (hi : i < 16) (h3 : i ≠ 3) : Counted (0x9600 + 4 * i) 1 s (noted s r i code c) := by
  rw [Counted, noted, reg_hbEventLim_ne _ _ _ _ _ _ _ _ (by omega), bumpHb, reg_bump, if_pos rfl, (frame_bumpHb s 3).2 _ (by omega) (by omega)]

/-- Not applied, it leaves the answer, the count and the event. -/
theorem noted_completes {s : State} {f b : Bytes} {r : HbReq} {i code c : Nat} (hsends : BridgeSends s) (hread : readReq f b = r) (hbop : r.bop = 2)
    (hi : i < 16) (h3 : i ≠ 3) (h4 : i ≠ 4) (hc : c < 256) {t : State} (ht : t = settle s (reply (noted s r i code c) r c [])) :
    Sent [([BitVec.ofNat 8 r.src], [0x81, r.win, r.tseq, r.tag, c])] s t ∧ t.hb = s.hb ∧ Counted (0x9600 + 4 * i) 1 s t ∧
    Frame [.sch, .log] (fun o => o = 0x960C ∨ o = 0x9610 ∨ o = 0x9600 + 4 * i ∨ o = 0xC180) s t := by
  have hframe := frame_noted s r i code c
  have halike : Alike s (noted s r i code c) := Alike.of hframe (by decide)
    (by intro o ho; simp only [BridgeConfig]; omega)
  have hr : reply (noted s r i code c) r c [] = answered (noted s r i code c) r 0x81 r.tag c [] := reply_npwrite (halike.bridgeSends hsends) r _ _ hbop
  rw [hr] at ht
  subst ht
  refine ⟨sent_settle (sent_answer hread _ (hframe.part .sch) (by decide) hc), by rw [settle_hb, answered_hb]; exact hframe.part .hb,
    counted_settle (by omega) ?_, frame_settle ?_⟩
  · rw [Counted, (frame_answered _ _ _ _ _ _).2 _ (by omega) (by omega)]
    exact counted_noted s r i code c hi h3
  · exact (hframe.within (by decide) (fun o => by omega)).andThen (frame_answered _ _ _ _ _ _) (by decide) (fun o => by omega)

/-- One no newer than the last applied is not applied. -/
theorem seqCheck_stale {s : State} {r : HbReq} (h : mget s.hb.applied r.src = some r.tseq) :
    seqCheck (bumpHb s 3) false r = (reply (noted s r 12 0x9051 0x15) r 0x15 [], false) := by
  have hd : (r.tseq + 65536 - r.tseq) % 65536 = 0 := by omega
  unfold seqCheck
  simp only [bumpHb_hb, h, Bool.false_eq_true, if_false, hd]
  rfl

/-- A gap of two sends a LATE first. -/
theorem seqCheck_gap {s : State} {r : HbReq} {q : Nat} (h : mget s.hb.applied r.src = some q) (hq : q < 65536) (hgap : r.tseq = (q + 3) % 65536) :
    seqCheck (bumpHb s 3) false r = (taken (sendLate (bumpHb s 3) r ((q + 1) % 65536) 0x16) r, true) := by
  have hd : (r.tseq + 65536 - q) % 65536 = 3 := by omega
  unfold seqCheck
  simp only [bumpHb_hb, h, Bool.false_eq_true, if_false, hd]
  rfl

/-- An interrupt message sets its vector (R316). -/
def interrupted (s : State) (r : HbReq) : State :=
  { s with hb := { s.hb with rirq := s.hb.rirq ||| BitVec.ofNat 32 (2 ^ (r.addr % 32)), rirqSrc := mput s.hb.rirqSrc (r.addr % 32) r.src } }

theorem frame_interrupted (s : State) (r : HbReq) : Frame [.hb] (fun _ => False) s (interrupted s r) := frame_setHb s _

theorem serveReq_irq {s : State} {r : HbReq} (h : tgtRefuse s r = 0) (hbop : r.bop = 4) : serveReq s r = interrupted s r := by
  simp only [serveReq, h, hbop]
  rfl

theorem idle_interrupted {s : State} (r : HbReq) (h : Idle s.hb) : Idle (interrupted s r).hb := h

/-- The state a request is served in that leaves a gap from TSEQ q on: a LATE of the first TSEQ left out has gone before it. -/
def afterGap (s : State) (r : HbReq) (q : Nat) : State := taken (answered (bumpHb s 3) { r with tseq := (q + 1) % 65536 } 0x90 0xFF 0x16 []) r

theorem frame_afterGap (s : State) (r : HbReq) (q : Nat) : Frame [.hb, .sch] (fun o => o = 0x960C ∨ o = 0x9610) s (afterGap s r q) :=
  ((frame_bumpHb s 3).within.andThen (frame_answered _ _ _ _ _ _)).andThen (frame_taken _ r)

theorem idle_afterGap {s : State} (r : HbReq) (q : Nat) (h : Idle s.hb) : Idle (afterGap s r q).hb := by
  refine idle_taken r ?_
  rwa [answered_hb, bumpHb_hb]

theorem interrupted_rirq (s : State) (r : HbReq) : (interrupted s r).hb.rirq = s.hb.rirq ||| BitVec.ofNat 32 (2 ^ (r.addr % 32)) := rfl

theorem afterGap_rirq (s : State) (r : HbReq) (q : Nat) : (afterGap s r q).hb.rirq = s.hb.rirq := by
  simp only [afterGap, taken, answered_hb, bumpHb_hb]

theorem afterGap_applied (s : State) (r : HbReq) (q : Nat) : mget (interrupted (afterGap s r q) r).hb.applied r.src = some r.tseq := mget_mput_same _ _ _

theorem afterGap_sent {s : State} {f b : Bytes} {r : HbReq} (hread : readReq f b = r) (q : Nat) :
    Sent [([BitVec.ofNat 8 r.src], [0x90, r.win, (q + 1) % 65536, 0xFF, 0x16])] s (interrupted (afterGap s r q) r) := by
  have hsent := sent_answered (s := s) (w := bumpHb s 3) { r with tseq := (q + 1) % 65536 } 0x90 0xFF 0x16 [] rfl
  obtain ⟨-, hwin, -, -⟩ := readReq_fits f b
  rw [hread] at hwin
  rw [Nat.mod_eq_of_lt hwin, Nat.mod_mod] at hsent
  exact sent_congr hsent ((frame_taken _ r).andThen (frame_interrupted _ r) |>.part .sch)

/-- Settles O56. -/
theorem requestsOutOfOrder : Obligations.RequestsOutOfOrder := by
  unfold Obligations.RequestsOutOfOrder
  refine ⟨fun s f b r hidle hsends hmsg hus hread hbop hfirst happlied => ?stale,
    fun s f b r q hidle hsends hmsg hus hread hbop hfirst happlied hq hgap href => ?gap,
    fun s f b r hidle hsends hmsg hother hread hbop => ?other⟩
  case stale =>
    refine completes_of (u := arrive s f 2) rfl ?_
    rw [arrive_forUs hidle hmsg hread hbop hus, hfirst, seqCheck_stale happlied]
    exact noted_completes hsends hread hbop (i := 12) (by decide) (by decide) (by decide) (by decide) rfl
  case gap =>
    have hcheck : seqCheck (bumpHb s 3) false r = (afterGap s r q, true) := by
      rw [seqCheck_gap happlied hq hgap, sendLate_answers (bridgeSends_bumpHb 3 (by decide) hsends) r _ _ (by decide)]
      rfl
    have halike := Alike.of (frame_afterGap s r q)
    have hserve : serveReq (afterGap s r q) r = interrupted (afterGap s r q) r := serveReq_irq ((halike.tgtRefuse r).trans href) hbop
    have hidle' : Idle (afterGap s r q).hb := idle_afterGap r q (idle_of_bridgeIdle hidle)
    obtain ⟨-, -, hlamp, -⟩ := id hidle
    refine completes_of (u := arrive s f 4) rfl ?_
    rw [arrive_forUs hidle hmsg hread hbop hus, hfirst, hcheck, if_pos rfl,
      busNext_serves hidle' ((halike.lampServes 9).trans hlamp) ((halike.needsBus r).trans (by simp [needsBus, isMbx, hbop]))
        (hserve ▸ idle_interrupted r hidle'), hserve]
    refine ⟨sent_settle (afterGap_sent hread q), ?_, ?_, frame_settle ((frame_afterGap s r q).andThen (frame_interrupted _ r))⟩
    · rw [settle_hb, afterGap_applied]
    · rw [settle_hb, interrupted_rirq, afterGap_rirq]
  case other =>
    refine completes_of (u := arrive s f 2) rfl ?_
    rw [arrive_other hidle hmsg hread hbop hother]
    exact noted_completes hsends hread hbop (i := 13) (by decide) (by decide) (by decide) (by decide) rfl

end Sys2Proof.Target
end

section
/-! SUPPORT. Requests of other nodes that are served (R302, R305, R306, R316, R319). -/

namespace Sys2Proof.Registers

open Sys2Proof.Machine Sys2Proof.Safety

/-! ### The register that takes every bit -/

-- Elaborated by itself, so that the proofs before it are checked before those after it begin: this bounds the memory that proofs under way take at once.
set_option Elab.async false in
/-- A register without RWL fields takes its RW bits, whatever is locked. -/
theorem rwBits_open {s : State} {off : Nat} {d : Desc} (h : desc off = some d) (hl : d.rwl = 0) : rwBits s off = BitVec.ofNat 32 d.rw := by
  simp [rwBits, h, hl, wd]

theorem rwMerge_scratch (s : State) (v : Word) : rwMerge s 0x14 0xF v = v := by
  have hd : desc 0x14 = some { rw := 0xFFFFFFFF } := by decide
  have hall : BitVec.ofNat 32 0xFFFFFFFF &&& beMask 0xF = BitVec.allOnes 32 := by decide
  simp only [rwMerge, rwBits_open hd rfl, hall, BitVec.and_allOnes, BitVec.not_allOnes, BitVec.and_zero, BitVec.zero_or]

/-- Outside the load of an image a plain write only stores. -/
theorem storeReg_plain {s : State} (off : Nat) (be : BitVec 4) (v : Word) (h : imageLoads s = false) :
    storeReg s off be v = setReg s off (rwMerge s off be v) := by
  have h' : imageLoads (setReg s off (rwMerge s off be v)) = false := h
  simp [storeReg, noteWrite, h']

theorem regWrite_scratch {s : State} (req : Req) (v : Word) (w : Bool) (h : imageLoads s = false) : regWrite s req 0x14 0xF v w = (setReg s 0x14 v, 0) := by
  have hblock : writeBlock s req 0x14 0xF v w = (storeReg s 0x14 0xF v, 0) := rfl
  have hassigned : (desc 0x14).isNone = false := by decide
  have hcmd : cmdReg 0x14 = false := by decide
  have hlow : ¬ (req = .host ∧ switchBusy s = true ∧ 0x1000 ≤ 0x14) := by omega
  rw [regWrite, hassigned, hcmd, if_neg (by simp), if_neg hlow, hblock, storeReg_plain _ _ _ h, rwMerge_scratch]

theorem imageLoads_of_committed {s : State} (h : committed s = true) : imageLoads s = false := by
  unfold committed at h
  unfold imageLoads
  cases hp : s.boot.phase <;> simp_all

end Sys2Proof.Registers

namespace Sys2Proof.Target

open Sys2Proof.Machine Sys2Proof.Safety Sys2Proof.Bridge Sys2Proof.Registers

/-! ### What each request does (Table 12-8) -/

/-- The register request of one word, byte enables all set. -/
theorem reqWords_one {r : HbReq} (ha : r.addr = 0x14) (hbe : r.be = 15) (hl : r.data.length = 4) : reqWords r = [(0x14, 0xF, unwire 1 r.data)] := by
  have hs : slice r.data 0 4 = r.data := by simp [slice, hl]
  simp [reqWords, ha, hbe, hl, hs]

theorem serveReq_write {s : State} {r : HbReq} (hc : committed s = true) (h : tgtRefuse s r = 0) (hbop : r.bop = 1 ∨ r.bop = 2) (hspace : r.space = 0)
    (ha : r.addr = 0x14) (hbe : r.be = 15) (hl : r.data.length = 4) : serveReq s r = reply (setReg s 0x14 (unwire 1 r.data)) r 0 [] := by
  have hw : farRegs (reqWords r) s = (setReg s 0x14 (unwire 1 r.data), 0) := by
    rw [reqWords_one ha hbe hl]
    simp only [farRegs, regWrite_scratch .far _ false (imageLoads_of_committed hc), if_pos]
  rcases hbop with hbop | hbop <;> simp only [serveReq, h, hbop, hspace, hw] <;> rfl

/-- A read of any other register than the three that latch or pop has no effect (R417). -/
theorem readEffect_plain {s : State} (req : Req) {off : Nat} (he : effectReg off = false) : readEffect s req off = s := by
  unfold readEffect
  split
  case h_4 => rfl
  all_goals exact absurd he (by decide)

theorem serveReq_read {s : State} {r : HbReq} (h : tgtRefuse s r = 0) (hbop : r.bop = 3) (hspace : r.space = 0) (he : effectReg r.addr = false) :
    serveReq s r = reply s r 0 (wireOf 1 (regRead s .far r.addr)) := by
  have hread : readEffect s .far r.addr = s := readEffect_plain .far he
  simp only [serveReq, h, hbop, hspace, hread]
  rfl

/-- A free semaphore is the sender's (R319). -/
def semTaken (s : State) (r : HbReq) (i : Fin 32) : State :=
  { s with hb := { s.hb with sems := s.hb.sems.set i r.src, semSeg := (i.val, r.win, r.tseq) :: s.hb.semSeg.filter (fun x => x.1 != i.val) } }

/-- The sender's semaphore is given back. -/
def semGiven (s : State) (i : Fin 32) : State :=
  { s with hb := { s.hb with sems := s.hb.sems.set i 0, semSeg := s.hb.semSeg.filter (fun x => x.1 != i.val) } }

theorem frame_semTaken (s : State) (r : HbReq) (i : Fin 32) : Frame [.hb] (fun _ => False) s (semTaken s r i) := frame_setHb s _
theorem frame_semGiven (s : State) (i : Fin 32) : Frame [.hb] (fun _ => False) s (semGiven s i) := frame_setHb s _

theorem lockFarBus_no {r : HbReq} (h : r.space ≠ 2) : lockFarBus r = false := by simp [lockFarBus, h]

theorem serveReq_lock {s : State} {r : HbReq} {i : Fin 32} (h : tgtRefuse s r = 0) (hbop : r.bop = 5) (hspace : r.space ≠ 2) (hi : r.addr % 32 = i.val)
    (hfree : s.hb.sems[i] = 0) : serveReq s r = reply (semTaken s r i) r 0 [] := by
  obtain ⟨i, hlt⟩ := i
  obtain rfl : i = r.addr % 32 := hi.symm
  have hlock : lockSem s r = reply (semTaken s r ⟨r.addr % 32, by omega⟩) r 0 [] := if_pos hfree
  simp only [serveReq, h, hbop, lockFarBus_no hspace, hlock]
  rfl

theorem serveReq_unlock {s : State} {r : HbReq} {i : Fin 32} (h : tgtRefuse s r = 0) (hbop : r.bop = 6) (hspace : r.space ≠ 2) (hi : r.addr % 32 = i.val)
    (hmine : s.hb.sems[i] = r.src) (hsrc : r.src ≠ 0) : serveReq s r = semGiven s i := by
  obtain ⟨i, hlt⟩ := i
  obtain rfl : i = r.addr % 32 := hi.symm
  have hgo : unlockGo s r = semGiven s ⟨r.addr % 32, by omega⟩ := by
    rw [unlockGo, if_neg (by simp [lockFarBus_no hspace])]
    exact if_pos ⟨hmine, hsrc⟩
  simp only [serveReq, h, hbop, hgo]
  rfl

/-- What a request leaves that is answered in state w. -/
theorem answered_completes {s w : State} {f b : Bytes} {r : HbReq} {k : Nat} {d : Bytes} {R : Nat → Prop} (hread : readReq f b = r) (hk : k < 256)
    (hf : Frame [.hb] R s w) (hR : ¬ R 0x9610) (hcount : Counted 0x960C 1 s w) {t : State} (ht : t = settle s (answered w r k r.tag 0 d)) :
    Sent [([BitVec.ofNat 8 r.src], [k, r.win, r.tseq, r.tag, 0])] s t ∧ t.hb = w.hb ∧ Counted 0x960C 1 s t ∧ Counted 0x9610 1 s t ∧
    Frame [.hb, .sch] (fun o => R o ∨ o = 0x9610) s t := by
  subst ht
  have hans := frame_answered w r k r.tag 0 d
  refine ⟨sent_settle (sent_answer hread d (hf.part .sch) hk (by decide)), by rw [settle_hb, answered_hb], counted_settle (by decide) ?_,
    counted_settle (by decide) ?_, frame_settle ((hf.within (by decide) (fun _ => Or.inl)).andThen hans (by decide) (fun _ => Or.inr))⟩
  · rw [Counted, hans.2 _ (by decide) (by decide)]
    exact hcount
  · rw [Counted, ← hf.2 0x9610 (by decide) hR]
    exact counted_answered w r k r.tag 0 d

/-- Settles O26. -/
theorem bridgeTargetComplete : Obligations.BridgeTargetComplete := by
  unfold Obligations.BridgeTargetComplete
  refine ⟨fun s f b r hidle hmsg hus hread hbop hspace ha hbe hl href hseq => ?posted,
    fun s f b r hidle hmsg hus hread hbop hspace ha hbe hl href hseq hsends => ?written,
    fun s f b r hidle hmsg hus hread hbop hspace he href hseq hsends => ?read,
    fun s f b r hidle hmsg hus hread hbop href hseq => ?irq,
    fun s f b r i hidle hmsg hus hread hbop hspace hi hfree href hseq hsends => ?lock,
    fun s f b r i hidle hmsg hus hread hbop hspace hi hmine hsrc href hseq => ?unlock⟩
  all_goals
    have halike := alike_received s r
    have href' : tgtRefuse (received s r) r = 0 := (halike.tgtRefuse r).trans href
    have hin : Idle (received s r).hb := idle_received r (idle_of_bridgeIdle hidle)
    have hcount := counted_received s r
    have hframe := frame_received s r
  case posted =>
    have hserve := serveReq_write (s := received s r) hidle.1 href' (.inl hbop) hspace ha hbe hl
    rw [reply_posted _ _ _ hbop] at hserve
    refine completes_of (u := arrive s f 1) rfl ?_
    rw [arrive_serves hidle hmsg hread hbop hus hseq (by simp [needsBus, isMbx, hspace]) (by rw [hserve, setReg_hb]; exact hin), hserve]
    refine ⟨by rw [reg_settle_ne _ _ (by decide), reg_setReg_same], by rw [settle_hb, setReg_hb, received_hb], counted_settle (by decide) ?_,
      frame_settle (hframe.within.andThen (frame_setReg _ _ _))⟩
    rw [Counted, reg_setReg_ne _ _ (by decide)]
    exact hcount
  case written =>
    have hf := (hframe.within (Q := [.hb]) (S := fun o => o = 0x14 ∨ o = 0x960C)).andThen (frame_setReg (received s r) 0x14 (unwire 1 r.data))
    have hserve := serveReq_write (s := received s r) hidle.1 href' (.inr hbop) hspace ha hbe hl
    rw [reply_npwrite ((Alike.of hf).bridgeSends hsends) _ _ _ hbop] at hserve
    refine completes_of (u := arrive s f 2) rfl ?_
    rw [arrive_serves hidle hmsg hread hbop hus hseq (by simp [needsBus, isMbx, hspace]) (by rw [hserve, answered_hb, setReg_hb]; exact hin), hserve]
    obtain ⟨hsent, hhb, hin3, hout4, hfr⟩ := answered_completes (k := 0x81) hread (by decide) hf (by decide)
      (by rw [Counted, reg_setReg_ne _ _ (by decide)]; exact hcount) rfl
    refine ⟨?_, hsent, by rw [hhb, setReg_hb, received_hb], hin3, hout4, hfr.within (by decide) (fun o => by omega)⟩
    rw [reg_settle_ne _ _ (by decide), (frame_answered _ _ _ _ _ _).2 _ (by decide) (by decide), reg_setReg_same]
  case read =>
    have hserve := serveReq_read href' hbop hspace he
    rw [reply_read (halike.bridgeSends hsends) _ _ _ hbop] at hserve
    refine completes_of (u := arrive s f 3) rfl ?_
    rw [arrive_serves hidle hmsg hread hbop hus hseq (by simp [needsBus, isMbx, hspace]) (by rw [hserve, answered_hb]; exact hin), hserve]
    obtain ⟨hsent, hhb, hin3, hout4, hfr⟩ := answered_completes (k := 0x83) hread (by decide) hframe (by decide) hcount rfl
    exact ⟨hsent, by rw [hhb, received_hb], hin3, hout4, hfr⟩
  case irq =>
    have hserve := serveReq_irq href' hbop
    refine completes_of (u := arrive s f 4) rfl ?_
    rw [arrive_serves hidle hmsg hread hbop hus hseq (by simp [needsBus, isMbx, hbop]) (by rw [hserve]; exact idle_interrupted r hin), hserve]
    exact ⟨by rw [settle_hb]; rfl, counted_settle (by decide) hcount, frame_settle (hframe.within.andThen (frame_interrupted _ r))⟩
  case lock =>
    have hserve := serveReq_lock href' hbop hspace hi hfree
    have hf := hframe.andThen (frame_semTaken (received s r) r i)
    rw [reply_lock ((Alike.of hf).bridgeSends hsends) _ _ _ hbop] at hserve
    have hrx : lockRx s f [] = arrive s f 5 := by simp [lockRx]
    refine completes_of (u := lockRx s f []) rfl ?_
    rw [hrx, arrive_serves hidle hmsg hread hbop hus hseq (by simp [needsBus, isMbx, hbop]) (by rw [hserve, answered_hb]; exact hin), hserve]
    obtain ⟨hsent, hhb, hin3, hout4, hfr⟩ := answered_completes (k := 0x85) hread (by decide) hf (by decide) hcount rfl
    exact ⟨by rw [hhb]; rfl, hsent, hin3, hout4, hfr⟩
  case unlock =>
    have hserve := serveReq_unlock href' hbop hspace hi hmine hsrc
    refine completes_of (u := arrive s f 6) rfl ?_
    rw [arrive_serves hidle hmsg hread hbop hus hseq (by simp [needsBus, isMbx, hbop]) (by rw [hserve]; exact hin), hserve]
    exact ⟨by rw [settle_hb]; rfl, counted_settle (by decide) hcount, frame_settle (hframe.within.andThen (frame_semGiven _ i))⟩

end Sys2Proof.Target
end

section
/-! SUPPORT. Answers and ends of this node's requests (R310, R311, R313, R314, R318). -/

namespace Sys2Proof.Initiator

open Sys2Proof.Machine Sys2Proof.Safety Sys2Proof.Bridge Sys2Proof.Registers

/-! ### The end of a tag -/

-- Elaborated by itself, so that the proofs before it are checked before those after it begin: this bounds the memory that proofs under way take at once.
set_option Elab.async false in
/-- The host's access ends with the answer to the tag it is held on. -/
theorem answerTag_held {s : State} {g : Nat} {x : Tag} {h : Held} (hx : x.held = true) (hk : x.kind ≠ 2) (hh : s.hb.held = some h) (d : Word) :
    answerTag s g x 0 d = emit { s with hb := { s.hb with tags := mdel s.hb.tags g, held := none } } (.access 0 0) := by
  rw [answerTag, if_pos hx]
  simp only [if_neg hk, endHeld, dropTag, hh]
  rfl

theorem answerTag_lock {s : State} {g : Nat} {x : Tag} {h : Held} (hx : x.held = true) (hk : x.kind = 2) (hh : s.hb.held = some h) (d : Word) :
    answerTag s g x 0 d = emit { s with hb := { s.hb with tags := mdel s.hb.tags g, held := none, lockWin := none, denies := 0 } } (.access 0 0) := by
  rw [answerTag, if_pos hx]
  simp only [if_pos hk, endHeld, dropTag, hh]
  rfl

/-- An answer goes to the tag it names. -/
theorem takeAnswer_open {s : State} {f b : Bytes} {bop kind g : Nat} {x : Tag} (hb : bridgeMsg f = some b) (hu : forUs s b = true)
    (hk : byteAt b 14 = bop) (ha : answers s b (readHdr f).src kind = some (g, x)) (k : State → Nat → Tag → Bytes → State) :
    takeAnswer s f bop kind k = k s g x b := by
  simp [takeAnswer, hb, hu, hk, ha]

/-- A tag that an answer names is of its kind. -/
theorem kind_of_answers {s : State} {b : Bytes} {src kind g : Nat} {x : Tag} (h : answers s b src kind = some (g, x)) : x.kind = kind := by
  unfold answers at h
  split at h
  · split at h
    · rename_i hx
      obtain ⟨-, rfl⟩ := Prod.mk.inj (Option.some.inj h)
      exact hx.1
    · cases h
  · cases h

theorem frame_access (s : State) (b : Bridge) (o : Out) : Frame [.hb, .out] (fun _ => False) s (emit { s with hb := b } o) :=
  (frame_setHb s b).within.andThen (frame_emit _ o)

/-! ### The late-error log -/

/-- An entry joins the log where there is room. -/
theorem logLate_room {s : State} (e : LateEnt) (h : s.hb.log.length < 16) : logLate s e = { s with hb := { s.hb with log := s.hb.log ++ [e] } } := if_pos h

/-- The log and HB_ISTAT after a LATE. -/
def lateLogged (s : State) (e : LateEnt) : State := { s with hb := { s.hb with log := s.hb.log ++ [e], istat := s.hb.istat ||| 4 } }

/-- The late errors of window n, one more. -/
def lateCounted (s : State) (n : Nat) : State := setWin s n (fun w => { w with late := min 0xFFFF (w.late + 1) })

/-- A LATE of a window without POISON_EN. -/
theorem lateFor_plain {s : State} {e : LateEnt} (h : s.hb.log.length < 16) (hp : bitAt (winCfg s e.win) 16 = false) :
    lateFor s e true = lateCounted (hbEventLim (lateLogged s e) 0x9010 2 e.win e.win e.handle e.tseq e.code) e.win := by
  have hset : setIstat (logLate s e) 2 = lateLogged s e := by
    rw [logLate_room e h]
    rfl
  unfold lateFor
  simp only [hp, Bool.or_false, Bool.and_false, hset]
  rfl

theorem lateCounted_win (s : State) (n : Nat) (m : Fin 16) :
    (lateCounted s n).hb.wins[m] = if m.val = n then { s.hb.wins[m] with late := min 0xFFFF (s.hb.wins[m].late + 1) } else s.hb.wins[m] := by
  by_cases h : m.val = n
  · subst h
    simp [lateCounted, setWin]
  · simp [lateCounted, setWin, h, Ne.symm h]

theorem frame_lateCounted (s : State) (n : Nat) : Frame [.hb] (fun _ => False) s (lateCounted s n) := frame_setHb s _
theorem frame_lateLogged (s : State) (e : LateEnt) : Frame [.hb] (fun _ => False) s (lateLogged s e) := frame_setHb s _

theorem frame_hbEventLim (s : State) (code sev inst w g q c : Nat) : Frame [.log] (· = 0xC180) s (hbEventLim s code sev inst w g q c) :=
  frame_raiseLim s _ _ _ _ _

/-- The first event of its code and unit since the node runs. -/
theorem raised_hbEventLim {s u : State} (code sev inst w g q c : Nat) (hl : u.log = s.log) (hc : coreRun u = true)
    (hm : mkEvent u code sev inst [w, g, q, c] = mkEvent s code sev inst [w, g, q, c])
    (hfirst : mget s.log.limits (4096 * code + inst) = none) : Raised [(code, sev, inst, [w, g, q, c])] s (hbEventLim u code sev inst w g q c) := by
  rw [Raised, hbEventLim_first u code sev inst w g q c hc (by rw [hl, hfirst]), hl, hm]
  rfl

theorem raised_settle {evs : List (Nat × Nat × Nat × List Nat)} {s t u : State} (h : Raised evs s t) (hl : u.log = t.log := by rfl) : Raised evs s
    (settle s u) := by
  rw [Raised, settle_log, hl]
  exact h

/-- The entry of a LATE message that names its window. -/
def lateEntry (s : State) (f b : Bytes) (stamp : Nat) : LateEnt :=
  { code := byteAt b 21, win := byteAt b 16 % 16, tseq := beAt b 18 2, handle := (readHdr f).src, off := beAt b 22 4 % winSize s (byteAt b 16 % 16)
    stamp := (ttAt s.tb stamp / nsU).toNat }

theorem lateRx_named {s : State} {f b : Bytes} (stamp : Nat) (hb : bridgeMsg f = some b) (hu : forUs s b = true) (hk : byteAt b 14 = 0x90)
    (hlost : byteAt b 21 ≠ 0x16) (hbroken : byteAt b 21 ≠ 0x18) : lateRx s f stamp = lateFor s (lateEntry s f b stamp) true := by
  simp [lateRx, hb, hu, hk, hlost, hbroken, lateEntry]

/-- The bridge after the first LATE of a window without POISON_EN. -/
theorem lateFor_hb {s : State} {e : LateEnt} (h : s.hb.log.length < 16) (hp : bitAt (winCfg s e.win) 16 = false) :
    (lateFor s e true).hb = (lateCounted (lateLogged s e) e.win).hb := by
  rw [lateFor_plain h hp]
  simp only [lateCounted, setWin, hbEventLim_hb]

theorem frame_lateFor {s : State} {e : LateEnt} (h : s.hb.log.length < 16) (hp : bitAt (winCfg s e.win) 16 = false) :
    Frame [.hb, .log] (· = 0xC180) s (lateFor s e true) := by
  rw [lateFor_plain h hp]
  exact ((frame_lateLogged s e).within.andThen (frame_hbEventLim _ _ _ _ _ _ _ _)).andThen (frame_lateCounted _ _)

theorem raised_lateFor {s : State} {e : LateEnt} (hc : coreRun s = true) (h : s.hb.log.length < 16) (hp : bitAt (winCfg s e.win) 16 = false)
    (hl : mget s.log.limits (4096 * 0x9010 + e.win) = none) : Raised [(0x9010, 2, e.win, [e.win, e.handle, e.tseq, e.code])] s (lateFor s e true) := by
  rw [lateFor_plain h hp]
  exact raised_hbEventLim (u := lateLogged s e) _ _ _ _ _ _ _ rfl hc rfl hl

/-- Settles O25. -/
theorem bridgeAnswersComplete : Obligations.BridgeAnswersComplete := by
  unfold Obligations.BridgeAnswersComplete
  refine ⟨fun s f b g x h hmsg hus hbop hans hx hh hcode => ?wack, fun s f b g x hmsg hus hbop hans hx => ?rdata,
    fun s f b g x h hmsg hus hbop hans hx hh hcode => ?lockack, fun s f b stamp hc hmsg hus hbop hlost hbroken hroom hlim hpoison => ?late,
    fun s g x hc hx ha hh hl => ?timeout, fun s g x c d hc hx ha hk hl => ?discard⟩
  case wack =>
    have hk : x.kind ≠ 2 := by rw [kind_of_answers hans]; decide
    refine completes_of (u := wackRx s f) rfl ?_
    rw [wackRx, takeAnswer_open hmsg hus hbop hans, hcode, answerTag_held hx hk hh]
    exact ⟨by rw [settle_hb]; rfl, by rw [settle_out]; rfl, frame_settle (frame_access s _ _)⟩
  case rdata =>
    refine completes_of (u := rdataRx s f) rfl ?_
    rw [rdataRx, takeAnswer_open hmsg hus hbop hans, answerTag_waits _ _ _ _ _ hx]
    exact ⟨by rw [settle_hb]; rfl, frame_settle (frame_setHb s _)⟩
  case lockack =>
    refine completes_of (u := lockackRx s f) rfl ?_
    rw [lockackRx, takeAnswer_open hmsg hus hbop hans]
    simp only [hcode, if_pos]
    rw [answerTag_lock (s := { s with hb := { s.hb with locked := some x.win, denies := 0 } }) hx (kind_of_answers hans) hh]
    exact ⟨by rw [settle_hb]; rfl, by rw [settle_out]; rfl, frame_settle (frame_access s _ _)⟩
  case late =>
    refine completes_of (u := lateRx s f stamp) rfl ?_
    rw [lateRx_named stamp hmsg hus hbop hlost hbroken]
    have hhb := lateFor_hb (e := lateEntry s f b stamp) hroom hpoison
    refine ⟨by rw [settle_hb, hhb]; rfl, by rw [settle_hb, hhb]; rfl, by rw [settle_hb, hhb]; rfl, by rw [settle_hb, hhb]; rfl, fun m => ?_,
      raised_settle (raised_lateFor (e := lateEntry s f b stamp) hc hroom hpoison hlim) rfl,
      frame_settle (frame_lateFor (e := lateEntry s f b stamp) hroom hpoison)⟩
    rw [settle_hb, hhb]
    exact lateCounted_win (lateLogged s (lateEntry s f b stamp)) _ m
  case timeout =>
    have hgo : tagTimeout s g = putTag (hbEventLim (setIstat (bumpHb s 7) 4) 0x9020 2 0xFFF x.win x.handle x.tseq 0x20) g.val
        { x with answer := some (0x20, 0) } := by
      simp only [tagTimeout, hx, ha, answerTag_waits _ _ _ _ _ hh]
      rfl
    refine completes_of (u := tagTimeout s g) rfl ?_
    have hraised := (tagTimeout_ends s g x hc hx ha hh hl).2
    have hframe : Frame [.hb, .log] (fun o => o = 0x961C ∨ o = 0xC180) s (tagTimeout s g) := by
      rw [hgo]
      exact (((frame_bumpHb s 7).within.andThen (frame_setHb (bumpHb s 7) _)).andThen (frame_hbEventLim _ _ _ _ _ _ _ _)).andThen (frame_setHb _ _)
    refine ⟨?_, raised_settle hraised rfl, counted_settle (by decide) ?_, frame_settle hframe⟩
    · rw [hgo, settle_hb, putTag, hbEventLim_hb]
      rfl
    · rw [hgo, Counted]
      exact (reg_hbEventLim_ne (setIstat (bumpHb s 7) 4) _ _ _ _ _ _ _ (by decide)).trans (counted_bumpHb s 7)
  case discard =>
    have hgo : delayedDiscard s g = hbEventLim (dropTag (setIstat (bumpHb s 9) 3) g.val) 0x9021 1 0xFFF x.win x.handle x.tseq c := by
      simp [delayedDiscard, hx, ha, hk]
    have hframe : Frame [.hb, .log] (fun o => o = 0x9624 ∨ o = 0xC180) s (delayedDiscard s g) := by
      rw [hgo]
      exact (((frame_bumpHb s 9).within.andThen (frame_setHb (bumpHb s 9) _)).andThen (frame_dropTag _ _)).andThen (frame_hbEventLim _ _ _ _ _ _ _ _)
    obtain ⟨-, hcount, hraised⟩ := delayedDiscard_ends s g x c d hc hx ha hk hl
    refine completes_of (u := delayedDiscard s g) rfl ⟨?_, raised_settle hraised rfl, counted_settle (by decide) hcount, frame_settle hframe⟩
    rw [settle_hb, hgo, hbEventLim_hb]
    rfl

end Sys2Proof.Initiator
end

section
/-! SUPPORT. Remote accesses of the host and SPI frames (R299, R308, R310). -/

namespace Sys2Proof.Initiator

open Sys2Proof.Machine Sys2Proof.Safety Sys2Proof.Bridge Sys2Proof.Registers Sys2Proof.Target

/-! ### A request leaves -/

-- Elaborated by itself, so that the proofs before it are checked before those after it begin: this bounds the memory that proofs under way take at once.
set_option Elab.async false in
/-- What a request that leaves changes: the frames that wait, and the TSEQ, FIRST and record of its target. -/
theorem frame_sendReq {s : State} (n bop tag addr be off : Nat) (d : Bytes) (hq : BridgeSends s) (hd : d.length ≤ 64) :
    Frame [.hb, .sch] (fun _ => False) s (sendReq s n bop tag addr be d off) := by
  have hsend (h : HbHdr) := sendBridge_pushes s (winHandle s n) (handleMac s (winHandle s n)) h d hq hd
  unfold sendReq
  simp only [hsend]
  exact frame_of_regs

theorem sendReq_tseq {s : State} (n bop tag addr be off : Nat) (d : Bytes) (hq : BridgeSends s) (hd : d.length ≤ 64) :
    nextTseq (sendReq s n bop tag addr be d off) (winHandle s n) = (nextTseq s (winHandle s n) + 1) % 65536 := by
  have hsend (h : HbHdr) := sendBridge_pushes s (winHandle s n) (handleMac s (winHandle s n)) h d hq hd
  rw [nextTseq]
  simp only [sendReq, hsend, mget_mput_same, Option.getD_some]

theorem sendReq_held {s : State} (n bop tag addr be off : Nat) (d : Bytes) (hq : BridgeSends s) (hd : d.length ≤ 64) :
    (sendReq s n bop tag addr be d off).hb.held = s.hb.held := by
  have hsend (h : HbHdr) := sendBridge_pushes s (winHandle s n) (handleMac s (winHandle s n)) h d hq hd
  simp only [sendReq, hsend]

theorem length_wireOf (o : Nat) (w : Word) : (wireOf o w).length ≤ 64 := by
  unfold wireOf
  dsimp only
  split <;> simp [slice]

/-! ### Accesses that nothing refuses -/

section Access

variable {s : State} {addr be n : Nat}

/-- A posted write leaves as PWRITE. -/
theorem remoteWrite_posts {v : Word} (hr : remoteRefuse s addr be true = (0, n)) (hp : bitAt (winCfg s n) 19 = false) (hl : s.hb.locked ≠ some n)
    (hw : writeTag s addr be v = none) (hb : bridgeBusy s = false) (canHold : Bool) : remoteWrite s addr be v false canHold =
      (bumpHb (sendReq s n 1 0xFF (winRofs s n + (addr - winBase s n)) be (wireOf (winOrder s n) v) (addr - winBase s n)) 0, 0) := by
  simp [remoteWrite, hw, hr, hp, hl, hb]

/-- The tag of a held write through window n, as it is taken. -/
def newWrite (s : State) (n addr be : Nat) (v : Word) : Tag :=
  { kind := 1, win := n, addr := addr, be := be, data := v, handle := winHandle s n, tseq := nextTseq s (winHandle s n), held := true }

/-- A non-posted write with its tag open and its request on the way. -/
def npOpened (s : State) (n g addr be : Nat) (v : Word) : State :=
  sendReq (putTag s g (newWrite s n addr be v)) n 2 g (winRofs s n + (addr - winBase s n)) be (wireOf (winOrder s n) v) (addr - winBase s n)

/-- The host's access waits for the answer. -/
def withHeld (s : State) (h : Held) : State := { s with hb := { s.hb with held := some h } }

@[simp] theorem withHeld_sch (s : State) (h : Held) : (withHeld s h).sch = s.sch := rfl
@[simp] theorem withHeld_tags (s : State) (h : Held) : (withHeld s h).hb.tags = s.hb.tags := rfl
@[simp] theorem reg_withHeld (s : State) (h : Held) (o : Nat) : reg (withHeld s h) o = reg s o := rfl

/-- The state in which a non-posted write waits: its tag open, its access held. -/
def npWritten (s : State) (n g addr be : Nat) (v : Word) : State :=
  withHeld (bumpHb (npOpened s n g addr be v) 1) { addr := addr, be := be, data := v, lock := false }

theorem npOpened_eq (s : State) (n g addr be : Nat) (v : Word) : npOpened s n g addr be v =
    openTag s g 1 n addr be v (winRofs s n + (addr - winBase s n)) (wireOf (winOrder s n) v) (addr - winBase s n) true := rfl

theorem remoteWrite_holds {v : Word} {g : Nat} (hr : remoteRefuse s addr be true = (0, n)) (hp : bitAt (winCfg s n) 19 = true ∨ s.hb.locked = some n)
    (hw : writeTag s addr be v = none) (hb : bridgeBusy s = false) (hg : freeTag s = some g) :
    remoteWrite s addr be v false true = (npWritten s n g addr be v, hold) := by
  have hnp : (bitAt (winCfg s n) 19 || decide (s.hb.locked = some n)) = true := by
    rcases hp with h | h <;> simp [h]
  rw [npWritten, npOpened_eq, withHeld]
  simp [remoteWrite, hw, hr, hnp, npWrite, hb, hg]

end Access

/-! ### Tags opened -/

theorem openTag_readReq (s : State) (g n addr be tofs off : Nat) :
    openTag s g 0 n addr be 0 tofs [] off false = sendReq (putTag s g (newRead s n addr be)) n 3 g tofs be [] off := rfl

theorem frame_putTag (s : State) (g : Nat) (x : Tag) : Frame [.hb] (fun _ => False) s (putTag s g x) := frame_setHb s _

theorem winAt_refuse_lt {s : State} {addr be n : Nat} {w : Bool} (h : remoteRefuse s addr be w = (0, n)) : n < 16 := winAt_lt (winAt_of_not_refused h)

section NpWritten

variable {s : State} (n g addr be : Nat) (v : Word) (hq : BridgeSends s)

include hq

theorem frame_npOpened : Frame [.hb, .sch] (fun _ => False) s (npOpened s n g addr be v) := by
  unfold npOpened
  exact (frame_putTag s g _).within.andThen (frame_sendReq (s := putTag s g _) n 2 g _ be _ _ hq (length_wireOf _ _))

theorem frame_npWritten : Frame [.hb, .sch] (· = 0x9604) s (npWritten s n g addr be v) :=
  ((frame_npOpened n g addr be v hq).within.andThen (frame_bumpHb _ 1)).andThen (frame_setHb _ _)

theorem counted_npWritten : Counted 0x9604 1 s (npWritten s n g addr be v) := by
  have hf := frame_npOpened n g addr be v hq
  rw [Counted, npWritten, reg_withHeld, ← hf.2 0x9604 (by decide) (by simp)]
  exact counted_bumpHb _ 1

theorem npOpened_sends : mget (npOpened s n g addr be v).hb.tags g = some (newWrite s n addr be v) ∧
    Sent [([BitVec.ofNat 8 (winHandle s n)], [2, n % 256, nextTseq s (winHandle s n) % 65536, g % 256, 0])] s (npOpened s n g addr be v) := by
  obtain ⟨htags, hsent⟩ := sendReq_sends (putTag s g (newWrite s n addr be v)) n 2 g (winRofs s n + (addr - winBase s n)) be (addr - winBase s n)
    (wireOf (winOrder s n) v) hq (length_wireOf _ _)
  refine ⟨?_, hsent⟩
  rw [npOpened, htags]
  exact mget_mput_same _ _ _

theorem npWritten_sent (hn : n < 16) (hg : g < 64) :
    Sent [([BitVec.ofNat 8 (winHandle s n)], [2, n, nextTseq s (winHandle s n) % 65536, g, 0])] s (npWritten s n g addr be v) := by
  have hsent := (npOpened_sends n g addr be v hq).2
  rw [Nat.mod_eq_of_lt (show n < 256 by omega), Nat.mod_eq_of_lt (show g < 256 by omega)] at hsent
  exact sent_congr hsent (by rw [npWritten, withHeld_sch, bumpHb_sch])

end NpWritten

/-- A read with its tag open and its request on the way. -/
def readOpened (s : State) (n g addr be : Nat) : State :=
  openTag s g 0 n addr be 0 (winRofs s n + (addr - winBase s n)) [] (addr - winBase s n) false

theorem frame_readOpened {s : State} (n g addr be : Nat) (hq : BridgeSends s) : Frame [.hb, .sch] (fun _ => False) s (readOpened s n g addr be) := by
  unfold readOpened
  rw [openTag_readReq]
  exact (frame_putTag s g _).within.andThen (frame_sendReq (s := putTag s g _) n 3 g _ be _ [] hq (by simp))

theorem readOpened_sends {s : State} (n g addr be : Nat) (hq : BridgeSends s) (hn : n < 16) (hg : g < 64) :
    mget (readOpened s n g addr be).hb.tags g = some (newRead s n addr be) ∧
    Sent [([BitVec.ofNat 8 (winHandle s n)], [3, n, nextTseq s (winHandle s n) % 65536, g, 0])] s (readOpened s n g addr be) := by
  have hboth := openTag_read s g n addr be (winRofs s n + (addr - winBase s n)) (addr - winBase s n) hq
  rwa [Nat.mod_eq_of_lt (show n < 256 by omega), Nat.mod_eq_of_lt (show g < 256 by omega)] at hboth

theorem endAccess_hold (s : State) (a : Nat) : endAccess a (s, hold) = s := if_pos rfl

theorem frame_lrty (s : State) : Frame [.out] (· = 0x9614) s (lrty s) := (frame_bumpHb s 5).within.andThen (frame_emit _ _)

/-! ### SPI frames (R299) -/

theorem committed_of_spiAlive {s : State} (h : spiAlive s = true) : committed s = true := by
  simp [spiAlive, hostAlive] at h
  exact h.1.1.1

/-- Settles O24. -/
theorem remoteAccessesComplete : Obligations.RemoteAccessesComplete := by
  unfold Obligations.RemoteAccessesComplete
  refine ⟨fun s addr be v n hf h1 h2 hc hr hp hl hw hb hq => ?posted, fun s addr be v n g hf h1 h2 hc hr hp hq hw hb hg => ?held,
    fun s addr be n g hf h1 h2 hc hr hq ht hb hg => ?read, fun s addr be g x d hf h1 h2 hc ht ha => ?collected,
    fun s a v hs hheld howns hbusy haddr hbe => ?spiWrite, fun s a hs haddr he hbe => ?spiRead⟩
  case posted =>
    have hn := winAt_refuse_lt hr
    have hfree : s.hb.held = none := by simp [lbusFree] at hf; exact hf.1.2
    have hlen := length_wireOf (winOrder s n) v
    have hframe := frame_sendReq n 1 0xFF (winRofs s n + (addr - winBase s n)) be.toNat (addr - winBase s n) _ hq hlen
    obtain ⟨htags, hsent⟩ := sendReq_sends s n 1 0xFF (winRofs s n + (addr - winBase s n)) be.toNat (addr - winBase s n) _ hq hlen
    have htseq := sendReq_tseq n 1 0xFF (winRofs s n + (addr - winBase s n)) be.toNat (addr - winBase s n) _ hq hlen
    have hheld := sendReq_held n 1 0xFF (winRofs s n + (addr - winBase s n)) be.toNat (addr - winBase s n) _ hq hlen
    refine completes_of (u := lbusWrite s addr be v false) rfl ?_
    rw [lbusWrite_remote hf hc h1 h2, remoteWrite_posts hr hp hl hw hb]
    generalize sendReq s n 1 0xFF (winRofs s n + (addr - winBase s n)) be.toNat (wireOf (winOrder s n) v) (addr - winBase s n) = u at *
    rw [Nat.mod_eq_of_lt (show n < 256 by omega)] at hsent
    refine ⟨?_, sent_settle (sent_congr hsent rfl), ?_, ?_, ?_, counted_settle (by decide) ?_,
      frame_settle ((hframe.within.andThen (frame_bumpHb u 0)).andThen (frame_emit _ _))⟩
    · rw [settle_out]
      exact congrArg _ (hframe.part .out)
    · rw [nextTseq, settle_hb]
      exact htseq
    · rw [settle_hb]
      exact htags
    · rw [settle_hb]
      exact hheld.trans hfree
    · rw [Counted, ← hframe.2 0x9600 (by decide) (by simp)]
      exact counted_bumpHb u 0
  case held =>
    have hn := winAt_refuse_lt hr
    have hframe := frame_npWritten n g addr be.toNat v hq
    refine completes_of (u := lbusWrite s addr be v false) rfl ?_
    rw [lbusWrite_remote hf hc h1 h2, remoteWrite_holds hr hp hw hb hg, endAccess_hold]
    refine ⟨?_, by rw [settle_hb]; rfl, ?_, sent_settle (npWritten_sent n g addr be.toNat v hq hn (freeTag_lt hg)),
      counted_settle (by decide) (counted_npWritten n g addr be.toNat v hq), frame_settle hframe⟩
    · rw [settle_out]
      exact hframe.part .out
    · rw [settle_hb]
      rw [npWritten, withHeld_tags, bumpHb_hb]
      exact (npOpened_sends n g addr be.toNat v hq).1
  case read =>
    have hn := winAt_refuse_lt hr
    have hread : remoteRead s addr be.toNat = ((bumpHb (readOpened s n g addr be.toNat) 2, retry), 0) := remoteRead_starts ht hr hb hg
    have hframe := frame_readOpened n g addr be.toNat hq
    obtain ⟨htag, hsent⟩ := readOpened_sends n g addr be.toNat hq hn (freeTag_lt hg)
    refine completes_of (u := lbusRead s addr be) rfl ?_
    rw [lbusRead_remote hf hc h1 h2 hread (show retry ≠ 0 by decide), endAccess_retry]
    clear hread
    generalize readOpened s n g addr be.toNat = u at hframe htag hsent ⊢
    have hall := ((hframe.within (Q := [.hb, .sch, .out]) (S := fun o => o = 0x9608 ∨ o = 0x9614)).andThen (frame_bumpHb _ 2)).andThen (frame_lrty _)
    refine ⟨?_, by rw [settle_hb, lrty_hb, bumpHb_hb]; exact htag, sent_settle (sent_congr hsent (by rw [lrty_sch, bumpHb_sch])),
      counted_settle (by decide) ?_, counted_settle (by decide) ?_, frame_settle hall⟩
    · rw [settle_out, lrty_out, ← hframe.part .out]
      rfl
    · rw [Counted, (frame_lrty _).2 _ (by decide) (by decide), ← hframe.2 0x9608 (by decide) (by simp)]
      exact counted_bumpHb u 2
    · rw [Counted, ← hframe.2 0x9614 (by decide) (by simp), ← (frame_bumpHb u 2).2 0x9614 (by decide) (by decide)]
      exact counted_bumpHb (bumpHb u 2) 5
  case collected =>
    have hread := remoteRead_answered ht ha
    have hgo : lbusRead s addr be = lrdy (dropTag s g) d := by
      have a1 : ¬ addr < 0x10000 := by omega
      have a2 : ¬ addr < 0x200000 := by omega
      have a3 : ¬ addr < 0x240000 := by omega
      simp [lbusRead, hostRead, hf, hc, h1, h2, a1, a2, a3, hread]
    refine completes_of (u := lbusRead s addr be) rfl ?_
    rw [hgo]
    exact ⟨by rw [settle_out]; rfl, by rw [settle_hb]; rfl, frame_settle ((frame_dropTag s g).within.andThen (frame_emit _ _))⟩
  case spiWrite =>
    have hgo : spiWriteFrame s a [v] = emit (setReg s 0x14 v) (.spi 0 1 0) := by
      have hw := regWrite_scratch (s := s) .host v false (imageLoads_of_committed (committed_of_spiAlive hs))
      have hhost : hostWrite s 0x14 0xF v false false = (setReg s 0x14 v, 0) := hw
      have hlen : spiAlive s && decide (1 ≤ [v].length) && decide ([v].length ≤ 64) := by simp [hs]
      rw [spiWriteFrame, if_pos hlen, haddr, hbe]
      simp only [spiWords]
      rw [show BitVec.ofNat 4 0xF = 0xF from rfl, hhost]
      rfl
    refine completes_of (u := spiWriteFrame s a [v]) rfl ?_
    rw [hgo]
    exact ⟨by rw [reg_settle_ne _ _ (by decide), reg_emit, reg_setReg_same], by rw [settle_out]; rfl,
      frame_settle ((frame_setReg s 0x14 v).within.andThen (frame_emit _ _))⟩
  case spiRead =>
    have hgo : spiReadFrame s a = emit s (.spi 0 1 (regRead s .host (4 * fld a 25 2))) := by
      have hhost : hostRead s (4 * fld a 25 2) 0xF = ((s, 0), regRead s .host (4 * fld a 25 2)) := by
        rw [hostRead, if_neg (by decide), if_pos haddr, readEffect_plain .host he]
      rw [spiReadFrame, if_pos hs, hbe, show BitVec.ofNat 4 0xF = 0xF from rfl, hhost]
      rfl
    refine completes_of (u := spiReadFrame s a) rfl ?_
    rw [hgo]
    exact ⟨by rw [settle_out]; rfl, frame_settle (frame_emit _ _)⟩

end Sys2Proof.Initiator
end

section
/-! SUPPORT. Mastering LBUS: the grant, the end of an access and the bus given back (R298, R322). -/

namespace Sys2Proof.Target

open Sys2Proof.Machine Sys2Proof.Safety Sys2Proof.Bridge Sys2Proof.Registers Sys2Proof.Initiator

-- Elaborated by itself, so that the proofs before it are checked before those after it begin: this bounds the memory that proofs under way take at once.
set_option Elab.async false in
/-- Where no request can be served, none is. -/
theorem drainReqs_stays {s : State} (h : readyIdx s (if s.hb.acc then (s.hb.inq.head?.map HbReq.src).toList else []) s.hb.inq 0 = none) (n : Nat) :
    drainReqs n s = s := by
  cases n with
  | zero => rfl
  | succ n =>
    rw [drainReqs, h]
    exact ite_self _

/-- The bridge's hold on LBUS: LBR# low, the bus owned, LBG# removed, an access under way. -/
def withBus (s : State) (bus owns gone acc : Bool) : State := { s with hb := { s.hb with bus := bus, owns := owns, gone := gone, acc := acc } }

theorem frame_withBus (s : State) (bus owns gone acc : Bool) : Frame [.hb] (fun _ => False) s (withBus s bus owns gone acc) := frame_setHb s _

/-- With nothing waiting the bridge that owns the bus gives it back. -/
theorem busNext_releases {s : State} (hq : s.hb.inq = []) (hacc : s.hb.acc = false) (howns : s.hb.owns = true) (hfar : s.hb.far = none) :
    busNext s = withBus s false false false false := by
  have hw : busWanted (withBus s false false false false) = false := by simp [busWanted, withBus, hq, hfar]
  have hrel : releaseBus s = withBus s false false false false := if_neg (by rw [← Bool.not_eq_true] at hw; exact hw)
  unfold busNext
  simp only [drainReqs_empty hq]
  rw [if_neg (by simp [hacc]), if_pos howns]
  split
  · exact hrel
  · simp only [current, hfar, hq, List.head?_nil, Option.isSome_none, Bool.false_eq_true, if_false]
    exact hrel

/-- With nothing waiting LBR# goes high. -/
theorem busNext_empty {s : State} (hq : s.hb.inq = []) (hacc : s.hb.acc = false) (howns : s.hb.owns = false) (hfar : s.hb.far = none) :
    busNext s = { s with hb := { s.hb with bus := false } } := by
  have hw : busWanted s = false := by simp [busWanted, hq, hfar]
  unfold busNext
  simp only [drainReqs_empty hq]
  rw [if_neg (by simp [hacc]), if_neg (by simp [howns]), if_neg (by simp [hw])]

/-- The request served is off the queue. -/
theorem dropReq_last {s : State} {r : HbReq} (h : s.hb.inq = [r]) : dropReq s r = withInq s [] := by
  unfold dropReq withInq
  rw [h, List.erase_cons_head]

theorem frame_withInq (s : State) (l : List HbReq) : Frame [.hb] (fun _ => False) s (withInq s l) := frame_setHb s _

/-- The access of a read goes out (R322). -/
theorem startBeat_read {s : State} {r : HbReq} {m a : Nat} (hbop : r.bop = 3) (hbeat : r.beat = 0) (h : mbxAt s false r.addr 4 = some (m, a)) :
    startBeat s r = emit (bumpHb { s with hb := { s.hb with acc := true } } 11) (.master false a (BitVec.ofNat 4 r.be) 0) := by
  simp [startBeat, hbop, hbeat, reqLen, h]

theorem current_last {s : State} {r : HbReq} (hfar : s.hb.far = none) (hq : s.hb.inq = [r]) : current s = some r := by simp [current, hfar, hq]

theorem busNext_busy {s : State} (h : readyIdx s (if s.hb.acc then (s.hb.inq.head?.map HbReq.src).toList else []) s.hb.inq 0 = none)
    (hacc : s.hb.acc = true) : busNext s = s := by
  unfold busNext
  simp only [drainReqs_stays h]
  exact if_pos hacc

/-- The bridge that owns the bus starts the access of the request it serves. -/
theorem busNext_starts {s : State} {r : HbReq} (h : readyIdx s (if s.hb.acc then (s.hb.inq.head?.map HbReq.src).toList else []) s.hb.inq 0 = none)
    (hacc : s.hb.acc = false) (howns : s.hb.owns = true) (hgone : s.hb.gone = false) (hcur : current s = some r) (hl : lampServes s 9 = true) :
    busNext s = startBeat s r := by
  unfold busNext
  simp only [drainReqs_stays h]
  rw [if_neg (by simp [hacc]), if_pos howns, if_neg (by simp [hgone]), hcur]
  exact if_pos hl

/-- No access is under way any more. -/
def accEnded (s : State) : State := { s with hb := { s.hb with acc := false } }
/-- LBR# is high. -/
def busLet (s : State) : State := { s with hb := { s.hb with bus := false } }
/-- LBG# is removed. -/
def grantGone (s : State) : State := { s with hb := { s.hb with gone := true } }
/-- LBG# is given. -/
def busGiven (s : State) : State := { s with hb := { s.hb with owns := true, gone := false } }

theorem frame_accEnded (s : State) : Frame [.hb] (fun _ => False) s (accEnded s) := frame_setHb s _
theorem frame_busLet (s : State) : Frame [.hb] (fun _ => False) s (busLet s) := frame_setHb s _
theorem frame_grantGone (s : State) : Frame [.hb] (fun _ => False) s (grantGone s) := frame_setHb s _
theorem frame_busGiven (s : State) : Frame [.hb] (fun _ => False) s (busGiven s) := frame_setHb s _

/-- The read served is answered with the word read. -/
theorem masterAccessEnd_read {s : State} {r : HbReq} {d : Word} (hacc : s.hb.acc = true) (hfar : s.hb.far = none) (hq : s.hb.inq = [r]) (hbop : r.bop = 3) :
    ∃ o, masterAccessEnd s false d = busNext (reply (withInq (accEnded s) []) r 0 (wireOf o d)) := by
  have hdrop : dropReq (accEnded s) r = withInq (accEnded s) [] := dropReq_last hq
  unfold masterAccessEnd
  rw [if_neg (by simp [hacc]), current_last hfar hq]
  dsimp only
  rw [if_neg (by simp), if_pos hbop, ← hdrop]
  exact ⟨_, rfl⟩

/-- A master access that fails: the read is answered with the code, the failure told (R327). -/
theorem reqFails_read {s : State} {r : HbReq} {m a code event sev : Nat} (hq : s.hb.inq = [r]) (hbop : r.bop = 3) (h : mbxAt s false r.addr 4 = some (m, a)) :
    reqFails s r code event sev = reply (hbEvent (withInq s []) event sev m r.src r.tseq code) r code [] := by
  simp [reqFails, hbop, reqLen, h, dropReq_last hq]

theorem masterAccessTimeout_fails {s : State} {r : HbReq} (hacc : s.hb.acc = true) (hfar : s.hb.far = none) (hq : s.hb.inq = [r]) :
    masterAccessTimeout s = busNext (reqFails (accEnded s) r 0x13 0x9041 3) := by
  unfold masterAccessTimeout masterAccessEnd
  rw [if_neg (by simp [hacc]), current_last hfar hq]
  rfl

theorem nogrant_fails {s : State} {r : HbReq} (hbus : s.hb.bus = true) (howns : s.hb.owns = false) (hfar : s.hb.far = none) (hq : s.hb.inq = [r]) :
    nogrant s = busNext (reqFails (busLet s) r 0x12 0x9040 2) := by
  unfold nogrant
  rw [if_pos (by simp [hbus, howns]), current_last hfar hq, hfar]
  rfl

theorem frame_hbEvent (s : State) (code sev w g q c : Nat) : Frame [.log] (· = 0xC180) s (hbEvent s code sev w g q c) := frame_raise s _ _ _ _

@[simp] theorem hbEvent_hb (s : State) (code sev w g q c : Nat) : (hbEvent s code sev w g q c).hb = s.hb := raise_hb s _ _ _ _

theorem raised_hbEvent {s u : State} (code sev w g q c : Nat) (hl : u.log = s.log) (hc : coreRun u = true)
    (hm : mkEvent u code sev w [w, g, q, c] = mkEvent s code sev w [w, g, q, c]) : Raised [(code, sev, w, [w, g, q, c])] s (hbEvent u code sev w g q c) := by
  rw [Raised, hbEvent, raise_raised _ _ _ _ _ hc, hl, hm]
  rfl

/-- The answer to a read whose fields fit. -/
theorem sent_read {s w : State} {r : HbReq} (hwin : r.win < 256) (htseq : r.tseq < 65536) (htag : r.tag < 256) {c : Nat} (hc : c < 256) (d : Bytes)
    (h : w.sch = s.sch) : Sent [([BitVec.ofNat 8 r.src], [0x83, r.win, r.tseq, r.tag, c])] s (answered w r 0x83 r.tag c d) := by
  have hsent := sent_answered (s := s) r 0x83 r.tag c d h
  rwa [Nat.mod_eq_of_lt hwin, Nat.mod_eq_of_lt htseq, Nat.mod_eq_of_lt htag, Nat.mod_eq_of_lt hc] at hsent

/-- What a read leaves that is answered in state w, whatever becomes of the bus afterwards. -/
theorem read_done {s w y : State} {r : HbReq} {c : Nat} {d : Bytes} {P : List Part} {R : Nat → Prop} (hf : Frame P R s w) (hR : ¬ R 0x9610)
    (hP : Part.sch ∉ P) (hwin : r.win < 256) (htseq : r.tseq < 65536) (htag : r.tag < 256) (hc : c < 256)
    (hy : Frame [.hb] (fun _ => False) (answered w r 0x83 r.tag c d) y) :
    Sent [([BitVec.ofNat 8 r.src], [0x83, r.win, r.tseq, r.tag, c])] s (settle s y) ∧ Counted 0x9610 1 s (settle s y) ∧
    Frame ([.hb, .sch] ++ P) (fun o => o = 0x9610 ∨ R o) s (settle s y) := by
  have hans := frame_answered w r 0x83 r.tag c d
  refine ⟨sent_settle (sent_congr (sent_read hwin htseq htag hc d (hf.part .sch hP)) (hy.part .sch)), counted_settle (by decide) ?_, frame_settle ?_⟩
  · rw [Counted, hy.2 _ (by decide) (by simp), ← hf.2 0x9610 (by decide) hR]
    exact counted_answered w r 0x83 r.tag c d
  · exact frame_trans (hf.within (by simp) (fun _ => Or.inr))
      (frame_trans (hans.within (by simp) (fun _ => Or.inl)) (hy.within (by simp) (by simp)))

/-- The bus given back once the last request is answered. -/
theorem busNext_answered {w : State} {r : HbReq} {k g c : Nat} {d : Bytes} (hq : w.hb.inq = []) (hacc : w.hb.acc = false) (howns : w.hb.owns = true)
    (hfar : w.hb.far = none) : busNext (answered w r k g c d) = withBus (answered w r k g c d) false false false false :=
  busNext_releases (by rw [answered_hb, hq]) (by rw [answered_hb, hacc]) (by rw [answered_hb, howns]) (by rw [answered_hb, hfar])

theorem busNext_unanswered {w : State} {r : HbReq} {k g c : Nat} {d : Bytes} (hq : w.hb.inq = []) (hacc : w.hb.acc = false) (howns : w.hb.owns = false)
    (hfar : w.hb.far = none) : busNext (answered w r k g c d) = busLet (answered w r k g c d) :=
  busNext_empty (by rw [answered_hb, hq]) (by rw [answered_hb, hacc]) (by rw [answered_hb, howns]) (by rw [answered_hb, hfar])

theorem withBus_hb (s : State) (bus owns gone acc : Bool) : (withBus s bus owns gone acc).hb = { s.hb with bus := bus, owns := owns, gone := gone, acc := acc } := rfl
theorem busLet_hb (s : State) : (busLet s).hb = { s.hb with bus := false } := rfl

/-- Settles O27. -/
theorem busMasteringComplete : Obligations.BusMasteringComplete := by
  unfold Obligations.BusMasteringComplete
  refine ⟨fun s r m a hscan hlamp hbus howns hacc hfar hq hbop hbeat hneeds hmbx => ?grant,
    fun s r d hacc howns hgone hfar hq hbop hsrc hwin htseq htag hsends => ?end_,
    fun s r m a hc hacc howns hgone hfar hq hbop hsrc hwin htseq htag hmbx hsends => ?timeout,
    fun s r m a hc hbus howns hacc hfar hq hbop hsrc hwin htseq htag hmbx hsends => ?nogrant,
    fun s r howns hfarOn hacc hq => ?removed, fun s howns hfarOn hacc hq hfar => ?idle⟩
  case grant =>
    have halike : Alike s (busGiven s) := Alike.of (frame_busGiven s) (hr := by simp)
    have hready : readyIdx (busGiven s) (if (busGiven s).hb.acc then ((busGiven s).hb.inq.head?.map HbReq.src).toList else []) (busGiven s).hb.inq 0 = none := by
      have hn : needsBus (busGiven s) r = true := (halike.needsBus r).trans hneeds
      simp [show (busGiven s).hb.inq = [r] from hq, readyIdx, hn]
    have hnext := busNext_starts (s := busGiven s) hready hacc rfl rfl (current_last (s := busGiven s) hfar hq) hlamp
    have hgo : busGrant s = emit (bumpHb { busGiven s with hb := { (busGiven s).hb with acc := true } } 11) (.master false a (BitVec.ofNat 4 r.be) 0) := by
      rw [← startBeat_read hbop hbeat ((halike.mbxAt false r.addr 4).trans hmbx), ← hnext, busGrant, if_pos (by simp [hbus, howns, hscan])]
      have hfar' : (busGiven s).hb.far = none := hfar
      change (match (busGiven s).hb.far with | some r => _ | none => busNext (busGiven s)) = _
      rw [hfar']
    refine completes_of (u := busGrant s) rfl ?_
    rw [hgo]
    exact ⟨by rw [settle_hb]; rfl, by rw [settle_out]; rfl, counted_settle (by decide) (counted_bumpHb _ 11),
      frame_settle (((frame_busGiven s).within.andThen (frame_setHb _ _)).andThen (frame_bumpHb _ 11) |>.andThen (frame_emit _ _))⟩
  case end_ =>
    obtain ⟨o, hgo⟩ := masterAccessEnd_read (d := d) hacc hfar hq hbop
    have hf : Frame [.hb] (fun _ => False) s (withInq (accEnded s) []) := (frame_accEnded s).andThen (frame_withInq _ _)
    have halike : Alike s (withInq (accEnded s) []) := Alike.of hf (hr := by simp)
    refine completes_of (u := masterAccessEnd s false d) rfl ?_
    rw [hgo, reply_read (halike.bridgeSends hsends) _ _ _ hbop]
    rw [busNext_answered (w := withInq (accEnded s) []) rfl rfl howns hfar]
    obtain ⟨hsent, hcount, hframe⟩ := read_done (d := (wireOf o d ++ List.replicate 4 0#8).take 4) hf (by simp) (by decide) hwin htseq htag
      (c := 0) (by decide) (frame_withBus _ false false false false)
    refine ⟨?_, hsent, hcount, hframe.within (by decide) (by simp)⟩
    rw [settle_hb, withBus_hb, answered_hb]
    simp only [withInq, accEnded, hgone]
  case timeout =>
    have hf := ((frame_accEnded s).andThen (frame_withInq _ [])).within (Q := [.hb, .log]) (S := (· = 0xC180))
      |>.andThen (frame_hbEvent _ 0x9041 3 m r.src r.tseq 0x13)
    have hmbx' : mbxAt (accEnded s) false r.addr 4 = some (m, a) := ((Alike.of (frame_accEnded s) (hr := by simp)).mbxAt _ _ _).trans hmbx
    refine completes_of (u := masterAccessTimeout s) rfl ?_
    rw [masterAccessTimeout_fails hacc hfar hq, reqFails_read (s := accEnded s) hq hbop hmbx', reply_read ((Alike.of hf).bridgeSends hsends) _ _ _ hbop,
      busNext_answered (by rw [hbEvent_hb]; rfl) (by rw [hbEvent_hb]; rfl) (by rw [hbEvent_hb]; exact howns) (by rw [hbEvent_hb]; exact hfar)]
    obtain ⟨hsent, hcount, hframe⟩ := read_done (d := (([] : Bytes) ++ List.replicate 4 0#8).take 4) hf (by simp) (by decide) hwin htseq htag
      (c := 0x13) (by decide) (frame_withBus _ false false false false)
    refine ⟨?_, raised_settle (raised_hbEvent (u := withInq (accEnded s) []) 0x9041 3 m r.src r.tseq 0x13 rfl hc rfl) rfl, hsent, hcount,
      hframe.within (by decide) (by simp)⟩
    rw [settle_hb, withBus_hb, answered_hb, hbEvent_hb]
    simp only [withInq, accEnded, hgone]
  case nogrant =>
    have hf := ((frame_busLet s).andThen (frame_withInq _ [])).within (Q := [.hb, .log]) (S := (· = 0xC180))
      |>.andThen (frame_hbEvent _ 0x9040 2 m r.src r.tseq 0x12)
    have hmbx' : mbxAt (busLet s) false r.addr 4 = some (m, a) := ((Alike.of (frame_busLet s) (hr := by simp)).mbxAt _ _ _).trans hmbx
    refine completes_of (u := nogrant s) rfl ?_
    rw [nogrant_fails hbus howns hfar hq, reqFails_read (s := busLet s) hq hbop hmbx', reply_read ((Alike.of hf).bridgeSends hsends) _ _ _ hbop,
      busNext_unanswered (by rw [hbEvent_hb]; rfl) (by rw [hbEvent_hb]; exact hacc) (by rw [hbEvent_hb]; exact howns) (by rw [hbEvent_hb]; exact hfar)]
    obtain ⟨hsent, hcount, hframe⟩ := read_done (d := (([] : Bytes) ++ List.replicate 4 0#8).take 4) hf (by simp) (by decide) hwin htseq htag
      (c := 0x12) (by decide) (frame_busLet _)
    refine ⟨?_, raised_settle (raised_hbEvent (u := withInq (busLet s) []) 0x9040 2 m r.src r.tseq 0x12 rfl hc rfl) rfl, hsent, hcount,
      hframe.within (by decide) (by simp)⟩
    rw [settle_hb, busLet_hb, answered_hb, hbEvent_hb]
    rfl
  case removed =>
    have hgo : grantRemoved s = busNext (grantGone s) := by
      rw [grantRemoved, if_pos howns, if_neg (by simp [hfarOn])]
      rfl
    have hready : readyIdx (grantGone s) (if (grantGone s).hb.acc then ((grantGone s).hb.inq.head?.map HbReq.src).toList else []) (grantGone s).hb.inq 0 = none := by
      simp [show (grantGone s).hb.inq = [r] from hq, show (grantGone s).hb.acc = true from hacc, readyIdx]
    refine completes_of (u := grantRemoved s) rfl ?_
    rw [hgo, busNext_busy hready hacc]
    exact ⟨by rw [settle_hb]; rfl, frame_settle (frame_grantGone s)⟩
  case idle =>
    have hgo : grantRemoved s = busNext (grantGone s) := by
      rw [grantRemoved, if_pos howns, if_neg (by simp [hfarOn])]
      rfl
    refine completes_of (u := grantRemoved s) rfl ?_
    rw [hgo, busNext_releases (s := grantGone s) hq hacc howns hfar]
    exact ⟨by rw [settle_hb, ← hacc]; rfl, frame_settle ((frame_grantGone s).andThen (frame_withBus _ _ _ _ _))⟩

end Sys2Proof.Target
end

section
/-! SUPPORT. Register writes (R10, R12, R87, R294, R416, R419, R422): what a write stores, what locks it, and who is shut out. -/

namespace Sys2Proof.Registers

open Sys2Proof.Machine Sys2Proof.Safety Sys2Proof.Bridge

/-! ### A clear of line-feed latches with LF_VF at ground -/

/-- A committed node whose rail reads accepted and LF_VF at ground at once, FEED pair 0 latched off. -/
def groundedLatched : State :=
  { line := { core := true, railOk := true, vfGnd := true, pairs := #v[{ st := .latched, latch := true }, {}, {}, {}] }
    boot := { phase := .committed }
    regs := [(0xA100, 1)] }

-- Elaborated by itself, so that the proofs before it are checked before those after it begin: this bounds the memory that proofs under way take at once.
set_option Elab.async false in
/-- Refutes O41: a clear of a line-feed latch restarts its pair through soft start only with LF_VF off ground (R36); the clause names RAIL_OK alone, and a
state may hold both RAIL_OK and LF_VF at ground. -/
theorem not_registerRowsComplete : ¬ Obligations.RegisterRowsComplete := by
  intro h
  obtain ⟨-, -, -, -, -, -, hlatch⟩ := h
  obtain ⟨t, ht, hpairs, -⟩ := hlatch groundedLatched .host 0x10000 ⟨by decide, fun _ => ⟨by decide, .inl (by decide)⟩⟩ (by decide) rfl rfl rfl (by decide)
  obtain rfl := Host.Outcome.next.inj ht
  exact absurd (hpairs 0) (by decide)

/-! ### What a write stores (R10, R12) -/

/-- The RWL bits of the register at an offset. -/
def lockable (off : Nat) : Nat := ((desc off).map Desc.rwl).getD 0

/-- A write of the register leaves its word, or stores enabled bytes of its writable bits. -/
def Stores (s : State) (off : Nat) (be : BitVec 4) (t : State) : Prop := reg t off = reg s off ∨ ∃ v, reg t off = rwMerge s off be v

theorem reg_noteWrite (s : State) (off k : Nat) (v : Word) : reg (noteWrite s off v) k = reg s k := by
  unfold noteWrite
  split <;> rfl

theorem rwMerge_setTb {s : State} (h : imageLoads s = false) (tb : TimeBase) (off : Nat) (be : BitVec 4) (v : Word) :
    rwMerge { s with tb := tb } off be v = rwMerge s off be v := by
  have h' : imageLoads { s with tb := tb } = false := h
  simp only [rwMerge, cfgReg, h, h']
  rfl

theorem reg_storeReg (s : State) (off : Nat) (be : BitVec 4) (v : Word) : reg (storeReg s off be v) off = rwMerge s off be v := by
  rw [storeReg, reg_noteWrite, reg_setReg_same]

theorem reg_setSw (s : State) (sw : Switch) (off : Nat) : reg { s with sw := sw } off = reg s off := rfl

theorem stores_storeReg (s : State) (off : Nat) (be : BitVec 4) (v : Word) : Stores s off be (storeReg s off be v) := .inr ⟨v, reg_storeReg s off be v⟩

section

variable {s : State} {req : Req} {off : Nat} {be : BitVec 4} {v : Word} (h : lockable off ≠ 0)
include h

theorem stores_writeGlobal : Stores s off be (writeGlobal s req off be v) := by
  unfold writeGlobal
  split
  case h_4 => exact stores_storeReg s _ be v
  all_goals exact absurd (by decide) h

theorem stores_writeLanes : Stores s off be (writeLanes s req off be v) := by
  unfold writeLanes
  split
  case isTrue e => subst e; exact absurd (by decide) h
  case isFalse => exact stores_storeReg s off be v

theorem stores_writeTopology : Stores s off be (writeTopology s req off be v) := by
  unfold writeTopology
  split
  case h_5 => exact stores_storeReg s _ be v
  all_goals exact absurd (by decide) h

omit h in
theorem stores_writeTime (hi : imageLoads s = false) : Stores s off be (writeTime s off be v) := by
  unfold writeTime
  split
  case isTrue =>
    refine .inr ⟨v &&& 3, ?_⟩
    dsimp only
    split
    · rw [reg_storeReg, rwMerge_setTb hi]
    · exact reg_storeReg s off be _
  case isFalse => exact stores_storeReg s off be v

omit h in
theorem reg_writeSwitch (h0 : off ≠ 0x5400) (h1 : off ≠ 0x5F00) : reg (writeSwitch s req off be v) off = rwMerge s off be v := by
  unfold writeSwitch
  split
  case h_1 => exact absurd rfl h0
  case h_2 => exact absurd rfl h1
  case h_3 =>
    dsimp only
    split
    · exact (reg_setSw _ _ _).trans (reg_storeReg s _ be v)
    · exact reg_storeReg s _ be v

theorem stores_writeSwitch : Stores s off be (writeSwitch s req off be v) := by
  refine .inr ⟨v, reg_writeSwitch ?_ ?_⟩ <;> (rintro rfl; exact absurd (by decide) h)

theorem stores_writeSignals : Stores s off be (writeSignals s req off be v) := by
  unfold writeSignals
  split
  case h_4 => exact stores_storeReg s _ be v
  all_goals exact absurd (by decide) h

theorem stores_writePower (w : Bool) : Stores s off be (writePower s req off be v w) := by
  unfold writePower
  split
  case h_2 => exact .inl rfl
  case h_5 => exact stores_storeReg s _ be v
  all_goals exact absurd (by decide) h

theorem stores_writeFault : Stores s off be (writeFault s req off be v) := by
  unfold writeFault
  split
  case h_3 => exact stores_storeReg s _ be v
  all_goals exact absurd (by decide) h

theorem stores_writeRecorder : Stores s off be (writeRecorder s req off be v) := by
  unfold writeRecorder
  split
  case h_5 =>
    split
    · exact .inl rfl
    · exact stores_storeReg s _ be v
  all_goals exact absurd (by decide) h

end

/-! A register of a CAN channel or of a window is found by its place in the array. -/

theorem lockable_can {off r : Nat} (hb : off / 0x1000 = 7 ∨ off / 0x1000 = 8) (h : inArray off 0x7000 8 0x200 = some r)
    (hr : r ∈ [0x10, 0x14, 0x20, 0x24, 0x28]) : lockable off = 0 := by
  have hlow : off < 0x8000 := by
    unfold inArray at h
    split at h
    · omega
    · cases h
  have hd : desc off = descCan off := by rcases hb with e | e <;> simp [desc, e]
  have hout : inGroup off 0x8040 5 = false := by simp [inGroup]; omega
  rw [lockable, hd]
  unfold descCan
  split
  case h_1 => omega
  case h_2 => omega
  case h_3 =>
    simp only [hout, h, Bool.false_eq_true, if_false]
    simp only [List.mem_cons, List.not_mem_nil, or_false] at hr
    rcases hr with rfl | rfl | rfl | rfl | rfl <;> rfl

theorem lockable_sem {off : Nat} (hb : off / 0x1000 = 9) (h : inGroup off 0x9100 32 = true) : lockable off = 0 := by
  have hrange := (inGroup_iff _ _ _).mp h
  have hd : desc off = descBridge off := by simp [desc, hb]
  have hrest : (inGroup off 0x9080 32 || inGroup off 0x9400 64 || inGroup off 0x9600 14) = false := by simp [inGroup]; omega
  rw [lockable, hd]
  unfold descBridge
  split
  case h_15 => rw [hrest, h]; rfl
  all_goals omega

theorem lockable_poison {off : Nat} (hb : off / 0x1000 = 9) (h : inArray off 0x9200 16 0x20 = some 0x10) : lockable off = 0 := by
  have hrange : 0x9200 ≤ off ∧ off < 0x9400 := by
    unfold inArray at h
    split at h
    · omega
    · cases h
  have hd : desc off = descBridge off := by simp [desc, hb]
  have hrest : (inGroup off 0x9080 32 || inGroup off 0x9400 64 || inGroup off 0x9600 14) = false := by simp [inGroup]; omega
  have hsem : inGroup off 0x9100 32 = false := by simp [inGroup]; omega
  rw [lockable, hd]
  unfold descBridge
  split
  case h_15 => rw [hrest, hsem, h]; rfl
  all_goals omega

theorem stores_writeCan {s : State} {req : Req} {off : Nat} {be : BitVec 4} {v : Word} (h : lockable off ≠ 0)
    (hb : off / 0x1000 = 7 ∨ off / 0x1000 = 8) : Stores s off be (writeCan s req off be v).1 := by
  unfold writeCan
  split
  case isTrue e => subst e; exact absurd (by decide) h
  case isFalse =>
    dsimp only
    split
    case h_6 => exact stores_storeReg s off be v
    all_goals exact absurd (lockable_can hb ‹_› (by decide)) h

theorem stores_writeBridge {s : State} {req : Req} {off : Nat} {be : BitVec 4} {v : Word} (h : lockable off ≠ 0) (hb : off / 0x1000 = 9) :
    Stores s off be (writeBridge s req off be v).1 := by
  unfold writeBridge
  dsimp only
  split
  case h_7 =>
    split
    case isTrue hs => exact absurd (lockable_sem hb hs) h
    case isFalse =>
      split
      · exact absurd (lockable_poison hb ‹_›) h
      · exact stores_storeReg s _ be v
  all_goals exact absurd (by decide) h

/-- A write of a register with RWL bits only ever stores enabled bytes of its writable bits. -/
theorem stores_writeBlock {s : State} {req : Req} {off : Nat} {be : BitVec 4} {v : Word} (h : lockable off ≠ 0) (hi : imageLoads s = false) (w : Bool) :
    Stores s off be (writeBlock s req off be v w).1 := by
  unfold writeBlock
  split
  case h_1 => exact stores_writeGlobal h
  case h_2 => exact stores_writeLanes h
  case h_3 => exact stores_writeTopology h
  case h_4 => exact stores_writeTime hi
  case h_5 => exact stores_writeSwitch h
  case h_6 => exact stores_writeSignals h
  case h_7 e => exact stores_writeCan h (.inl e)
  case h_8 e => exact stores_writeCan h (.inr e)
  case h_9 e => exact stores_writeBridge h e
  case h_10 => exact stores_writePower h w
  case h_11 => exact stores_writeFault h
  case h_12 => exact stores_writeRecorder h
  case h_13 =>
    split
    case isTrue e => subst e; exact absurd (by decide) h
    case isFalse => exact stores_storeReg s off be v
  case h_14 => exact stores_storeReg s off be v

theorem stores_regWrite {s : State} {req : Req} {off : Nat} {be : BitVec 4} {v : Word} (h : lockable off ≠ 0) (hi : imageLoads s = false) (w : Bool) :
    Stores s off be (regWrite s req off be v w).1 := by
  unfold regWrite
  split
  · exact .inl rfl
  · split
    · exact .inl rfl
    · exact stores_writeBlock h hi w

/-- Where RWL fields are locked, a merge of RW bits leaves the RWL bits (R12). -/
theorem rwMerge_locked {s : State} {off : Nat} {d : Desc} (be : BitVec 4) (v : Word) (hd : desc off = some d) (himg : imageLoads s = false)
    (hl : rwlOpen s off = false) : rwMerge s off be v &&& BitVec.ofNat 32 d.rwl &&& ~~~BitVec.ofNat 32 d.rw =
      reg s off &&& BitVec.ofNat 32 d.rwl &&& ~~~BitVec.ofNat 32 d.rw := by
  have hbits : rwBits s off = BitVec.ofNat 32 d.rw := by simp [rwBits, hd, hl, wd]
  have hcfg : cfgReg s off = reg s off := by simp [cfgReg, himg]
  rw [rwMerge, hbits, hcfg]
  generalize BitVec.ofNat 32 d.rw = rw
  generalize BitVec.ofNat 32 d.rwl = rwl
  ext i hi
  simp only [BitVec.getElem_and, BitVec.getElem_or, BitVec.getElem_not]
  cases rw[i] <;> simp

theorem rwBits_unlocked {s : State} {off : Nat} {d : Desc} (hd : desc off = some d) (hl : rwlOpen s off = true) :
    rwBits s off = BitVec.ofNat 32 (d.rw ||| d.rwl) := by
  simp [rwBits, hd, hl, wd]

/-- The switch core's plain registers are written as they are, by another requester than the host. -/
theorem reg_regWrite_buffer {s : State} {req : Req} (hreq : req ≠ .host) (be : BitVec 4) (v : Word) (n : Fin 8) :
    reg (regWrite s req (0x5020 + 4 * n.val) be v false).1 (0x5020 + 4 * n.val) = rwMerge s (0x5020 + 4 * n.val) be v := by
  have hassigned : (desc (0x5020 + 4 * n.val)).isNone = false := by revert n; decide
  have hcmd : cmdReg (0x5020 + 4 * n.val) = false := by revert n; decide
  have hblock : (0x5020 + 4 * n.val) / 0x1000 = 5 := by omega
  have hwrite : writeBlock s req (0x5020 + 4 * n.val) be v false = (writeSwitch s req (0x5020 + 4 * n.val) be v, 0) := by
    unfold writeBlock
    rw [hblock]
    rfl
  have hshut : ¬ (req = .host ∧ switchBusy s = true ∧ 0x1000 ≤ 0x5020 + 4 * n.val) := fun h => hreq h.1
  rw [regWrite, hassigned, hcmd, if_neg (by simp), if_neg hshut, hwrite]
  exact reg_writeSwitch (by omega) (by omega)

/-- Settles O50. -/
theorem lockedFieldsStay : Obligations.LockedFieldsStay := by
  refine ⟨fun s req off be v d hlock himg hphase hd => ?_, fun s off d hd hopen => rwBits_unlocked hd ?_, fun s req be v n hreq _ hphase =>
    ⟨reg_regWrite_buffer hreq be v n, ?_⟩⟩
  · by_cases hz : lockable off = 0
    · have hrwl : d.rwl = 0 := by simpa [lockable, hd] using hz
      simp [hrwl]
    have hclosed : rwlOpen s off = false := by
      simp only [rwlOpen, hlock, Bool.not_true, Bool.false_or, Bool.and_eq_false_iff, beq_eq_false_iff_ne, decide_eq_false_iff_not]
      exact hphase.imp_right fun h => by omega
    rcases stores_regWrite (be := be) (v := v) (req := req) hz himg false with hkeep | ⟨v', hset⟩
    · rw [hkeep]
    · rw [hset, rwMerge_locked be v' hd himg hclosed]
  · rcases hopen with hl | ⟨hp, ho⟩
    · simp [rwlOpen, hl]
    · simp [rwlOpen, hp, ho]
  · have hopen : rwlOpen s (0x5020 + 4 * n.val) = true := by simp [rwlOpen, hphase]; omega
    cases hd : desc (0x5020 + 4 * n.val) with
    | none => simp [rwBits, hd]
    | some d => exact rwBits_unlocked hd hopen

/-! ### Byte enables (R294, R416) -/

/-- A register written by the word with disabled bytes as zero takes that word as one with all its bytes. -/
theorem regWrite_masked {s : State} {req : Req} {off : Nat} {w : Bool} {f : Word → WRes} (h : ∀ be v, writeBlock s req off be v w = f (maskBe be v))
    (be : BitVec 4) (v : Word) : regWrite s req off be v w = regWrite s req off 0xF (maskBe be v) w := by
  simp only [regWrite, h, maskBe_full]

theorem regWrite_command {s : State} {req : Req} {off : Nat} {be : BitVec 4} {v : Word} {w : Bool} (hc : cmdReg off = true) (hr : req ≠ .host) :
    regWrite s req off be v w = (s, 0) := by
  have hgate : ((desc off).isNone || (cmdReg off && req != .host)) = true := by simp [hc, hr]
  rw [regWrite, if_pos hgate]

/-- A host write whose enables are not contiguous ends with the code for it. -/
theorem regCommand_gap {s : State} {be : BitVec 4} (ha : reqAlive s .host = true) (hc : contiguous be = false) (off : Nat) (v : Word) (w : Bool) :
    regCommand s .host off be v w = lerr s 1 off := by
  have hmay : mayWrite s .host = true := by simp [mayWrite, ha]
  rw [regCommand, hmay, if_neg (by simp), if_pos ⟨rfl, hc⟩]
  rfl

theorem lerr_counted (s : State) (code addr : Nat) : Counted 0x9618 1 s (lerr s code addr) := by
  have hkept (b : Bridge) : reg { s with hb := b } 0x9618 = reg s 0x9618 := rfl
  simp only [Counted, lerr, reg_emit, bumpHb, reg_bump, if_pos, hkept]

/-- Settles O52. -/
theorem byteEnablesOfCommands : Obligations.ByteEnablesOfCommands := by
  refine ⟨fun s req off be v w hoff => ?_, fun s req off be v w hc hr => regWrite_command hc hr, fun s off be v ha hc => ?_⟩
  · simp only [List.mem_cons, List.not_mem_nil, or_false] at hoff
    rcases hoff with rfl | rfl | rfl | rfl | rfl | rfl | rfl | rfl | rfl | rfl | rfl | rfl | rfl | rfl | rfl | rfl | rfl | rfl | rfl | rfl | rfl
    · exact regWrite_masked (f := fun m => (setReg s 0x40 (reg s 0x40 &&& ~~~(m &&& 0xFF03FF)), 0)) (fun _ _ => rfl) be v
    · exact regWrite_masked (f := fun m => (setReg s 0x40 (reg s 0x40 ||| (m &&& 0xFF03FF)), 0)) (fun _ _ => rfl) be v
    · exact regWrite_masked (f := fun m => (profCtl s (srcCode req) m, 0)) (fun _ _ => rfl) be v
    · exact regWrite_masked (f := fun m => (bbClear s req m, 0)) (fun _ _ => rfl) be v
    · exact regWrite_masked (f := fun m => (topCmd s (srcCode req) m, 0)) (fun _ _ => rfl) be v
    · exact regWrite_masked (f := fun m => (swClear s req m, 0)) (fun _ _ => rfl) be v
    · exact regWrite_masked (f := fun m => (hostCommitGo s m, 0)) (fun _ _ => rfl) be v
    · exact regWrite_masked (f := fun m => (clearCounters s req 0x70FF m (fun o => inGroup o 0x6080 12), 0)) (fun _ _ => rfl) be v
    · exact regWrite_masked (f := fun m => (canCmdWrite s 0 (srcCode req) m, 0)) (fun _ _ => rfl) be v
    · exact regWrite_masked (f := fun m => (canClear s req m, 0)) (fun _ _ => rfl) be v
    · exact regWrite_masked (f := fun m => if req = .host then irqSendGo s m else (s, 0)) (fun _ _ => rfl) be v
    · exact regWrite_masked (f := fun m => if req = .host then lockWrite s m (s.boot.lbus && !underTest s 0x23) else (s, 0)) (fun _ _ => rfl) be v
    · exact regWrite_masked (f := fun m => (lateClear s req m, 0)) (fun _ _ => rfl) be v
    · exact regWrite_masked (f := fun m => (clearCounters s req 0x90FF m (fun o => inGroup o 0x9600 14), 0)) (fun _ _ => rfl) be v
    · exact regWrite_masked (f := fun m => (slpCmd s (srcCode req) m w, 0)) (fun _ _ => rfl) be v
    · exact regWrite_masked (f := fun m => (clearLatches s (fld m 19 16), 0)) (fun _ _ => rfl) be v
    · exact regWrite_masked (f := fun m =>
        (clearRecord (if bitAt m 0 then { s with mram := { s.mram with pwrCnt := [] } } else s) 0x10FF m.toNat (srcCode req), 0)) (fun _ _ => rfl) be v
    · exact regWrite_masked (f := fun m => (unitCmd s (srcCode req) m, 0)) (fun _ _ => rfl) be v
    · exact regWrite_masked (f := fun m => (clearCounters s req 0xA0FF m (fun o => inGroup o 0xB080 13 || inGroup o 0xB800 256), 0)) (fun _ _ => rfl) be v
    · exact regWrite_masked (f := fun m => (clrctl s req m, 0)) (fun _ _ => rfl) be v
    · exact regWrite_masked (f := fun m => (clearCounters s req 0xB0FF m (fun o => inGroup o 0xC180 10), 0)) (fun _ _ => rfl) be v
  · refine completes_of (u := regCommand s .host off be v false) rfl ?_
    rw [regCommand_gap ha hc]
    exact ⟨by rw [settle_out, lerr_out], by rw [settle_hb, lerr_hb], counted_settle (by decide) (lerr_counted s 1 off), frame_settle (frame_lerr ..)⟩

/-! ### Who is shut out (R87, R422, Table 13-8) -/

section

variable {s : State} (h : hostAlive s = false)
include h

theorem regCommand_shutOut (off : Nat) (be : BitVec 4) (v : Word) (w : Bool) : regCommand s .host off be v w = s := by
  simp [regCommand, mayWrite, reqAlive, h]

theorem canObjWrite_shutOut (c : Fin 8) (code o : Nat) (early : Bool) : canObjWrite s .host c code o early = s := by
  simp [canObjWrite, mayWrite, reqAlive, h]

theorem lbusRead_shutOut (addr : Nat) (be : BitVec 4) : lbusRead s addr be = s := by simp [lbusRead, lbusFree, h]

theorem lbusWrite_shutOut (addr : Nat) (be : BitVec 4) (v : Word) (merge : Bool) : lbusWrite s addr be v merge = s := by simp [lbusWrite, lbusFree, h]

end

/-- A command that does nothing leaves everything. -/
theorem completes_nothing {c : Instr} {s u : State} (he : exec c s = .next (settle s u)) (hu : u = s) : Completes c s fun t => Frame [] (fun _ => False) s t :=
  completes_of he (by rw [hu]; exact frame_settle (frame_refl _ _ _))

/-- During a profile switch a host write outside the global block ends and changes nothing (R87). -/
theorem regCommand_duringSwitch {s : State} {off : Nat} {be : BitVec 4} (ha : reqAlive s .host = true) (hsw : switchBusy s = true) (ho : 0x1000 ≤ off)
    (hc : contiguous be = true) (v : Word) (w : Bool) : regCommand s .host off be v w = endWrite .host off (s, 0) := by
  have hmay : mayWrite s .host = true := by simp [mayWrite, ha]
  have hrun : ¬ (Req.host = .host ∧ contiguous be = false) := by simp [hc]
  have hwrite : regWrite s .host off be v w = (s, 0) := by
    unfold regWrite
    split
    · rfl
    · rw [if_pos ⟨rfl, hsw, ho⟩]
  rw [regCommand, hmay, if_neg (by simp), if_neg hrun, hwrite]

/-- Settles O53. -/
theorem hostShutOut : Obligations.HostShutOut := by
  refine ⟨fun s be v w off n c o h => ?_, fun s off be v ha hsw ho hc => ?_⟩
  · have hreg := regCommand_shutOut h
    have hobj := canObjWrite_shutOut h
    have hread := lbusRead_shutOut h
    have hwrite := lbusWrite_shutOut h
    repeat' rw [List.forall_mem_cons]
    refine ⟨?_, ?_, ?_, ?_, ?_, ?_, ?_, ?_, ?_, ?_, ?_, ?_, ?_, ?_, ?_, ?_, ?_, ?_, ?_, ?_, ?_, ?_, ?_, ?_, ?_, ?_, ?_, ?_, ?_, ?_, ?_, ?_, ?_, ?_, ?_, ?_,
      ?_, ?_, ?_, ?_, ?_, ?_, ?_, ?_, ?_, ?_, List.forall_mem_nil _⟩
    all_goals refine completes_nothing rfl ?_
    all_goals simp only [hreg, hobj, hread, hwrite]
  · refine completes_of (u := regCommand s .host off be v false) rfl ?_
    rw [regCommand_duringSwitch ha hsw ho hc]
    exact ⟨ended_of_out (req := .host) rfl, frame_settle (Telemetry.frame_endWrite_done ..)⟩

end Sys2Proof.Registers
end

section
/-! SUPPORT. Statements whose frame leaves out something that the command brings about in some state: each with the state that shows it. -/

namespace Sys2Proof.Beyond

open Sys2Proof.Machine Sys2Proof.Safety

/-- A locked node in its cycle, a folded frame with no guardian row waiting on lane 0 behind the Lantern. -/
def foldBehindLantern : State :=
  { line := { core := true }
    boot := { phase := .committed }
    tb := { st := .locked, clen := some 0, served := some 0 }
    lanes := Vector.replicate 4 { st := .up, mode := 1 }
    sch := { relays := [{ lane := 0, inp := 0, req := 0, good := true, fold := true, frame := List.replicate 28 1 }] } }

-- Elaborated by itself, so that the proofs before it are checked before those after it begin: this bounds the memory that proofs under way take at once.
set_option Elab.async false in
/-- Refutes O15: the Lantern of a cycle without one lets the frames waiting behind it start (R185); a folded one that the guardian's copy lacks is a
fault detected (R201), which the clause for the wait W leaves out. -/
theorem not_timeBaseAndGptpRowsComplete : ¬ Obligations.TimeBaseAndGptpRowsComplete := by
  intro h
  obtain ⟨-, -, hexpiry, -⟩ := h
  obtain ⟨t, ht, -, -, -, hframe, -⟩ := hexpiry foldBehindLantern rfl (.inl rfl) rfl
  obtain rfl := Host.Outcome.next.inj ht
  exact absurd (hframe .flt (by decide)) (by unfold Same; decide +kernel)

/-- A node at the end of its static part, its COMMIT due. -/
def commitDue : State :=
  { line := { core := true }
    boot := { phase := .committed }
    sch := { inStatic := true }
    snuf := { comPend := true } }

/-- Refutes O17: a COMMIT that is due leaves at the start of the dynamic segment and arms the wake detectors (R342, R345), where the clause keeps the
Pilot as it was. -/
theorem not_scheduleRowsComplete : ¬ Obligations.ScheduleRowsComplete := by
  intro h
  obtain ⟨-, -, -, hdynamic, -⟩ := h
  obtain ⟨t, ht, -, -, -, -, hframe, -⟩ := hdynamic commitDue rfl rfl
  obtain rfl := Host.Outcome.next.inj ht
  exact absurd (hframe .pilot (by decide)) (by unfold Same; decide +kernel)

/-- A node at its sleep instant, outputs without a hold time, with a frame of a class that no frame has queued at output 4. -/
def strayClassQueued : State :=
  { line := { core := true }
    boot := { phase := .committed }
    snuf := { commit := true }
    log := { scanning := false }
    regs := [(0x5004, 0)]
    sw := { ports := (Vector.replicate 20 {}).set 4 { hst := 0, q := [{ frame := [], eth := false, cls := 40, slot := 0, inp := 0, since := 0 }] } } }

/-- Refutes O30: the outputs that go down at the sleep instant count what they drop by class, and a queued frame of class 40 counts at 0x6084, outside
the words the clause names. -/
theorem not_sleepSequenceComplete : ¬ Obligations.SleepSequenceComplete := by
  intro h
  obtain ⟨hinstant, -⟩ := h
  obtain ⟨t, ht, -, -, -, -, -, -, -, -, -, -, -, -, -, -, hregs⟩ := hinstant strayClassQueued rfl rfl rfl rfl rfl rfl rfl
  obtain rfl := Host.Outcome.next.inj ht
  exact absurd (hregs 0x6084 (by decide) (by decide)) (by decide +kernel)

/-- A sleeping node under EXTEST. -/
def emberUnderTest : State :=
  { line := { core := false, node := .ember }
    tap := 0 }

/-- Refutes O31: under a boundary-scan instruction that holds the balls WAKE# brings no wake (R46), where the clause wakes the node. -/
theorem not_wakeSourcesComplete : ¬ Obligations.WakeSourcesComplete := by
  intro h
  obtain ⟨-, -, -, hpin, -⟩ := h
  obtain ⟨t, ht, hnode, -⟩ := hpin emberUnderTest ⟨rfl, .inl rfl⟩ rfl (by decide)
  obtain rfl := Host.Outcome.next.inj ht
  exact absurd hnode (by decide)

/-- A settled node that owes a report, its management processor restarting. -/
def reportOwed : State :=
  { line := { core := true }
    boot := { phase := .committed }
    flt := { mgmtDown := true }
    inaug := #v[{ st := .settled, owes := true }, {}] }

/-- Refutes O33: the processor back up sends the report it owes (R131, R146), where the clause keeps the inauguration as it was. -/
theorem not_backgroundWorkComplete : ¬ Obligations.BackgroundWorkComplete := by
  intro h
  obtain ⟨-, -, hdone, -⟩ := h
  obtain ⟨t, ht, -, -, -, -, hframe, -⟩ := hdone reportOwed rfl rfl rfl rfl
  obtain rfl := Host.Outcome.next.inj ht
  exact absurd (hframe .inaug (by decide)) (by unfold Same; decide +kernel)

/-- A node that loads its image, a SERVICE session on its UART. -/
def serviceWhileLoading : State :=
  { line := { core := true }
    boot := { phase := .loading }
    mon := { ses := { level := 2 } } }

/-- Refutes O37: a word that `wr` stores while the image loads is noted, to stand until a section loads its register (R10), where the clause keeps the
start-up sequencer as it was. -/
theorem not_monitorActsComplete : ¬ Obligations.MonitorActsComplete := by
  intro h
  obtain ⟨hwr, -⟩ := h
  have hready : MonReady .onUart serviceWhileLoading := ⟨rfl, fun _ => ⟨rfl, rfl, rfl⟩, fun h => nomatch h⟩
  obtain ⟨t, ht, -, -, -, -, -, hframe, -⟩ := hwr serviceWhileLoading .onUart 5 hready rfl
  obtain rfl := Host.Outcome.next.inj ht
  exact absurd (hframe .boot (by decide)) (by unfold Same; decide +kernel)

end Sys2Proof.Beyond
end

section
/-! SUPPORT. A command of the monitor answered in its session (R400, R403, R405): what saying lines does, what the registers read meanwhile, and the
statement on the commands that show. -/

namespace Sys2Proof.Talk

open Sys2Proof.Machine Sys2Proof.Safety Sys2Proof.Bridge Sys2Proof.Secrets Sys2Proof.Target

/-! ### Saying lines -/

/-- The lines said in a session: on the UART, or in frames of the remote session served. -/
def spoken (x : Ses) (lines : List (String × List Nat)) (s : State) : State :=
  match x with
  | .onUart => { s with out := (lines.map (fun l => Out.line .onUart l.1 l.2)).reverse ++ s.out }
  | .remote => { s with sch := { s.sch with dyn := s.sch.dyn ++ s.mon.served.toList.flatMap (fun f => lines.map (lineFrame s f)) } }

/-- What is said in the session leaves: the initiator of a remote session is reached by an own quota of lane size. -/
def Hears (x : Ses) (s : State) : Prop :=
  x = .remote → s.mon.served.any (fun f => decide (252 ≤ rowQuota (ownRow s f.seg) (bitAt (reg s 0x5008) (monClass s)))) = true

-- Elaborated by itself, so that the proofs before it are checked before those after it begin: this bounds the memory that proofs under way take at once.
set_option Elab.async false in
theorem say_spoken {x : Ses} {s : State} (h : Hears x s) (k : String) (v : List Nat) : say s x k v = spoken x [(k, v)] s := by
  cases x with
  | onUart => rfl
  | remote =>
    have hq := h rfl
    cases hserved : s.mon.served with
    | none => simp [hserved] at hq
    | some f =>
      rw [hserved, Option.any_some, decide_eq_true_eq] at hq
      have hlen : (lineFrame s f (k, v)).body.length ≤ 224 := by
        simp only [lineFrame, remotePayload, List.length_append, length_beBytes, List.length_cons, List.length_nil, List.length_take]
        omega
      have hfits : ¬ rowQuota (ownRow s (lineFrame s f (k, v)).seg) (lineFrame s f (k, v)).laneB < 28 + (lineFrame s f (k, v)).body.length := by
        change ¬ rowQuota (ownRow s f.seg) (bitAt (reg s 0x5008) (monClass s)) < _
        omega
      have hsay : say s .remote k v = pushDyn s (lineFrame s f (k, v)) := by simp only [say, hserved]; rfl
      rw [hsay, pushDyn, if_neg hfits]
      simp [spoken, hserved]

theorem spoken_append (x : Ses) (a b : List (String × List Nat)) (s : State) : spoken x b (spoken x a s) = spoken x (a ++ b) s := by
  cases x with
  | onUart => simp [spoken]
  | remote =>
    have hframe (t : State) (d : List DynOut) (f : Far) : lineFrame { t with sch := { t.sch with dyn := d } } f = lineFrame t f := rfl
    cases hserved : s.mon.served with
    | none => simp [spoken, hserved]
    | some f => simp [spoken, hserved, hframe]

theorem hears_spoken {x : Ses} {s : State} (h : Hears x s) (lines : List (String × List Nat)) : Hears x (spoken x lines s) := by
  cases x with
  | onUart => exact fun e => nomatch e
  | remote => exact h

/-- A line after others. -/
theorem say_after {x : Ses} {s : State} (h : Hears x s) (a : List (String × List Nat)) (k : String) (v : List Nat) :
    say (spoken x a s) x k v = spoken x (a ++ [(k, v)]) s := by
  rw [say_spoken (hears_spoken h a), spoken_append]

theorem done_after {x : Ses} {s : State} (h : Hears x s) (a : List (String × List Nat)) : done (spoken x a s) x = spoken x (a ++ [("OK",
    [])]) s := say_after h a "OK" []

theorem done_spoken {x : Ses} {s : State} (h : Hears x s) : done s x = spoken x [("OK", [])] s := say_spoken h "OK" []
theorem fails_spoken {x : Ses} {s : State} (h : Hears x s) (n : Nat) : fails s x n = spoken x [("ERR", [n])] s := say_spoken h "ERR" [n]

theorem done_say {x : Ses} {s : State} (h : Hears x s) (k : String) (v : List Nat) : done (say s x k v) x = spoken x [(k, v), ("OK", [])] s := by
  rw [say_spoken h, done_after h]; rfl

theorem spoken_nil (x : Ses) (s : State) : spoken x [] s = s := by
  cases x with
  | onUart => rfl
  | remote =>
    have hnone : s.sch.dyn ++ s.mon.served.toList.flatMap (fun f => ([] : List (String × List Nat)).map (lineFrame s f)) = s.sch.dyn := by simp
    simp only [spoken, hnone]

/-- Lines for each of a list. -/
theorem foldl_say {α : Type} {x : Ses} {s : State} (lines : α → List (String × List Nat)) (say' : State → α → State)
    (hsay : ∀ a i, say' (spoken x a s) i = spoken x (a ++ lines i) s) (l : List α) (a : List (String × List Nat)) :
    l.foldl say' (spoken x a s) = spoken x (a ++ l.flatMap lines) s := by
  induction l generalizing a with
  | nil => simp
  | cons i r ih => rw [List.foldl_cons, hsay, ih, List.flatMap_cons, List.append_assoc]

theorem foldl_say_map {α : Type} {x : Ses} {s : State} (h : Hears x s) (line : α → String × List Nat) (a : List (String × List Nat)) (l : List α) :
    l.foldl (fun t i => say t x (line i).1 (line i).2) (spoken x a s) = spoken x (a ++ l.map line) s := by
  rw [foldl_say (fun i => [line i]) _ (fun b i => say_after h b _ _), ← List.map_eq_flatMap]

/-! ### What is read while lines are said -/

section

variable (x : Ses) (a : List (String × List Nat)) (s : State)

theorem spoken_unread : spoken x a s = withUnread s.otp (spoken x a s).out (spoken x a s).sch.dyn s := by cases x <;> rfl

theorem outQ_spoken : (spoken x a s).sch.dyn.filter (fun x => x.origin == 3) = outQ s := by
  cases x with
  | onUart => rfl
  | remote =>
    have hother (f : Far) (l : String × List Nat) : ((lineFrame s f l).origin == 3) = false := rfl
    simp [spoken, outQ, List.filter_flatMap, List.filter_map, Function.comp_def, hother]

theorem regRead_spoken (req : Req) (o : Nat) : regRead (spoken x a s) req o = regRead s req o := by
  rw [spoken_unread x a s]
  exact regRead_withUnread _ (outQ_spoken x a s) rfl rfl rfl req o

theorem unitWord_spoken (u : Nat) : unitWord (spoken x a s) u = unitWord s u := by cases x <;> rfl

end

/-- The lines that show registers. -/
def regShown (s : State) (o : Nat) : String × List Nat := ("REG", [o, (regRead s .monitor o).toNat])

theorem showRegs_spoken {x : Ses} {s : State} (h : Hears x s) (offs : List Nat) (heff : offs.any effectReg = false) :
    showRegs s x offs = spoken x (offs.map (regShown s)) s := by
  have hfold (l : List Nat) (hl : ∀ o ∈ l, effectReg o = false) (a : List (String × List Nat)) :
      l.foldl (fun t o => say (readEffect t .monitor o) x "REG" [o, (regRead t .monitor o).toNat]) (spoken x a s) = spoken x (a ++ l.map (regShown s)) s := by
    induction l generalizing a with
    | nil => simp
    | cons o r ih =>
      rw [List.foldl_cons, readEffect_plain .monitor (hl o (by simp)), regRead_spoken, say_after h, ih fun k hk => hl k (by simp [hk]), List.append_assoc]
      rfl
  have hstart := hfold offs (by simpa using heff) []
  rwa [spoken_nil] at hstart

/-! ### A command that is answered at once -/

/-- The response on the UART is followed by the prompt. -/
def prompted (x : Ses) (s : State) : State :=
  match x with
  | .onUart => emit s (.line .onUart "PROMPT" [0, s.mon.ses.level])
  | .remote => s

/-- The UART is free to answer: no far node asked, no image awaited, no session open from here. -/
def Prompts (x : Ses) (s : State) : Prop := x = .onUart → s.mon.waiting = false ∧ s.mon.prog = none ∧ s.mon.opened = none

theorem hears_ready {x : Ses} {s : State} (h : MonReady x s) : Hears x s := h.2.2
theorem prompts_ready {x : Ses} {s : State} (h : MonReady x s) : Prompts x s := h.2.1

/-- A command in a session that takes it runs on the node as counted, and the UART prompts. -/
theorem runMon_ready {x : Ses} {s : State} (h : MonReady x s) {wakeLow : Bool} {c : MonCmd} {t : State} (ht : cmdRun (bumpMon s 0) x wakeLow c = t)
    (hp : Prompts x t) : runMon s x wakeLow c = prompted x t := by
  obtain ⟨halive, huart, hremote⟩ := h
  cases x with
  | onUart =>
    obtain ⟨hwait, hprog, hopened⟩ := huart rfl
    obtain ⟨hwait', hprog', hopened'⟩ := hp rfl
    have hup : (coreRun s && s.flt.mgmtDown && !bscan s) = false := by
      simp only [monAlive, Bool.and_eq_true, Bool.not_eq_true'] at halive
      simp [halive.1.2]
    have hline : runLine s wakeLow c = prompted .onUart t := by
      simp only [runLine, hopened, ht, uartBusy, hwait', hprog', Option.isSome_none, Bool.or_self, Bool.false_eq_true, if_false, prompt, hopened']
      rfl
    simp only [runMon, hup, halive, hprog, hwait, Bool.not_true, Option.isSome_none, Bool.or_self, Bool.false_eq_true, if_false, hline]
  | remote =>
    have hserved : s.mon.served.isSome = true := by
      have hq := hremote rfl
      cases hs : s.mon.served with
      | none => simp [hs] at hq
      | some f => rfl
    simp only [runMon, halive, hserved, Bool.and_self, if_true, ht]
    rfl

/-- A command offered in its session, at its level. -/
def Allowed (x : Ses) (c : MonCmd) (s : State) : Prop := (x = .remote → localOnly c = false) ∧ (needsService c = true → (sessOf s x).level = 2)

theorem cmdRun_allowed {x : Ses} {c : MonCmd} {s : State} (h : Allowed x c s) (wakeLow : Bool) : cmdRun s x wakeLow c = signEvents s
    (cmdGo s x wakeLow c) x := by
  obtain ⟨hoffered, hlevel⟩ := h
  have hfirst : ¬ (x = .remote ∧ localOnly c = true) := fun e => by simp [hoffered e.1] at e
  have hsecond : ¬ (needsService c = true ∧ (sessOf s x).level ≠ 2) := fun e => e.2 (hlevel e.1)
  rw [cmdRun, if_neg hfirst, if_neg hsecond]

/-- Where no event was raised, none is signed. -/
theorem signEvents_none {s t : State} (h : t.log.raised = s.log.raised) (x : Ses) : signEvents s t x = t := by
  have hnone : newEvents s t = [] := by rw [newEvents, h, List.drop_length]
  rw [signEvents, hnone, List.map_nil, List.append_nil, h, List.take_length, ← h]

/-- The node as counted answers as it did. -/
theorem hears_bumpMon {x : Ses} {s : State} (h : Hears x s) (i : Nat) (hi : i < 8) : Hears x (bumpMon s i) := by
  have hkept (o : Nat) (ho : o < 0xD080) : reg (bumpMon s i) o = reg s o := reg_bump_ne s (by omega)
  have hclass : monClass (bumpMon s i) = monClass s := by simp only [monClass, regF, hkept _ (show 0xD000 < 0xD080 by decide)]
  intro e
  have hq := h e
  rw [← hclass, ← hkept 0x5008 (by decide)] at hq
  exact hq

theorem lineFrame_bumpMon (s : State) (f : Far) : lineFrame (bumpMon s 0) f = lineFrame s f := by
  have hkept (o : Nat) (ho : o < 0xD080) : reg (bumpMon s 0) o = reg s o := reg_bump_ne s (by omega)
  have hclass : monClass (bumpMon s 0) = monClass s := by simp only [monClass, regF, hkept _ (show 0xD000 < 0xD080 by decide)]
  funext l
  simp only [lineFrame, hclass, hkept 0x5008 (by decide)]
  rfl

/-- No unit's state reads the monitor's counters. -/
theorem unitWord_bumpMon (s : State) (u : Nat) : unitWord (bumpMon s 0) u = unitWord s u := by
  have hlane (hu : u < 4) : regB (bumpMon s 0) (0x1100 + 0x100 * u) 0 = regB s (0x1100 + 0x100 * u) 0 := by
    rw [regB, regB, bumpMon, reg_bump_ne s (by omega)]
  have hchan (hu : 0x08 ≤ u ∧ u ≤ 0x0F) : regB (bumpMon s 0) (0x7000 + 0x200 * (u - 8)) 0 = regB s (0x7000 + 0x200 * (u - 8)) 0 := by
    rw [regB, regB, bumpMon, reg_bump_ne s (by omega)]
  have hreq : reqState (bumpMon s 0) u = reqState s u := by
    have hrun : coreRun (bumpMon s 0) = coreRun s := rfl
    have hunit : fUnit (bumpMon s 0) u = fUnit s u := rfl
    have hserv : service (bumpMon s 0) = service s := rfl
    by_cases h4 : u < 4
    · simp [reqState, hrun, hunit, h4, hlane h4]
    · by_cases hc : 0x08 ≤ u ∧ u ≤ 0x0F
      · simp [reqState, hrun, hunit, hserv, h4, hchan hc]
      · simp only [reqState, hrun, hunit, if_neg h4, if_neg hc]
  have heff : effState (bumpMon s 0) u = effState s u := rfl
  simp only [unitWord, hreq, heff]
  rfl

/-- What lines leave and the prompt after them keep of the node. -/
theorem frame_spoken (x : Ses) (lines : List (String × List Nat)) (s : State) : Frame [.out, .sch] (fun _ => False) s (prompted x (spoken x lines s)) := by
  cases x <;> exact ⟨fun p hp => by cases p <;> simp_all [Same, prompted, spoken, emit], fun _ _ _ => rfl⟩

theorem frame_bumpMon (s : State) : Frame [] (· = 0xD080) s (bumpMon s 0) := (frame_bump s 0xD080).within

theorem counted_bumpMon (s : State) : Counted 0xD080 1 s (bumpMon s 0) := by simp [Counted, bumpMon, reg_bump]

/-- Lines said and the prompt after them, over a state v that answers as s does and counts the command: answered. -/
theorem answered_spoken {x : Ses} {s v : State} {lines : List (String × List Nat)} (hcount : Counted 0xD080 1 s v) (hout : v.out = s.out)
    (hdyn : v.sch.dyn = s.sch.dyn) (hserved : v.mon.served = s.mon.served) (hline : ∀ f, lineFrame v f = lineFrame s f) :
    Answered x lines s (settle s (prompted x (spoken x lines v))) := by
  refine ⟨counted_settle (by decide) ((Frame.reg (frame_spoken x _ _) (by simp)).trans hcount), fun e => ?_, fun e => ?_⟩
  · subst e
    rw [settle_out, settle_mon, settle_sch]
    exact ⟨by rw [← hout]; rfl, hdyn⟩
  · subst e
    rw [settle_out, settle_sch]
    exact ⟨hout, by simp only [prompted, spoken, hline, hdyn, hserved]⟩

/-- A command that only answers: its lines are said, and nothing else changed. -/
theorem told_run {x : Ses} {c : MonCmd} {s : State} {wakeLow : Bool} {lines : List (String × List Nat)} (h : MonReady x s)
    (hrun : cmdRun (bumpMon s 0) x wakeLow c = spoken x lines (bumpMon s 0)) :
    Answered x lines s (settle s (runMon s x wakeLow c)) ∧ (settle s (runMon s x wakeLow c)).mon = s.mon ∧ SchKept s (settle s (runMon s x wakeLow c)) ∧
      Frame [.out, .sch] (· = 0xD080) s (settle s (runMon s x wakeLow c)) := by
  rw [runMon_ready h hrun (by cases x <;> exact prompts_ready (s := s) h)]
  refine ⟨answered_spoken (counted_bumpMon s) rfl rfl rfl (lineFrame_bumpMon s), ?_, ?_, frame_settle (frame_trans (frame_bumpMon s |>.within)
    (frame_spoken x _ _ |>.within))⟩
  · rw [settle_mon]; cases x <;> rfl
  · rw [SchKept, settle_sch]; cases x <;> rfl

/-- A command that shows: answered with its lines and OK, and nothing else changed. -/
theorem shows_run {x : Ses} {c : MonCmd} {s : State} {lines : List (String × List Nat)} (h : MonReady x s) (hc : Allowed x c s)
    (hgo : cmdGo (bumpMon s 0) x false c = spoken x (lines ++ [("OK", [])]) (bumpMon s 0)) : Shows x lines s (settle s (runMon s x false c)) := by
  have hraised : (spoken x (lines ++ [("OK", [])]) (bumpMon s 0)).log.raised = (bumpMon s 0).log.raised := by cases x <;> rfl
  exact told_run h (by rw [cmdRun_allowed (s := bumpMon s 0) hc, hgo, signEvents_none hraised])

/-! ### The commands that show -/

/-- Settles O36. -/
theorem monitorShowsComplete : Obligations.MonitorShowsComplete := by
  have hears {x : Ses} {s : State} (h : MonReady x s) : Hears x (bumpMon s 0) := hears_bumpMon (hears_ready h) 0 (by decide)
  have allowed {x : Ses} {c : MonCmd} {s : State} (ho : localOnly c = false) (hn : needsService c = false) : Allowed x c s :=
    ⟨fun _ => ho, fun e => by simp [hn] at e⟩
  refine ⟨fun s x h => ?_, fun s x h => ?_, fun s x off n h ha h1 h64 hend heff => ?_, fun s x h => ?_, fun s x a h => ?_, fun s x e i h hi => ?_,
    fun s x l h => ?_, fun s x h => ?_, fun s x h => ?_, fun s x h => ?_, fun s x h => ?_, fun s x h => ?_, fun s x h => ?_⟩
  · exact completes_of rfl (shows_run h (allowed rfl rfl) (done_say (hears h) ..))
  · exact completes_of rfl (shows_run h (allowed rfl rfl) (done_say (hears h) ..))
  · refine completes_of rfl (shows_run h (allowed rfl rfl) ?_)
    have hrange : ¬ (off % 4 ≠ 0 ∨ n = 0 ∨ 64 < n ∨ 65536 < off + 4 * n) := by omega
    simp only [cmdGo, cmdRd, if_neg hrange, heff, Bool.false_eq_true, false_and, if_false]
    rw [showRegs_spoken (hears h) _ heff, done_after (hears h)]
    rfl
  · exact completes_of rfl (shows_run h (allowed rfl rfl) (done_say (hears h) ..))
  · refine completes_of rfl (shows_run h (allowed rfl rfl) ?_)
    have hall := foldl_say_map (hears h) (fun r : Nat × Nat × Rec => ("REC", [r.1, r.2.1] ++ (recBytes r.2.2.seq r.2.2.ev).map BitVec.toNat)) []
      (dumpRecords s a)
    rw [spoken_nil] at hall
    exact (congrArg (fun t => done t x) hall).trans (done_after (hears h) _)
  · refine completes_of rfl (shows_run h (allowed rfl rfl) ?_)
    rw [cmdGo, inRange, if_pos hi, done_say (hears h)]
    rfl
  · refine completes_of rfl (shows_run h (allowed rfl rfl) ?_)
    rw [cmdGo, inRange, if_pos l.isLt, showRegs_spoken (hears h) _ (by revert l; decide), done_after (hears h)]
    rfl
  · refine completes_of rfl (shows_run h (allowed rfl rfl) ?_)
    rw [cmdGo, showRegs_spoken (hears h) _ (by decide), done_after (hears h)]
    rfl
  · refine completes_of rfl (shows_run h (allowed rfl rfl) ?_)
    have hsel : segSel (bumpMon s 0) = segSel s := by
      have hreg (o : Nat) (ho : o < 0xD080) : reg (bumpMon s 0) o = reg s o := reg_bump_ne s (by omega)
      simp only [segSel, segGw, regB, hreg 0x2018 (by decide), hreg 0x2000 (by decide)]
      rfl
    have hfold (a : List (String × List Nat)) (i : Nat) : (match s.inaug[segSel s].table[i]? with
        | some e => say (spoken x a (bumpMon s 0)) x "NODE" [i + 1, e.uid, e.handle, e.eflags, e.rank, e.slotref]
        | none => spoken x a (bumpMon s 0)) = spoken x (a ++ ((s.inaug[segSel s].table[i]?).map (fun e =>
          ("NODE", [i + 1, e.uid, e.handle, e.eflags, e.rank, e.slotref]))).toList) (bumpMon s 0) := by
      cases s.inaug[segSel s].table[i]? with
      | none => simp
      | some e => exact say_after (hears h) a _ _
    simp only [cmdGo, cmdTopo, hsel]
    rw [say_spoken (hears h), List.filterMap_eq_flatMap_toList]
    exact (congrArg (fun t => done t x) (foldl_say _ _ hfold _ _)).trans (done_after (hears h) _)
  · refine completes_of rfl (shows_run h (allowed rfl rfl) ?_)
    rw [cmdGo, showRegs_spoken (hears h) _ (by decide), done_after (hears h)]
    rfl
  · refine completes_of rfl (shows_run h (allowed rfl rfl) ?_)
    have hunit (a : List (String × List Nat)) (u : Nat) : say (spoken x a (bumpMon s 0)) x "UNIT" [u, (unitWord (spoken x a (bumpMon s 0)) u).toNat] =
        spoken x (a ++ [("UNIT", [u, (unitWord s u).toNat])]) (bumpMon s 0) := by
      rw [unitWord_spoken, unitWord_bumpMon]
      exact say_after (hears h) a _ _
    have heff (u : Nat) : effState (bumpMon s 0) u = effState s u := rfl
    simp only [cmdGo, cmdFault, heff]
    rw [showRegs_spoken (hears h) _ (by decide), foldl_say (fun u => [("UNIT", [u, (unitWord s u).toNat])]) _ hunit, done_after (hears h),
      ← List.map_eq_flatMap]
    rfl
  · exact completes_of rfl (shows_run h (allowed rfl rfl) (done_say (hears h) ..))
  · refine completes_of rfl (shows_run h (allowed rfl rfl) ?_)
    rw [cmdGo, showRegs_spoken (hears h) _ (by decide), done_after (hears h)]
    rfl

end Sys2Proof.Talk
end

section
/-! SUPPORT. Monitor commands that act (R400 to R402): what they leave is answered, their events signed; and the statement on levels, keys and timers. -/

namespace Sys2Proof.Talk

open Sys2Proof.Machine Sys2Proof.Safety Sys2Proof.Bridge Sys2Proof.Target Sys2Proof.Registers

/-! ### Answering after an act -/

section

variable {x : Ses} {s u : State} (hmon : u.mon.served = s.mon.served) (htab : u.tables = s.tables) (hin : u.inaug = s.inaug) (huid : u.uid = s.uid)
  (hlane : reg u 0x5008 = reg s 0x5008) (hcfg : reg u 0xD000 = reg s 0xD000)
include hmon htab hin huid hlane hcfg

-- Elaborated by itself, so that the proofs before it are checked before those after it begin: this bounds the memory that proofs under way take at once.
set_option Elab.async false in
/-- What is heard of a session depends on its initiator, the slot plan and the classes alone. -/
theorem hears_congr (h : Hears x s) : Hears x u := by
  have hclass : monClass u = monClass s := by simp only [monClass, regF, hcfg]
  have hrow (g : Fin 2) : ownRow u g = ownRow s g := by
    have hent : ownEnt u g = ownEnt s g := by rw [ownEnt, ownEnt, hin, huid]
    have hplan (r : Nat) : planRow u r = planRow s r := by rw [planRow, planRow, htab]
    simp only [ownRow, hent, hplan]
  simpa only [Hears, hmon, hrow, hlane, hclass] using h

omit hmon htab hin in
theorem lineFrame_congr (hseq : u.mon.mseqIn = s.mon.mseqIn) (f : Far) : lineFrame u f = lineFrame s f := by
  have hclass : monClass u = monClass s := by simp only [monClass, regF, hcfg]
  funext l
  simp only [lineFrame, hclass, hlane, hseq, huid]

end

theorem hears_raise {x : Ses} {s : State} (h : Hears x s) (code sev inst : Nat) (vals : List Nat) : Hears x (raise s code sev inst vals) := by
  have hf := frame_raise s code sev inst vals
  refine hears_congr (congrArg Monitor.served (hf.part .mon)) (hf.part .tables) (hf.part .inaug) (hf.part .uid) hf.reg hf.reg h

/-! ### Signed events (R406) -/

/-- An event as a remote command signs it: one of severity 6 carries the initiator's handle. -/
def signed (l : List Nat) (e : Event) : Event := if e.sev = 6 then { e with vals := e.vals ++ l } else e

theorem signEvents_raised {s t : State} {evs : List Event} (h : t.log.raised = s.log.raised ++ evs) (x : Ses) :
    (signEvents s t x).log.raised = s.log.raised ++ evs.map (signed (initiator s x)) := by
  have hnew : newEvents s t = evs := by rw [newEvents, h, List.drop_left]
  rw [signEvents, hnew, h, List.take_left]
  rfl

theorem frame_signEvents (s t : State) (x : Ses) : Frame [.log] (fun _ => False) t (signEvents s t x) :=
  ⟨fun p hp => by cases p <;> simp_all [Same, signEvents], fun _ _ _ => rfl⟩

theorem signEvents_spoken (x : Ses) (lines : List (String × List Nat)) (s t : State) :
    signEvents s (spoken x lines t) x = spoken x lines (signEvents s t x) := by cases x <;> rfl

/-- A command that acts leaves u, its events signed, and is answered. -/
theorem acts_run {x : Ses} {c : MonCmd} {s u : State} {wakeLow : Bool} {lines : List (String × List Nat)} (h : MonReady x s) (hc : Allowed x c s)
    (hgo : cmdGo (bumpMon s 0) x wakeLow c = spoken x lines u) (hp : Prompts x u) :
    runMon s x wakeLow c = prompted x (spoken x lines (signEvents (bumpMon s 0) u x)) := by
  refine runMon_ready h ?_ ?_
  · rw [cmdRun_allowed (s := bumpMon s 0) hc, hgo, signEvents_spoken]
  · cases x <;> exact hp

theorem frame_uartSpoken (lines : List (String × List Nat)) (s : State) : Frame [.out] (fun _ => False) s (prompted .onUart (spoken .onUart lines s)) :=
  ⟨fun p hp => by cases p <;> simp_all [Same, prompted, spoken, emit], fun _ _ _ => rfl⟩

theorem mon_spoken (x : Ses) (lines : List (String × List Nat)) (s : State) : (prompted x (spoken x lines s)).mon = s.mon := by cases x <;> rfl
theorem log_spoken (x : Ses) (lines : List (String × List Nat)) (s : State) : (prompted x (spoken x lines s)).log = s.log := by cases x <;> rfl
theorem otp_spoken (x : Ses) (lines : List (String × List Nat)) (s : State) : (prompted x (spoken x lines s)).otp = s.otp := by cases x <;> rfl
theorem sch_spoken (x : Ses) (lines : List (String × List Nat)) (s : State) :
    (prompted x (spoken x lines s)).sch = { s.sch with dyn := (prompted x (spoken x lines s)).sch.dyn } := by cases x <;> rfl

theorem sessOf_settle (s t : State) (x : Ses) : sessOf (settle s t) x = sessOf t x := by cases x <;> simp only [sessOf, settle_mon]
theorem sessOf_congr {s t : State} (h : t.mon = s.mon) (x : Ses) : sessOf t x = sessOf s x := by cases x <;> simp only [sessOf, h]

theorem schKept_settle {s t v : State} (h : v.sch = s.sch) (ht : t.sch = { v.sch with dyn := t.sch.dyn }) : SchKept s (settle s t) := by
  rw [SchKept, settle_sch, ← h]; exact ht

theorem coreRun_of_ready {x : Ses} {s : State} (h : MonReady x s) : coreRun s = true := by
  have ha := h.1
  simp only [monAlive, Bool.and_eq_true] at ha
  exact ha.1.1

/-! ### Sessions -/

section

variable (s : State) (x : Ses) (f : Sess → Sess)

theorem sessOf_setSess : sessOf (setSess s x f) x = f (sessOf s x) := by cases x <;> rfl
theorem setSess_served : (setSess s x f).mon.served = s.mon.served := by cases x <;> rfl
theorem setSess_fails : (setSess s x f).mon.fails = s.mon.fails := by cases x <;> rfl
theorem frame_setSess : Frame [.mon] (fun _ => False) s (setSess s x f) := by
  cases x <;> exact ⟨fun p hp => by cases p <;> simp_all [Same, setSess], fun _ _ _ => rfl⟩

end

theorem prompts_setSess {y : Ses} {s : State} (h : Prompts y s) (x : Ses) (f : Sess → Sess) : Prompts y (setSess s x f) := by cases x <;> exact h
theorem hears_setSess {y : Ses} {s : State} (h : Hears y s) (x : Ses) (f : Sess → Sess) : Hears y (setSess s x f) := by cases x <;> exact h

/-- What an act leaves beside output and schedule is answered as the node answered. -/
theorem answered_framed {P : List Part} {R : Nat → Prop} {x : Ses} {s v : State} {lines : List (String × List Nat)} (hf : Frame P R s v)
    (hcount : Counted 0xD080 1 s v) (hserved : v.mon.served = s.mon.served) (hseq : v.mon.mseqIn = s.mon.mseqIn)
    (hP : Part.out ∉ P ∧ Part.sch ∉ P ∧ Part.uid ∉ P := by decide) (hR : ¬ R 0x5008 ∧ ¬ R 0xD000 := by simp) :
    Answered x lines s (settle s (prompted x (spoken x lines v))) :=
  answered_spoken hcount (hf.part .out hP.1) (congrArg Sched.dyn (hf.part .sch hP.2.1)) hserved
    (fun f => lineFrame_congr (hf.part .uid hP.2.2) (hf.reg hR.1) (hf.reg hR.2) hseq f)

/-- A part that is the same after all leaves a frame. -/
theorem frame_without {p : Part} {P : List Part} {R : Nat → Prop} {s t : State} (h : Frame (p :: P) R s t) (hp : Same s t p) :
    Frame P R s t :=
  ⟨fun q hq => if e : q = p then e ▸ hp else h.1 q (by simp [e, hq]), h.2⟩

/-- What is counted and then changed within a frame. -/
theorem frame_counted {P : List Part} {R : Nat → Prop} {s u : State} (hf : Frame P R (bumpMon s 0) u) : Frame P (fun o => R o ∨ o = 0xD080) s u :=
  frame_trans (frame_bumpMon s |>.within (by simp) (by simp)) (hf.within (fun _ h => h) fun _ => .inl)

theorem counted_acted {P : List Part} {R : Nat → Prop} {s u : State} (hf : Frame P R (bumpMon s 0) u) (hR : ¬ R 0xD080 := by simp) : Counted 0xD080 1 s u :=
  (hf.reg hR).trans (counted_bumpMon s)

/-- What a command that acts leaves, v being the node after the act with its events signed. -/
theorem acts_done {P : List Part} {R : Nat → Prop} {x : Ses} {s v : State} (lines : List (String × List Nat)) (hf : Frame P R s v)
    (hcount : Counted 0xD080 1 s v) (hserved : v.mon.served = s.mon.served) (hseq : v.mon.mseqIn = s.mon.mseqIn)
    (hP : Part.out ∉ P ∧ Part.sch ∉ P ∧ Part.uid ∉ P := by decide) (hR : ¬ R 0x5008 ∧ ¬ R 0xD000 := by simp) :
    Answered x lines s (settle s (prompted x (spoken x lines v))) ∧ SchKept s (settle s (prompted x (spoken x lines v))) ∧
      (settle s (prompted x (spoken x lines v))).mon = v.mon ∧ (settle s (prompted x (spoken x lines v))).log = v.log ∧
      (settle s (prompted x (spoken x lines v))).otp = v.otp ∧ Frame (.out :: .sch :: P) R s (settle s (prompted x (spoken x lines v))) := by
  refine ⟨answered_framed hf hcount hserved hseq hP hR, schKept_settle (hf.part .sch hP.2.1) (sch_spoken ..), ?_, ?_, ?_, ?_⟩
  · rw [settle_mon, mon_spoken]
  · rw [settle_log, log_spoken]
  · rw [settle_otp, otp_spoken]
  · exact frame_settle (frame_trans (hf.within (by simp) fun _ h => h) (frame_spoken x lines v |>.within (by simp) (by simp)))

/-- What is left by an act that raises one event: the event signed, the rest as the act left it. -/
theorem signed_event {P : List Part} {s w : State} (hf : Frame P (fun _ => False) (bumpMon s 0) w) (hrun : coreRun s = true) (x : Ses)
    (code sev inst : Nat) (vals : List Nat) (hP : Part.log ∉ P ∧ Part.line ∉ P ∧ Part.boot ∉ P ∧ Part.mram ∉ P := by decide) :
    Frame (.log :: P) (fun o => o = 0xC180 ∨ o = 0xD080) s (signEvents (bumpMon s 0) (raise w code sev inst vals) x) ∧
      Counted 0xD080 1 s (signEvents (bumpMon s 0) (raise w code sev inst vals) x) ∧
      (signEvents (bumpMon s 0) (raise w code sev inst vals) x).mon = w.mon ∧ (signEvents (bumpMon s 0) (raise w code sev inst vals) x).otp = w.otp ∧
      (signEvents (bumpMon s 0) (raise w code sev inst vals) x).log.raised =
        s.log.raised ++ [mkEvent s code sev inst (if sev = 6 then vals ++ initiator s x else vals)] := by
  have hw : coreRun w = true := (coreRun_of_frame hf hP.2.1 hP.2.2.1).trans hrun
  have hev : (raise w code sev inst vals).log.raised = (bumpMon s 0).log.raised ++ [mkEvent s code sev inst vals] := by
    have hlog : w.log = (bumpMon s 0).log := hf.part .log hP.1
    rw [raise_raised w _ _ _ _ hw, hlog, mkEvent_of_frame hf hP.2.2.1 hP.2.2.2]
    rfl
  have hfv : Frame (.log :: P) (· = 0xC180) (bumpMon s 0) (signEvents (bumpMon s 0) (raise w code sev inst vals) x) :=
    frame_trans (frame_trans (hf.within (by simp)) (frame_raise w code sev inst vals |>.within (by simp) (by simp))) (frame_signEvents
      (bumpMon s 0) _ x |>.within (by simp) (by simp))
  refine ⟨frame_counted hfv, counted_acted hfv, raise_mon .., raise_otp .., ?_⟩
  rw [signEvents_raised hev]
  by_cases h6 : sev = 6
  · subst h6; rfl
  · have hkeep : signed (initiator (bumpMon s 0) x) (mkEvent s code sev inst vals) = mkEvent s code sev inst vals := if_neg h6
    rw [List.map_cons, hkeep, if_neg h6]
    rfl

/-! ### Unlocking (R401) -/

/-- A response ends the challenge. -/
def spent (x : Ses) (s : State) : State := setSess s x (fun y => { y with chal := none })

/-- The right response sets SERVICE and ends the run of wrong ones. -/
def unlocked (x : Ses) (s : State) : State :=
  setSess { spent x s with mon := { (spent x s).mon with fails := 0 } } x (fun y => { y with level := 2 })

theorem cmdUnlockResp_right {x : Ses} {s : State} {r key c : Bytes} (hl : s.mon.lockEnd = none) (hk : s.otp.mon = some key) (hc : (sessOf s x).chal = some c)
    (hr : hmac key (c ++ beBytes 8 s.uid ++ [0x02#8]) = r) :
    cmdUnlockResp s x r = done (raise (unlocked x s) 0xD001 6 0xFFF [if x = .remote then 1 else 0]) x := by
  simp only [cmdUnlockResp, hl, hk, hc, hr, Option.isSome_none, Bool.false_eq_true, if_false, if_pos]
  rfl

theorem frame_unlocked (x : Ses) (s : State) : Frame [.mon] (fun _ => False) s (unlocked x s) := by
  cases x <;> exact ⟨fun p hp => by cases p <;> simp_all [Same, unlocked, spent, setSess], fun _ _ _ => rfl⟩

theorem sessOf_unlocked (x : Ses) (s : State) : sessOf (unlocked x s) x = { level := 2, chal := none } := by cases x <;> rfl

/-- A key goes into its slot. -/
def keyed (k : KeySlot) (key : Bytes) (s : State) : State :=
  { s with otp := match k with
    | .img => { s.otp with img := some key }
    | .mon => { s.otp with mon := some key }
    | .clr => { s.otp with clr := some key } }

/-- The number of a slot in KEY_PROGRAMMED. -/
def slotNo (k : KeySlot) : Nat :=
  match k with
  | .img => 0
  | .mon => 1
  | .clr => 2

theorem otpSlot_keyed (k : KeySlot) (key : Bytes) (s : State) : otpSlot (keyed k key s).otp k = some key := by cases k <;> rfl
theorem otpSlot_keyed_other {k m : KeySlot} (h : m ≠ k) (key : Bytes) (s : State) : otpSlot (keyed k key s).otp m = otpSlot s.otp m := by
  cases k <;> cases m <;> first | rfl | exact absurd rfl h

theorem frame_keyed (k : KeySlot) (key : Bytes) (s : State) : Frame [.otp] (fun _ => False) s (keyed k key s) := by
  cases k <;> exact ⟨fun p hp => by cases p <;> simp_all [Same, keyed], fun _ _ _ => rfl⟩

theorem cmdKey_programs {s : State} {k : KeySlot} {key : Bytes} (hlen : key.length = 32) (hlevel : s.mon.ses.level = 2) (hslot : otpSlot s.otp k = none) :
    cmdKey s .onUart k key = spoken .onUart [("OK", [])] (raise (keyed k key s) 0xD020 6 0xFFF [slotNo k]) := by
  have hl : ¬ key.length ≠ 32 := by simp [hlen]
  have hv : ¬ ((sessOf s .onUart).level ≠ 2 ∧ ¬ (k = .mon ∧ s.otp.mon = none)) := fun e => e.1 hlevel
  unfold cmdKey
  rw [if_neg hl, if_neg hv, hslot]
  cases k <;> rfl

/-- A challenge stands in a session. -/
def challenged (x : Ses) (s : State) : State := setSess (takeFree s) x (fun y => { y with chal := some (randomBytes s 16) })

theorem frame_challenged (x : Ses) (s : State) : Frame [.mon, .free] (fun _ => False) s (challenged x s) :=
  frame_trans (frame_takeFree s |>.within) (frame_setSess _ x _ |>.within)

theorem cmdUnlock_challenges {x : Ses} {s : State} (hh : Hears x s) (hl : s.mon.lockEnd = none) (hk : s.otp.mon.isSome = true) (hc : (sessOf s x).chal = none) :
    cmdUnlock s x = spoken x [("CHAL", (randomBytes s 16).map BitVec.toNat), ("OK", [])] (challenged x s) := by
  have hk' : s.otp.mon.isNone = false := by cases e : s.otp.mon <;> simp_all
  simp only [cmdUnlock, hl, hk', hc, Option.isSome_none, Bool.false_eq_true, if_false]
  exact done_say (hears_setSess (s := takeFree s) hh x _) "CHAL" _

/-- Settles O38. -/
theorem monitorLevelsComplete : Obligations.MonitorLevelsComplete := by
  have hears {x : Ses} {s : State} (h : MonReady x s) : Hears x (bumpMon s 0) := hears_bumpMon (hears_ready h) 0 (by decide)
  have allowed {x : Ses} {c : MonCmd} {s : State} (ho : localOnly c = false) (hn : needsService c = false) : Allowed x c s :=
    ⟨fun _ => ho, fun e => by simp [hn] at e⟩
  refine ⟨fun s x h hl hk hc => ?_, fun s x r key c h hl hk hc hr => ?_, fun s x h => ?_, fun s k key h hrun hlen hlevel hslot => ?_,
    fun s k key h => ?_, fun s x h => ?_, fun s x => ?_, fun s x => ?_, fun s x => ?_⟩
  · refine completes_of (u := runMon s x false .unlock) rfl ?_
    have hf := frame_challenged x (bumpMon s 0)
    have hquiet : (challenged x (bumpMon s 0)).log.raised = (bumpMon s 0).log.raised := congrArg Recorder.raised (hf.part .log)
    have hgo : cmdGo (bumpMon s 0) x false .unlock = spoken x [("CHAL", (randomBytes s 16).map BitVec.toNat), ("OK", [])] (challenged x (bumpMon s 0)) :=
      cmdUnlock_challenges (hears h) hl hk hc
    rw [acts_run h (allowed rfl rfl) hgo
      (prompts_setSess (s := takeFree (bumpMon s 0)) (prompts_ready (s := s) h) x _), signEvents_none hquiet]
    obtain ⟨hans, hsch, hmon, -, -, hframe⟩ := acts_done (x := x) [("CHAL", (randomBytes s 16).map BitVec.toNat), ("OK",
      [])] (frame_counted hf) (counted_acted hf)
      (setSess_served ..) (by cases x <;> rfl)
    refine ⟨?_, ?_, hans, hsch, ?_, ?_, hframe.within⟩
    · rw [sessOf_congr hmon]; exact congrArg Sess.chal (sessOf_setSess ..)
    · rw [sessOf_congr hmon]; cases x <;> rfl
    · rw [hmon]; exact setSess_fails ..
    · rw [hmon]; exact setSess_served ..
  · refine completes_of (u := runMon s x false (.unlockResp r)) rfl ?_
    have hh : Hears x (unlocked x (bumpMon s 0)) := by cases x <;> exact hears (s := s) h
    have hgo : cmdGo (bumpMon s 0) x false (.unlockResp r) =
        spoken x [("OK", [])] (raise (unlocked x (bumpMon s 0)) 0xD001 6 0xFFF [if x = .remote then 1 else 0]) :=
      (cmdUnlockResp_right (s := bumpMon s 0) hl hk hc hr).trans (done_spoken (hears_raise hh _ _ _ _))
    rw [acts_run h (allowed rfl rfl) hgo (by rw [Prompts, raise_mon]; cases x <;> exact prompts_ready (s := s) h)]
    obtain ⟨hfv, hcount, hmonv, -, hev⟩ := signed_event (frame_unlocked x (bumpMon s 0)) (coreRun_of_ready h) x 0xD001 6 0xFFF [if x = .remote then 1 else 0]
    obtain ⟨hans, hsch, hmon, hlog, -, hframe⟩ := acts_done (x := x) [("OK", [])] hfv hcount (by rw [hmonv]; cases x <;> rfl) (by rw [hmonv]; cases x <;> rfl)
    rw [hmonv] at hmon
    refine ⟨?_, ?_, ?_, ?_, hans, hsch, ?_, hframe.within⟩
    · rw [sessOf_congr hmon, sessOf_unlocked]
    · rw [sessOf_congr hmon, sessOf_unlocked]
    · rw [hmon]; cases x <;> rfl
    · rw [hmon]; cases x <;> exact hl
    · rw [Raised, hlog, hev]; rfl
  · refine completes_of (u := runMon s x false .lock) rfl ?_
    have hf := frame_setSess (bumpMon s 0) x (fun y => { y with level := 1 })
    have hquiet : (setSess (bumpMon s 0) x (fun y => { y with level := 1 })).log.raised = (bumpMon s 0).log.raised := congrArg Recorder.raised (hf.part .log)
    have hgo : cmdGo (bumpMon s 0) x false .lock = spoken x [("OK", [])] (setSess (bumpMon s 0) x (fun y => { y with level := 1 })) :=
      done_spoken (hears_setSess (hears h) x _)
    rw [acts_run h (allowed rfl rfl) hgo
      (prompts_setSess (s := bumpMon s 0) (prompts_ready (s := s) h) x _), signEvents_none hquiet]
    obtain ⟨hans, hsch, hmon, -, -, hframe⟩ := acts_done (x := x) [("OK", [])] (frame_counted hf) (counted_acted hf)
      (setSess_served ..) (by cases x <;> rfl)
    refine ⟨?_, ?_, ?_, hans, hsch, hframe.within⟩
    · rw [sessOf_congr hmon]; exact congrArg Sess.level (sessOf_setSess ..)
    · rw [sessOf_congr hmon]; cases x <;> rfl
    · rw [hmon]; exact setSess_served ..
  · refine completes_of (u := runMon s .onUart false (.key k key)) rfl ?_
    rw [acts_run (c := .key k key) (wakeLow := false) h ⟨fun e => (nomatch e), fun e => (nomatch e)⟩ (cmdKey_programs (s := bumpMon s 0) hlen hlevel hslot)
      (by rw [Prompts, raise_mon]; exact prompts_ready (s := s) h)]
    obtain ⟨hfv, hcount, hmonv, hotpv, hev⟩ := signed_event (frame_keyed k key (bumpMon s 0)) hrun .onUart 0xD020 6 0xFFF [slotNo k]
    obtain ⟨hans, hsch, hmon, hlog, hotp, -⟩ := acts_done (x := .onUart) [("OK", [])] hfv hcount (by rw [hmonv]; rfl) (by rw [hmonv]; rfl)
    rw [hotpv] at hotp
    refine ⟨?_, fun m _ hm => ?_, hmon.trans hmonv, ?_, hans, hsch, frame_settle (frame_trans hfv.within (frame_uartSpoken _ _ |>.within))⟩
    · rw [hotp]; exact otpSlot_keyed ..
    · rw [hotp]; exact otpSlot_keyed_other hm ..
    · rw [Raised, hlog, hev]; cases k <;> rfl
  · refine completes_of (u := runMon s .remote false (.key k key)) rfl ?_
    obtain ⟨hans, hmon, hsch, hframe⟩ := told_run (c := .key k key) (wakeLow := false) h (fails_spoken (hears h) 3)
    exact ⟨hmon, hans, hsch, frame_without hframe (hans.2.2 rfl).1⟩
  · refine completes_of (u := runMon s x false .bad) rfl ?_
    have hrun : cmdRun (bumpMon s 0) x false .bad = spoken x [("ERR", [1])] (bumpMon s 0) := by
      rw [cmdRun_allowed (allowed rfl rfl), ← fails_spoken (hears h)]
      exact signEvents_none (by rw [cmdGo, fails_spoken (hears h)]; cases x <;> rfl) x
    obtain ⟨hans, hmon, hsch, hframe⟩ := told_run h hrun
    exact ⟨hmon, hans, hsch, hframe⟩
  · refine completes_of (u := monChallengeExpiry s x) rfl ⟨?_, ?_, frame_settle (frame_setSess s x _)⟩
    · rw [sessOf_settle]; exact congrArg Sess.chal (sessOf_setSess ..)
    · rw [sessOf_settle]; cases x <;> rfl
  · refine completes_of (u := monLockoutEnd s x) rfl ⟨by rw [settle_mon]; rfl, frame_settle (Telemetry.frame_setMon s _)⟩
  · refine completes_of (u := serviceIdleTimeout s x) rfl ⟨?_, ?_, frame_settle (frame_setSess s x _)⟩
    · rw [sessOf_settle]; exact congrArg Sess.level (sessOf_setSess ..)
    · rw [sessOf_settle]; cases x <;> rfl

end Sys2Proof.Talk
end

section
/-! SUPPORT. The recorder's writer and the clearing of its records: what starting a write leaves, a challenge, a response right or wrong (R379, R391,
R392). -/

namespace Sys2Proof.Recorder

open Sys2Proof.Machine Sys2Proof.Safety Sys2Proof.Registers Sys2Proof.Telemetry Sys2Proof.Bridge

-- Elaborated by itself, so that the proofs before it are checked before those after it begin: this bounds the memory that proofs under way take at once.
set_option Elab.async false in
theorem mem_of_mem_mdel {α : Type} {l : List (Nat × α)} {k : Nat} {e : Nat × α} (h : e ∈ mdel l k) : e ∈ l := by
  induction l with
  | nil => exact h
  | cons x r ih =>
    rw [mdel] at h
    split at h
    · exact List.mem_cons_of_mem _ (ih h)
    · rcases List.mem_cons.1 h with rfl | h
      · exact List.mem_cons_self
      · exact List.mem_cons_of_mem _ (ih h)

/-! ### The writer (R379, R385, R386) -/

/-- What starting a write may do: no bank gains a record, and of the rest only the writer's own state and two counters of the recorder move. -/
structure Starts (s t : State) : Prop where
  genA : ∀ e ∈ t.mram.bankA.gen, e ∈ s.mram.bankA.gen
  sev7B : ∀ e ∈ t.mram.bankB.sev7, e ∈ s.mram.bankB.sev7
  optime : t.mram.optime = s.mram.optime
  raised : t.log.raised = s.log.raised
  chalOk : t.log.chalOk = s.log.chalOk
  fails : t.log.fails = s.log.fails
  lockout : t.log.lockout = s.log.lockout
  frame : Frame [.log, .mram] (fun o => o = 0xC190 ∨ o = 0xC194) s t

theorem Starts.refl (s : State) : Starts s s := ⟨fun _ => id, fun _ => id, rfl, rfl, rfl, rfl, rfl, frame_refl _ _ _⟩

theorem Starts.trans {s t u : State} (h : Starts s t) (g : Starts t u) : Starts s u :=
  ⟨fun e he => h.genA e (g.genA e he), fun e he => h.sev7B e (g.sev7B e he), g.optime.trans h.optime, g.raised.trans h.raised, g.chalOk.trans h.chalOk,
    g.fails.trans h.fails, g.lockout.trans h.lockout, frame_trans h.frame g.frame⟩

theorem starts_bump (s : State) {o : Nat} (h : o = 0xC190 ∨ o = 0xC194) : Starts s (bump s o) := by
  refine ⟨fun _ => id, fun _ => id, rfl, rfl, rfl, rfl, rfl, (frame_bump s o).within (by simp) ?_⟩
  rintro _ rfl
  exact h

theorem starts_freeUp (s : State) (area idx : Nat) : Starts s (freeUp s area idx) := by
  unfold freeUp
  split
  · exact ⟨fun _ => mem_of_mem_mdel, fun _ => id, rfl, rfl, rfl, rfl, rfl, frame_of_regs⟩
  · exact ⟨fun _ => id, fun _ => mem_of_mem_mdel, rfl, rfl, rfl, rfl, rfl, frame_of_regs⟩
  · exact ⟨fun _ => id, fun _ => id, rfl, rfl, rfl, rfl, rfl, frame_of_regs⟩
  · exact Starts.refl s

/-- A record overwritten is counted. -/
def overwrites (s : State) (repl : Bool) : State := if repl then { s with log := { s.log with ovw := (s.log.ovw + 1) % 2 ^ 32 } } else s

theorem starts_overwrites (s : State) (repl : Bool) : Starts s (overwrites s repl) := by
  cases repl
  · exact Starts.refl s
  · exact ⟨fun _ => id, fun _ => id, rfl, rfl, rfl, rfl, rfl, frame_of_regs⟩

/-- The write under way, in its slot. -/
def inSlot (s : State) (q : Nat) (sl : Slot) : State :=
  { s with mram := { s.mram with seq := q, torn := some sl }, log := { s.log with writing := true } }

theorem starts_inSlot (s : State) (q : Nat) (sl : Slot) : Starts s (inSlot s q sl) :=
  ⟨fun _ => id, fun _ => id, rfl, rfl, rfl, rfl, rfl, frame_of_regs⟩

/-- The write of a record: none where no slot may be taken, else into the slot chosen, freed before. -/
theorem beginWrite_eq {s : State} {e : Event} {area idx : Nat} {repl : Bool} (h : chooseSlot s e.sev = (area, idx, repl)) :
    beginWrite s e = if area = 3 then bump (overwrites s repl) 0xC194
      else inSlot (freeUp (overwrites s repl) area idx) (nextSeq s) { area := area, idx := idx, rec_ := { seq := nextSeq s, ev := e } } := by
  rw [beginWrite, h]
  rfl

theorem starts_beginWrite (s : State) (e : Event) : Starts s (beginWrite s e) := by
  rcases hslot : chooseSlot s e.sev with ⟨area, idx, repl⟩
  rw [beginWrite_eq hslot]
  split
  · exact (starts_overwrites s repl).trans (starts_bump _ (.inr rfl))
  · exact ((starts_overwrites s repl).trans (starts_freeUp _ _ _)).trans (starts_inSlot _ _ _)

theorem starts_takeEntry (s : State) : Starts s (takeEntry s) := by
  unfold takeEntry
  split
  · refine Starts.trans (Starts.trans ?_ (starts_bump { s with log := { s.log with ovCnt := 0, ovSev := 0, ovCode := 0 } } (.inl rfl)))
      (starts_beginWrite _ _)
    exact ⟨fun _ => id, fun _ => id, rfl, rfl, rfl, rfl, rfl, frame_of_regs⟩
  · split
    · exact Starts.refl s
    · refine Starts.trans ?_ (starts_beginWrite _ _)
      exact ⟨fun _ => id, fun _ => id, rfl, rfl, rfl, rfl, rfl, frame_of_regs⟩

theorem starts_startWriteN (n : Nat) (s : State) : Starts s (startWriteN n s) := by
  induction n generalizing s with
  | zero => exact Starts.refl s
  | succ n ih =>
    rw [startWriteN]
    split
    · exact Starts.refl s
    · exact (starts_takeEntry s).trans (ih _)

theorem starts_startWrite (s : State) : Starts s (startWrite s) := starts_startWriteN _ s

/-! ### Clearing (R391, R392) -/

/-- The registers of REC_CLRCTL take effect through it alone. -/
theorem regCommand_clrctl {s : State} {v : Word} (h : Reaches .host 0xC0C0 0xF s) :
    regCommand s .host 0xC0C0 0xF v false = endWrite .host 0xC0C0 (clrctl s .host v, 0) := by
  rw [regCommand_block h v false (by decide) (fun _ => rfl)]
  exact congrArg (fun m => endWrite .host 0xC0C0 (clrctl s .host m, 0)) (maskBe_full v)

/-- What a register write leaves that acts as u, whose output is that of s. -/
theorem register_done {s u : State} {off : Nat} {P : List Part} {R : Nat → Prop} (hf : Frame P R s u) (hout : Part.out ∉ P) :
    Ended .host s (settle s (endWrite .host off (u, 0))) ∧ Frame (P ++ [.out]) R s (settle s (endWrite .host off (u, 0))) := by
  refine ⟨ended_of_out (hf.part .out hout), frame_settle (frame_trans (hf.within (by simp)) ((frame_endWrite_done u .host off).within (by simp) (by simp)))⟩

/-- A challenge is made. -/
def asked (s : State) (scope src : Nat) : State :=
  takeFree { s with log := { s.log with chal := randomBytes s 16, chalOk := true, chalSrc := src, chalHead := s.log.head, scope := scope } }

theorem clearRequest_asks {s : State} (scope : Nat) (hreg : regB s 0xC000 0 = true) (hlock : s.log.lockout = false) (hkey : s.otp.clr.isSome = true) :
    clearRequest s scope 3 = asked s scope 3 := by
  have hk : s.otp.clr.isNone = false := by
    rw [← Option.not_isSome, hkey]
    rfl
  rw [clearRequest, if_neg (by simp [hreg]), if_neg (by simp [hlock]), if_neg (by simp [hk])]
  rfl

/-- The challenge is used; the count of wrong responses and the lockout as given. -/
def answeredWith (s : State) (fails : Nat) (lockout : Bool) : State := { s with log := { s.log with chalOk := false, fails := fails, lockout := lockout } }

theorem frame_answeredWith (s : State) (fails : Nat) (lockout : Bool) : Frame [.log] (fun _ => False) s (answeredWith s fails lockout) := frame_of_regs

/-- What the response is to be computed over (R391). -/
def clearMessage (s : State) : Bytes := s.log.chal ++ beBytes 8 s.uid ++ [BitVec.ofNat 8 s.log.scope] ++ beBytes 4 s.log.chalHead

theorem clearRespond_right {s : State} {key resp : Bytes} (hreg : regB s 0xC000 0 = true) (hlock : s.log.lockout = false) (hkey : s.otp.clr = some key)
    (hchal : s.log.chalOk = true) (hr : hmac key (clearMessage s) = resp) :
    clearRespond s s.log.scope 3 [] resp = clearGo (answeredWith s 0 s.log.lockout) s.log.scope 3 [] := by
  have hr' : hmac key (s.log.chal ++ beBytes 8 s.uid ++ [BitVec.ofNat 8 s.log.scope] ++ beBytes 4 s.log.chalHead) = resp := hr
  unfold clearRespond
  rw [if_neg (by simp [hreg]), if_neg (by simp [hlock]), hkey]
  dsimp only
  rw [if_neg (by simp [hchal]), if_pos ⟨rfl, hr'⟩]
  rfl

theorem clearRespond_wrong {s : State} {key resp : Bytes} (scope : Nat) (hreg : regB s 0xC000 0 = true) (hlock : s.log.lockout = false)
    (hkey : s.otp.clr = some key) (hchal : s.log.chalOk = true) (hr : hmac key (clearMessage s) ≠ resp) :
    clearRespond s scope 3 [] resp = clearReject (answeredWith s (min 255 (s.log.fails + 1)) (decide (3 ≤ s.log.fails + 1))) 3 3 := by
  unfold clearRespond
  rw [if_neg (by simp [hreg]), if_neg (by simp [hlock]), hkey]
  dsimp only
  rw [if_neg (by simp [hchal]), if_neg fun e => hr e.2]
  rfl

/-- The scope in force: with both banks lost, the ring alone (R395). -/
def scopeOf (s : State) (scope : Nat) : Nat := if s.mram.bankA.st == 2 && s.mram.bankB.st == 2 then scope / 16 % 2 * 16 else scope

/-- The statistics that a clear leaves. -/
def keepStats (scope : Nat) (m : List (Nat × Stat)) : List (Nat × Stat) :=
  m.filter (fun e => !((decide (e.1 < 64) && scope.testBit 2) || (decide (64 ≤ e.1) && scope.testBit 3)))

/-- The write under way that a clear leaves. -/
def keepTorn (scope : Nat) : Option Slot → Option Slot
  | some t => if (clearedBy scope t.rec_ && decide (t.area < 2)) || (scope.testBit 4 && t.area == 2) then none else some t
  | none => none

/-- What a clear leaves of the records. -/
def cleared (s : State) (scope : Nat) : State :=
  let s1 := setBank (setBank s false (clearBank scope)) true (clearBank scope)
  { s1 with
    mram := { s1.mram with stats := keepStats scope s1.mram.stats, torn := keepTorn scope s1.mram.torn }
    log := { s1.log with
      stats := keepStats scope s1.log.stats, ring := if scope.testBit 4 then [] else s1.log.ring, sev7Full := s1.log.sev7Full && !scope.testBit 1 } }

theorem frame_cleared (s : State) (scope : Nat) : Frame [.log, .mram] (fun _ => False) s (cleared s scope) := frame_of_regs

theorem cleared_log (s : State) (scope : Nat) : (cleared s scope).log = { s.log with
    stats := keepStats scope s.log.stats, ring := if scope.testBit 4 then [] else s.log.ring, sev7Full := s.log.sev7Full && !scope.testBit 1 } := rfl

theorem cleared_bankA (s : State) (scope : Nat) : (cleared s scope).mram.bankA = clearBank scope s.mram.bankA := rfl
theorem cleared_bankB (s : State) (scope : Nat) : (cleared s scope).mram.bankB = clearBank scope s.mram.bankB := rfl
theorem cleared_optime (s : State) (scope : Nat) : (cleared s scope).mram.optime = s.mram.optime := rfl

/-- A record goes to the front of the FIFO. -/
def fifoFirst (s : State) (e : Event) : State := { s with log := { s.log with fifo := e :: s.log.fifo } }

theorem fifoFirst_log (s : State) (e : Event) : (fifoFirst s e).log = { s.log with fifo := e :: s.log.fifo } := rfl
theorem fifoFirst_mram (s : State) (e : Event) : (fifoFirst s e).mram = s.mram := rfl
theorem frame_fifoFirst (s : State) (e : Event) : Frame [.log] (fun _ => False) s (fifoFirst s e) := frame_of_regs

/-- A clear counts itself, and its record is the first after it. -/
theorem clearGo_eq (s : State) (scope src : Nat) (more : List Nat) :
    ∃ e, clearGo s scope src more = startWrite (fifoFirst (bumpRec (bumpRec (cleared s (scopeOf s scope)) 8) 0) e) := ⟨_, rfl⟩

theorem not_mem_clearBank {scope : Nat} {l : List (Nat × Rec)} {e : Nat × Rec} (h : e ∈ l.filter (fun e => !clearedBy scope e.2)) :
    (!clearedBy scope e.2) = true := by simpa using (List.mem_filter.1 h).2

/-- What a clear that passed leaves, where bank A is in service. -/
theorem clearGo_clears {s : State} (scope src : Nat) (more : List Nat) (h : s.mram.bankA.st = 0) {t : State} (ht : clearGo s scope src more = t) :
    t.log.chalOk = s.log.chalOk ∧ t.log.fails = s.log.fails ∧ t.log.lockout = s.log.lockout ∧
    t.mram.bankA.gen.all (fun e => !clearedBy scope e.2) = true ∧ t.mram.bankB.sev7.all (fun e => !clearedBy scope e.2) = true ∧
    t.mram.optime = s.mram.optime ∧ t.log.raised = s.log.raised ∧ Counted 0xC180 1 s t ∧ Counted 0xC1A0 1 s t ∧
    Frame [.log, .mram] (fun o => 0xC180 ≤ o ∧ o < 0xC1A8) s t := by
  obtain ⟨e, he⟩ := clearGo_eq s scope src more
  have hscope : scopeOf s scope = scope := by simp [scopeOf, h]
  rw [hscope, ht] at he
  change t = startWrite (fifoFirst (bump (bump (cleared s scope) 0xC1A0) 0xC180) e) at he
  have hst := starts_startWrite (fifoFirst (bump (bump (cleared s scope) 0xC1A0) 0xC180) e)
  rw [← he] at hst
  obtain ⟨hgen, hsev, hopt, hraised, hchal, hfails, hlock, hframe⟩ := hst
  simp only [fifoFirst_log, fifoFirst_mram, bump_log, bump_mram, cleared_log, cleared_bankA, cleared_bankB,
    cleared_optime] at hgen hsev hopt hraised hchal hfails hlock
  have hcl : Frame [.log, .mram] (fun o => 0xC180 ≤ o ∧ o < 0xC1A8) s (fifoFirst (bump (bump (cleared s scope) 0xC1A0) 0xC180) e) := by
    have h1 := (frame_cleared s scope).within (Q := [.log, .mram]) (S := fun o => 0xC180 ≤ o ∧ o < 0xC1A8)
    have h2 := (frame_bump (cleared s scope) 0xC1A0).within (Q := [.log, .mram]) (S := fun o => 0xC180 ≤ o ∧ o < 0xC1A8) (by simp) (by rintro _ rfl; decide)
    have h3 := (frame_bump (bump (cleared s scope) 0xC1A0) 0xC180).within (Q := [.log, .mram]) (S := fun o => 0xC180 ≤ o ∧ o < 0xC1A8) (by simp)
      (by rintro _ rfl; decide)
    exact frame_trans (frame_trans (frame_trans h1 h2) h3) ((frame_fifoFirst _ e).within (Q := [.log, .mram]) (by decide) (by simp))
  refine ⟨hchal, hfails, hlock, List.all_eq_true.2 fun x hx => not_mem_clearBank (hgen x hx),
    List.all_eq_true.2 fun x hx => not_mem_clearBank (hsev x hx), hopt, hraised, ?_, ?_, frame_trans hcl (hframe.within (by simp) ?_)⟩
  · rw [Counted, hframe.2 _ (by decide) (by decide)]
    exact (reg_bump (bump (cleared s scope) 0xC1A0) 0xC180 0xC180).trans (by rw [if_pos rfl, reg_bump_ne _ (by decide)]; rfl)
  · rw [Counted, hframe.2 _ (by decide) (by decide)]
    exact (reg_bump_ne (bump (cleared s scope) 0xC1A0) (by decide)).trans ((reg_bump _ _ _).trans (if_pos rfl))
  · rintro o (rfl | rfl) <;> decide

/-- A wrong response is refused with reason 3, told and counted. -/
theorem clearReject_told {s u : State} (hu : u.log.raised = s.log.raised) (hf : Frame [.log] (fun _ => False) s u) (hc : coreRun s = true) (reason src : Nat) :
    Raised [(0xB005, 6, 0xFFF, [reason, src])] s (clearReject u reason src) ∧ Counted 0xC1A4 1 s (clearReject u reason src) ∧
    Frame [.log] (fun o => o = 0xC180 ∨ o = 0xC1A4) s (clearReject u reason src) := by
  have hb : Frame [.log] (fun o => o = 0xC180 ∨ o = 0xC1A4) s (bump u 0xC1A4) :=
    frame_trans hf.within ((frame_bump u 0xC1A4).within (by simp) (by rintro _ rfl; exact .inr rfl))
  have hr := frame_raise (bump u 0xC1A4) 0xB005 6 0xFFF [reason, src]
  refine ⟨?_, ?_, frame_trans hb (hr.within (by simp) fun _ => .inl)⟩
  · rw [Raised, clearReject, bumpRec, raise_raised _ _ _ _ _ ((coreRun_of_frame hb).trans hc), mkEvent_of_frame hb]
    exact congrArg (· ++ _) hu
  · exact (hr.2 0xC1A4 (by decide) (by decide)).trans ((reg_bump u 0xC1A4 0xC1A4).trans (by rw [if_pos rfl, hf.reg]))

/-! ### What an event leaves of the recorder -/

/-- An event leaves of the recorder all but the events on their way and the severities it notes. -/
theorem raise_log (s : State) (code sev inst : Nat) (vals : List Nat) : (raise s code sev inst vals).log = { s.log with
    raised := (raise s code sev inst vals).log.raised, sev5 := (raise s code sev inst vals).log.sev5
    lastSev5 := (raise s code sev inst vals).log.lastSev5 } := by
  unfold raise raiseEv
  split
  · split <;> rfl
  · rfl

theorem raise_volatile (s : State) (code sev inst : Nat) (vals : List Nat) : (raise s code sev inst vals).log.volatile = s.log.volatile := by
  rw [raise_log]
theorem raise_chalOk (s : State) (code sev inst : Nat) (vals : List Nat) : (raise s code sev inst vals).log.chalOk = s.log.chalOk := by
  rw [raise_log]
theorem raise_fails (s : State) (code sev inst : Nat) (vals : List Nat) : (raise s code sev inst vals).log.fails = s.log.fails := by
  rw [raise_log]
theorem raise_lockout (s : State) (code sev inst : Nat) (vals : List Nat) : (raise s code sev inst vals).log.lockout = s.log.lockout := by
  rw [raise_log]

/-! ### Banks (R393, R394) -/

theorem frame_setBank (s : State) (b : Bool) (f : Bank → Bank) : Frame [.mram] (fun _ => False) s (setBank s b f) := by
  cases b <;> exact frame_of_regs

theorem bank_setBank (s : State) (b : Bool) (f : Bank → Bank) : bank (setBank s b f) b = f (bank s b) := by cases b <;> rfl

theorem bank_setBank_other (s : State) (b : Bool) (f : Bank → Bank) : bank (setBank s b f) (!b) = bank s (!b) := by cases b <;> rfl

theorem bank_congr {s t : State} (h : t.mram = s.mram) (b : Bool) : bank t b = bank s b := by rw [bank, bank, h]

theorem setBank_log (s : State) (b : Bool) (f : Bank → Bank) : (setBank s b f).log = s.log := by cases b <;> rfl

theorem setBank_optime (s : State) (b : Bool) (f : Bank → Bank) : (setBank s b f).mram.optime = s.mram.optime := by cases b <;> rfl

theorem mkEvent_setBank (s : State) (b : Bool) (f : Bank → Bank) (code sev inst : Nat) (vals : List Nat) :
    mkEvent (setBank s b f) code sev inst vals = mkEvent s code sev inst vals := by cases b <;> rfl

/-- The records are in memory again. -/
def notVolatile (s : State) : State := { s with log := { s.log with volatile := false } }

theorem notVolatile_raised (s : State) : (notVolatile s).log.raised = s.log.raised := rfl

theorem frame_notVolatile (s : State) : Frame [.log] (fun _ => False) s (notVolatile s) := frame_of_regs

/-- A bank that holds no whole copy yet takes the other's records. -/
theorem logResyncDone_copies {s : State} {b : Bool} (h1 : (bank s b).st = 1) (hr : (bank s b).resync = none) (h0 : (bank s (!b)).st = 0) :
    logResyncDone s b = raise (notVolatile (setBank s b fun k => { k with st := 0, gen := (bank s (!b)).gen, sev7 := (bank s (!b)).sev7, resync := none }))
      0xB011 1 0xFFF [b.toNat] := by
  unfold logResyncDone
  rw [if_pos h1]
  cases b
  · have h0' : s.mram.bankB.st = 0 := h0
    have hr' : s.mram.bankA.resync = none := hr
    simp [setBank, bank, h0', hr', notVolatile]
  · have h0' : s.mram.bankA.st = 0 := h0
    have hr' : s.mram.bankB.resync = none := hr
    simp [setBank, bank, h0', hr', notVolatile]

theorem loseBank_one {s : State} {b : Bool} (h : (bank s b).st ≠ 2) (ho : (bank s (!b)).st ≠ 2) (cause : Nat) :
    loseBank s b cause = raise (setBank s b fun k => { k with st := 2, resync := none }) 0xB002 7 0xFFF [if b then 1 else 0, cause] := by
  unfold loseBank
  rw [if_neg h, if_neg ho]

/-! ### The obligation -/

/-- Settles O35: each command by its own equation; a clear through what starting a write may do (`Starts`), which adds no record to a bank. -/
theorem recorderClearingComplete : Obligations.RecorderClearingComplete := by
  refine ⟨?_, ?_, fun s => ?_, fun s hl => ?_, fun s b hc h1 hr h0 => ?_, fun s b hc h ho => ?_⟩
  · intro s v hreach hmagic hreq hreg hlock hkey
    refine completes_of (u := regCommand s .host 0xC0C0 0xF v false) rfl ?_
    have hcl : clrctl s .host v = asked s (fld v 4 0) 3 := by
      rw [clrctl, if_neg (by simp [hmagic]), if_pos hreq]
      exact clearRequest_asks _ hreg hlock hkey
    rw [regCommand_clrctl hreach, hcl]
    have hf : Frame [.log, .free] (fun _ => False) s (asked s (fld v 4 0) 3) := frame_of_regs
    obtain ⟨hend, hframe⟩ := register_done (off := 0xC0C0) hf (by decide)
    refine ⟨?_, hend, hframe⟩
    rw [settle_log, endWrite_log]
    rfl
  · intro s v key hreach hmagic hreq hgo hreg hlock hkey hchal hscope hr hbank
    refine completes_of (u := regCommand s .host 0xC0C0 0xF v false) rfl ?_
    have hcl : clrctl s .host v = clearGo (answeredWith s 0 s.log.lockout) s.log.scope 3 [] := by
      rw [clrctl, if_neg (by simp [hmagic]), if_neg (by simp [hreq]), if_pos hgo, hscope]
      exact clearRespond_right hreg hlock hkey hchal hr
    rw [regCommand_clrctl hreach]
    obtain ⟨hok, hfails, hlk, hgen, hsev, hopt, hraised, hcount, hcount', hframe⟩ :=
      clearGo_clears (s := answeredWith s 0 s.log.lockout) _ _ _ hbank hcl.symm
    have hf : Frame [.log, .mram] (fun o => 0xC180 ≤ o ∧ o < 0xC1A8) s (clrctl s .host v) := 
      frame_trans ((frame_answeredWith s 0 s.log.lockout).within (Q := [.log, .mram]) (by decide) (by simp)) hframe
    obtain ⟨hend, hframe'⟩ := register_done (off := 0xC0C0) hf (by decide)
    simp only [settle_log, settle_mram, endWrite_log, endWrite_mram]
    refine ⟨hok, hfails, hlk.trans hlock, hgen, hsev, hopt, hraised, hend, counted_settle (by decide) ?_, counted_settle (by decide) ?_, hframe'⟩
    · rwa [Counted, reg_endWrite]
    · rwa [Counted, reg_endWrite]
  · refine completes_of (u := clearChallengeExpiry s) rfl ⟨by rw [settle_log]; rfl, frame_settle frame_of_regs⟩
  · refine completes_of (u := clearLockoutEnd s) rfl ?_
    rw [clearLockoutEnd, if_pos hl]
    exact ⟨by rw [settle_log], frame_settle frame_of_regs⟩
  · refine completes_of (u := logResyncDone s b) rfl ?_
    rw [logResyncDone_copies h1 hr h0]
    generalize hk : (fun k : Bank => ({ k with st := 0, gen := (bank s (!b)).gen, sev7 := (bank s (!b)).sev7, resync := none } : Bank)) = f
    have hb := frame_setBank s b f
    have hv := frame_notVolatile (setBank s b f)
    have hf : Frame [.mram, .log] (fun _ => False) s (notVolatile (setBank s b f)) := frame_trans hb.within hv.within
    have hm : (settle s (raise (notVolatile (setBank s b f)) 0xB011 1 0xFFF [b.toNat])).mram = (setBank s b f).mram := by
      rw [settle_mram, raise_mram]
      rfl
    refine ⟨?_, ?_, ?_, ?_, ?_, frame_settle (frame_trans hf.within (frame_raise _ _ _ _ _).within)⟩
    · rw [bank_congr hm, bank_setBank, ← hk]
      simp [hr]
    · rw [bank_congr hm, bank_setBank_other]
    · rw [Raised, settle_log, raise_raised _ _ _ _ _ ((coreRun_of_frame hf).trans hc)]
      exact congrArg₂ (· ++ [·]) ((notVolatile_raised _).trans (congrArg Recorder.raised (setBank_log s b f))) (mkEvent_setBank s b f _ _ _ _)
    · rw [settle_log]
      exact raise_volatile _ _ _ _ _
    · rw [hm, setBank_optime]
  · refine completes_of (u := bankNoAnswer s b) rfl ?_
    rw [bankNoAnswer, if_pos hc, loseBank_one h ho]
    generalize hk : (fun k : Bank => ({ k with st := 2, resync := none } : Bank)) = f
    have hb := frame_setBank s b f
    have hm : (settle s (raise (setBank s b f) 0xB002 7 0xFFF [if b then 1 else 0, 4])).mram = (setBank s b f).mram := by rw [settle_mram, raise_mram]
    refine ⟨?_, ?_, ?_, ?_, ?_, frame_settle (frame_trans hb.within (frame_raise _ _ _ _ _).within)⟩
    · rw [bank_congr hm, bank_setBank, ← hk]
    · rw [bank_congr hm, bank_setBank_other]
    · rw [Raised, settle_log, raise_raised _ _ _ _ _ ((coreRun_of_frame hb).trans hc), setBank_log, mkEvent_setBank]
      rfl
    · rw [hm, setBank_optime]
    · rw [settle_log, raise_volatile, setBank_log]

end Sys2Proof.Recorder
end

section
/-! SUPPORT. Wrong responses: refused, counted, and at the third locked out (R391, R401). -/

namespace Sys2Proof.Talk

open Sys2Proof.Machine Sys2Proof.Safety Sys2Proof.Registers Sys2Proof.Bridge Sys2Proof.Recorder

/-! ### The monitor (R401) -/

-- Elaborated by itself, so that the proofs before it are checked before those after it begin: this bounds the memory that proofs under way take at once.
set_option Elab.async false in
/-- Events of another severity than 6 are not signed. -/
theorem signEvents_unsigned {s t : State} {evs : List Event} (h : t.log.raised = s.log.raised ++ evs) (h6 : ∀ e ∈ evs, e.sev ≠ 6) (x : Ses) :
    signEvents s t x = t := by
  have hmap : evs.map (signed (initiator s x)) = evs := (List.map_congr_left fun e he => if_neg (h6 e he)).trans (List.map_id evs)
  have hraised := signEvents_raised h x
  rw [hmap, ← h] at hraised
  have hself : signEvents s t x = { t with log := { t.log with raised := (signEvents s t x).log.raised } } := rfl
  rw [hself, hraised]

/-- The wrong response has used the challenge; the count of wrong responses and the lockout as given. -/
def mistaken (x : Ses) (s : State) (n : Nat) (lock : Option Nat) : State := { spent x s with mon := { (spent x s).mon with fails := n, lockEnd := lock } }

theorem frame_mistaken (x : Ses) (s : State) (n : Nat) (lock : Option Nat) : Frame [.mon] (fun _ => False) s (mistaken x s n lock) := by
  cases x <;> exact ⟨fun p hp => by cases p <;> simp_all [Same, mistaken, spent, setSess], fun _ _ _ => rfl⟩

theorem sessOf_mistaken (x : Ses) (s : State) (n : Nat) (lock : Option Nat) : sessOf (mistaken x s n lock) x = { sessOf s x with chal := none } := by
  cases x <;> rfl

theorem mistaken_served (x : Ses) (s : State) (n : Nat) (lock : Option Nat) : (mistaken x s n lock).mon.served = s.mon.served := by cases x <;> rfl
theorem mistaken_mseqIn (x : Ses) (s : State) (n : Nat) (lock : Option Nat) : (mistaken x s n lock).mon.mseqIn = s.mon.mseqIn := by cases x <;> rfl
theorem initiator_mistaken (x : Ses) (s : State) (n : Nat) (lock : Option Nat) : initiator (mistaken x s n lock) x = initiator s x := by cases x <;> rfl

/-- Unlocking is denied: counted and told. -/
def denied (x : Ses) (w : State) : State := raise (bumpMon w 2) 0xD002 2 0xFFF (initiator w x)

theorem cmdUnlockResp_wrong {x : Ses} {s : State} {r key c : Bytes} (hl : s.mon.lockEnd = none) (hk : s.otp.mon = some key) (hc : (sessOf s x).chal = some c)
    (hr : r ≠ hmac key (c ++ beBytes 8 s.uid ++ [0x02#8])) (hn : s.mon.fails < 2) :
    cmdUnlockResp s x r = fails (denied x (mistaken x s (s.mon.fails + 1) s.mon.lockEnd)) x 8 := by
  unfold cmdUnlockResp
  rw [if_neg (by simp [hl]), hk, hc]
  dsimp only
  rw [if_neg hr, if_pos (by omega)]
  cases x <;> rfl

theorem cmdUnlockResp_third {x : Ses} {s : State} {r key c : Bytes} (hl : s.mon.lockEnd = none) (hk : s.otp.mon = some key) (hc : (sessOf s x).chal = some c)
    (hr : r ≠ hmac key (c ++ beBytes 8 s.uid ++ [0x02#8])) (hn : s.mon.fails = 2) :
    cmdUnlockResp s x r =
      fails (denied x (raise (mistaken x s 0 (some (s.now + 600000000000))) 0xD003 5 0xFFF
        (initiator (mistaken x s 0 (some (s.now + 600000000000))) x))) x 8 := by
  unfold cmdUnlockResp
  rw [if_neg (by simp [hl]), hk, hc]
  dsimp only
  rw [if_neg hr, if_neg (by omega)]
  cases x <;> rfl

/-- What a command leaves that comes to w, with events not signed, and is then denied. -/
theorem denied_run {x : Ses} {s w : State} {wakeLow : Bool} {cmd : MonCmd} {evs : List Event} {n : Nat} {lock : Option Nat} (h : MonReady x s)
    (hc : Allowed x cmd s) (hgo : cmdGo (bumpMon s 0) x wakeLow cmd = fails (denied x w) x 8) (hf : Frame [.mon, .log] (· = 0xC180) (bumpMon s 0) w)
    (hmonw : w.mon = (mistaken x s n lock).mon) (hevs : w.log.raised = s.log.raised ++ evs) (h6 : ∀ e ∈ evs, e.sev ≠ 6) :
    Answered x [("ERR", [8])] s (settle s (runMon s x wakeLow cmd)) ∧ (settle s (runMon s x wakeLow cmd)).mon = w.mon ∧
      (settle s (runMon s x wakeLow cmd)).log.raised = s.log.raised ++ (evs ++ [mkEvent s 0xD002 2 0xFFF (initiator s x)]) := by
  have hd : Frame [.mon, .log] (fun o => o = 0xC180 ∨ o = 0xD088) (bumpMon s 0) (denied x w) :=
    frame_trans (hf.within (by simp) fun _ => .inl) (frame_trans ((frame_bump w 0xD088).within (by simp) fun _ => .inr)
      ((frame_raise (bumpMon w 2) 0xD002 2 0xFFF (initiator w x)).within (by simp) fun _ => .inl))
  have hwmon : (denied x w).mon = w.mon := raise_mon ..
  have hserved : (denied x w).mon.served = s.mon.served := by rw [hwmon, hmonw, mistaken_served]
  have hseq : (denied x w).mon.mseqIn = s.mon.mseqIn := by rw [hwmon, hmonw, mistaken_mseqIn]
  have hi : initiator w x = initiator s x := by
    cases x
    · rfl
    · have hsame : w.mon.served = s.mon.served := by rw [hmonw, mistaken_served]
      unfold initiator
      rw [hsame]
  have hw : coreRun (bumpMon w 2) = true := (coreRun_of_frame hf).trans (coreRun_of_ready (s := s) h)
  have hraised : (denied x w).log.raised = s.log.raised ++ (evs ++ [mkEvent s 0xD002 2 0xFFF (initiator s x)]) := by
    have hm : mkEvent (bumpMon w 2) 0xD002 2 0xFFF (initiator w x) = mkEvent s 0xD002 2 0xFFF (initiator s x) := hi ▸ mkEvent_of_frame hf
    rw [denied, raise_raised _ _ _ _ _ hw, hm, ← List.append_assoc, ← hevs]
    rfl
  have hsign : signEvents (bumpMon s 0) (denied x w) x = denied x w := by
    refine signEvents_unsigned hraised (fun e he => ?_) x
    rcases List.mem_append.1 he with he | he
    · exact h6 e he
    · rw [List.mem_singleton.1 he]
      exact fun e : 2 = 6 => absurd e (by decide)
  have hears : Hears x (denied x w) := hears_congr (s := bumpMon s 0) hserved (hd.part .tables) (hd.part .inaug) (hd.part .uid) hd.reg hd.reg
    (hears_bumpMon (hears_ready h) 0 (by decide))
  have hprompts : Prompts x (denied x w) := by
    rw [Prompts, hwmon, hmonw]
    cases x <;> exact prompts_ready (s := s) h
  rw [acts_run h hc (hgo.trans (fails_spoken hears 8)) hprompts, hsign]
  obtain ⟨hans, -, hmon, hlog, -, -⟩ := acts_done (x := x) [("ERR", [8])] (frame_counted hd) (counted_acted hd) hserved hseq
  exact ⟨hans, hmon.trans hwmon, by rw [hlog, hraised]⟩

theorem sessOf_of_mistaken {x : Ses} {s t w : State} {n : Nat} {lock : Option Nat} (ht : t.mon = w.mon) (hw : w.mon = (mistaken x s n lock).mon) :
    sessOf t x = { sessOf s x with chal := none } := by
  rw [sessOf_congr (ht.trans hw), sessOf_mistaken]

/-- The counted state misread: the monitor of a mistake after the count is that of a mistake. -/
theorem mistaken_bumpMon (x : Ses) (s : State) (n : Nat) (lock : Option Nat) : (mistaken x (bumpMon s 0) n lock).mon = (mistaken x s n lock).mon := by
  cases x <;> rfl

/-- Settles O58: each wrong response comes to `denied` after its mistake is noted; the wrong clear response is rejected with reason 3. -/
theorem wrongResponsesLock : Obligations.WrongResponsesLock := by
  have allowed {x : Ses} {r : Bytes} {s : State} : Allowed x (.unlockResp r) s := ⟨fun _ => rfl, fun e => (nomatch e)⟩
  have asks {x : Ses} {s : State} : Allowed x .unlock s := ⟨fun _ => rfl, fun e => (nomatch e)⟩
  refine ⟨fun s x r key c h hl hk hc hr hn => ?_, fun s x r key c h hl hk hc hr hn => ?_, fun s x h hl => ?_, ?_⟩
  · refine completes_of (u := runMon s x false (.unlockResp r)) rfl ?_
    have hf := frame_mistaken x (bumpMon s 0) (s.mon.fails + 1) s.mon.lockEnd
    obtain ⟨hans, hmon, hev⟩ := denied_run (evs := []) h allowed (cmdUnlockResp_wrong (s := bumpMon s 0) hl hk hc hr hn) hf.within
      (mistaken_bumpMon x s _ _) ((congrArg Recorder.raised (hf.part .log)).trans (List.append_nil _).symm) (by simp)
    have hsess := sessOf_of_mistaken hmon (mistaken_bumpMon x s _ _)
    refine ⟨by rw [hsess], by rw [hsess], by rw [hmon]; rfl, by rw [hmon]; exact hl, hans, hev⟩
  · refine completes_of (u := runMon s x false (.unlockResp r)) rfl ?_
    have hf := frame_mistaken x (bumpMon s 0) 0 (some (s.now + 600000000000))
    have hi : initiator (mistaken x (bumpMon s 0) 0 (some (s.now + 600000000000))) x = initiator s x := initiator_mistaken ..
    have hrun : coreRun (mistaken x (bumpMon s 0) 0 (some (s.now + 600000000000))) = true := (coreRun_of_frame hf).trans (coreRun_of_ready (s := s) h)
    have hlog : (mistaken x (bumpMon s 0) 0 (some (s.now + 600000000000))).log = s.log := hf.part .log
    obtain ⟨hans, hmon, hev⟩ := denied_run (evs := [mkEvent s 0xD003 5 0xFFF (initiator s x)]) h allowed
      (cmdUnlockResp_third (s := bumpMon s 0) hl hk hc hr hn) (frame_trans hf.within (frame_raise _ _ _ _ _).within)
      ((raise_mon ..).trans (mistaken_bumpMon x s _ _))
      ((raise_raised _ _ _ _ _ hrun).trans (by rw [mkEvent_of_frame hf, hlog]; exact congrArg (fun l => s.log.raised ++ [mkEvent s 0xD003 5 0xFFF l]) hi))
      (by simp [mkEvent])
    have hsess := sessOf_of_mistaken hmon ((raise_mon ..).trans (mistaken_bumpMon x s _ _))
    refine ⟨by rw [hsess], ?_, ?_, hans, hev⟩
    · rw [hmon, raise_mon]
      rfl
    · rw [hmon, raise_mon]
      rfl
  · refine completes_of (u := runMon s x false .unlock) rfl ?_
    have hears : Hears x (bumpMon s 0) := hears_bumpMon (hears_ready h) 0 (by decide)
    have hsome : (bumpMon s 0).mon.lockEnd.isSome = true := Option.isSome_iff_ne_none.2 hl
    have hrun : cmdRun (bumpMon s 0) x false .unlock = spoken x [("ERR", [8])] (bumpMon s 0) := by
      have hgo : cmdGo (bumpMon s 0) x false .unlock = spoken x [("ERR", [8])] (bumpMon s 0) := (if_pos hsome).trans (fails_spoken hears 8)
      rw [cmdRun_allowed asks, hgo]
      exact signEvents_none (by cases x <;> rfl) x
    exact told_run h hrun
  · intro s v key hreach _ hrun hmagic hreq hgo hreg hlock hkey hchal hr
    refine completes_of (u := regCommand s .host 0xC0C0 0xF v false) rfl ?_
    have hcl : clrctl s .host v = clearReject (answeredWith s (min 255 (s.log.fails + 1)) (decide (3 ≤ s.log.fails + 1))) 3 3 := by
      rw [clrctl, if_neg (by simp [hmagic]), if_neg (by simp [hreq]), if_pos hgo]
      exact clearRespond_wrong _ hreg hlock hkey hchal hr
    have hf := frame_answeredWith s (min 255 (s.log.fails + 1)) (decide (3 ≤ s.log.fails + 1))
    obtain ⟨htold, hcount, hframe⟩ :=
      clearReject_told (s := s) (u := answeredWith s (min 255 (s.log.fails + 1)) (decide (3 ≤ s.log.fails + 1))) rfl hf hrun 3 3
    rw [regCommand_clrctl hreach, hcl]
    obtain ⟨hend, hframe'⟩ := register_done (off := 0xC0C0) hframe (by decide)
    refine ⟨?_, ?_, ?_, ?_, ?_, counted_settle (by decide) (by rwa [Counted, reg_endWrite]), hend, hframe'⟩
    · rw [settle_log, endWrite_log, clearReject, raise_chalOk]
      rfl
    · rw [settle_log, endWrite_log, clearReject, raise_fails]
      rfl
    · rw [settle_log, endWrite_log, clearReject, raise_lockout]
      rfl
    · exact hframe'.part .mram
    · rwa [Raised, settle_log, endWrite_log]

end Sys2Proof.Talk
end

section
/-! SUPPORT. The recorder's rows: intake, the end of a write, operating time, the statistics, the start-up scan, and the latched windows (R378 to R383,
R388, R390). -/

namespace Sys2Proof.Recorder

open Sys2Proof.Machine Sys2Proof.Safety Sys2Proof.Registers Sys2Proof.Telemetry Sys2Proof.Bridge

/-! ### Intake (R382) -/

/-- The rotation of the Lamplighter stands at a slot. -/
def atSlot (s : State) (k : Nat) : State := { s with lamp := { s.lamp with slot := k } }

-- Elaborated by itself, so that the proofs before it are checked before those after it begin: this bounds the memory that proofs under way take at once.
set_option Elab.async false in
theorem lampTo_slot (s : State) (u : LampUser) : ∃ k, lampTo s u = atSlot s k := by
  unfold lampTo
  split
  · exact ⟨_, rfl⟩
  · exact ⟨s.lamp.slot, rfl⟩

/-- The recorder's own state replaced. -/
def withLog (s : State) (l : Recorder) : State := { s with log := l }

theorem frame_withLog (s : State) (l : Recorder) : Frame [.log] (fun _ => False) s (withLog s l) := frame_of_regs
theorem frame_atSlot (s : State) (k : Nat) : Frame [.lamp] (fun _ => False) s (atSlot s k) := frame_of_regs

theorem eventIntake_takes {s : State} {e : Event} (h : s.log.raised.head? = some e) :
    eventIntake s = startWrite (intake (withLog s { s.log with raised := s.log.raised.tail }) e) := by
  obtain ⟨r, hr⟩ := List.head?_eq_some_iff.1 h
  unfold eventIntake
  rw [hr]
  rfl

/-- While the recorder scans, no write starts. -/
theorem startWrite_scanning {s : State} (h : s.log.scanning = true) : startWrite s = s := by
  rw [startWrite, startWriteN, if_pos (by simp [h])]

/-- With nothing to write none starts. -/
theorem startWrite_empty {s : State} (hf : s.log.fifo = []) (ho : s.log.ovCnt = 0) : startWrite s = s := by
  have hn : takeEntry s = s := by
    unfold takeEntry
    rw [if_neg (by simp [ho]), hf]
  rw [startWrite, hf]
  change startWriteN 1 s = s
  rw [startWriteN, hn]
  exact ite_self _

theorem intake_joins {s : State} {e : Event} (h : s.log.fifo.any (coalesces e) = false) (hl : s.log.fifo.length < 512) :
    intake s e = withLog s { s.log with fifo := s.log.fifo ++ [e] } := by
  unfold intake
  rw [if_neg (by simp [h]), if_pos hl]
  rfl

theorem intake_repeats {s : State} {e w : Event} (h : s.log.fifo = [w]) (hc : coalesces e w = true) :
    intake s e = bump (withLog s { s.log with fifo := [{ w with rep := w.rep + 1 }] }) 0xC188 := by
  have hr : addRepeat e [w] = [{ w with rep := w.rep + 1 }] := by simp [addRepeat, hc]
  unfold intake
  rw [if_pos (by simp [h, hc]), h, hr]
  rfl

/-- The slot of a record of the general area, where one is free. -/
theorem chooseSlot_general {s : State} {sev k : Nat} (h7 : sev ≠ 7) (hv : s.log.volatile = false) (hl : (rdBank s).gen.length < 47104)
    (hk : freeSlot (rdBank s).gen 47104 0 = some k) : chooseSlot s sev = (0, k, false) := by
  unfold chooseSlot pickSlot
  rw [if_neg (by simp [hv]), if_neg (by simp [h7]), if_pos hl, hk]
  rfl

/-- While a write is under way none starts. -/
theorem startWriteN_busy {s : State} (h : s.log.writing = true) (n : Nat) : startWriteN n s = s := by
  cases n with
  | zero => rfl
  | succ n => rw [startWriteN, if_pos (by simp [h])]

/-- Nothing waits in the FIFO. -/
def emptied (s : State) : State := { s with log := { s.log with fifo := [] } }

/-- The idle writer takes the only event that waits into a free slot. -/
theorem startWrite_general {s : State} {e : Event} {k : Nat} (hf : s.log.fifo = [e]) (ho : s.log.ovCnt = 0) (hw : s.log.writing = false)
    (hsc : s.log.scanning = false) (h7 : e.sev ≠ 7) (hv : s.log.volatile = false) (hl : (rdBank s).gen.length < 47104)
    (hk : freeSlot (rdBank s).gen 47104 0 = some k) :
    startWrite s = inSlot (freeUp (emptied s) 0 k) (nextSeq s) { area := 0, idx := k, rec_ := { seq := nextSeq s, ev := e } } := by
  have hslot : chooseSlot (emptied s) e.sev = (0, k, false) := chooseSlot_general h7 hv hl hk
  have htake : takeEntry s = beginWrite (emptied s) e := by
    unfold takeEntry
    rw [if_neg (by simp [ho]), hf]
    rfl
  rw [startWrite, hf]
  change startWriteN 2 s = _
  rw [startWriteN, if_neg (by simp [hw, hsc]), htake, beginWrite_eq hslot, if_neg (by decide), startWriteN_busy rfl]
  rfl

/-- One bank has lost the record of a slot. -/
theorem freeUp_general (s : State) (k : Nat) : freeUp s 0 k =
    { s with mram := { s.mram with
      bankA := { s.mram.bankA with gen := mdel s.mram.bankA.gen k }, bankB := { s.mram.bankB with gen := mdel s.mram.bankB.gen k } } } := rfl

theorem frame_inSlot (s : State) (q : Nat) (sl : Slot) : Frame [.log, .mram] (fun _ => False) s (inSlot s q sl) := frame_of_regs
theorem frame_emptied (s : State) : Frame [.log] (fun _ => False) s (emptied s) := frame_of_regs

theorem frame_freeUp_general (s : State) (k : Nat) : Frame [.mram] (fun _ => False) s (freeUp s 0 k) := by
  rw [freeUp_general]
  exact frame_of_regs

/-- What the start of a write into a slot of the general area changes. -/
theorem frame_writeStarted (s : State) (k q : Nat) (sl : Slot) : Frame [.log, .mram] (fun _ => False) s (inSlot (freeUp (emptied s) 0 k) q sl) :=
  frame_trans (frame_trans (frame_emptied s).within (frame_freeUp_general _ k).within) (frame_inSlot _ q sl)

/-! ### The end of a write (R379) -/

/-- A record placed in a bank, its region's writes counted. -/
def stored (k : Bank) (sl : Slot) (r : Rec) : Bank := placeIn (countWrite k (regionOf sl.area sl.idx)) sl.area sl.idx r

/-- The record stands in both banks, and REC_HEAD names it. -/
def recorded (s : State) (sl : Slot) : State :=
  { s with
    mram := { s.mram with torn := none, bankA := stored s.mram.bankA sl sl.rec_, bankB := stored s.mram.bankB sl sl.rec_ }
    log := { s.log with writing := false, head := sl.rec_.seq }
    mon := { s.mon with telEvs := sl.rec_ :: s.mon.telEvs } }

theorem frame_recorded (s : State) (sl : Slot) : Frame [.log, .mram, .mon] (fun _ => False) s (recorded s sl) := frame_of_regs

theorem recordWriteDone_records {s : State} {sl : Slot} (hw : s.log.writing = true) (ht : s.mram.torn = some sl) (ha : sl.area = 0)
    (hA : s.mram.bankA.st = 0) (hB : s.mram.bankB.st = 0) (hf : s.log.fifo = []) (ho : s.log.ovCnt = 0) (h7 : s.log.sev7Full = true) :
    recordWriteDone s true true = bump (recorded s sl) 0xC184 := by
  have hfin : finishWrite { s with log := { s.log with writing := false } } true true sl = bump (recorded s sl) 0xC184 := by
    obtain ⟨area, idx, seq, ev⟩ := sl
    subst ha
    simp [finishWrite, placeBank, bank, setBank, hA, hB, recordDone, bumpRec, h7, recorded, stored]
  unfold recordWriteDone
  rw [if_pos hw, ht]
  dsimp only
  rw [hfin]
  exact startWrite_empty hf ho

/-! ### Statistics (R380) -/

theorem sampleStat_samples {s : State} {ext : Bool} {i : Nat} (hc : coreRun s = true) (hd : (byteAt (statDef s ext i) 0).testBit 0 = true)
    (read : Nat → Word) : sampleStat s read ext i =
      withLog s { s.log with stats := mput s.log.stats (if ext then 64 + i else i) (addSample s (statDef s ext i) ext
        ((mget s.log.stats (if ext then 64 + i else i)).getD {}) (byteAt (statDef s ext i) 2)
        ((read (beAt (statDef s ext i) 4 2)).toNat / 2 ^ byteAt (statDef s ext i) 1 % 2 ^ byteAt (statDef s ext i) 2)) } := by
  unfold sampleStat
  rw [if_pos (by simp only [hc, hd, Bool.and_self])]
  rfl

/-! ### The start-up scan (R388) -/

/-- The scan of empty banks, with nothing waiting. -/
theorem recorderScanDone_empty {s : State} (hc : coreRun s = true) (hs : s.log.scanning = true) (ht : s.mram.torn = none) (hg : (rdBank s).gen = [])
    (h7 : (rdBank s).sev7 = []) (hv : s.mram.gasp.valid = false) (hf : s.log.fifo = []) (ho : s.log.ovCnt = 0) :
    recorderScanDone s = withLog s { s.log with
      scanning := false, head := 0, volatile := s.mram.bankA.st == 2 && s.mram.bankB.st == 2, sev7Full := false } := by
  unfold recorderScanDone
  rw [if_pos (by simp [hc, hs]), ht]
  dsimp only
  rw [hg, h7, hv]
  exact startWrite_empty hf ho

/-! ### The latched windows (R390) -/

theorem length_record (o : Option Rec) (f : Rec → List Word) (h : ∀ r, (f r).length = 8) : ((o.map f).getD (List.replicate 8 0)).length = 8 := by
  cases o with
  | none => rfl
  | some r => exact h r

theorem length_slotWords (s : State) (area idx : Nat) : (slotWords s area idx).length = 8 := by
  have hrec (o : Option Rec) := length_record o (fun r => (List.range 8).map (wordAt (recBytes r.seq r.ev))) (by simp)
  unfold slotWords
  dsimp only
  split
  · split
    · rfl
    · split
      iterate 3 exact hrec _
      rfl
  · split
    iterate 3 exact hrec _
    rfl

theorem length_statWords (s : State) (ext : Bool) (i : Nat) : (statWords s ext i).length = 16 := by cases ext <;> rfl

/-- A window of n latched words behind its index register. -/
def windowed (s : State) (req : Req) (idx win : Nat) (be : BitVec 4) (v : Word) (ws : List Word) : State := setLatch (setIdx s req idx be v) req win ws

theorem frame_windowed (s : State) (req : Req) (idx win : Nat) (be : BitVec 4) (v : Word) (ws : List Word) :
    Frame [.latHost, .latMon, .latFar] (fun _ => False) s (windowed s req idx win be v ws) :=
  frame_trans (frame_setLatch _ _ _ _) (frame_setLatch _ _ _ _)

theorem windowed_word (s : State) (req : Req) (idx win : Nat) (be : BitVec 4) (v : Word) {ws : List Word} {i : Nat} (h : i < ws.length) :
    getLatch (windowed s req idx win be v ws) req (win + 4 * i) = ws.getD i 0 := getLatch_setLatch _ _ _ _ h

theorem windowed_idx (s : State) (req : Req) {idx win : Nat} (be : BitVec 4) (v : Word) {ws : List Word} (h : idx < win) :
    getLatch (windowed s req idx win be v ws) req idx = mergeBe be (getLatch s req idx) v := by
  rw [windowed, getLatch_setLatch_ne _ _ _ _ fun i _ => by omega, getLatch_setIdx]

theorem recRidx_latches {s : State} {req : Req} {be : BitVec 4} {v x : Word} (h : mergeBe be (getLatch s req 0xC020) (v &&& 0xC000FFFF) = x) :
    recRidx s req be v = takeFree (windowed s req 0xC020 0xC040 be (v &&& 0xC000FFFF) (slotWords s (fld x 31 30) (fld x 15 0))) := by
  rw [← h, ← getLatch_setIdx]
  rfl

theorem recSidx_latches {s : State} {req : Req} {be : BitVec 4} {v x : Word} (h : mergeBe be (getLatch s req 0xC060) (v &&& 0x8000007F) = x) :
    recSidx s req be v = windowed s req 0xC060 0xC080 be (v &&& 0x8000007F) (statWords s (bitAt x 31) (fld x 6 0)) := by
  rw [← h, ← getLatch_setIdx]
  rfl

theorem getLatch_takeFree (s : State) (req : Req) (off : Nat) : getLatch (takeFree s) req off = getLatch s req off := by cases req <;> rfl

/-! ### The obligation -/

/-- A visit of the recorder's slot takes the oldest event on its way. -/
theorem exec_eventIntake {s : State} {e : Event} (hl : lampServes s 10 = true) (he : s.log.raised.head? = some e) :
    ∃ k, exec .eventIntake s = .next (settle s (startWrite (intake (withLog (atSlot s k) { s.log with raised := s.log.raised.tail }) e))) := by
  obtain ⟨k, hk⟩ := lampTo_slot s .recorder
  refine ⟨k, ?_⟩
  have hrun : exec .eventIntake s = .next (settle s (eventIntake (lampTo s .recorder))) := congrArg (fun u => Host.Outcome.next (settle s u)) (if_pos hl)
  rw [hrun, hk, eventIntake_takes (s := atSlot s k) he]
  rfl

/-- What the taking of an event leaves of the Lamplighter, and of all but the recorder. -/
theorem taken_kept {s : State} {k : Nat} {l : Recorder} :
    (settle s (withLog (atSlot s k) l)).lamp = { s.lamp with slot := (settle s (withLog (atSlot s k) l)).lamp.slot } ∧
    Frame [.log, .lamp] (fun _ => False) s (withLog (atSlot s k) l) := by
  refine ⟨?_, frame_trans (frame_atSlot s k).within (frame_withLog _ l).within⟩
  rw [settle_lamp]
  rfl

/-- A register write that latches a window. -/
theorem window_done {s u : State} {req : Req} {off : Nat} {P : List Part} (hf : Frame P (fun _ => False) s u) (hP : Part.out ∉ P) :
    Ended req s (settle s (endWrite req off (u, 0))) ∧ (∀ k, getLatch (settle s (endWrite req off (u, 0))) req k = getLatch u req k) ∧
    Frame (P ++ [.out]) (fun _ => False) s (settle s (endWrite req off (u, 0))) := by
  refine ⟨ended_of_out (hf.part .out hP), fun k => ?_, ?_⟩
  · rw [getLatch_settle, getLatch_endWrite_done]
  · exact frame_settle (frame_trans (hf.within (by simp)) ((frame_endWrite_done u req off).within (by simp) (by simp)))

/-- Settles O34: each row by the equation of its command, the writer's next write by what waits for it. -/
theorem recorderRowsComplete : Obligations.RecorderRowsComplete := by
  refine ⟨?joins, ?repeats, ?writes, ?written, ?ticks, ?samples, ?flushes, ?scanned, ?slot, ?stat⟩
  case joins =>
    intro s e hl he ha hlen hsc
    obtain ⟨k, hk⟩ := exec_eventIntake hl he
    refine completes_of hk ?_
    rw [intake_joins (s := withLog (atSlot s k) { s.log with raised := s.log.raised.tail }) ha hlen, startWrite_scanning (by exact hsc)]
    obtain ⟨hlamp, hf⟩ := taken_kept (s := s) (k := k) (l := { s.log with raised := s.log.raised.tail, fifo := s.log.fifo ++ [e] })
    exact ⟨by rw [settle_log]; rfl, hlamp, frame_settle hf⟩
  case repeats =>
    intro s e w hl he hw hc hsc
    obtain ⟨k, hk⟩ := exec_eventIntake hl he
    refine completes_of hk ?_
    rw [intake_repeats (s := withLog (atSlot s k) { s.log with raised := s.log.raised.tail }) hw hc, startWrite_scanning (by exact hsc)]
    obtain ⟨hlamp, hf⟩ := taken_kept (s := s) (k := k) (l := { s.log with raised := s.log.raised.tail, fifo := [{ w with rep := w.rep + 1 }] })
    have hb := frame_bump (withLog (atSlot s k) { s.log with raised := s.log.raised.tail, fifo := [{ w with rep := w.rep + 1 }] }) 0xC188
    refine ⟨by rw [settle_log]; rfl, counted_settle (by decide) ?_, by rw [settle_lamp]; rfl, frame_settle (frame_trans hf.within hb.within)⟩
    exact (reg_bump _ _ _).trans (if_pos rfl)
  case writes =>
    intro s e k hl hr hf hsc hw ho h7 hv hlen hfree
    obtain ⟨n, hn⟩ := exec_eventIntake hl (e := e) (by rw [hr]; rfl)
    refine completes_of hn ?_
    rw [intake_joins (s := withLog (atSlot s n) { s.log with raised := s.log.raised.tail }) (by simp [withLog, hf]) (by simp [withLog, hf])]
    obtain ⟨hlamp, hjoin⟩ := taken_kept (s := s) (k := n) (l := { s.log with raised := s.log.raised.tail, fifo := s.log.fifo ++ [e] })
    have hstart := startWrite_general (s := withLog (atSlot s n) { s.log with raised := s.log.raised.tail, fifo := s.log.fifo ++ [e] }) (e := e) (k := k)
      (by simp [withLog, hf]) ho hw hsc h7 hv hlen hfree
    have hframe := frame_trans (hjoin.within (Q := [.log, .mram, .lamp]) (S := fun _ => False))
      ((frame_writeStarted _ k (nextSeq s) { area := 0, idx := k, rec_ := { seq := nextSeq s, ev := e } }).within)
    refine hstart ▸ ⟨?_, by rw [settle_mram]; rfl, by rw [settle_mram]; rfl, by rw [settle_mram]; rfl, by rw [settle_mram]; rfl, ?_, frame_settle hframe⟩
    · rw [settle_log]
      simp [inSlot, freeUp_general, emptied, withLog, hr, hf]
    · rw [settle_lamp]
      rfl
  case written =>
    intro s sl hw ht ha hA hB hf ho h7
    refine completes_of (u := recordWriteDone s true true) rfl ?_
    rw [recordWriteDone_records hw ht ha hA hB hf ho h7]
    have hb := frame_trans ((frame_recorded s sl).within (Q := [.log, .mram, .mon]) (S := (· = 0xC184)) (by simp) (by simp))
      (frame_bump (recorded s sl) 0xC184).within
    have hm : (settle s (bump (recorded s sl) 0xC184)).mram = (recorded s sl).mram := by rw [settle_mram, bump_mram]
    rw [hm]
    refine ⟨?_, ?_, rfl, by rw [settle_log]; rfl, counted_settle (by decide) ((reg_bump _ _ _).trans (if_pos rfl)), ?_, ?_, frame_settle hb⟩
    all_goals simp [recorded, stored, placeIn, countWrite, ha]
  case ticks =>
    intro s h
    refine completes_of (u := optimeTick s) rfl ?_
    rw [optimeTick, if_pos h]
    exact ⟨by rw [settle_mram], frame_settle frame_of_regs⟩
  case samples =>
    intro s ext i hc hd
    refine completes_of (u := sampleStat s (regRead s .monitor) ext i) rfl ?_
    rw [sampleStat_samples hc hd]
    refine ⟨?_, fun j hj => ?_, by rw [settle_log]; rfl, frame_settle (frame_withLog s _)⟩
    · rw [settle_log]
      exact mget_mput_same _ _ _
    · rw [settle_log]
      exact mget_mput_ne _ _ hj
  case flushes =>
    intro s h
    refine completes_of (u := statFlush s) rfl ?_
    rw [statFlush, if_pos h]
    exact ⟨by rw [settle_mram], frame_settle frame_of_regs⟩
  case scanned =>
    intro s hc hs ht hg h7 hv hf ho
    refine completes_of (u := recorderScanDone s) rfl ?_
    rw [recorderScanDone_empty hc hs ht hg h7 hv hf ho]
    exact ⟨by rw [settle_log]; rfl, frame_settle (frame_withLog s _).within⟩
  case slot =>
    intro s req be v x hreach hx
    refine completes_of (u := regCommand s req 0xC020 be v false) rfl ?_
    have hw : writeBlock s req 0xC020 be v false = (recRidx s req be v, 0) := rfl
    rw [regCommand_block hreach v false (by decide) (fun e => by simp [cmdReg, inArray] at e), hw, recRidx_latches hx]
    have hf := frame_windowed s req 0xC020 0xC040 be (v &&& 0xC000FFFF) (slotWords s (fld x 31 30) (fld x 15 0))
    obtain ⟨hend, hlatch, hframe⟩ := window_done (req := req) (off := 0xC020)
      (frame_trans (hf.within (Q := [.latHost, .latMon, .latFar, .free])) (frame_takeFree _).within) (by decide)
    refine ⟨?_, fun i => ?_, hend, hframe⟩
    · rw [hlatch, getLatch_takeFree, windowed_idx _ _ _ _ (by decide), hx]
    · rw [hlatch, getLatch_takeFree, windowed_word _ _ _ _ _ _ (by rw [length_slotWords]; exact i.2)]
  case stat =>
    intro s req be v x hreach hx
    refine completes_of (u := regCommand s req 0xC060 be v false) rfl ?_
    have hw : writeBlock s req 0xC060 be v false = (recSidx s req be v, 0) := rfl
    rw [regCommand_block hreach v false (by decide) (fun e => by simp [cmdReg, inArray] at e), hw, recSidx_latches hx]
    obtain ⟨hend, hlatch, hframe⟩ := window_done (req := req) (off := 0xC060)
      (frame_windowed s req 0xC060 0xC080 be (v &&& 0x8000007F) (statWords s (bitAt x 31) (fld x 6 0))) (by decide)
    refine ⟨?_, fun i => ?_, hend, hframe⟩
    · rw [hlatch, windowed_idx _ _ _ _ (by decide), hx]
    · rw [hlatch, windowed_word _ _ _ _ _ _ (by rw [length_statWords]; exact i.2)]

end Sys2Proof.Recorder
end

section
/-! SUPPORT. A relayed frame that came in stomped counts as stomped where it leaves (R113), which two statements leave out: those on the Dawn frames
of runs and on their timers. -/

namespace Sys2Proof.Beyond

open Sys2Proof.Machine Sys2Proof.Safety

/-- Node 2 in LISTEN, linked on both sides, before its image commits. -/
def listening : State :=
  { uid := 2
    line := { core := true }
    boot := { phase := .header }
    lanes := Vector.replicate 4 { st := .up, mode := 1 }
    inaug := Vector.replicate 2 { st := .listen } }

/-- A PROBE of a node 1 whose trailer is stomped. -/
def stompedProbe : Bytes :=
  withStomp (mkFrame { kind := 2, cls := 7, dyn := false, crit := false, fold := false, src := 0, dtype := 4, dest := [], cycle := 0, slot := 0, len := 0, hops := 0 }
    (dawnCommon 1 0 { cab := 0, rank := 0, luid := 1, run := 1 } 0))

-- Elaborated by itself, so that the proofs before it are checked before those after it begin: this bounds the memory that proofs under way take at once.
set_option Elab.async false in
/-- Refutes O13: a stomped PROBE is relayed, and the lane that carries it counts the stomped frame (R113), which is none of the counts the clause allows. -/
theorem not_dawnFramesOfRunsComplete : ¬ Obligations.DawnFramesOfRunsComplete := by
  intro h
  obtain ⟨hprobe, -⟩ := h
  obtain ⟨t, ht, -, -, -, -, -, -, -, hwords⟩ := hprobe listening .fore stompedProbe (by unfold DawnIn; decide +kernel) rfl (by decide +kernel)
  obtain rfl := Host.Outcome.next.inj ht
  exact absurd (hwords 0x1338 (by decide) (by unfold SendCounts LaneTx; decide)) (by decide +kernel)

/-- An ASSIGN of 4,095 entries: its payload of 65,544 bytes is longer than LEN can tell, which reads 8. Its leader's UID puts the stomped CRC-32 of those
8 bytes behind them, where the trailer is looked for. -/
def longAssign : Assign :=
  { run := { cab := 0, rank := 0, luid := 2985786671 * 2 ^ 16, run := 0 }
    replan := false, ring := false, epoch := 0, actcyc := 0, n := 0, parts := 1
    got := [(0, List.replicate 4095 { uid := 0, handle := 0, eflags := 0, rank := 0, slotref := 0 })] }

/-- Node 2 in CONDUCT, linked at its aft port, with that ASSIGN sent. -/
def conducting : State :=
  { uid := 2
    line := { core := true }
    boot := { phase := .header }
    lanes := #v[{}, {}, { st := .up, mode := 1 }, { st := .up, mode := 1 }]
    inaug := Vector.replicate 2 { st := .conduct, sent := some longAssign } }

/-- Refutes O12: an ASSIGN too long for LEN is sent again, its trailer reads stomped, and the lane that carries it counts the stomped frame (R113), which is
none of the counts the clause allows. -/
theorem not_inaugurationTimersComplete : ¬ Obligations.InaugurationTimersComplete := by
  intro h
  obtain ⟨-, -, hconfirm, -⟩ := h
  obtain ⟨t, ht, -, -, -, -, hwords⟩ := hconfirm conducting 0 rfl rfl (by decide) (by decide)
  obtain rfl := Host.Outcome.next.inj ht
  exact absurd (hwords 0x1338 (by decide) (by unfold SendCounts LaneTx; decide)) (by decide +kernel)

end Sys2Proof.Beyond
end

section
/-! SUPPORT. Two statements that a state holding more, or less, than a run leaves in its queues refutes: each with the state that shows it. -/

namespace Sys2Proof.Beyond

open Sys2Proof.Machine Sys2Proof.Safety

/-- A committed node whose channel 0 owns one queue entry without words, the host's queue window still showing an earlier word. -/
def wordlessEntry : State :=
  { line := { core := true }
    boot := { phase := .committed }
    can := Vector.replicate 8 { qwr := 1, q := [(0, [])] }
    latHost := [(0x7100, 5)] }

-- Elaborated by itself, so that the proofs before it are checked before those after it begin: this bounds the memory that proofs under way take at once.
set_option Elab.async false in
/-- Refutes O22: a queue entry of no words latches none, and the window keeps what it last showed, where the clause for CANn_QIDX reads 0. -/
theorem not_canChannelStatesComplete : ¬ Obligations.CanChannelStatesComplete := by
  intro h
  obtain ⟨-, -, -, -, -, -, -, -, -, hlatch⟩ := h
  obtain ⟨t, ht, -, hwords, -⟩ := hlatch wordlessEntry .host 0 0xF 0 0 ⟨by decide, fun _ => ⟨by decide, .inl (by decide)⟩⟩ (by decide)
  obtain rfl := Host.Outcome.next.inj ht
  exact absurd (hwords 0) (by decide +kernel)

/-- A node with output 4 in HOLD and a frame there of a class that no frame has. -/
def strayClassHeld : State :=
  { line := { core := true }
    boot := { phase := .committed }
    sw := { ports := (Vector.replicate 20 {}).set 4 { hst := 1, q := [{ frame := [], eth := false, cls := 40, slot := 0, inp := 0, since := 0 }] } } }

/-- Refutes O18: the end of a hold counts what it purges by class, and a queued frame of class 40 counts at 0x6084, outside the words the clause
names. -/
theorem not_switchRowsComplete : ¬ Obligations.SwitchRowsComplete := by
  intro h
  obtain ⟨-, -, -, -, -, -, hexpiry, -⟩ := h
  obtain ⟨t, ht, -, -, hrest⟩ := hexpiry strayClassHeld 4 rfl rfl
  obtain rfl := Host.Outcome.next.inj ht
  obtain ⟨-, -, -, hregs⟩ := hrest rfl (by unfold NoMirror; decide +kernel)
  exact absurd (hregs 0x6084 (by decide) (by unfold LaneTx; decide +kernel)) (by decide +kernel)

end Sys2Proof.Beyond

end

section
/-! SUPPORT. What a frame that leaves may touch (R113, R187, R208, R225, R229): the words it counts in, and the parts of the state it moves. -/

namespace Sys2Proof.Traffic

open Sys2Proof.Machine Sys2Proof.Safety Sys2Proof.Registers

/-! ### Frames of repeated steps -/

-- Elaborated by itself, so that the proofs before it are checked before those after it begin: this bounds the memory that proofs under way take at once.
set_option Elab.async false in
theorem frame_foldl {α : Type} {P : List Part} {R : Nat → Prop} {f : State → α → State} (h : ∀ s x, Frame P R s (f s x)) (l : List α) (s : State) :
    Frame P R s (l.foldl f s) := by
  induction l generalizing s with
  | nil => exact frame_refl _ _ s
  | cons x l ih => exact frame_trans (h s x) (ih _)

theorem frame_ite {P : List Part} {R : Nat → Prop} {s t u : State} {c : Prop} [Decidable c] (h : Frame P R s t) (g : Frame P R s u) :
    Frame P R s (if c then t else u) := by
  split
  · exact h
  · exact g

/-! ### The words -/

/-- The frame would be counted as stomped: it carries the stomp code where its own trailer belongs (R113). -/
def unsound (f : Bytes) : Bool := stomped f && !trailerOk f

/-- The words that a frame leaving counts in: those of every frame, and the stomp counter of a lane where the frame reads as stomped. -/
def SendsOf (f : Bytes) (off : Nat) : Prop := SendCounts off ∨ (unsound f = true ∧ ∃ l : Fin 4, off = 0x1138 + 0x100 * l.val)

theorem sendCounts_sw {p i : Nat} (hp : p < 20) (hi : i < 16) : SendCounts (0x5800 + 0x40 * p + 4 * i) :=
  .inr (.inl ((inGroup_iff _ _ _).2 (by omega)))

theorem sendCounts_class {c i : Nat} (hc : c < 8) (hi : i < 4) : SendCounts (0x5E00 + 0x10 * c + 4 * i) :=
  .inr (.inr (.inl ((inGroup_iff _ _ _).2 (by omega))))

theorem sendCounts_event : SendCounts 0xC180 := .inr (.inr (.inr (.inr rfl)))

theorem sendCounts_lane (l : Fin 4) : SendCounts (0x1120 + 0x100 * l.val + 4 * 11) := .inl (by unfold LaneTx; omega)

theorem sendsOf_sound {f : Bytes} (h : unsound f = false) {off : Nat} (ho : SendsOf f off) : SendCounts off :=
  ho.resolve_right fun hb => by simp [h] at hb

/-! ### Copies of mirror sessions (R229, R230) -/

theorem frame_setSw (s : State) (p : Fin 20) (f : SwPort → SwPort) : Frame [.sw] (fun _ => False) s (setSw s p f) := frame_of_regs
theorem frame_withSw (s : State) (w : Switch) : Frame [.sw] (fun _ => False) s { s with sw := w } := frame_of_regs
theorem frame_setPause (s : State) (l : Fin 4) (f : Pause → Pause) : Frame [.sw] (fun _ => False) s (setPause s l f) := frame_of_regs

theorem frame_bumpSw (s : State) {p i : Nat} (hp : p < 20) (hi : i < 16) : Frame [] SendCounts s (bumpSw s p i) :=
  (frame_bump s _).within (hr := fun _ h => h ▸ sendCounts_sw hp hi)

theorem classOf_lt {c : Nat} (h : c < 8) : classOf c < 8 := by
  unfold classOf
  split <;> omega

theorem frame_mirDrop (s : State) (p : Fin 20) {c : Nat} (hc : c < 8) : Frame [.log] SendCounts s (mirDrop s p c) :=
  ((frame_bump s _).within (hr := fun _ h => h ▸ sendCounts_class hc (by decide))).andThen (Q := [.log]) (frame_raiseLim _ _ _ _ _ _)
    (hr := fun _ h => h ▸ sendCounts_event)

theorem frame_enqueueCopy (s : State) (d : Fin 20) {x : QFrame} (hc : x.cls < 8) : Frame [.sw, .log] SendCounts s (enqueueCopy s d x) := by
  unfold enqueueCopy
  split
  · exact (frame_mirDrop s d hc).within
  · exact ((frame_setSw _ _ _).within).andThen (frame_setSw _ _ _)

/-- A session has seen one more frame it selects. -/
def mirSeen (t : State) (n : Fin 4) : State := { t with sw := { t.sw with mirN := t.sw.mirN.set n (t.sw.mirN[n] + 1) } }

/-- One mirror session looks at a frame. -/
def mirLook (egress : Bool) (p cls id : Nat) (f : Bytes) (eth bad : Bool) (stamp : Nat) (t : State) (n : Fin 4) : State :=
  if mirSelects t n.val egress p cls (if eth then none else some (readHdr f)) then
    if t.sw.mirN[n] % 2 ^ fld (reg t (0x5300 + 0x10 * n.val)) 23 20 = 0 then
      enqueueCopy (bumpSw (mirSeen t n) p 15) (Fin.ofNat 20 (4 + fld (reg t (0x5300 + 0x10 * n.val)) 26 24))
        { frame := mirCopy t n.val egress p f eth bad stamp, eth := true, cls := classOf (fld (reg t (0x5300 + 0x10 * n.val)) 19 17), slot := 0, inp := p,
          since := t.now, copy := true, id := id }
    else mirSeen t n
  else t

theorem mirror_looks (s : State) (egress : Bool) (p cls id : Nat) (f : Bytes) (eth bad : Bool) (stamp : Nat) :
    mirror s egress p cls id f eth bad stamp = [0, 1, 2, 3].foldl (mirLook egress p cls id f eth bad stamp) s := rfl

theorem frame_mirLook (egress : Bool) {p : Nat} (hp : p < 20) (cls id : Nat) (f : Bytes) (eth bad : Bool) (stamp : Nat) (t : State) (n : Fin 4) :
    Frame [.sw, .log] SendCounts t (mirLook egress p cls id f eth bad stamp t n) := by
  have hseen : Frame [.sw, .log] SendCounts t (mirSeen t n) := (frame_withSw t _).within
  have hclass : classOf (fld (reg t (0x5300 + 0x10 * n.val)) 19 17) < 8 := classOf_lt (by simp only [fld]; omega)
  refine frame_ite (frame_ite ?_ hseen) (frame_refl _ _ t)
  exact (hseen.andThen (frame_bumpSw _ hp (by decide)) (hr := fun _ h => h)).andThen (frame_enqueueCopy _ _ hclass) (hr := fun _ h => h)

theorem frame_mirror (s : State) (egress : Bool) {p : Nat} (hp : p < 20) (cls id : Nat) (f : Bytes) (eth bad : Bool) (stamp : Nat) :
    Frame [.sw, .log] SendCounts s (mirror s egress p cls id f eth bad stamp) :=
  frame_foldl (frame_mirLook egress hp cls id f eth bad stamp) _ s

/-! ### Frames on lanes (R113, R208) -/

theorem frame_enterFab (s : State) {inp : Nat} (hp : inp < 20) (f : Bytes) : Frame [.sw, .log] SendCounts s (enterFab s inp f) :=
  ((((frame_withSw s _).within).andThen (frame_bumpSw _ hp (by decide)) :
    Frame [.sw, .log] SendCounts s (bumpSw (newFrame s) inp 0))).andThen (frame_mirror _ _ hp _ _ _ _ _ _)

theorem frame_passCur (s : State) (inp out : Nat) (stat : Bool) (cls cells : Nat) : Frame [.sw] (fun _ => False) s (passCur s inp out stat cls cells) :=
  frame_trans (frame_withSw s _) (frame_withSw _ _)

theorem frame_sendRaw (s : State) (l : Fin 4) (f : Bytes) : Frame [.out] SendCounts s (sendRaw s l f) :=
  ((frame_emit s _).within).andThen (frame_bump _ _) (hr := fun _ h => h ▸ sendCounts_lane l)

/-- The frame counted at its lane: sent, cut through or stored where it came by a fabric port, and as stomped. -/
def laneCounted (s : State) (l : Fin 4) (inp : Option Nat) (f : Bytes) : State :=
  let s1 := bumpSw s l.val 1
  let s2 := match inp with
    | some i => bumpSw s1 l.val (if stored s i l then 3 else 2)
    | none => s1
  if unsound f then bumpLane s2 l 6 else s2

theorem sendLane_counts (s : State) (l : Fin 4) (inp : Option Nat) (id : Nat) (f : Bytes) :
    sendLane s l inp id f = sendRaw (mirror (laneCounted s l inp f) true l.val (readHdr f).cls id f false (unsound f) (ttNow s)) l f := rfl

theorem frame_laneCounted (s : State) (l : Fin 4) (inp : Option Nat) (f : Bytes) : Frame [] (SendsOf f) s (laneCounted s l inp f) := by
  have hfirst : Frame [] (SendsOf f) s (bumpSw s l.val 1) := (frame_bumpSw s (by omega) (by decide)).within (hr := fun _ => .inl)
  have hsecond (i : Nat) : Frame [] (SendsOf f) s (bumpSw (bumpSw s l.val 1) l.val (if stored s i l then 3 else 2)) :=
    hfirst.andThen (frame_bumpSw _ (by omega) (by split <;> decide)) (hr := fun _ => .inl)
  have hbad (u : State) : Frame [] (SendsOf f) u (if unsound f then bumpLane u l 6 else u) := by
    split
    · exact (frame_bump u _).within (hr := fun o h => .inr ⟨‹_›, l, by omega⟩)
    · exact frame_refl _ _ u
  cases inp with
  | none => exact frame_trans hfirst (hbad _)
  | some i => exact frame_trans (hsecond i) (hbad _)

theorem frame_sendLane (s : State) (l : Fin 4) (inp : Option Nat) (id : Nat) (f : Bytes) :
    Frame [.sw, .log, .out] (SendsOf f) s (sendLane s l inp id f) := by
  rw [sendLane_counts]
  exact (((frame_laneCounted s l inp f).within).andThen (frame_mirror _ _ (by omega) _ _ _ _ _ _) (hr := fun _ => .inl)).andThen
    (frame_sendRaw _ l f) (hr := fun _ => .inl)

theorem frame_sendPort (s : State) (p : Port) (f : Bytes) : Frame [.sw, .log, .out] (SendsOf f) s (sendPort s p f) := by
  unfold sendPort
  refine frame_ite ?_ (frame_refl _ _ s)
  split
  · exact (((frame_enterFab s (by decide) f).within (hr := fun _ => .inl)).andThen (frame_passCur _ _ _ _ _ _)).andThen (frame_sendLane _ _ _ _ f)
      (hr := fun _ h => h)
  · exact frame_refl _ _ s

/-! ### Control frames (R187, R190) -/

theorem frame_tokenLeft (s : State) (f : Bytes) : Frame [.snuf] (fun _ => False) s (tokenLeft s f) := by
  unfold tokenLeft
  split
  · exact frame_of_regs
  · exact frame_refl _ _ s

/-- Only a TOKEN starts the round trip of the own round. -/
theorem tokenLeft_other {s : State} {f : Bytes} (h : byteAt f 0 ≠ 3) : tokenLeft s f = s := by
  unfold tokenLeft
  rw [if_neg (by simp [h])]

/-- The control frame misses the cutoff at a port. -/
def ctlLate (s : State) (c : Ctl) (p : Port) : Bool :=
  match ctlLane s p with
  | some l => !cutoffOk s (leaveTime s (lanePort l) c.frame)
  | none => false

/-- The control frame has left by its ports, as far as it meets the cutoff there. -/
def ctlSent (s : State) (c : Ctl) : State :=
  let s1 := if c.fore && !ctlLate s c .fore then sendPort s .fore c.frame else s
  tokenLeft (if c.aft && !ctlLate s c .aft then sendPort s1 .aft c.frame else s1) c.frame

/-- What missed the cutoff stays queued. -/
def ctlKept (s : State) (c : Ctl) (t : State) : State :=
  { t with sch := { t.sch with ctl := { c with fore := c.fore && ctlLate s c .fore, aft := c.aft && ctlLate s c .aft } :: t.sch.ctl } }

theorem startNow_eq (s : State) (c : Ctl) : startNow s c =
    if (c.fore && ctlLate s c .fore) || (c.aft && ctlLate s c .aft) then bumpSch (ctlKept s c (ctlSent s c)) 10 else ctlSent s c := rfl

theorem frame_ctlSent (s : State) (c : Ctl) : Frame [.sw, .log, .out, .snuf] (SendsOf c.frame) s (ctlSent s c) := by
  have hsend (u : State) (p : Port) (b : Bool) : Frame [.sw, .log, .out, .snuf] (SendsOf c.frame) u (if b then sendPort u p c.frame else u) :=
    frame_ite ((frame_sendPort u p _).within (hr := fun _ h => h)) (frame_refl _ _ u)
  exact frame_trans (frame_trans (hsend s .fore _) (hsend _ .aft _)) ((frame_tokenLeft _ _).within)

theorem frame_startNow (s : State) (c : Ctl) : Frame [.sw, .log, .out, .snuf, .sch] (SendsOf c.frame) s (startNow s c) := by
  have hsent : Frame [.sw, .log, .out, .snuf, .sch] (SendsOf c.frame) s (ctlSent s c) := (frame_ctlSent s c).within (hr := fun _ h => h)
  have hkept : Frame [.sch] (fun _ => False) (ctlSent s c) (ctlKept s c (ctlSent s c)) := frame_of_regs
  rw [startNow_eq]
  refine frame_ite ((hsent.andThen hkept).andThen (frame_bump _ _) (hr := fun _ h => ?_)) hsent
  exact .inl (h ▸ .inr (.inr (.inr (.inl rfl))))

theorem frame_queueCtl (s : State) (f : Bytes) (fore aft : Bool) : Frame [.sw, .log, .out, .snuf, .sch] (SendsOf f) s (queueCtl s f fore aft) :=
  frame_ite (frame_startNow s { frame := f, fore := fore, aft := aft }) (frame_ite frame_of_regs (frame_refl _ _ s))

/-! ### Back-pressure (R224, R225) -/

theorem unsound_mkFrame (h : NHdr) (p : Bytes) (hp : p.length < 65536) : unsound (mkFrame h p) = false := by
  rw [unsound, trailerOk_mkFrame h p hp, Bool.not_true, Bool.and_false]

theorem unsound_pauseFrame (s : State) (l : Fin 4) (m : BitVec 8) : unsound (pauseFrame s l m) = false := unsound_mkFrame _ _ (by simp)

theorem frame_sendPause (s : State) (l : Fin 4) (m : BitVec 8) : Frame [.sw, .log, .out] SendCounts s (sendPause s l m) :=
  (((frame_setPause s l _).within).andThen (frame_sendLane _ l none _ _) (hr := fun _ => sendsOf_sound (unsound_pauseFrame s l m))).andThen
    (frame_bumpSw _ (by omega) (by decide)) (hr := fun _ h => h)

theorem frame_pauseUpdate (s : State) (l : Fin 4) : Frame [.sw, .log, .out] SendCounts s (pauseUpdate s l) :=
  frame_ite (frame_refl _ _ s) (frame_ite ((frame_setPause s l _).within) (frame_ite (frame_sendPause s l _) ((frame_setPause s l _).within)))

theorem frame_xoffUpdate (s : State) : Frame [.sw, .log, .out] SendCounts s (xoffUpdate s) :=
  frame_trans ((frame_withSw s _).within) (frame_foldl frame_pauseUpdate _ _)

end Sys2Proof.Traffic

end

section
/-! SUPPORT. CAN frames (R264, R278, R283, R286) and the wake event that one may be (R347): what each does to its channel. -/

namespace Sys2Proof.Can

open Sys2Proof.Machine Sys2Proof.Safety Sys2Proof.Registers Sys2Proof.Traffic Sys2Proof.Recorder

/-! ### Wake events (R347) -/

/-- The words that frames leaving may count in, whatever they are. -/
def SendsAny (off : Nat) : Prop := SendCounts off ∨ ∃ l : Fin 4, off = 0x1138 + 0x100 * l.val

-- Elaborated by itself, so that the proofs before it are checked before those after it begin: this bounds the memory that proofs under way take at once.
set_option Elab.async false in
theorem sendsAny_of {f : Bytes} {off : Nat} (h : SendsOf f off) : SendsAny off := h.imp_right And.right

/-- No frame that leaves counts in the CAN block's registers. -/
theorem sendsAny_can {off : Nat} (h : 0x7000 ≤ off) (h' : off < 0x8000) : ¬ SendsAny off := by
  simp only [SendsAny, SendCounts, LaneTx, inGroup_iff]
  omega

/-- The parts that a wake event may change. -/
abbrev wakeParts : List Part := [.sw, .log, .out, .snuf, .sch, .line, .pilot, .mram]

theorem frame_bumpPwr (s : State) (i : Nat) : Frame [.mram] (fun _ => False) s (bumpPwr s i) := frame_of_regs

theorem frame_sleepEvent (s : State) (code sev : Nat) (more : List Nat) : Frame [.log] (· = 0xC180) s (sleepEvent s code sev more) := frame_raise s _ _ _ _

theorem frame_abortRound (s : State) (cause chan id : Nat) : Frame [.log, .line, .pilot, .snuf, .mram] (· = 0xC180) s (abortRound s cause chan id) := by
  have hevent : Frame [.log, .line, .pilot, .snuf, .mram] (· = 0xC180) s (sleepEvent (bumpPwr s 4) 0x1006 1 [cause, chan, id]) :=
    ((frame_bumpPwr s 4).within).andThen (frame_sleepEvent _ _ _ _) (hr := fun _ h => h)
  exact hevent.andThen (Q := [.line, .pilot, .snuf]) (S := fun _ => False) frame_of_regs

/-- The latch of a wake event that the abort leaves. -/
def abortLatched (s : State) (cause chan : Nat) (id : Option Nat) : State :=
  let s1 := abortRound s cause chan (id.getD 0)
  { s1 with pilot := { s1.pilot with latch := { src := 6, cause := cause, chan := chan, krelay := 0, idOk := id.isSome, id := id.getD 0 } } }

/-- The Kindle frame of one segment leaves or waits. -/
def kindleOut (cause : Nat) (t : State) (g : Fin 2) : State :=
  queueCtl t (snufFrame t g 4 3 (kindleWord cause 0 true ++ beBytes 8 t.uid ++ beBytes 2 t.snuf.round ++ [0#8, 0#8])) (segLinked t g .fore) (segLinked t g .aft)

theorem wakeEvent_eq (s : State) (cause chan : Nat) (id : Option Nat) : wakeEvent s cause chan id =
    if wakeable s then bumpPwr ((segs (abortLatched s cause chan id)).foldl (kindleOut cause) (abortLatched s cause chan id)) 8 else s := rfl

theorem frame_abortLatched (s : State) (cause chan : Nat) (id : Option Nat) :
    Frame [.log, .line, .pilot, .snuf, .mram] (· = 0xC180) s (abortLatched s cause chan id) :=
  (frame_abortRound s cause chan (id.getD 0)).andThen (Q := [.pilot]) (S := fun _ => False) frame_of_regs

theorem frame_wakeEvent (s : State) (cause chan : Nat) (id : Option Nat) : Frame wakeParts SendsAny s (wakeEvent s cause chan id) := by
  rw [wakeEvent_eq]
  refine frame_ite (((frame_abortLatched s cause chan id).within (hr := fun _ h => .inl (h ▸ sendCounts_event))).andThen (frame_trans
    (frame_foldl (P := wakeParts) (R := SendsAny) (fun t g => ?_) _ _) ((frame_bumpPwr _ 8).within)) (hr := fun _ h => h)) (frame_refl _ _ s)
  exact (frame_queueCtl t _ _ _).within (hr := fun _ => sendsAny_of)

theorem wakeEvent_asleep {s : State} (h : wakeable s = false) (cause chan : Nat) (id : Option Nat) : wakeEvent s cause chan id = s := by
  rw [wakeEvent_eq, if_neg (by simp [h])]

/-- The channel's last matching frame is stamped for CAN_ACTIVE. -/
def matchSeen (s : State) (c : Fin 8) : State := { s with snuf := { s.snuf with lastSw := s.snuf.lastSw.set c (some s.now) } }

theorem wakeByFrame_eq (s : State) (c : Fin 8) (f : CanFrame) : wakeByFrame s c f =
    if swOn (swRegs s c) then (if swMatch (swRegs s c) f then wakeEvent (matchSeen s c) 3 c.val (some f.id) else s)
    else if regB s 0xA020 (16 + c.val) then wakeEvent s 2 c.val none else s := rfl

theorem frame_matchSeen (s : State) (c : Fin 8) : Frame [.snuf] (fun _ => False) s (matchSeen s c) := frame_of_regs

theorem frame_wakeByFrame (s : State) (c : Fin 8) (f : CanFrame) : Frame wakeParts SendsAny s (wakeByFrame s c f) := by
  rw [wakeByFrame_eq]
  exact frame_ite (frame_ite (((frame_matchSeen s c).within).andThen (frame_wakeEvent _ _ _ _) (hr := fun _ h => h)) (frame_refl _ _ s))
    (frame_ite (frame_wakeEvent s _ _ _) (frame_refl _ _ s))

/-- In a node that no wake event concerns a frame at most is stamped. -/
theorem frame_wakeByFrame_asleep {s : State} (h : wakeable s = false) (c : Fin 8) (f : CanFrame) :
    Frame [.snuf] (fun _ => False) s (wakeByFrame s c f) := by
  rw [wakeByFrame_eq, wakeEvent_asleep (s := matchSeen s c) h, wakeEvent_asleep h]
  exact frame_ite (frame_ite (frame_matchSeen s c) (frame_refl _ _ s)) (frame_ite (frame_refl _ _ s) (frame_refl _ _ s))

/-! ### A channel replaced -/

/-- One channel stands as given. -/
def withChan (s : State) (c : Fin 8) (k : Chan) : State := { s with can := s.can.set c k }

theorem withChan_same (s : State) (c : Fin 8) (k : Chan) : (withChan s c k).can[c] = k := by simp [withChan]

theorem withChan_other (s : State) {c e : Fin 8} (h : e ≠ c) (k : Chan) : (withChan s c k).can[e] = s.can[e] := by
  have : c.val ≠ e.val := fun he => h (Fin.ext he.symm)
  simp [withChan, this]

theorem frame_withChan (s : State) (c : Fin 8) (k : Chan) : Frame [.can] (fun _ => False) s (withChan s c k) := frame_of_regs

theorem setChan_withChan (s : State) (c : Fin 8) (f : Chan → Chan) : setChan s c f = withChan s c (f s.can[c]) := rfl

theorem withChan_twice (s : State) (c : Fin 8) (k k' : Chan) : withChan (withChan s c k) c k' = withChan s c k' := by simp [withChan]

end Sys2Proof.Can

end

section
/-! SUPPORT. Frames on a CAN channel (R264, R278, R283, R286): what a received frame, a visit and the end of a transmission each do to the channel. -/

namespace Sys2Proof.Can

open Sys2Proof.Machine Sys2Proof.Safety Sys2Proof.Registers Sys2Proof.Traffic Sys2Proof.Recorder

/-! ### A frame received without error (R264, R271) -/

-- Elaborated by itself, so that the proofs before it are checked before those after it begin: this bounds the memory that proofs under way take at once.
set_option Elab.async false in
/-- Fault confinement keeps an active channel whose counts are in range. -/
theorem canConfine_active {s : State} {c : Fin 8} (hst : s.can[c].st = 2) (htec : s.can[c].tec ≤ 127) (hrec : s.can[c].rec_ ≤ 127) :
    canConfine s c = s := by
  unfold canConfine
  have htec' : ¬ 255 < s.can[c].tec := by omega
  rw [if_neg (by simp [-Fin.getElem_fin, htec']), if_neg (by omega), if_neg (by omega)]

theorem canStopNow_runs {s : State} {c : Fin 8} (h : s.can[c].stop = false) : canStopNow s c = s := by
  unfold canStopNow
  rw [if_neg (by simp [-Fin.getElem_fin, h])]

/-- The channel after a frame received without error. -/
def gotFrame (k : Chan) (f : CanFrame) : Chan := { k with rec_ := k.rec_ - 1, done := k.done ++ [{ frame := f, own := false, obj := 0 }] }

/-- The state after a frame received without error. -/
def frameTaken (s : State) (c : Fin 8) (f : CanFrame) : State := withChan (takeFree (bumpCan s c 0)) c (gotFrame s.can[c] f)

theorem canFrameValid_active {s : State} {c : Fin 8} {f : CanFrame} (hlive : canLive s = true) (hst : s.can[c].st = 2) (hpex : s.can[c].pex = false)
    (hfd : f.fdf = true → bitAt (canCfg s c) 1 = true) (hrec : s.can[c].rec_ ≤ 127) (htec : s.can[c].tec ≤ 127) (hctx : s.can[c].ctxAt = none)
    (hstop : s.can[c].stop = false) : canFrameValid s c f = frameTaken s c f := by
  have hfd' : (f.fdf && !bitAt (canCfg s c) 1) = false := by
    cases hf : f.fdf
    · rfl
    · simp [hfd hf]
  have hgood : recGood s s.can[c].rec_ = s.can[c].rec_ - 1 := if_neg (by omega)
  have hconf : canConfine (setChan (takeFree (bumpCan s c 0)) c fun k => { k with rec_ := recGood s k.rec_ }) c =
      withChan (takeFree (bumpCan s c 0)) c { s.can[c] with rec_ := s.can[c].rec_ - 1 } := by
    rw [setChan_withChan]
    refine (canConfine_active ?_ ?_ ?_).trans (by rw [← hgood]; rfl)
    · rw [withChan_same]; exact hst
    · rw [withChan_same]; exact htec
    · rw [withChan_same]; exact (hgood ▸ show s.can[c].rec_ - 1 ≤ 127 by omega)
  unfold canFrameValid
  rw [if_neg (by simp [-Fin.getElem_fin, hlive, canOnBus, hst, hpex, hfd'])]
  simp only [hconf, hctx, show s.can[c].st ≠ 6 by omega, Option.map_none, Option.getD_none, Bool.false_eq_true, if_false]
  simp only [setChan_withChan, withChan_same, withChan_twice]
  rw [canStopNow_runs (by rw [withChan_same]; exact hstop), ← hctx]
  rfl

theorem frame_frameTaken (s : State) (c : Fin 8) (f : CanFrame) : Frame [.can, .free] (· = 0x7180 + 0x200 * c.val) s (frameTaken s c f) :=
  ((((frame_bump s _).within (hr := fun _ h => h)).andThen (frame_takeFree _)) : Frame [.can, .free] (· = 0x7180 + 0x200 * c.val) s _).andThen
    (frame_withChan _ c _)

/-! ### A visit (R286) -/

/-- The channel with a completion of another node's frame in the receive-all queue. -/
def queuedFrame (k : Chan) (d : CanDone) : Chan :=
  { k with seq := (k.seq + 1) % 65536, qwr := (k.qwr + 1) % 2048, q := mput k.q (k.qwr % 1024) (queueEntry d.frame k.seq false none) }

theorem canDeliver_queues {s : State} {c : Fin 8} {d : CanDone} (hown : d.own = false) (hobjs : s.can[c].objs = [])
    (hcfg : bitAt (canCfg s c) 3 = true) (hfill : qFill s.can[c] < 1024) : canDeliver s c d = withChan s c (queuedFrame s.can[c] d) := by
  have hfree : ¬ 1024 ≤ qFill { s.can[c] with seq := (s.can[c].seq + 1) % 65536 } := Nat.not_le.2 hfill
  unfold canDeliver
  simp only [setChan_withChan, withChan_same, withChan_twice, hown, hobjs, hcfg, List.find?_nil, Option.map_none, Bool.false_eq_true, if_false,
    Bool.not_false, Bool.true_or, Bool.and_self, if_true]
  exact (if_neg hfree).trans (by simp only [queuedFrame, hobjs])

theorem canVisit_queues {s : State} {c : Fin 8} {d : CanDone} (hserv : service s = true) (hst : s.can[c].st = 2) (hl : lampServes s c.val = true)
    (hfifo : s.can[c].fifo = []) (hd : s.can[c].done.head? = some d) (hown : d.own = false) (hfin : d.fin = 0) (hobjs : s.can[c].objs = [])
    (hcfg : bitAt (canCfg s c) 3 = true) (hfill : qFill s.can[c] < 1024) :
    canVisit s c false = withChan s c (queuedFrame { s.can[c] with done := s.can[c].done.tail } d) := by
  obtain ⟨r, hr⟩ := List.head?_eq_some_iff.1 hd
  unfold canVisit
  rw [if_pos (by simp [-Fin.getElem_fin, hserv, hst, hl])]
  simp only [hfifo, hr, Bool.false_eq_true, if_false, setChan_withChan, List.tail_cons]
  rw [canStore, if_pos hfin]
  refine (canDeliver_queues (s := withChan s c _) hown (by rw [withChan_same]; exact hobjs) hcfg (by rw [withChan_same]; exact hfill)).trans ?_
  rw [withChan_same, withChan_twice]

/-- On an idle bus the object that wins arbitration starts. -/
def txStarted (s : State) (c : Fin 8) (o : Nat) : State :=
  emit (setChan (setObj s c o (fun x => { x with st := 2 })) c (fun k => { k with active := some o })) (.can c.val (txFrame s c o))

theorem canVisit_starts {s : State} {c : Fin 8} {o : Nat} (hserv : service s = true) (htx : canTx s.can[c] = true) (hl : lampServes s c.val = true)
    (hfifo : s.can[c].fifo = []) (hdone : s.can[c].done = []) (hact : s.can[c].active = none) (hstop : s.can[c].stop = false)
    (hpex : s.can[c].pex = false) (hshed : s.line.shed = false) (hwarm : s.line.therm ≠ 2) (ho : canChoose s.can[c] = some o) :
    canVisit s c true = txStarted s c o := by
  have hst : s.can[c].st = 2 ∨ s.can[c].st = 3 := by simpa [canTx, -Fin.getElem_fin] using htx
  have hmode : canMode s c = .normal := by
    unfold canMode
    rw [if_neg (by simp only [hshed, Bool.false_eq_true, false_or]; omega), if_neg (by omega)]
  unfold canVisit
  rw [if_pos (by simp only [hserv, hl, Bool.and_true, Bool.true_and, bne_iff_ne]; omega)]
  simp only [hfifo, hdone, if_true]
  rw [canStart, if_pos (by simp [-Fin.getElem_fin, htx, hact, hstop, hpex, hmode]), ho]
  rfl

theorem setObj_can_other (s : State) {c e : Fin 8} (h : e ≠ c) (o : Nat) (f : CObj → CObj) : (setObj s c o f).can[e] = s.can[e] := by
  unfold setObj
  split
  · exact withChan_other s h _
  · rfl

theorem setObj_some {s : State} {c : Fin 8} {o : Nat} {x : CObj} (h : mget s.can[c].objs o = some x) (f : CObj → CObj) :
    setObj s c o f = withChan s c { s.can[c] with objs := mput s.can[c].objs o (f x) } := by
  rw [setObj, h]
  rfl

theorem frame_setObj (s : State) (c : Fin 8) (o : Nat) (f : CObj → CObj) : Frame [.can] (fun _ => False) s (setObj s c o f) := by
  unfold setObj
  split
  · exact frame_setChan s c _
  · exact frame_refl _ _ s

theorem setObj_tec (s : State) (c : Fin 8) (o : Nat) (f : CObj → CObj) : (setObj s c o f).can[c].tec = s.can[c].tec := by
  unfold setObj
  split
  · rw [setChan_withChan, withChan_same]
  · rfl

theorem frame_txStarted (s : State) (c : Fin 8) (o : Nat) : Frame [.can, .out] (fun _ => False) s (txStarted s c o) :=
  (((frame_setObj s c o _).within).andThen (frame_setChan _ c _)).andThen (frame_emit _ _)

/-! ### The end of a transmission (R278, R281, R282) -/

theorem setBuf_flags (x : CObj) (b : Bool) (y : OBuf) : (setBuf x b y).follow = x.follow ∧ (setBuf x b y).staged = x.staged ∧
    (setBuf x b y).cancel = x.cancel ∧ (setBuf x b y).coll = x.coll := by
  unfold setBuf
  split <;> exact ⟨rfl, rfl, rfl, rfl⟩

theorem objOf_some {s : State} {c : Fin 8} {o : Nat} {x : CObj} (h : mget s.can[c].objs o = some x) : objOf s c o = x := by rw [objOf, h]; rfl

theorem completeObj_plain {s : State} {c : Fin 8} {o st : Nat} {x : CObj} (hx : mget s.can[c].objs o = some x) (hf : x.follow = false)
    (hs : x.staged = false) : completeObj s c o st = withChan s c { s.can[c] with
      objs := mput s.can[c].objs o { x with st := st, cancel := false, follow := false, staged := false }, active := none } := by
  unfold completeObj
  simp only [objOf_some hx, hf, hs, Bool.false_eq_true, if_false, setObj_some hx, setChan_withChan, withChan_same, withChan_twice]

end Sys2Proof.Can

end

section
/-! SUPPORT. The ends of a CAN transmission and bus errors (R264, R278, R281, R282), and the statement about a channel's frames. -/

namespace Sys2Proof.Can

open Sys2Proof.Machine Sys2Proof.Safety Sys2Proof.Registers Sys2Proof.Traffic Sys2Proof.Recorder Sys2Proof.Bridge

/-! ### Success (R278, R282, R285) -/

-- Elaborated by itself, so that the proofs before it are checked before those after it begin: this bounds the memory that proofs under way take at once.
set_option Elab.async false in
theorem finishObj_sent {s : State} {c : Fin 8} {o : Nat} {y : CObj} (f : CanFrame) (hl : lampServes s c.val = true) (hy : mget s.can[c].objs o = some y)
    (hc : y.cancel = false) (hf : y.follow = false) (hs : y.staged = false) : finishObj s c o 3 f = withChan s c { s.can[c] with
      objs := mput s.can[c].objs o { y with st := 3, cancel := false, follow := false, staged := false }, active := none } := by
  rw [finishObj, if_pos hl, objOf_some hy, if_neg (by simp [hc])]
  exact completeObj_plain hy hf hs

/-- The object's frame as sent is in its primary buffer, and no collision is counted any more. -/
def sentBuf (f : CanFrame) (x : CObj) : CObj :=
  setBuf { x with coll := 0 } x.pbuf { bufOf f (primBuf x).full with data := (primBuf x).data, dlc := (primBuf x).dlc }

/-- The channel has counted a frame sent. -/
def txDone (s : State) (c : Fin 8) (o stamp tdcv : Nat) : State :=
  let f := { txFrame s c o with stamp := stamp }
  setChan (setObj (bumpCan s c 1) c o (sentBuf f)) c (fun k => { k with
    tec := k.tec - 1
    tdcv := if f.fdf && f.brs && regB s (0x7008 + 0x200 * c.val) 31 then tdcv % 128 else k.tdcv
    done := if lampServes s c.val then k.done ++ [{ frame := f, own := true, obj := o }] else k.done })

theorem canTxSuccess_eq {s : State} {c : Fin 8} {o : Nat} (h : s.can[c].active = some o) (hlive : canLive s = true) (htx : canTx s.can[c] = true)
    (stamp tdcv : Nat) : canTxSuccess s c stamp tdcv =
      canStopNow (canConfine (finishObj (txDone s c o stamp tdcv) c o 3 { txFrame s c o with stamp := stamp }) c) c := by
  unfold canTxSuccess
  rw [h]
  exact if_pos (by rw [hlive, htx]; rfl)

/-- The channel after a success that nothing waited for. -/
structure SentChan (k : Chan) (o : Nat) (t : Chan) : Prop where
  active : t.active = none
  tec : t.tec = k.tec - 1
  recv : t.rec_ = k.rec_
  obj : ∃ y, mget t.objs o = some y ∧ y.st = 3 ∧ y.coll = 0
  done : t.done.length = k.done.length + 1

theorem canTxSuccess_sent {s : State} {c : Fin 8} {o : Nat} {x : CObj} (hlive : canLive s = true) (hl : lampServes s c.val = true)
    (hact : s.can[c].active = some o) (hx : mget s.can[c].objs o = some x) (hf : x.follow = false) (hs : x.staged = false) (hc : x.cancel = false)
    (hst : s.can[c].st = 2) (htec : s.can[c].tec ≤ 127) (hrec : s.can[c].rec_ ≤ 127) (hstop : s.can[c].stop = false) (stamp tdcv : Nat) :
    ∃ k, canTxSuccess s c stamp tdcv = withChan (bumpCan s c 1) c k ∧ SentChan s.can[c] o k := by
  have hx' : mget (bumpCan s c 1).can[c].objs o = some x := hx
  rw [canTxSuccess_eq hact hlive (by simp [-Fin.getElem_fin, canTx, hst])]
  generalize hfr : ({ txFrame s c o with stamp := stamp } : CanFrame) = f
  obtain ⟨hbf, hbs, hbc, hbl⟩ := setBuf_flags { x with coll := 0 } x.pbuf { bufOf f (primBuf x).full with data := (primBuf x).data, dlc := (primBuf x).dlc }
  have hdone : txDone s c o stamp tdcv = withChan (bumpCan s c 1) c { s.can[c] with
      objs := mput s.can[c].objs o (sentBuf f x), tec := s.can[c].tec - 1
      tdcv := if f.fdf && f.brs && regB s (0x7008 + 0x200 * c.val) 31 then tdcv % 128 else s.can[c].tdcv
      done := s.can[c].done ++ [{ frame := f, own := true, obj := o }] } := by
    simp only [txDone, hfr, setObj_some hx', setChan_withChan, withChan_same, withChan_twice, hl, if_true]
    subst hfr
    rfl
  rw [hdone, finishObj_sent (s := withChan (bumpCan s c 1) c _) (y := sentBuf f x) _ hl (by rw [withChan_same]; exact mget_mput_same _ _ _) (hbc.trans hc)
    (hbf.trans hf) (hbs.trans hs),
    withChan_same, withChan_twice, canConfine_active, canStopNow_runs]
  · refine ⟨_, rfl, rfl, rfl, rfl, ⟨_, mget_mput_same _ _ _, rfl, hbl⟩, ?_⟩
    simp
  · rw [withChan_same]; exact hstop
  · rw [withChan_same]; exact hst
  · rw [withChan_same]; exact (by omega : s.can[c].tec - 1 ≤ 127)
  · rw [withChan_same]; exact hrec

/-! ### Lost arbitration (R278) -/

theorem canArbLost_returns {s : State} {c : Fin 8} {o : Nat} {x : CObj} (hact : s.can[c].active = some o) (hx : mget s.can[c].objs o = some x)
    (hc : x.cancel = false) (hone : bitAt x.cfg 25 = false) (hstop : s.can[c].stop = false) : canArbLost s c = withChan (bumpCan s c 2) c { s.can[c] with
      objs := mput s.can[c].objs o { x with st := 1, pbuf := x.pbuf != (x.follow || x.staged), follow := false, staged := false }, active := none } := by
  have hx' : mget (bumpCan s c 2).can[c].objs o = some x := hx
  unfold canArbLost
  rw [hact]
  simp only [objOf_some hx, hc, hone, Bool.false_eq_true, if_false]
  rw [returnPending, setObj_some hx', setChan_withChan, withChan_same, withChan_twice, canStopNow_runs (by rw [withChan_same]; exact hstop)]
  simp only [hc]
  rfl

/-! ### Bus errors (R264) -/

theorem canBusError_received {s : State} {c : Fin 8} (hlive : canLive s = true) (hst : s.can[c].st = 2) (hpex : s.can[c].pex = false)
    (hrec : s.can[c].rec_ < 127) (htec : s.can[c].tec ≤ 127) (hstop : s.can[c].stop = false) (code field : Nat) :
    canBusError s c code field false false = withChan (bumpCan s c 4) c { s.can[c] with
      rec_ := s.can[c].rec_ + 1, lastErr := BitVec.ofNat 32 (16 * (field % 16) + code % 8) } := by
  have hmin : min 255 (s.can[c].rec_ + 1) = s.can[c].rec_ + 1 := by omega
  rw [canBusError, if_pos (by simp [-Fin.getElem_fin, hlive, canOnBus, hst, hpex]), canErr]
  simp only [show s.can[c].st ≠ 6 by omega, Bool.false_eq_true, if_false, setChan_withChan, withChan_same, withChan_twice, Bool.toNat_false, Nat.mul_zero,
    Nat.add_zero]
  have hkeep : (bumpCan s c 4).can[c] = s.can[c] := rfl
  rw [hkeep, hmin, canConfine_active, canStopNow_runs]
  · rw [withChan_same]; exact hstop
  · rw [withChan_same]; exact hst
  · rw [withChan_same]; exact htec
  · rw [withChan_same]; exact (by omega : s.can[c].rec_ + 1 ≤ 127)
  · exact fun _ h => nomatch h

/-! ### A channel alone -/

theorem txStarted_out (s : State) (c : Fin 8) (o : Nat) : (txStarted s c o).out = .can c.val (txFrame s c o) :: s.out :=
  congrArg (Out.can c.val (txFrame s c o) :: ·) ((frame_setObj s c o fun x => { x with st := 2 }).part .out)

/-- What a clause says of the other channels, where one is replaced. -/
theorem settle_withChan_other (s t : State) {c e : Fin 8} (h : e ≠ c) (k : Chan) : (settle s (withChan t c k)).can[e] = t.can[e] := by
  rw [settle_can]; exact withChan_other t h k

theorem settle_withChan_same (s t : State) (c : Fin 8) (k : Chan) : (settle s (withChan t c k)).can[c] = k := by
  rw [settle_can]; exact withChan_same t c k

theorem counted_withChan (s : State) (c : Fin 8) (k : Chan) {i : Nat} (hi : i < 14) :
    Counted (0x7180 + 0x200 * c.val + 4 * i) 1 s (settle s (withChan (bumpCan s c i) c k)) :=
  counted_settle (by omega) (reg_bumpBy s _ 1 _ |>.trans (if_pos rfl))

theorem frame_counted (s : State) (c : Fin 8) (k : Chan) (i : Nat) :
    Frame [.can] (· = 0x7180 + 0x200 * c.val + 4 * i) s (withChan (bumpCan s c i) c k) :=
  ((frame_bump s _).within (hr := fun _ h => h)).andThen (frame_withChan _ c k)

/-- Settles O21, each clause from the rule of its operation: a frame received, a visit, and the ends of a transmission. -/
theorem canFramesComplete : Obligations.CanFramesComplete := by
  refine ⟨?_, ?_, ?_, ?_, ?_, ?_⟩
  · intro s c f hlive hst hpex hfd hrec htec hctx hstop
    refine completes_of (u := canFrameIn s c f) rfl ?_
    have hin : canFrameIn s c f = wakeByFrame (frameTaken s c f) c f := by
      have hvalid : (!f.fdf || bitAt (canCfg s c) 1) = true := by
        cases hf : f.fdf
        · rfl
        · simp [hfd hf]
      unfold canFrameIn
      rw [canFrameValid_active hlive hst hpex hfd hrec htec hctx hstop, if_pos (by simp [-Fin.getElem_fin, hlive, canOnBus, hst, hpex, hvalid])]
    rw [hin]
    have hwake := frame_wakeByFrame (frameTaken s c f) c f
    have hcan : (wakeByFrame (frameTaken s c f) c f).can = (frameTaken s c f).can := hwake.part .can
    have hreg : reg (wakeByFrame (frameTaken s c f) c f) (0x7180 + 0x200 * c.val) = reg (frameTaken s c f) (0x7180 + 0x200 * c.val) :=
      hwake.reg (sendsAny_can (by omega) (by omega)) (by omega)
    refine ⟨?_, fun d hd => ?_, counted_settle (by omega) (hreg.trans (reg_bumpBy s _ 1 _ |>.trans (if_pos rfl))), fun hw => frame_settle ?_⟩
    · rw [settle_can, hcan]; exact withChan_same _ c _
    · rw [settle_can, hcan]; exact withChan_other _ hd _
    · exact ((frame_frameTaken s c f).within (hr := fun _ h => h)).andThen (frame_wakeByFrame_asleep (s := frameTaken s c f) hw c f)
  · intro s c d hserv hst hl hfifo hd hown hfin hobjs hcfg hfill
    refine completes_of (u := canVisit (lampTo s (.can c.val)) c false) rfl ?_
    obtain ⟨n, hn⟩ := lampTo_slot s (.can c.val)
    rw [hn, canVisit_queues (s := atSlot s n) hserv hst hl hfifo hd hown hfin hobjs hcfg hfill]
    exact ⟨settle_withChan_same _ _ c _, fun e he => settle_withChan_other _ _ he _, by rw [settle_lamp]; rfl,
      frame_settle (((frame_atSlot s n).within).andThen (frame_withChan _ c _))⟩
  · intro s c o hserv htx hl hfifo hdone hact hstop hpex hshed hwarm ho
    refine completes_of (u := canVisit (lampTo s (.can c.val)) c true) rfl ?_
    obtain ⟨n, hn⟩ := lampTo_slot s (.can c.val)
    rw [hn, canVisit_starts (s := atSlot s n) hserv htx hl hfifo hdone hact hstop hpex hshed hwarm ho]
    have hlamp : (txStarted (atSlot s n) c o).lamp = (atSlot s n).lamp := (frame_txStarted (atSlot s n) c o).part .lamp
    refine ⟨?_, by rw [settle_out]; exact txStarted_out _ c o, ?_, fun e he => ?_, by rw [settle_lamp, hlamp]; rfl,
      frame_settle (((frame_atSlot s n).within).andThen (frame_txStarted _ c o))⟩
    · rw [settle_can]; exact congrArg Chan.active (withChan_same _ c _)
    · rw [settle_can]; exact (congrArg Chan.tec (withChan_same _ c _)).trans (setObj_tec _ c o _)
    · rw [settle_can]; exact (withChan_other _ he _).trans (setObj_can_other _ he o _)
  · intro s c stamp tdcv o x hlive hl hact hx hf hs hc hst htec hrec hstop
    refine completes_of (u := canTxSuccess s c stamp tdcv) rfl ?_
    obtain ⟨k, hk, hsent⟩ := canTxSuccess_sent hlive hl hact hx hf hs hc hst htec hrec hstop stamp tdcv
    obtain ⟨y, hy, hyst, hycoll⟩ := hsent.obj
    have hobj : objOf (settle s (withChan (bumpCan s c 1) c k)) c o = y := objOf_some (by rw [settle_withChan_same]; exact hy)
    rw [hk, settle_withChan_same, hobj]
    exact ⟨hsent.active, hsent.tec, hsent.recv, hyst, hycoll, hsent.done, fun e he => settle_withChan_other _ _ he _,
      (by have h := counted_withChan s c k (i := 1) (by decide); rwa [show 0x7180 + 0x200 * c.val + 4 * 1 = 0x7184 + 0x200 * c.val by omega] at h),
      frame_settle ((frame_counted s c k 1).within (hr := fun _ h => by omega))⟩
  · intro s c o x hact hx hc hone hstop
    refine completes_of (u := canArbLost s c) rfl ?_
    rw [canArbLost_returns hact hx hc hone hstop, settle_withChan_same]
    have hobj := objOf_some (s := settle s (withChan (bumpCan s c 2) c { s.can[c] with
      objs := mput s.can[c].objs o { x with st := 1, pbuf := x.pbuf != (x.follow || x.staged), follow := false, staged := false }, active := none }))
      (c := c) (o := o) (by rw [settle_withChan_same]; exact mget_mput_same _ _ _)
    rw [hobj]
    exact ⟨rfl, rfl, rfl, rfl, rfl, fun e he => settle_withChan_other _ _ he _,
      (by have h := counted_withChan s c { s.can[c] with
            objs := mput s.can[c].objs o { x with st := 1, pbuf := x.pbuf != (x.follow || x.staged), follow := false, staged := false },
              active := none } (i := 2) (by decide)
          rwa [show 0x7180 + 0x200 * c.val + 4 * 2 = 0x7188 + 0x200 * c.val by omega] at h),
      frame_settle ((frame_counted s c _ 2).within (hr := fun _ h => by omega))⟩
  · intro s c code field hlive hst hpex hrec htec hstop
    refine completes_of (u := canBusError s c code field false false) rfl ?_
    rw [canBusError_received hlive hst hpex hrec htec hstop]
    exact ⟨settle_withChan_same _ _ c _, fun e he => settle_withChan_other _ _ he _,
      (by have h := counted_withChan s c { s.can[c] with
            rec_ := s.can[c].rec_ + 1, lastErr := BitVec.ofNat 32 (16 * (field % 16) + code % 8) } (i := 4) (by decide)
          rwa [show 0x7180 + 0x200 * c.val + 4 * 4 = 0x7190 + 0x200 * c.val by omega] at h),
      frame_settle ((frame_counted s c _ 4).within (hr := fun _ h => by omega))⟩

end Sys2Proof.Can

end

section
/-! SUPPORT. The gateway's side of the CAN objects (R251 to R253): what its requests may touch. -/

namespace Sys2Proof.Can

open Sys2Proof.Machine Sys2Proof.Safety Sys2Proof.Registers Sys2Proof.Traffic Sys2Proof.Recorder Sys2Proof.Bridge

/-- The words that the gateway's work counts in: SG_CNT, the CAN channels' counters, and events lost. -/
def GwWords (off : Nat) : Prop := (0x6080 ≤ off ∧ off < 0x60B0) ∨ (0x7000 ≤ off ∧ off < 0x8000) ∨ off = 0xC180

-- Elaborated by itself, so that the proofs before it are checked before those after it begin: this bounds the memory that proofs under way take at once.
set_option Elab.async false in
theorem frame_bumpSg (s : State) {i : Nat} (h : i < 12) : Frame [] GwWords s (bumpSg s i) :=
  (frame_bump s _).within (hr := fun _ ho => .inl (by omega))

theorem frame_bumpCan (s : State) (c : Fin 8) {i : Nat} (h : i < 14) : Frame [] GwWords s (bumpCan s c i) :=
  (frame_bump s _).within (hr := fun _ ho => .inr (.inl (by omega)))

theorem frame_raiseSg (s : State) (code sev inst : Nat) (vals : List Nat) : Frame [.log] GwWords s (raise s code sev inst vals) :=
  (frame_raise s _ _ _ _).within (hr := fun _ ho => .inr (.inr ho))

theorem frame_raiseLimSg (s : State) (win code sev inst : Nat) (vals : List Nat) : Frame [.log] GwWords s (raiseLim s win code sev inst vals) :=
  (frame_raiseLim s _ _ _ _ _).within (hr := fun _ ho => .inr (.inr ho))

theorem frame_withSg (s : State) (g : Signals) : Frame [.sg] (fun _ => False) s { s with sg := g } := frame_of_regs

/-! ### Requests (R253, R277, R279) -/

theorem frame_requestObj (s : State) (c : Fin 8) (o : Nat) (swap : Bool) : Frame [.can] GwWords s (requestObj s c o swap) := by
  have hset (f : CObj → CObj) : Frame [.can] GwWords s (setObj s c o f) := (frame_setObj s c o f).within
  unfold requestObj
  exact frame_ite (frame_refl _ _ s) (frame_ite (hset _) (frame_ite (hset _) ((hset _).andThen (frame_bumpCan _ c (by decide)) (hr := fun _ h => h))))

theorem frame_gwRequest (s : State) (c : Fin 8) (o entry : Nat) (d : Bytes) (dlc : Nat) : Frame [.can, .log] GwWords s (gwRequest s c o entry d dlc) := by
  have hover (vals : List Nat) : Frame [.can, .log] GwWords s (raiseLim (bumpSg s 10) 1000000000 0x7031 1 0xFFF vals) :=
    ((frame_bumpSg s (by decide)).within (hr := fun _ h => h)).andThen (frame_raiseLimSg _ _ _ _ _ _) (hr := fun _ h => h)
  unfold gwRequest
  exact (((frame_ite (hover _) (frame_refl _ _ s)).andThen (frame_setObj _ c o _)).andThen (frame_requestObj _ c o true) (hr := fun _ h => h)).andThen
    (frame_bumpSg _ (by decide)) (hr := fun _ h => h)

/-- What a record sent leaves of the signal store: only what was last sent, and when, is new. -/
def SgKept (s t : State) : Prop := ∃ last at_, t.sg = { s.sg with txLast := last, txAt := at_ }

theorem sgKept_refl (s : State) : SgKept s s := ⟨_, _, rfl⟩

theorem sgKept_trans {s t u : State} (h : SgKept s t) (g : SgKept t u) : SgKept s u := by
  obtain ⟨_, _, h⟩ := h
  obtain ⟨l, a, g⟩ := g
  exact ⟨l, a, by rw [g, h]⟩

theorem sgKept_sent {s u : State} (h : u.sg = s.sg) (last at_ : List (Nat × Nat)) :
    SgKept s (takeFree { u with sg := { u.sg with txLast := last, txAt := at_ } }) := ⟨last, at_, by rw [takeFree_sg, h]⟩

/-- One object of the gateway is written and requested, or STOP withholds it. -/
theorem gwSend_moves (k : Nat) (s : State) (x : (Fin 8 × Nat) × Bool) : Frame [.can, .log, .sg, .free] GwWords s (gwSend k s x) ∧ SgKept s (gwSend k s x) := by
  obtain ⟨⟨c, o⟩, byChange⟩ := x
  unfold gwSend
  simp only
  split
  · exact ⟨(frame_bumpSg s (by decide)).within (hr := fun _ h => h), sgKept_refl s⟩
  · generalize hu : gwRequest s c o _ _ _ = u
    have hu' : Frame [.can, .log] GwWords s u := hu ▸ frame_gwRequest s c o _ _ _
    have hsg : u.sg = s.sg := hu'.part .sg
    have hwide : Frame [.can, .log, .sg, .free] GwWords s u := hu'.within (hr := fun _ h => h)
    exact ⟨(hwide.andThen (frame_withSg u _)).andThen (frame_takeFree _), sgKept_sent hsg _ _⟩

theorem gwSends_move (k : Nat) (l : List ((Fin 8 × Nat) × Bool)) (s : State) :
    Frame [.can, .log, .sg, .free] GwWords s (l.foldl (gwSend k) s) ∧ SgKept s (l.foldl (gwSend k) s) := by
  refine ⟨frame_foldl (fun t x => (gwSend_moves k t x).1) l s, ?_⟩
  induction l generalizing s with
  | nil => exact sgKept_refl s
  | cons x l ih => exact sgKept_trans (gwSend_moves k s x).2 (ih _)

/-! ### What waited for the gateway's context (R289) -/

theorem gwResume_none {s : State} (h : s.sg.gwLate = none) : gwResume s = s := by
  unfold gwResume
  rw [h]

theorem gwResume_moves (s : State) : Frame [.can, .log, .sg, .free] GwWords s (gwResume s) ∧ (gwResume s).sg.gwLate = none := by
  unfold gwResume
  split
  · obtain ⟨hframe, last, at_, hsg⟩ := gwSends_move ‹Nat› ‹_› { s with sg := { s.sg with gwLate := none } }
    exact ⟨frame_trans ((frame_withSg s _).within) hframe, by rw [hsg]⟩
  · exact ⟨frame_refl _ _ s, ‹_›⟩

end Sys2Proof.Can

end

section
/-! SUPPORT. The host's object commands (R275 to R277, R281) and the Lamplighter's contexts (R289). -/

namespace Sys2Proof.Can

open Sys2Proof.Machine Sys2Proof.Safety Sys2Proof.Registers Sys2Proof.Traffic Sys2Proof.Recorder Sys2Proof.Bridge Sys2Proof.Telemetry Sys2Proof.Settling

/-! ### Object commands (R276) -/

-- Elaborated by itself, so that the proofs before it are checked before those after it begin: this bounds the memory that proofs under way take at once.
set_option Elab.async false in
/-- A command that nothing refuses and nothing waits before is taken at once. -/
theorem canObjWrite_takes {s : State} {req : Req} {c : Fin 8} {code o : Nat} (h : mayWrite s req = true) (hsw : switchBusy s = false)
    (hr : canRefused s c code o = false) (hfifo : s.can[c].fifo = []) (hl : lampServes s c.val = true) (early : Bool) :
    canObjWrite s req c code o early = endWrite req (0x7014 + 0x200 * c.val) (canCommand s c code o early, 0) := by
  unfold canObjWrite canObjCmd
  simp only [h, hsw, hr, hfifo, hl, Bool.not_true, Bool.false_eq_true, if_false, and_false, and_self, if_true]

theorem endWrite_can (s : State) (req : Req) (off : Nat) : (endWrite req off (s, 0)).can = s.can := by rw [endWrite_done]; split <;> rfl

/-- The access of a command that replaces its channel has ended, and nothing else has changed. -/
theorem chan_replaced (s : State) (req : Req) (off : Nat) (c : Fin 8) (k : Chan) :
    (settle s (endWrite req off (withChan s c k, 0))).can[c] = k ∧
    (∀ e : Fin 8, e ≠ c → (settle s (endWrite req off (withChan s c k, 0))).can[e] = s.can[e]) ∧
    Ended req s (settle s (endWrite req off (withChan s c k, 0))) ∧
    Frame [.can, .out] (fun _ => False) s (settle s (endWrite req off (withChan s c k, 0))) := by
  refine ⟨?_, fun e he => ?_, ended_of_out rfl, frame_settle (((frame_withChan s c k).within).andThen (frame_endWrite_done _ _ _))⟩
  · rw [settle_can, endWrite_can]; exact withChan_same s c k
  · rw [settle_can, endWrite_can]; exact withChan_other s he k

theorem requestObj_pends {s : State} {c : Fin 8} {o : Nat} {x : CObj} (hx : mget s.can[c].objs o = some x) (hst : x.st ≠ 2)
    (hon : bitAt x.cfg 31 = true) (htx : canTx s.can[c] = true) :
    requestObj s c o true = withChan s c { s.can[c] with objs := mput s.can[c].objs o { x with pbuf := !x.pbuf, coll := 0, st := 1 } } := by
  unfold requestObj
  simp only [objOf_some hx, hon, hst, htx, Bool.not_true, Bool.false_eq_true, if_false, if_true, setObj_some hx, Bool.bne_true]

/-- The object with its primary buffer freed, none being full behind it. -/
def released (x : CObj) : CObj :=
  let y := setBuf x x.pbuf { primBuf x with full := false }
  let z := if (shadBuf y).full then { y with pbuf := !y.pbuf } else y
  { z with st := z.b0.full.toNat + z.b1.full.toNat }

theorem released_empty {x : CObj} (h : (shadBuf x).full = false) :
    (released x).st = 0 ∧ (primBuf (released x)).full = false ∧ (released x).pbuf = x.pbuf := by
  cases hb : x.pbuf <;> simp_all [released, setBuf, primBuf, shadBuf]

/-! ### A write of a buffer (R273, R277) -/

theorem canWindowWrite_dlc {s : State} {c : Fin 8} {o : Fin 128} {x : CObj} (hx : mget s.can[c].objs o.val = some x) (htx : isTx x = true)
    (hown : bitAt x.cfg 23 = false) (v : Word) :
    canWindowWrite s (0x8000 * c.val + 0x100 * o.val + (if x.pbuf then 0x20 else 0x80)) 0xF v = (withChan s c { s.can[c] with
      objs := mput s.can[c].objs o.val (setBuf x (!x.pbuf) { shadBuf x with dlc := fld v 3 0 }) }, 0) := by
  have hc : Fin.ofNat 8 ((0x8000 * c.val + 0x100 * o.val + (if x.pbuf then 0x20 else 0x80)) / 0x8000) = c := by
    apply Fin.ext
    simp only [Fin.ofNat]
    split <;> omega
  have ho : (0x8000 * c.val + 0x100 * o.val + (if x.pbuf then 0x20 else 0x80)) / 0x100 % 128 = o.val := by split <;> omega
  have ha : (0x8000 * c.val + 0x100 * o.val + (if x.pbuf then 0x20 else 0x80)) % 0x100 = if x.pbuf then 0x20 else 0x80 := by split <;> omega
  unfold canWindowWrite
  simp only [hc, ho, ha, objOf_some hx, setObj_some hx, htx, hown]
  cases hp : x.pbuf <;> simp [shadBuf, hp]

theorem lbusWrite_can {s : State} {off : Nat} {v : Word} (h : lbusFree s = true) (ho : off < 0x40000) {u : State}
    (hu : canWindowWrite s off 0xF v = (u, 0)) : lbusWrite s (0x200000 + off) 0xF v false = lrdy u 0 := by
  unfold lbusWrite hostWrite
  rw [if_pos h, if_neg (by decide), if_neg (by omega), if_neg (by omega), if_pos (by omega), show 0x200000 + off - 0x200000 = off by omega, hu]
  rfl

theorem fUnit_congr {s t : State} (h : t.flt = s.flt) (n : Nat) : fUnit t n = fUnit s n := by rw [fUnit, h, fUnit]

theorem fUnit_bumpFlt (s : State) (i n : Nat) : fUnit (bumpFlt s i) n = fUnit s n := rfl

/-! ### Contexts of the Lamplighter (R289) -/

theorem fUnit_setUnit (s : State) {u : Nat} (h : u < 50) (f : FUnit → FUnit) : fUnit (setUnit s u f) u = f (fUnit s u) := by
  simp [fUnit, setUnit, h]

/-- A detected error of a context, counted at its unit. -/
def contextError (s : State) (u : Fin 11) : State := bumpFlt (setUnit s (0x10 + u.val) (fun x => { x with errors := min 255 (x.errors + 1) })) 0

theorem detect_context {s : State} (h : coreRun s = true) (u : Fin 11) (code : Nat) : detect s (0x10 + u.val) code = contextError s u := by
  unfold detect
  rw [if_pos h]
  exact if_pos (.inl (by omega))

/-- A CAN channel whose context failed keeps when, unless it is off the bus or sends. -/
def contextMarked (s : State) (u : Fin 11) : State :=
  if h : u.val < 8 then setChan s ⟨u.val, h⟩ (fun k => { k with ctxAt := if canOnBus k && k.active.isNone then some (ttNow s) else none }) else s

theorem frame_contextMarked (s : State) (u : Fin 11) : Frame [.can] (fun _ => False) s (contextMarked s u) := by
  unfold contextMarked
  split
  · exact frame_setChan s _ _
  · exact frame_refl _ _ s

/-- The user of a context stands idle. -/
def idled (s : State) (u : Fin 11) : State := { s with lamp := { s.lamp with idle := s.lamp.idle ||| BitVec.ofNat 11 (2 ^ u.val) } }

theorem llContextFault_idles {s : State} {u : Fin 11} (hc : coreRun s = true) (hl : lampServes s u.val = true) :
    llContextFault s u false = idled (contextMarked (contextError s u) u) u := by
  unfold llContextFault
  rw [if_pos (by rw [hc, hl]; rfl), detect_context hc]
  rfl

/-- The words of the fault handler's counters. -/
theorem counted_contextError (s : State) (u : Fin 11) : Counted 0xB080 1 s (contextError s u) := reg_bumpBy _ _ 1 _ |>.trans (if_pos rfl)

theorem frame_contextError (s : State) (u : Fin 11) : Frame [.flt] (· = 0xB080) s (contextError s u) :=
  ((frame_setUnit s _ _).within).andThen (frame_bump _ _) (hr := fun _ h => h)

theorem frame_idled (s : State) (u : Fin 11) : Frame [.lamp] (fun _ => False) s (idled s u) := frame_of_regs

/-- The user's slots resume. -/
def resumed (s : State) (u : Fin 11) : State :=
  { s with lamp := { s.lamp with idle := s.lamp.idle &&& ~~~BitVec.ofNat 11 (2 ^ u.val), need := s.lamp.need &&& ~~~BitVec.ofNat 11 (2 ^ u.val) } }

/-- The user has a spare context. -/
def spared (s : State) (u : Fin 11) : State := { s with lamp := { s.lamp with map := s.lamp.map ||| BitVec.ofNat 11 (2 ^ u.val) } }

/-- The user's state stands rebuilt in a spare, counted. -/
def rebuilt (s : State) (u : Fin 11) : State :=
  bumpFlt (setUnit (bump (spared (resumed s u) u) 0x8050) (0x10 + u.val) (fun x => { x with spared := true })) 3

theorem llRebuildDone_spares {s : State} {u : Fin 11} (hi : s.lamp.idle.getLsbD u.val = true) (hn : s.lamp.need.getLsbD u.val = true) :
    llRebuildDone s u = raise (rebuilt s u) 0x8040 4 u.val [u.val] := by
  unfold llRebuildDone
  rw [if_pos hi, if_pos hn]
  rfl

theorem frame_rebuilt (s : State) (u : Fin 11) : Frame [.lamp, .flt] (fun o => o = 0x8050 ∨ (0xB080 ≤ o ∧ o < 0xB0B4)) s (rebuilt s u) := by
  have hlamp : Frame [.lamp, .flt] (fun o => o = 0x8050 ∨ (0xB080 ≤ o ∧ o < 0xB0B4)) s (spared (resumed s u) u) := frame_of_regs
  exact ((hlamp.andThen (frame_bump _ _) (hr := fun _ => .inl)).andThen (frame_setUnit _ _ _)).andThen (frame_bump _ _) (hr := fun _ h => .inr (by omega))

theorem counted_rebuilt (s : State) (u : Fin 11) : Counted 0x8050 1 s (rebuilt s u) := by
  rw [Counted, rebuilt, bumpFlt, reg_bump_ne _ (by decide), reg_setUnit]
  exact reg_bumpBy (spared (resumed s u) u) 0x8050 1 0x8050 |>.trans (if_pos rfl)

theorem fUnit_rebuilt (s : State) (u : Fin 11) : (fUnit (rebuilt s u) (0x10 + u.val)).spared = true := by
  rw [rebuilt, fUnit_bumpFlt, fUnit_setUnit _ (by omega)]

theorem fUnit_contextError (s : State) (u : Fin 11) :
    (fUnit (contextError s u) (0x10 + u.val)).errors = min 255 ((fUnit s (0x10 + u.val)).errors + 1) := by
  rw [contextError, fUnit_bumpFlt, fUnit_setUnit _ (by omega)]

theorem llResume_gateway {s : State} (h : s.hb.inq = []) : llResume s = if lampServes s 8 then gwResume s else s := by
  have hq : (if lampServes s 8 then gwResume s else s).hb.inq = [] := by
    split
    · exact (congrArg Bridge.inq ((gwResume_moves s).1.part .hb)).trans h
    · exact h
  unfold llResume
  exact if_neg (by simp [hq])

/-- Settles O23: each object command by what it does to its object, a context fault and its rebuild by what they do to the rotation. -/
theorem canObjectsAndLamplighterComplete : Obligations.CanObjectsAndLamplighterComplete := by
  refine ⟨?_, ?_, ?_, ?_, ?_, ?_, ?_⟩
  · intro s req c o x h hsw hr hfifo hl hx hst hon htx
    refine completes_of (u := canObjWrite s req c 1 o.val false) rfl ?_
    rw [canObjWrite_takes h hsw hr hfifo hl, show canCommand s c 1 o.val false = requestObj s c o.val true from rfl, requestObj_pends hx hst hon htx]
    exact chan_replaced s req _ c _
  · intro s req c o x h hsw hr hfifo hl hx hst
    refine completes_of (u := canObjWrite s req c 2 o.val false) rfl ?_
    have hstage : canCommand s c 2 o.val false = withChan s c { s.can[c] with objs := mput s.can[c].objs o.val { x with pbuf := !x.pbuf } } := by
      simp only [canCommand, objOf_some hx, hst, if_false, setObj_some hx]
    rw [canObjWrite_takes h hsw hr hfifo hl, hstage]
    exact chan_replaced s req _ c _
  · intro s req c o early x h hsw hr hfifo hl hx hst
    refine completes_of (u := canObjWrite s req c 3 o.val early) rfl ?_
    have hcancel : canCommand s c 3 o.val early = withChan (bumpCan s c 9) c { s.can[c] with objs := mput s.can[c].objs o.val { x with st := 4 } } := by
      simp only [canCommand, objOf_some hx, hst, if_true]
      exact setObj_some (s := bumpCan s c 9) hx _
    rw [canObjWrite_takes h hsw hr hfifo hl, hcancel]
    refine ⟨?_, fun e he => ?_, ?_, ended_of_out rfl, frame_settle (Frame.andThen (P := [.can, .out]) (t := withChan (bumpCan s c 9) c _)
      ((frame_counted s c _ 9).within (hr := fun _ ho => by omega)) (frame_endWrite_done _ req _))⟩
    · rw [settle_can, endWrite_can]; exact withChan_same _ c _
    · rw [settle_can, endWrite_can]; exact withChan_other _ he _
    · refine counted_settle (by omega) ?_
      rw [Counted, reg_endWrite, show 0x71A4 + 0x200 * c.val = 0x7180 + 0x200 * c.val + 4 * 9 by omega]
      exact reg_bumpBy s _ 1 _ |>.trans (if_pos rfl)
  · intro s req c o x h hsw hr hfifo hl hx hfull
    refine completes_of (u := canObjWrite s req c 4 o.val false) rfl ?_
    have hrelease : canCommand s c 4 o.val false = withChan s c { s.can[c] with objs := mput s.can[c].objs o.val (released x) } := setObj_some hx released
    rw [canObjWrite_takes h hsw hr hfifo hl, hrelease]
    obtain ⟨hsame, hother, hended, hframe⟩ := chan_replaced s req (0x7014 + 0x200 * c.val) c { s.can[c] with objs := mput s.can[c].objs o.val (released x) }
    obtain ⟨hst, hprim, hpbuf⟩ := released_empty hfull
    have hobj := objOf_some (c := c) (o := o.val) (x := released x) (by rw [hsame]; exact mget_mput_same _ _ _)
    rw [hobj]
    exact ⟨hst, hprim, hpbuf, hother, hended, hframe⟩
  · intro s c o v x hfree hx htx hown
    have hoff : 0x8000 * c.val + 0x100 * o.val + (if x.pbuf then 0x20 else 0x80) < 0x40000 := by split <;> omega
    refine completes_of (u := lbusWrite s (0x200000 + (0x8000 * c.val + 0x100 * o.val + (if x.pbuf then 0x20 else 0x80))) 0xF v false) rfl ?_
    rw [lbusWrite_can hfree hoff (canWindowWrite_dlc hx htx hown v)]
    refine ⟨?_, by rw [settle_out]; rfl, fun e he => ?_, frame_settle (((frame_withChan s c _).within).andThen (frame_emit _ _))⟩
    · rw [settle_can]; exact withChan_same s c _
    · rw [settle_can]; exact withChan_other s he _
  · intro s u hc hl
    refine completes_of (u := llContextFault s u false) rfl ?_
    rw [llContextFault_idles hc hl]
    have hmark := frame_contextMarked (contextError s u) u
    have hflt : (idled (contextMarked (contextError s u) u) u).flt = (contextError s u).flt := hmark.part .flt
    refine ⟨?_, ?_, counted_settle (by decide) ?_, frame_settle ?_⟩
    · rw [settle_lamp, idled, show (contextMarked (contextError s u) u).lamp = s.lamp from hmark.part .lamp]
    · rw [fUnit_settle, fUnit_congr hflt]
      exact fUnit_contextError s u
    · exact (hmark.reg (o := 0xB080) id).trans (counted_contextError s u)
    · exact (((frame_contextError s u).within (hr := fun _ h => h)).andThen hmark).andThen (frame_idled _ u)
  · intro s u hc hi hn hq
    refine completes_of (u := llResume (llRebuildDone s u)) rfl ?_
    rw [llRebuildDone_spares hi hn, llResume_gateway (by rw [raise_hb]; exact hq)]
    generalize hw : raise (rebuilt s u) 0x8040 4 u.val [u.val] = w
    have hraise : Frame [.log] (· = 0xC180) (rebuilt s u) w := hw ▸ frame_raise _ _ _ _ _
    obtain ⟨hmoves, hlate⟩ := gwResume_moves w
    have hgw : Frame [.can, .log, .sg, .free] GwWords (rebuilt s u) (if lampServes w 8 then gwResume w else w) :=
      frame_trans (hraise.within (hr := fun _ h => .inr (.inr h))) (frame_ite hmoves (frame_refl _ _ w))
    have hlamp : (if lampServes w 8 then gwResume w else w).lamp = (rebuilt s u).lamp := hgw.part .lamp
    have hflt : (if lampServes w 8 then gwResume w else w).flt = (rebuilt s u).flt := hgw.part .flt
    refine ⟨by rw [settle_lamp, hlamp]; rfl, by rw [settle_lamp, hlamp]; rfl, by rw [settle_lamp, hlamp]; rfl, ?_, counted_settle (by decide) ?_,
      fun hserv => ?_,
      fun hnone => ?_⟩
    · rw [fUnit_settle, fUnit_congr hflt]
      exact fUnit_rebuilt s u
    · exact (hgw.reg (by simp [GwWords])).trans (counted_rebuilt s u)
    · have hw8 : lampServes w 8 = true := by
        rw [lampServes, settle_lamp, hlamp] at hserv
        rw [lampServes, show w.lamp = (rebuilt s u).lamp from hraise.part .lamp]
        exact hserv
      rw [settle_sg, if_pos hw8]
      exact hlate
    · rw [gwResume_none (by rw [show w.sg = s.sg from (hraise.part .sg).trans ((frame_rebuilt s u).part .sg)]; exact hnone), ite_self]
      refine ⟨?_, frame_settle (((frame_rebuilt s u).within (hr := fun _ h => by omega)).andThen hraise (hr := fun _ h => by omega))⟩
      rw [Raised, settle_log, ← hw, raise_raised _ _ _ _ _ (coreRun_of_frame (frame_rebuilt s u) ▸ hc)]
      exact congrArg₂ (· ++ ·) rfl (by rw [List.map_singleton, mkEvent_of_frame (frame_rebuilt s u)])

end Sys2Proof.Can

end

section
/-! SUPPORT. The signal store's rows (R252, R254, R256): the gateway's record, the staging queue, and the host's commit. -/

namespace Sys2Proof.Can

open Sys2Proof.Machine Sys2Proof.Safety Sys2Proof.Registers Sys2Proof.Traffic Sys2Proof.Recorder Sys2Proof.Bridge Sys2Proof.Telemetry

/-- The store as given. -/
def withSg (s : State) (g : Signals) : State := { s with sg := g }

-- Elaborated by itself, so that the proofs before it are checked before those after it begin: this bounds the memory that proofs under way take at once.
set_option Elab.async false in
theorem frame_withSignals (s : State) (g : Signals) : Frame [.sg] (fun _ => False) s (withSg s g) := frame_of_regs

/-- The value a mapping record takes from a frame's data. -/
def recordValue (s : State) (j : GwJob) (r : Nat) : Nat :=
  fieldGet (dataNat j.data) ((mapRec s r).flags.testBit 0) (mapRec s r).start (mapRec s r).len

/-- The store after the only record of the oldest frame. -/
def recordWritten (s : State) (j : GwJob) (r : Nat) : Signals :=
  { s.sg with
    jobs := s.sg.jobs.tail
    back := mput s.sg.back (mapRec s r).entry { (mget s.sg.back (mapRec s r).entry).getD {} with val := some (recordValue s j r) }
    canSeen := mput s.sg.canSeen (mapRec s r).entry j.stamp }

theorem gatewayMappingTask_last {s : State} {j : GwJob} {r : Nat} (hs : service s = true) (hl : lampServes s 8 = true)
    (hj : s.sg.jobs.head? = some j) (ht : j.todo = [r]) (hd : j.done = []) :
    gatewayMappingTask s = withSg (bumpSg s 6) (recordWritten s j r) := by
  obtain ⟨l, hl'⟩ := List.head?_eq_some_iff.1 hj
  have htail : s.sg.jobs.tail = l := by rw [hl', List.tail_cons]
  unfold gatewayMappingTask
  rw [if_pos (by rw [hs, hl]; rfl), hl']
  simp only [ht, hd, List.nil_append, if_true, List.foldl_cons, List.foldl_nil]
  rw [recordWritten, htail]
  rfl

/-! ### The host's side (R255, R256) -/

theorem sigWrite_stages {s : State} {off : Nat} {be : BitVec 4} {v : Word} (hc : committed s = true) (hp : s.boot.phase = .committed)
    (ho : off < 0x100000) (ha : off % 16 = 0 ∨ off % 16 = 4) (hh : isHostEntry s (off / 16) = true) (hq : s.sg.staged.length < 1024)
    (hauto : regB s 0x6000 0 = false) : sigWrite s off be v =
      (withSg s { s.sg with staged := s.sg.staged ++ [(off / 16, off % 16 / 4, mergeBe be (hostHalf s (off / 16) (off % 16 / 4)) v)] }, 0) := by
  have he : off / 16 % 65536 = off / 16 := by omega
  unfold sigWrite
  simp only [he]
  rw [if_neg (by simp [hp]), if_neg (by simp only [hc, hh, Bool.not_true, Bool.or_false, Bool.false_or, decide_eq_true_eq]; omega),
    if_neg (Nat.not_le.2 hq), hauto]
  simp [withSg]

/-- One staged half of an entry goes to the back buffer. -/
def stagedInto (t : State) (x : Nat × Nat × Word) : State :=
  let e := x.1
  let old := (mget t.sg.back e).getD {}
  let v := old.val.getD (sgEnt t e).val
  let v1 := if x.2.1 = 0 then v / 2 ^ 32 * 2 ^ 32 + x.2.2.toNat else v % 2 ^ 32 + x.2.2.toNat * 2 ^ 32
  withSg t { t.sg with
    back := mput t.sg.back e { old with val := some (toWidth (sgDef t e).width v1) }
    hostSet := if t.sg.hostSet.contains e then t.sg.hostSet else e :: t.sg.hostSet }

theorem stagedInto_fold (l : List (Nat × Nat × Word)) (t : State) :
    ∃ back host, l.foldl stagedInto t = withSg t { t.sg with back := back, hostSet := host } := by
  induction l generalizing t with
  | nil => exact ⟨t.sg.back, t.sg.hostSet, rfl⟩
  | cons x l ih =>
    obtain ⟨b, h, hl⟩ := ih (stagedInto t x)
    exact ⟨b, h, hl⟩

/-- What the staged writes make of the store: the back buffer and the entries the host has set. -/
theorem commitStaged_sg (s : State) : ∃ back host, commitStaged s = withSg s { s.sg with back := back, hostSet := host, staged := [] } := by
  obtain ⟨b, h, hl⟩ := stagedInto_fold s.sg.staged s
  exact ⟨b, h, congrArg (fun u => withSg u { u.sg with staged := [] }) hl⟩

theorem endWrite_sg (s : State) (req : Req) (off : Nat) : (endWrite req off (s, 0)).sg = s.sg := by rw [endWrite_done]; split <;> rfl

/-- Settles O19: the gateway's record, a host write of a HOST entry, and the commit of what was staged. -/
theorem signalRowsComplete : Obligations.SignalRowsComplete := by
  refine ⟨?_, ?_, ?_⟩
  · intro s j r hs hl hj ht hd
    refine completes_of (u := gatewayMappingTask (lampTo s .gateway)) rfl ?_
    obtain ⟨n, hn⟩ := lampTo_slot s .gateway
    rw [hn, gatewayMappingTask_last (s := atSlot s n) hs hl hj ht hd]
    refine ⟨by rw [settle_sg]; rfl, ?_, ?_, by rw [settle_sg]; rfl, counted_settle (by decide) (reg_bumpBy _ _ 1 _ |>.trans (if_pos rfl)),
      by rw [settle_lamp]; rfl, frame_settle ?_⟩
    · rw [settle_sg]; exact mget_mput_same _ _ _
    · rw [settle_sg]; exact congrArg (Option.bind · SgBack.val) (mget_mput_same _ _ _)
    · exact (((frame_atSlot s n).within).andThen (frame_bump _ _) (hr := fun _ h => h)).andThen (frame_withSignals _ _)
  · intro s off be v hfree hbe ho hp ha hh hq hauto
    have hc : committed s = true := by
      simp only [lbusFree, hostAlive, Bool.and_eq_true] at hfree
      exact hfree.1.1.1.1.1
    refine completes_of (u := lbusWrite s (0x100000 + off) be v false) rfl ?_
    have hw : lbusWrite s (0x100000 + off) be v false =
        lrdy (withSg s { s.sg with staged := s.sg.staged ++ [(off / 16, off % 16 / 4, mergeBe be (hostHalf s (off / 16) (off % 16 / 4)) v)] }) 0 := by
      unfold lbusWrite hostWrite
      rw [if_pos hfree, if_neg (by simp [hbe]), if_neg (by omega), if_pos (by omega), show 0x100000 + off - 0x100000 = off by omega,
        sigWrite_stages hc hp ho ha hh hq hauto]
      rfl
    rw [hw]
    exact ⟨by rw [settle_sg]; rfl, by rw [settle_out]; rfl, frame_settle (((frame_withSignals s _).within).andThen (frame_emit _ _))⟩
  · intro s req v hr hv hs
    refine completes_of (u := regCommand s req 0x6010 0xF v false) rfl ?_
    have hcmd : cmdReg 0x6010 = false := by decide
    rw [regCommand_masked (f := hostCommitGo s) hr (by decide +kernel) hcmd rfl, hostCommitGo, if_pos (by rw [hv, hs]; rfl)]
    obtain ⟨back, host, hstaged⟩ := commitStaged_sg s
    rw [hstaged, settle_sg, endWrite_sg]
    exact ⟨rfl, rfl, rfl, rfl, ended_of_out rfl, frame_settle (((frame_withSignals s _).within).andThen (frame_endWrite_done _ req _))⟩

end Sys2Proof.Can

end

section
/-! SUPPORT. The common instant (R169 to R172, R237): what the flip, the gateway's triggers and the balls may touch, and the time registers. -/

namespace Sys2Proof.Instant

open Sys2Proof.Machine Sys2Proof.Safety Sys2Proof.Registers Sys2Proof.Traffic Sys2Proof.Recorder Sys2Proof.Bridge Sys2Proof.Telemetry Sys2Proof.Can

/-! ### The flip (R237, R246, R249, R252) -/

-- Elaborated by itself, so that the proofs before it are checked before those after it begin: this bounds the memory that proofs under way take at once.
set_option Elab.async false in
theorem foldl_kept {α β : Type} {f : State → α → State} {g : State → β} (h : ∀ s x, g (f s x) = g s) (l : List α) (s : State) :
    g (l.foldl f s) = g s := by
  induction l generalizing s with
  | nil => rfl
  | cons x l ih => exact (ih (f s x)).trans (h s x)

/-- An own entry that a lower handle publishes too is disabled, or no longer. -/
theorem dupCheck_moves (s : State) : Frame [.sg, .log] GwWords s (dupCheck s) ∧ (dupCheck s).sg.seq = s.sg.seq := by
  unfold dupCheck
  constructor
  · refine frame_foldl (fun t x => frame_ite (frame_refl _ _ t) ?_) _ s
    split
    · exact frame_ite (frame_refl _ _ t) (((frame_withSg t _).within).andThen (frame_raiseSg _ _ _ _ _) (hr := fun _ h => h))
    · exact (frame_withSg t _).within
  · refine foldl_kept (g := fun t => t.sg.seq) (fun t x => ?_) _ s
    simp only
    split
    · rfl
    · split
      · split
        · rfl
        · rw [raise_sg]
      · rfl

theorem mapStale_moves (old s : State) : Frame [.log] GwWords s (mapStale old s) := by
  unfold mapStale
  exact frame_foldl (fun t x => frame_ite (((frame_bumpSg t (by decide)).within (hr := fun _ h => h)).andThen (frame_raiseSg _ _ _ _ _) (hr := fun _ h => h))
    (frame_refl _ _ t)) _ s

/-- The bindings as a flip finds them. -/
def flipBound (s : State) : State := if s.sg.bindCyc then dupCheck s else s

/-- The store has flipped. -/
def flipped (s : State) (inst : Nat) : State :=
  { s with sg := { s.sg with
    snap := flipSnap s inst, back := [], seq := (s.sg.seq + 1) % 2 ^ 32, rebind := false, bindCyc := false
    bindReq := s.sg.bindReq || s.sg.descNew, descNew := false } }

/-- The epoch and the count of unbound entries that a binding publishes. -/
def bindSeg (s : State) : Fin 2 := if segGw s && regB s 0x3000 0 then 1 else 0

/-- A waiting binding has been published. -/
def bindingOut (s : State) : State :=
  let un := ((subDefs s).filter (fun x => (sgEnt s x.1).st == 1)).length
  let g := bindSeg s
  raise { s with sg := { s.sg with epoch := s.inaug[g].epoch, unbound := un } } 0x7001 0 0xFFF [g.val, s.inaug[g].epoch, (subDefs s).length - un, un]

theorem flip_eq (s : State) (inst : Nat) : flip s inst = mapStale (flipBound s)
    (if (flipBound s).sg.rebind then bindingOut (flipped (flipBound s) inst) else flipped (flipBound s) inst) := rfl

/-- The store's sequence number and back buffer stand as they did. -/
def SgSteady (s t : State) : Prop := t.sg.seq = s.sg.seq ∧ t.sg.back = s.sg.back

theorem steady_of_sg {s t : State} (h : t.sg = s.sg) : SgSteady s t := by rw [SgSteady, h]; exact ⟨rfl, rfl⟩

theorem SgSteady.andThen {s t u : State} (h : SgSteady s t) (g : SgSteady t u) : SgSteady s u := ⟨g.1.trans h.1, g.2.trans h.2⟩

theorem steady_ite {s t u : State} {c : Prop} [Decidable c] (h : SgSteady s t) (g : SgSteady s u) : SgSteady s (if c then t else u) := by
  split
  · exact h
  · exact g

theorem steady_foldl {α : Type} {f : State → α → State} (h : ∀ s x, SgSteady s (f s x)) (l : List α) (s : State) : SgSteady s (l.foldl f s) := by
  induction l generalizing s with
  | nil => exact ⟨rfl, rfl⟩
  | cons x l ih => exact (h s x).andThen (ih _)

theorem flip_moves (s : State) (inst : Nat) : Frame [.sg, .log] GwWords s (flip s inst) ∧
    (flip s inst).sg.seq = (s.sg.seq + 1) % 2 ^ 32 ∧ (flip s inst).sg.back = [] := by
  have hbound : Frame [.sg, .log] GwWords s (flipBound s) ∧ (flipBound s).sg.seq = s.sg.seq := by
    unfold flipBound
    split
    · exact dupCheck_moves s
    · exact ⟨frame_refl _ _ s, rfl⟩
  obtain ⟨hframe, hseq⟩ := hbound
  rw [flip_eq]
  generalize flipBound s = u at hframe hseq ⊢
  have hflip : Frame [.sg, .log] GwWords u (flipped u inst) := (frame_withSg u _).within
  have hout (w : State) : Frame [.sg, .log] GwWords w (bindingOut w) ∧ SgSteady w (bindingOut w) :=
    ⟨((frame_withSg w _).within).andThen (frame_raiseSg _ _ _ _ _) (hr := fun _ h => h), by unfold SgSteady bindingOut; rw [raise_sg]; exact ⟨rfl, rfl⟩⟩
  have hpub : Frame [.sg, .log] GwWords u (if u.sg.rebind then bindingOut (flipped u inst) else flipped u inst) :=
    frame_ite (frame_trans hflip (hout _).1) hflip
  have hsteady : SgSteady (flipped u inst) (if u.sg.rebind then bindingOut (flipped u inst) else flipped u inst) := steady_ite (hout _).2 ⟨rfl, rfl⟩
  generalize (if u.sg.rebind then bindingOut (flipped u inst) else flipped u inst) = w at hpub hsteady ⊢
  have hstale := mapStale_moves u w
  have hsg : (mapStale u w).sg = w.sg := hstale.part .sg
  rw [hsg]
  exact ⟨frame_trans hframe (hpub.andThen hstale (hr := fun _ h => h)), hsteady.1.trans (by rw [← hseq]; rfl), hsteady.2⟩

/-! ### What a flip makes due (R242, R244) -/

/-- The words of the common instant. -/
def InstantWords (off : Nat) : Prop := off = 0x30A4 ∨ off = 0x40AC ∨ (0x6080 ≤ off ∧ off < 0x60B0) ∨ (0x7000 ≤ off ∧ off < 0x8000) ∨ off = 0xC180

theorem instantWords_of {off : Nat} (h : GwWords off) : InstantWords off := .inr (.inr h)

/-- The parts that what a flip makes due may change. -/
abbrev dueParts : List Part := [.sg, .log]

theorem dueRec_moves (s : State) (r : Nat) : Frame dueParts InstantWords s (dueRec s r) ∧ SgSteady s (dueRec s r) := by
  have hover (x : DynOut) : Frame dueParts InstantWords s (dynOversize s x) :=
    ((frame_bump s _).within (hr := fun _ h => .inr (.inl h))).andThen (frame_raiseLim _ _ _ _ _ _) (hr := fun _ h => .inr (.inr (.inr (.inr h))))
  unfold dueRec
  refine ⟨frame_ite (hover _) (frame_ite ((frame_bumpSg s (by decide)).within (hr := fun _ => instantWords_of)) ((frame_withSg s _).within)),
    steady_ite (steady_of_sg ?_) (steady_ite ⟨rfl, rfl⟩ ⟨rfl, rfl⟩)⟩
  rw [dynOversize, raiseLim_sg]
  rfl

theorem descDueAt_moves (s : State) (old : List (Nat × SgEnt)) (k : Nat) (g : Fin 2) :
    Frame dueParts InstantWords s (descDueAt s old k g) ∧ SgSteady s (descDueAt s old k g) := by
  unfold descDueAt
  simp only
  split
  · split
    · split
      · exact ⟨(frame_withSg s _).within, rfl, rfl⟩
      · refine ⟨((frame_withSg s _).within).andThen (frame_raise _ _ _ _ _) (hr := fun _ h => .inr (.inr (.inr (.inr h)))), ?_⟩
        unfold SgSteady
        rw [raise_sg]
        exact ⟨rfl, rfl⟩
    · exact ⟨(frame_withSg s _).within, rfl, rfl⟩
  · exact ⟨(frame_withSg s _).within, rfl, rfl⟩

theorem dynDueAt_moves (s : State) (old : List (Nat × SgEnt)) (k : Nat) :
    Frame dueParts InstantWords s (dynDueAt s old k) ∧ SgSteady s (dynDueAt s old k) := by
  unfold dynDueAt
  simp only
  generalize ((if regB s 0x6000 1 then (List.range (layoutCount s)).filter (fun r => (layoutRec s r).lane == 2) else []).filter (recDue s old k)) = l
  have hrecs := frame_foldl (fun t r => (dueRec_moves t r).1) l s
  have hsteady := steady_foldl (fun t r => (dueRec_moves t r).2) l s
  generalize l.foldl dueRec s = u at hrecs hsteady ⊢
  have h0 := descDueAt_moves u old k 0
  have h1 := descDueAt_moves (descDueAt u old k 0) old k 1
  exact ⟨frame_trans hrecs (frame_ite (frame_trans h0.1 h1.1) h0.1), hsteady.andThen (steady_ite (h0.2.andThen h1.2) h0.2)⟩

/-! ### The gateway and the triggers (R253, R279) -/

theorem gwFire_moves (old : List (Nat × SgEnt)) (k : Nat) (s : State) :
    Frame [.can, .log, .sg, .free] GwWords s (gwFire old k s) ∧ SgSteady s (gwFire old k s) := by
  have hsend (l : List ((Fin 8 × Nat) × Bool)) : SgSteady s (l.foldl (gwSend k) s) := by
    obtain ⟨last, at_, h⟩ := (gwSends_move k l s).2
    rw [SgSteady, h]
    exact ⟨rfl, rfl⟩
  exact ⟨frame_ite (gwSends_move k _ s).1 ((frame_withSg s _).within), steady_ite (hsend _) ⟨rfl, rfl⟩⟩

theorem frame_canTriggers (s : State) : Frame [.can] GwWords s (canTriggers s) :=
  frame_foldl (fun t c => frame_foldl (fun u o => frame_ite ((frame_bumpCan u c (by decide)).within (hr := fun _ h => h))
    (frame_requestObj u c o false)) _ t) _ s

/-! ### SYNCO and SYNCI (R171, R172) -/

/-- SYNCO stands at a level. -/
def atSynco (s : State) (b : Bool) : State := { s with tb := { s.tb with synco := b } }

theorem frame_atSynco (s : State) (b : Bool) : Frame [.tb] (fun _ => False) s (atSynco s b) := frame_of_regs

theorem syncoAct_level (s : State) (k : Nat) : ∃ b, syncoAct s k = atSynco s b := by
  unfold syncoAct syncoShut
  simp only
  split_ifs
  · exact ⟨_, rfl⟩
  · exact ⟨_, rfl⟩
  · exact ⟨s.tb.synco, rfl⟩
  · exact ⟨_, rfl⟩
  · exact ⟨_, rfl⟩

/-- The node in STAMP mode records an edge, or finds its FIFO full. -/
theorem synciEdge_stamps {s : State} (hc : committed s = true) (hb : bscan s = false) (hm : regF s 0x3044 1 0 = 3) (rising : Bool) (stamp : Nat) :
    synciEdge s rising stamp = if s.tb.sififo.length < 16 then
        { s with tb := { s.tb with sififo := s.tb.sififo ++ [(rising, unsigned 64 (ttAt s.tb stamp / nsU))] } }
      else timeEvent (bumpTb { s with tb := { s.tb with synciOvf := true } } 6) 0x4031 2 [] :=
  if_pos (by simp [hc, hb, hm])

/-- The level of SYNCI is read where MODE says so. -/
def levelRead (s : State) (synci : Bool) : State :=
  if regF s 0x3044 1 0 = 1 then { s with tb := { s.tb with synciLvl := synci && !bscan s } } else s

theorem levelRead_moves (s : State) (synci : Bool) : Frame [.tb] (fun _ => False) s (levelRead s synci) ∧
    (levelRead s synci).tb.ciServed = s.tb.ciServed := by
  unfold levelRead
  split
  · exact ⟨frame_of_regs, rfl⟩
  · exact ⟨frame_refl _ _ s, rfl⟩

/-- What the instant of cycle k does in a node in service. -/
def servedInstant (s : State) (k : Nat) : State :=
  canTriggers (gwFire s.sg.snap k (dynDueAt (flip s (k * (cycLen s).getD 0 + ciOfs s)) s.sg.snap k))

/-- The parts that the common instant may change. -/
abbrev instantParts : List Part := [.tb, .sg, .can, .sch, .log, .free, .out]

theorem servedInstant_moves (s : State) (k : Nat) : Frame [.sg, .can, .log, .free] InstantWords s (servedInstant s k) ∧
    (servedInstant s k).sg.seq = (s.sg.seq + 1) % 2 ^ 32 ∧ (servedInstant s k).sg.back = [] := by
  unfold servedInstant
  obtain ⟨hflip, hseq, hback⟩ := flip_moves s (k * (cycLen s).getD 0 + ciOfs s)
  generalize flip s (k * (cycLen s).getD 0 + ciOfs s) = u at hflip hseq hback ⊢
  obtain ⟨hdue, hdueSteady⟩ := dynDueAt_moves u s.sg.snap k
  generalize dynDueAt u s.sg.snap k = v at hdue hdueSteady ⊢
  obtain ⟨hfire, hfireSteady⟩ := gwFire_moves s.sg.snap k v
  generalize gwFire s.sg.snap k v = w at hfire hfireSteady ⊢
  have htrig := frame_canTriggers w
  have hsg : (canTriggers w).sg = w.sg := htrig.part .sg
  have hall : Frame [.sg, .can, .log, .free] InstantWords s v :=
    (hflip.within (Q := [.sg, .can, .log, .free]) (hr := fun _ => instantWords_of)).andThen hdue (hr := fun _ h => h)
  rw [hsg]
  obtain ⟨hseq', hback'⟩ := hdueSteady.andThen hfireSteady
  exact ⟨(hall.andThen hfire (hr := fun _ => instantWords_of)).andThen htrig (hr := fun _ => instantWords_of), hseq'.trans hseq, hback'.trans hback⟩

theorem instantActs_committed {s : State} (hp : s.boot.phase = .committed) (hs : service s = true) (k : Nat) (synci : Bool) :
    instantActs s k synci = syncoAct (servedInstant (levelRead s synci) k) k := by
  have hsw : switchInstant s = s := by
    unfold switchInstant
    split
    · rw [if_neg (by simp [hp]), if_neg (by simp [hp])]
    · rfl
  have hs' : service (levelRead s synci) = true := by
    unfold levelRead
    split <;> exact hs
  unfold instantActs
  rw [hsw]
  simp only [hp, show (Phase.committed == Phase.switchVerify) = false from rfl, Bool.false_and, Bool.false_eq_true, if_false]
  exact congrArg (syncoAct · k) (if_pos hs')

/-- The instant of cycle k is the one served last. -/
def instantServed (s : State) (k : Nat) : State := { s with tb := { s.tb with ciServed := some k } }

theorem instant_next {s : State} {k : Nat} (hk : ciLatest s = some k) (hs : service s = true) (hfree : s.tb.st ≠ .free)
    (hdue : (s.tb.ciServed.map (fun j => decide (j + 1 = k))).getD true = true) (hp : s.boot.phase = .committed) (synci : Bool) :
    instant s synci = instantActs (instantServed s k) k synci := by
  have hc : committed s = true := by
    unfold service at hs
    unfold committed
    simp_all
  have hskip : (s.tb.ciServed.map (fun j => k - j - 1)).getD 0 = 0 := by
    cases h : s.tb.ciServed with
    | none => rfl
    | some j => simp [h] at hdue ⊢; omega
  have hlater : (s.tb.ciServed.map (fun j => decide (j < k))).getD true = true := by
    cases h : s.tb.ciServed with
    | none => rfl
    | some j => simp [h] at hdue ⊢; omega
  unfold instant
  simp only [hk, hskip, if_true]
  exact if_pos (by simp [hc, hlater, hfree])

/-! ### Reads with an effect (R417) -/

/-- A read of a requester that is answered: the effect of the read, and the host's access ended with the word. -/
theorem regReadCommand_reads {s : State} {req : Req} (h : reqAlive s req = true) (off : Nat) : regReadCommand s req off =
    if req = .host then lrdy (readEffect s .host off) (regRead s .host off) else readEffect s req off := by
  unfold regReadCommand
  rw [h]
  cases req <;> rfl

/-- What a read leaves, its effect being as framed. -/
theorem frame_read {s : State} {req : Req} (h : reqAlive s req = true) {off : Nat} {P : List Part} (hP : Part.out ∈ P)
    (hf : Frame P (fun _ => False) s (readEffect s req off)) : Frame P (fun _ => False) s (settle s (regReadCommand s req off)) := by
  rw [regReadCommand_reads h]
  refine frame_settle ?_
  split
  · subst req
    exact frame_trans hf ((frame_emit _ _).within (hp := by simpa using hP))
  · exact hf

theorem read_out {s : State} {req : Req} (h : reqAlive s req = true) {off : Nat} (ho : (readEffect s req off).out = s.out) :
    (settle s (regReadCommand s req off)).out = if req = .host then .access 0 (regRead s .host off) :: s.out else s.out := by
  rw [settle_out, regReadCommand_reads h]
  split
  · subst req
    exact congrArg (Out.access 0 (regRead s .host off) :: ·) ho
  · exact ho

theorem getLatch_read {s : State} {req : Req} (h : reqAlive s req = true) (off k : Nat) :
    getLatch (settle s (regReadCommand s req off)) req k = getLatch (readEffect s req off) req k := by
  rw [getLatch_settle, regReadCommand_reads h]
  split
  · subst req
    rfl
  · rfl

/-- Settles O16: the instant by what each of its acts may touch, the balls and the registers by their own rules. -/
theorem commonInstantRowsComplete : Obligations.CommonInstantRowsComplete := by
  refine ⟨?_, ?_, ?_, ?_, ?_, ?_⟩
  · intro s synci k hk hs hfree hin hdue hp
    refine completes_of (u := nextLines (commonInstant s synci)) rfl ?_
    obtain ⟨hlevel, hserved⟩ := levelRead_moves (instantServed s k) synci
    have hfirst : Frame instantParts InstantWords s (levelRead (instantServed s k) synci) :=
      Frame.andThen (t := instantServed s k) frame_of_regs hlevel
    have hsg : (levelRead (instantServed s k) synci).sg = s.sg := hlevel.part .sg
    have hinst : commonInstant s synci = syncoAct (servedInstant (levelRead (instantServed s k) synci) k) k :=
      (instant_next hk hs hfree hdue hp synci).trans (instantActs_committed (s := instantServed s k) hp hs k synci)
    rw [hinst]
    generalize levelRead (instantServed s k) synci = u at hserved hfirst hsg ⊢
    obtain ⟨hmove, hseq, hback⟩ := servedInstant_moves u k
    have htb : (servedInstant u k).tb = u.tb := hmove.part .tb
    generalize servedInstant u k = v at hmove hseq hback htb ⊢
    obtain ⟨b, hb⟩ := syncoAct_level v k
    have hframe : Frame instantParts InstantWords s (atSynco v b) := (hfirst.andThen hmove (hr := fun _ h => h)).andThen (frame_atSynco v b)
    have hlines : nextLines (atSynco v b) = atSynco v b := by
      have hmon : (atSynco v b).mon = s.mon := hframe.part .mon
      unfold nextLines
      rw [hmon, hin]
      rfl
    rw [hb, hlines]
    refine ⟨?_, ?_, ?_, frame_settle hframe⟩
    · rw [settle_tb, show (atSynco v b).tb.ciServed = v.tb.ciServed from rfl, htb, hserved]; rfl
    · rw [settle_sg, show (atSynco v b).sg = v.sg from rfl, hseq, hsg]
    · rw [settle_sg, show (atSynco v b).sg = v.sg from rfl, hback]
  · intro s hm
    refine completes_of (u := syncoPulseEnd s) rfl ?_
    rw [syncoPulseEnd, if_pos hm]
    exact ⟨by rw [settle_tb], frame_settle frame_of_regs⟩
  · intro s rising stamp hc hb hm hlen
    refine completes_of (u := synciEdge s rising stamp) rfl ?_
    rw [synciEdge_stamps hc hb hm, if_pos hlen]
    exact ⟨by rw [settle_tb]; rfl, frame_settle frame_of_regs⟩
  · intro s rising stamp hc hb hm hlen hrun
    refine completes_of (u := synciEdge s rising stamp) rfl ?_
    rw [synciEdge_stamps hc hb hm, if_neg (by omega)]
    refine ⟨by rw [settle_tb, timeEvent, raise_tb]; rfl, counted_settle (by decide) ?_, frame_settle ?_⟩
    · rw [Counted, timeEvent, reg_raise_ne _ _ _ _ _ (by simp)]
      exact reg_bumpBy { s with tb := { s.tb with synciOvf := true } } 0x30A8 1 0x30A8 |>.trans (if_pos rfl)
    · exact Frame.andThen (t := bumpTb { s with tb := { s.tb with synciOvf := true } } 6)
        (Frame.andThen (t := { s with tb := { s.tb with synciOvf := true } }) frame_of_regs (frame_bump _ _) (hr := fun _ h => .inl h))
        (frame_raise _ _ _ _ _) (hr := fun _ h => .inr h)
  · intro s req h
    refine completes_of (u := regReadCommand s req 0x3010) rfl ?_
    have heff : readEffect s req 0x3010 = setLatch s req 0x3014 [loHi (ttNow s) true, loHi s.tb.ctr false, loHi s.tb.ctr true] := rfl
    refine ⟨?_, ?_, ?_, ?_, frame_read h (by simp) ?_⟩
    · rw [getLatch_read h, heff]; exact getLatch_setLatch s req 0x3014 _ (i := 0) (by simp)
    · rw [getLatch_read h, heff]; exact getLatch_setLatch s req 0x3014 _ (i := 1) (by simp)
    · rw [getLatch_read h, heff]; exact getLatch_setLatch s req 0x3014 _ (i := 2) (by simp)
    · exact read_out h (by rw [heff, setLatch_out])
    · rw [heff]; exact (frame_setLatch s req _ _).within (hr := fun _ h => h)
  · intro s req h
    refine completes_of (u := regReadCommand s req 0x3048) rfl ?_
    refine ⟨?_, frame_read h (by simp) (P := [.tb, .out]) (show Frame _ _ s { s with tb := { s.tb with sififo := s.tb.sififo.tail } } from frame_of_regs)⟩
    rw [settle_tb, regReadCommand_reads h]
    split <;> rfl

end Sys2Proof.Instant

end

section
/-! SUPPORT. A node consents to a TOKEN that another node has vetoed, but holds no vote for it (R341), which the statement on Snuffer rounds leaves out. -/

namespace Sys2Proof.Beyond

open Sys2Proof.Machine Sys2Proof.Safety

/-- Node 2, of handle 5, in RUN with rounds enabled, linked on both sides. -/
def consenting : State :=
  { uid := 2
    regs := [(0xA010, 1)]
    line := { core := true, node := .run }
    boot := { phase := .committed }
    lanes := Vector.replicate 4 { st := .up, mode := 1 }
    tb := { clen := some 0 }
    inaug := Vector.replicate 2 { table := [{ uid := 2, handle := 5, eflags := 0, rank := 0, slotref := 0 }] } }

/-- A TOKEN of the node of handle 3, which the node of handle 4 has vetoed. -/
def vetoedToken : Bytes :=
  mkFrame { kind := 3, cls := 7, dyn := false, crit := false, fold := false, src := 3, dtype := 4, dest := [], cycle := 0, slot := 0, len := 0, hops := 0 }
    (snufBytes { sub := 1, ret := false, dirAft := false, round := 1, init := 3, vcount := 1, vhandle := 4, vreason := 1, sleepcyc := 0, epoch := 0, consent := 0 })

-- Elaborated by itself, so that the proofs before it are checked before those after it begin: this bounds the memory that proofs under way take at once.
set_option Elab.async false in
/-- Refutes O29: a TOKEN vetoed by another node passes on with this node's consent, but leaves it without a vote. -/
theorem not_snufferRoundsComplete : ¬ Obligations.SnufferRoundsComplete := by
  intro h
  obtain ⟨-, htoken, -⟩ := h
  obtain ⟨t, ht, hsnuf, -⟩ := htoken consenting .fore vetoedToken (readSnuf (payloadOf vetoedToken)) (by unfold Taken; decide +kernel) rfl (by decide +kernel)
    (by decide +kernel) (by decide +kernel) (by decide +kernel) (by decide) rfl (by decide +kernel) (by decide +kernel) (by decide +kernel)
  obtain rfl := Host.Outcome.next.inj ht
  exact absurd (congrArg Snuffer.voted hsnuf) (by decide +kernel)

end Sys2Proof.Beyond
end

section
/-! SUPPORT. The fault queue (R357 to R360): what the start of a test, a test asked for and an error detected on a lane leave unchanged. -/

namespace Sys2Proof.Faulty

open Sys2Proof.Machine Sys2Proof.Safety Sys2Proof.Registers Sys2Proof.Traffic

/-- The words of the fault queue: FLT_CNT, HB_LASTERR's counter and the events. -/
def FaultWords (off : Nat) : Prop := (0xB080 ≤ off ∧ off < 0xB0B4) ∨ off = 0x9618 ∨ off = 0xC180

/-- The parts that the start of a test may change (Table 14-3). -/
abbrev faultParts : List Part := [.flt, .can, .hb, .log, .out]

-- Elaborated by itself, so that the proofs before it are checked before those after it begin: this bounds the memory that proofs under way take at once.
set_option Elab.async false in
theorem frame_withFlt (s : State) (x : Faults) : Frame [.flt] (fun _ => False) s { s with flt := x } := frame_of_regs

theorem frame_bumpFlt (s : State) {i : Nat} (h : i < 13) : Frame [] FaultWords s (bumpFlt s i) :=
  (frame_bump s _).within (hr := fun _ ho => .inl (by omega))

theorem frame_canTestStart (s : State) (c : Nat) : Frame [.can] (fun _ => False) s (canTestStart s c) := frame_ite (frame_refl _ _ s) frame_of_regs

/-- The tags as a test of the bridge leaves them. -/
def tagsEnded (s : State) : Bridge :=
  { s.hb with
    held := none, lockWin := if s.hb.held.any Held.lock then none else s.hb.lockWin
    tags := (s.hb.tags.filter (fun x => !x.2.held)).map (fun x => if x.2.answer.isNone then (x.1, { x.2 with answer := some (0x20, 0) }) else x) }

/-- The access held on a tag has failed. -/
def heldFailed (s : State) (h : Held) : State :=
  { s with hb := { tagsEnded s with lastErr := BitVec.ofNat 32 (0x20 * 2 ^ 24 + h.addr / 4 % 2 ^ 24) } }

theorem bridgeTestStart_eq (s : State) : bridgeTestStart s =
    match s.hb.held with
    | some h => emit (bump (heldFailed s h) 0x9618) (.access 0x20 0)
    | none => { s with hb := tagsEnded s } := rfl

theorem frame_heldFailed (s : State) (h : Held) : Frame [.hb] (fun _ => False) s (heldFailed s h) := frame_of_regs

theorem frame_bridgeTestStart (s : State) : Frame [.hb, .out] (· = 0x9618) s (bridgeTestStart s) := by
  rw [bridgeTestStart_eq]
  split
  next h _ =>
    exact (((frame_heldFailed s h).within).andThen (frame_bump _ 0x9618) (hr := fun _ h => h)).andThen (frame_emit _ _)
  next => exact frame_of_regs

/-- The test is noted as running. -/
def testNoted (s : State) (q : QEnt) : State :=
  let loss := (match laneUnit q.unit with
    | some l => s.lanes[l].st != .up
    | none => false)
  { s with flt := { s.flt with test := some q, second := false, lossTest := loss, pdTest := q.code == 0x4021, tUnc := 0, tCrc := 0 } }

theorem testEffects_eq (s : State) (q : QEnt) : testEffects s q =
    if 0x08 ≤ q.unit ∧ q.unit ≤ 0x0F then canTestStart (bumpFlt (testNoted s q) 1) (q.unit - 8)
    else if q.unit = 0x23 then bridgeTestStart (bumpFlt (testNoted s q) 1) else bumpFlt (testNoted s q) 1 := rfl

theorem frame_testEffects (s : State) (q : QEnt) : Frame faultParts FaultWords s (testEffects s q) := by
  have hnoted : Frame faultParts FaultWords s (bumpFlt (testNoted s q) 1) :=
    ((frame_withFlt s _).within (Q := faultParts) (S := FaultWords)).andThen (frame_bumpFlt _ (by decide)) (hr := fun _ h => h)
  rw [testEffects_eq]
  exact frame_ite (hnoted.andThen (frame_canTestStart _ _)) (frame_ite (hnoted.andThen (frame_bridgeTestStart _) (hr := fun _ h => .inr (.inl h))) hnoted)

theorem frame_undefer (s : State) : Frame [.flt] (fun _ => False) s (undefer s) := by
  unfold undefer
  split
  · split
    · exact (frame_setUnit s _ _).andThen (frame_withFlt _ _)
    · exact frame_refl _ _ s
  · exact frame_refl _ _ s

theorem frame_startTest (s : State) : Frame faultParts FaultWords s (startTest s) := by
  unfold startTest
  split
  next q r _ _ =>
    exact frame_ite (frame_refl _ _ s) ((((frame_withFlt s { s.flt with queue := r }).within).andThen (frame_testEffects _ q)
      (hr := fun _ h => h)).andThen (frame_undefer _))
  next => exact frame_refl _ _ s

theorem startTest_running {s : State} (h : s.flt.test.isSome = true) : startTest s = s := by
  obtain ⟨q, hq⟩ := Option.isSome_iff_exists.1 h
  unfold startTest
  rw [hq]

theorem startTest_empty {s : State} (h : s.flt.queue = []) : startTest s = s := by
  unfold startTest
  rw [h]
  cases s.flt.test <;> rfl

theorem frame_enqueue (s : State) (u code : Nat) (ret : Bool) : Frame faultParts FaultWords s (enqueue s u code ret) := by
  unfold enqueue
  refine frame_ite (frame_refl _ _ s) (frame_ite (frame_withFlt s _).within (frame_ite ?_ ?_))
  · exact ((frame_withFlt s _).within (Q := faultParts) (S := FaultWords)).andThen (frame_startTest _) (hr := fun _ h => h)
  · have hdef : Frame faultParts FaultWords s (bumpFlt (setUnit s u (fun x => { x with defer_ := true, defCode := code })) 4) :=
      ((frame_setUnit s u _).within (Q := faultParts) (S := FaultWords)).andThen (frame_bumpFlt _ (by decide)) (hr := fun _ h => h)
    refine Frame.andThen ?_ (frame_raiseLim _ _ _ _ _ _) (hr := fun _ h => .inr (.inr h))
    exact frame_ite (hdef.andThen (frame_withFlt _ _)) hdef

/-- A unit not queued, with room, is queued behind the test that runs. -/
theorem enqueue_behind {s : State} {u : Nat} (ht : underTest s u = false) (hq : queued s u = false) (hl : s.flt.queue.length < 8)
    (hr : s.flt.test.isSome = true) (code : Nat) (ret : Bool) : enqueue s u code ret =
      { s with flt := { s.flt with queue := s.flt.queue ++ [{ unit := u, code := code, ret := ret, row := if u = 0x30 then s.flt.row else 0 }] } } := by
  have htest : s.flt.test.any (ofUnit s u) = false := by
    obtain ⟨q, hq⟩ := Option.isSome_iff_exists.1 hr
    have hu : (q.unit == u) = false := by simpa [underTest, hq] using ht
    simp [hq, ofUnit, hu]
  have hqueue : s.flt.queue.any (ofUnit s u) = false := by
    have h : ∀ q ∈ s.flt.queue, q.unit ≠ u := by simpa [queued] using hq
    simp only [List.any_eq_false, ofUnit, Bool.and_eq_true, not_and, beq_iff_eq]
    exact fun q hm he => absurd he (h q hm)
  unfold enqueue
  rw [htest, hqueue]
  simp only [hl, Bool.false_eq_true, if_false, if_true]
  exact startTest_running hr

/-- An error of a lane that is no loss of lock ends no test: it is counted, and asks for one (R357). -/
def errorNoted (s : State) (l : Fin 4) : State := bumpFlt (setUnit s l.val (fun x => { x with errors := min 255 (x.errors + 1) })) 0

theorem frame_errorNoted (s : State) (l : Fin 4) : Frame faultParts FaultWords s (errorNoted s l) :=
  ((frame_setUnit s l.val _).within (Q := faultParts) (S := FaultWords)).andThen (frame_bumpFlt _ (by decide)) (hr := fun _ h => h)

theorem detect_lane (s : State) (l : Fin 4) (code : Nat) : detect s l.val code =
    if coreRun s then
      match s.flt.test with
      | some q =>
        if ofUnit (errorNoted s l) l.val q then
          if code ≠ 0x2002 then errorNoted s l
          else endTest (errorNoted s l) q { pass := false, fars := false, bankB := readB (errorNoted s l), region := 1 }
        else enqueue (errorNoted s l) l.val code false
      | none => enqueue (errorNoted s l) l.val code false
    else s := by
  have hown : ¬ ((0x10 ≤ l.val ∧ l.val ≤ 0x1A) ∨ l.val = 0x24) := by omega
  have hlane : l.val < 4 := l.isLt
  unfold detect
  simp only [if_neg hown, hlane, true_and]
  rfl

theorem frame_detect_lane (s : State) (l : Fin 4) {code : Nat} (h : code ≠ 0x2002) : Frame faultParts FaultWords s (detect s l.val code) := by
  have hcount := frame_errorNoted s l
  have hask : Frame faultParts FaultWords s (enqueue (errorNoted s l) l.val code false) := hcount.andThen (frame_enqueue _ _ _ _) (hr := fun _ h => h)
  rw [detect_lane]
  refine frame_ite ?_ (frame_refl _ _ s)
  split
  · exact frame_ite (by rw [if_pos h]; exact hcount) hask
  · exact hask

end Sys2Proof.Faulty

end

section
/-! SUPPORT. Lanes (chapter 5): their events, their counters, and a port that neither comes LINKED nor becomes an END. -/

namespace Sys2Proof.Lanes

open Sys2Proof.Machine Sys2Proof.Safety Sys2Proof.Registers Sys2Proof.Traffic Sys2Proof.Faulty

/-! ### One lane changed -/

-- Elaborated by itself, so that the proofs before it are checked before those after it begin: this bounds the memory that proofs under way take at once.
set_option Elab.async false in
theorem lane_same (s : State) (l : Fin 4) (f : Lane → Lane) : (setLane s l f).lanes[l] = f s.lanes[l] := setLane_same s l f

theorem lane_other (s : State) {l k : Fin 4} (h : k ≠ l) (f : Lane → Lane) : (setLane s l f).lanes[k] = s.lanes[k] :=
  setLane_other s l f k.val k.isLt (fun e => h (Fin.ext e))

theorem setLane_twice (s : State) (l : Fin 4) (f g : Lane → Lane) : setLane (setLane s l f) l g = setLane s l (fun x => g (f x)) := by
  simp [setLane]

theorem setLane_id (s : State) (l : Fin 4) : setLane s l (fun x => x) = s := by
  simp [setLane]

/-! ### Events of lanes (R120) -/

theorem frame_raiseSeg (s : State) (g : Fin 2) (code sev inst : Nat) (vals : List Nat) :
    Frame [.log] (· = 0xC180) s (raiseSeg s g code sev inst vals) :=
  frame_ite (((frame_bump s 0xC180).within).andThen (Q := [.log]) (S := fun _ => False)
    (by unfold raiseEv; exact frame_ite frame_of_regs (frame_refl _ _ _))) (frame_refl _ _ s)

/-- An event with SEG of its segment. -/
def segEvent (s : State) (g : Fin 2) (code sev inst : Nat) (vals : List Nat) : Event :=
  { mkEvent s code sev inst vals with flags := (mkEvent s code sev inst vals).flags + 16 * g.val }

theorem raised_raiseSeg {s : State} (h : coreRun s = true) (g : Fin 2) (code sev inst : Nat) (vals : List Nat) :
    (raiseSeg s g code sev inst vals).log.raised = s.log.raised ++ [segEvent s g code sev inst vals] := by
  have hb : coreRun (bump s 0xC180) = true := h
  unfold raiseSeg raiseEv
  rw [if_pos h, if_pos hb]
  rfl

/-- The values that every event of a lane carries. -/
def laneVals (s : State) (l : Fin 4) : List Nat := [l.val, s.lanes[l].mode, s.lanes[l].snr, s.lanes[l].farUid]

theorem laneEvent_eq (s : State) (l : Fin 4) (code sev : Nat) (more : List Nat) :
    laneEvent s l code sev more = raiseSeg s (segOf s (portOf l)) code sev l.val (laneVals s l ++ more) := rfl

theorem frame_laneEvent (s : State) (l : Fin 4) (code sev : Nat) (more : List Nat) : Frame [.log] (· = 0xC180) s (laneEvent s l code sev more) :=
  frame_raiseSeg _ _ _ _ _ _

theorem laneEvent_lanes (s : State) (l : Fin 4) (code sev : Nat) (more : List Nat) : (laneEvent s l code sev more).lanes = s.lanes := raiseSeg_lanes _ _ _ _ _ _

/-! ### Ports -/

theorem committed_of_frame {P : List Part} {R : Nat → Prop} {s t : State} (h : Frame P R s t) (hl : Part.line ∉ P := by decide)
    (hb : Part.boot ∉ P := by decide) : committed t = committed s := by
  have el : t.line = s.line := h.part .line hl
  have eb : t.boot = s.boot := h.part .boot hb
  rw [committed, committed, el, eb]

theorem laneI1g_congr {s t : State} (hc : committed t = committed s) (hr : ∀ l : Fin 4, reg t (0x1100 + 0x100 * l.val) = reg s (0x1100 + 0x100 * l.val))
    (l : Fin 4) : laneI1g t l = laneI1g s l := by
  rw [laneI1g, laneI1g, laneCfg, laneCfg, hr l, hc]

theorem portLinked_congr {s t : State} (hi : ∀ l, laneI1g t l = laneI1g s l) {p : Port} (hu : portAnyUp t p = portAnyUp s p) :
    portLinked t p = portLinked s p := by
  rw [portLinked, portLinked, portI1g, portI1g, hi, hu]

theorem portAnyUp_congr {s t : State} (h : ∀ l : Fin 4, t.lanes[l].st = s.lanes[l].st) (p : Port) : portAnyUp t p = portAnyUp s p := by
  simp only [portAnyUp, laneUp, h]

/-- Where no port turns, nothing wakes and no tone is called for. -/
theorem portTurns_same {s t : State} (h : ∀ p, portLinked t p = portLinked s p) : portTurns s t = t := by
  have hstep (u : State) (p : Port) : (if !portLinked s p && portLinked t p then wakeEvent u 9 0 none
      else if portLinked s p && !portLinked t p then abortEnd u p else u) = u := by
    rw [h p]
    cases portLinked s p <;> rfl
  unfold portTurns
  simp only [hstep]
  rfl

/-- A command that leaves the state of every lane, the lanes' configuration and the phase turns no port. -/
theorem portTurns_frame {P : List Part} {R : Nat → Prop} {s t : State} (h : Frame P R s t) (hst : ∀ l : Fin 4, t.lanes[l].st = s.lanes[l].st)
    (hr : ∀ l : Fin 4, ¬ R (0x1100 + 0x100 * l.val)) (hl : Part.line ∉ P := by decide) (hb : Part.boot ∉ P := by decide) : portTurns s t = t :=
  portTurns_same fun p => portLinked_congr (laneI1g_congr (committed_of_frame h hl hb) fun l => h.reg (hr l) (by omega)) (portAnyUp_congr hst p)

/-! ### Counters -/

/-- The corrected bits of a lane counted, with no uncorrectable block outside frames. -/
def corrCounted (s : State) (l : Fin 4) (corr : Nat) : State := bumpBy (bumpBy s (0x1120 + 0x100 * l.val) corr) (0x1124 + 0x100 * l.val) 0

theorem uncBlocks_none (s : State) (l : Fin 4) (corr : Nat) :
    uncBlocks (bumpBy s (0x1120 + 0x100 * l.val) corr) l 0 = corrCounted s l corr := setLane_id (corrCounted s l corr) l

theorem frame_corrCounted (s : State) (l : Fin 4) (corr : Nat) :
    Frame [] (fun o => o = 0x1120 + 0x100 * l.val ∨ o = 0x1124 + 0x100 * l.val) s (corrCounted s l corr) :=
  ⟨fun p _ => by cases p <;> rfl, fun o _ ho => by
    simp only [not_or] at ho
    rw [corrCounted, reg_bumpBy, if_neg ho.2, reg_bumpBy, if_neg ho.1]⟩

theorem counted_corrCounted (s : State) (l : Fin 4) (corr : Nat) : Counted (0x1120 + 0x100 * l.val) corr s (corrCounted s l corr) := by
  rw [Counted, corrCounted, reg_bumpBy, if_neg (by omega), reg_bumpBy, if_pos rfl]

end Sys2Proof.Lanes

end

section
/-! SUPPORT. A lane in service (R100, R101, R104, R105, Table 5-10): what each row leaves of the lane, and what the others keep. -/

namespace Sys2Proof.Lanes

open Sys2Proof.Machine Sys2Proof.Safety Sys2Proof.Registers Sys2Proof.Traffic Sys2Proof.Faulty Sys2Proof.Bridge

-- Elaborated by itself, so that the proofs before it are checked before those after it begin: this bounds the memory that proofs under way take at once.
set_option Elab.async false in
theorem segOf_of_frame {P : List Part} {R : Nat → Prop} {s t : State} (h : Frame P R s t) (hr : ¬ R 0x2000) (hl : Part.line ∉ P := by decide)
    (hb : Part.boot ∉ P := by decide) (p : Port) : segOf t p = segOf s p := by
  have hgw : segGw t = segGw s := by rw [segGw, segGw, committed_of_frame h hl hb, regB, regB, h.reg hr]
  rw [segOf, segOf, hgw]

/-- A lane's event in the record of its command. -/
theorem raisedIn_laneEvent {P : List Part} {R : Nat → Prop} {s u : State} {l : Fin 4} {code sev : Nat} {more vals : List Nat} (h : Frame P R s u)
    (hrun : coreRun s = true) (hv : laneVals u l ++ more = vals) (hr : ¬ R 0x2000) (hl : Part.line ∉ P := by decide) (hb : Part.boot ∉ P := by decide)
    (hm : Part.mram ∉ P := by decide) (hg : Part.log ∉ P := by decide) :
    RaisedIn (segOf s (portOf l)) [(code, sev, l.val, vals)] s (settle s (laneEvent u l code sev more)) := by
  have hlog : u.log = s.log := h.part .log hg
  rw [RaisedIn, settle_log, laneEvent_eq, raised_raiseSeg ((coreRun_of_frame h hl hb).trans hrun), segOf_of_frame h hr hl hb, hv, segEvent,
    mkEvent_of_frame h hb hm, hlog]
  rfl

/-! ### The health of a window (R105) -/

/-- A lane at the end of a bad window. -/
def badWindow (snr corr : Nat) (x : Lane) : Lane :=
  { x with health := 2, goodRun := 0, unc := 0, fecErr := 0, snr := snr % 65536, corr := min 0xFFFF (corr / 4) }

theorem healthWindow_bad {s : State} {l : Fin 4} {m : Int} (snr corr : Nat) (hrun : coreRun s = true) (hst : s.lanes[l].st = .up)
    (hm : m < (fld (laneThr s l) 15 8 : Nat)) (hh : s.lanes[l].health ≠ 2) :
    healthWindow s l m snr corr 0 = laneEvent (setLane (corrCounted s l corr) l (badWindow snr corr)) l 0x2005 3 [] := by
  unfold healthWindow
  simp only [hrun, hst, hm, hh, uncBlocks_none, decide_true, Bool.true_or, beq_self_eq_true, Bool.and_self, if_true, ne_eq, not_false_eq_true,
    and_self]
  rfl

/-- A lane whose equaliser has adapted by one step. -/
def adapted (want : List Int) (ffe : Bytes) (x : Lane) : Lane :=
  { x with
    low := false
    taps := (List.range x.taps.length).map (fun i => tapStep (x.taps.getD i 0) (want.getD i (x.taps.getD i 0)))
    ffeReq := (List.range 3).map (fun i => signed 8 (byteAt ffe i)) }

/-! ### Link messages (R101) -/

/-- A lane whose link message has left. -/
def messageSent (stamp : Nat) (x : Lane) : Lane :=
  { x with
    seq := (x.seq + 1) % 256, txLog := (((x.seq + 1) % 256, stamp48 stamp) :: x.txLog).take 256, ffeReq := [0, 0, 0]
    retSent := if x.retiring then x.retSent + 1 else x.retSent }

/-- The lane as a link message without RETIRING leaves it, no exchange under way. -/
def messageTaken (msg : Bytes) (stamp : Nat) (x : Lane) : Lane :=
  { x with
    farModes := byteAt msg 2 % 4, farFlags := byteAt msg 3, farUid := beAt msg 4 8, farSnr := beAt msg 16 2
    farFallback := (byteAt msg 3).testBit 0, heldSeen := (byteAt msg 3).testBit 4
    ffe := (List.range 3).map (fun i => x.ffe.getD i 0 + signed 8 (byteAt msg (12 + i)))
    rseq := some (byteAt msg 18), rxs := stamp48 stamp
    pdWait := (x.txLog.find? (fun e => e.1 == byteAt msg 19)).map (fun e => { tA1 := e.2, tB2 := beAt msg 26 6, tA4 := stamp48 stamp })
    farRet := 0, farRetAny := x.farRetAny || false, farRetAt := x.farRetAt }

theorem linkMessageRx_taken {s : State} {l : Fin 4} {msg : Bytes} (stamp : Nat) (hon : linkOn s l = true) (hd : s.lanes[l].st ≠ .downWait)
    (hh : s.lanes[l].st ≠ .held) (hlen : msg.length = 37) (h0 : byteAt msg 0 = 0x4C) (hret : (byteAt msg 3).testBit 3 = false)
    (hpd : s.lanes[l].pdWait = none) : linkMessageRx s l msg stamp = setLane s l (messageTaken msg stamp) := by
  have hd' : (s.lanes[l].st == .downWait) = false := by simpa using hd
  have hh' : (s.lanes[l].st == .held) = false := by simpa using hh
  unfold linkMessageRx
  simp only [hon, hd', hh', hlen, h0, hret, hpd, Bool.not_true, Bool.or_self, bne_self_eq_false, Bool.false_eq_true, if_false, ne_eq, not_true_eq_false]
  rfl

theorem counted_bumpLane (s : State) (l : Fin 4) (i : Nat) {o : Nat} (h : 0x1120 + 0x100 * l.val + 4 * i = o) : Counted o 1 s (bumpLane s l i) := by
  subst h
  exact (reg_bumpBy s _ 1 _).trans (if_pos rfl)

/-! ### Frames on a lane (Table 5-10, R225) -/

/-- An error of a lane may end its test, and then begin its retirement; nothing else of any lane has changed. -/
def LaneTested (l : Fin 4) (s t : State) : Prop :=
  Frame (.lanes :: faultParts) FaultWords s t ∧ (t.lanes = s.lanes ∨ t.lanes = (beginRetire s l 0).lanes)

/-- No test runs. -/
def testOver (s : State) : State := { s with flt := { s.flt with test := none, second := false, lossTest := false, pdTest := false } }

theorem endTest_lane {s : State} {q : QEnt} {r : TestResult} {l : Fin 4} (hq : laneUnit q.unit = some l) (hr : r.pass = false) :
    LaneTested l s (endTest s q r) := by
  have hend : endTest s q r = startTest (if upAtDesign (bumpFlt (testOver s) 3) (sisterLane l)
      then beginRetire (keepCode (bumpFlt (testOver s) 3) l q.code) l 0 else holdUnit (bumpFlt (testOver s) 3) q.unit 1 q.code) := by
    unfold endTest lastingOutcome
    simp only [hr, hq, Bool.not_false, Bool.true_or, if_true]
    rfl
  have hover : Frame faultParts FaultWords s (bumpFlt (testOver s) 3) :=
    ((frame_withFlt s _).within (Q := faultParts) (S := FaultWords)).andThen (frame_bumpFlt _ (by decide)) (hr := fun _ h => h)
  rw [hend]
  split
  · have hkept : Frame faultParts FaultWords s (keepCode (bumpFlt (testOver s) 3) l q.code) := hover.andThen (frame_setUnit _ _ _)
    have hbegin : Frame (.lanes :: faultParts) FaultWords s (beginRetire (keepCode (bumpFlt (testOver s) 3) l q.code) l 0) :=
      (hkept.within (hr := fun _ h => h)).andThen (frame_setLane _ l _)
    have hstart := frame_startTest (beginRetire (keepCode (bumpFlt (testOver s) 3) l q.code) l 0)
    exact ⟨hbegin.andThen hstart (hr := fun _ h => h), .inr (hstart.part .lanes)⟩
  · have hheld : Frame faultParts FaultWords s (holdUnit (bumpFlt (testOver s) 3) q.unit 1 q.code) :=
      (hover.andThen (frame_setUnit _ _ _)).andThen (frame_raise _ _ _ _ _) (hr := fun _ h => .inr (.inr h))
    have hstart := hheld.andThen (frame_startTest (holdUnit (bumpFlt (testOver s) 3) q.unit 1 q.code)) (hr := fun _ h => h)
    exact ⟨hstart.within (hr := fun _ h => h), .inl (hstart.part .lanes)⟩

theorem laneTested_of_frame {l : Fin 4} {s t : State} (h : Frame faultParts FaultWords s t) : LaneTested l s t :=
  ⟨h.within (hr := fun _ h => h), .inl (h.part .lanes)⟩

theorem LaneTested.after {l : Fin 4} {s t u : State} (h : Frame faultParts FaultWords s t) (g : LaneTested l t u) : LaneTested l s u := by
  obtain ⟨hg, hlanes⟩ := g
  have ht : t.lanes = s.lanes := h.part .lanes
  have hnow : t.now = s.now := h.part .now
  refine ⟨(h.within (hr := fun _ h => h)).andThen hg (hr := fun _ h => h), ?_⟩
  simpa only [beginRetire, setLane, ht, hnow] using hlanes

theorem laneUnit_val (l : Fin 4) : laneUnit l.val = some l := by simp [laneUnit]

/-- Errors counted in the window of a test. -/
def windowNoted (s : State) (unc : Bool) : State := { s with flt := { s.flt with tUnc := s.flt.tUnc + unc.toNat, tCrc := s.flt.tCrc + (!unc).toNat } }

theorem windowCount_lane (s : State) (l : Fin 4) (unc : Bool) : LaneTested l s (windowCount s l unc) := by
  unfold windowCount
  split
  next => exact laneTested_of_frame (frame_refl _ _ s)
  next q _ =>
    have hnoted : Frame faultParts FaultWords s (windowNoted s unc) := (frame_withFlt s _).within
    split
    · exact laneTested_of_frame (frame_refl _ _ s)
    next hu =>
      have hq : laneUnit q.unit = some l := by rw [not_not.1 hu]; exact laneUnit_val l
      dsimp only
      split
      · exact LaneTested.after hnoted (endTest_lane hq rfl)
      · exact laneTested_of_frame hnoted

/-- An error of a lane counted in its counter i and in the window of its health. -/
def errorCounted (s : State) (l : Fin 4) (i : Nat) : State := setLane (bumpLane s l i) l (fun x => { x with fecErr := x.fecErr + 1 })

theorem laneError_tested (s : State) (l : Fin 4) (i : Nat) : LaneTested l (errorCounted s l i) (laneError s l i) :=
  LaneTested.after (frame_detect_lane (errorCounted s l i) l (by decide)) (windowCount_lane _ l false)

theorem nativeFrameRx_badHeader {s : State} {l : Fin 4} {r : RxFrame} (hrun : coreRun s = true) (hup : laneUp s l = true) (hi : laneI1g s l = false)
    (hstart : r.startBad = false) (hcrc : hcrcOk r.bytes = false) : nativeFrameRx s l r = laneError s l 2 := by
  unfold nativeFrameRx
  simp only [hrun, hup, hi, hstart, hcrc]
  rfl

/-- A pause frame seen at the input of its lane. -/
def pauseSeen (s : State) (l : Fin 4) (r : RxFrame) : State :=
  mirror (bumpSw (newFrame (bumpLane s l 10)) l.val 0) false l.val (readHdr r.bytes).cls ((bumpLane s l 10).sw.fab.cur + 1) r.bytes false false
    (unsigned 64 (ttAt s.tb r.stamp / nsU))

theorem frame_pauseSeen (s : State) (l : Fin 4) (r : RxFrame) : Frame [.sw, .log] SendCounts (bumpLane s l 10) (pauseSeen s l r) :=
  (((frame_withSw (bumpLane s l 10) _).within (Q := [.sw, .log]) (S := SendCounts)).andThen (frame_bumpSw (newFrame (bumpLane s l 10)) (by omega) (by decide))
    (hr := fun _ h => h)).andThen (frame_mirror _ _ (by omega) _ _ _ _ _ _) (hr := fun _ h => h)

/-- The lane's pause mask as given. -/
def pauseMasked (s : State) (l : Fin 4) (m : Nat) : State := setPause s l (fun x => { x with rx := BitVec.ofNat 8 m })

theorem pauseMasked_rx (s : State) (l : Fin 4) (m : Nat) : (pauseMasked s l m).sw.pause[l].rx = BitVec.ofNat 8 m := by simp [pauseMasked, setPause]

theorem pauseFrameRx_taken {s : State} {l : Fin 4} {f : Bytes} (hup : laneUp s l = true) (hcrc : hcrcOk f = true) (htrail : trailerOk f = true)
    (hkind : (readHdr f).kind = 8) (hlen : (readHdr f).len = 8) (hpause : byteAt (payloadOf f) 0 = 0x50) :
    pauseFrameRx s l f = bumpSw (pauseMasked s l (byteAt (payloadOf f) 1)) l.val 13 :=
  if_pos (by simp only [hup, hcrc, htrail, hkind, hlen, hpause]; rfl)

theorem nativeFrameRx_pause {s : State} {l : Fin 4} {r : RxFrame} (hrun : coreRun s = true) (hup : laneUp s l = true) (hi : laneI1g s l = false)
    (hstart : r.startBad = false) (hcrc : hcrcOk r.bytes = true) (hkind : (readHdr r.bytes).kind = 8) (htype : (readHdr r.bytes).dtype = 4)
    (hpause : byteAt (payloadOf r.bytes) 0 = 0x50) (hlen : (readHdr r.bytes).len = 8) (hhops : (readHdr r.bytes).hops ≠ 255)
    (hsrc : (readHdr r.bytes).src ≠ 0) (hgd : regB s 0x4100 0 = false) (hunc : r.unc = 0) (hcut : r.cut = false) (htrail : trailerOk r.bytes = true) :
    nativeFrameRx s l r = bumpSw (pauseMasked (pauseSeen s l r) l (byteAt (payloadOf r.bytes) 1)) l.val 13 := by
  have hgood : police s l (readHdr r.bytes) (ttAt s.tb r.stamp) = .good := by
    unfold police
    simp only [hgd, Bool.not_false, Bool.true_or, if_true]
  have hup' : laneUp (pauseSeen s l r) l = true := by
    rw [laneUp, (frame_pauseSeen s l r).part .lanes]
    exact hup
  unfold nativeFrameRx receiveBody route
  simp only [hrun, hup, hi, hstart, hcrc, hkind, htype, hpause, hhops, hsrc, hgood, hunc, hcut, htrail, decide_true, Bool.not_true, Bool.or_self,
    Bool.false_eq_true,
    if_false, if_true, Nat.lt_irrefl, Nat.reduceEqDiff, or_self, ne_eq, not_true_eq_false, not_false_eq_true, and_self, and_false, and_true, false_and, policed]
  exact pauseFrameRx_taken hup' hcrc htrail hkind hlen hpause

/-- Settles O10: N10 offered again, a bad window, adaptation, link messages, and frames with a bad header or a pause in them. -/
theorem laneServiceRowsComplete : Obligations.LaneServiceRowsComplete := by
  refine ⟨?_, ?_, ?_, ?_, ?_, ?_, ?_, ?_, ?_⟩
  · intro s l hst
    refine completes_of (u := laneN10Reoffer s l) rfl ?_
    rw [show laneN10Reoffer s l = setLane s l (fun x => { x with n10Off := false }) from if_pos (by rw [hst]; rfl)]
    exact ⟨by rw [settle_lanes]; exact lane_same s l _, frame_settle (frame_setLane s l _)⟩
  · intro s l m snr corr hrun hst hm hh
    have hset : Frame [.lanes] (fun o => o = 0x1120 + 0x100 * l.val ∨ o = 0x1124 + 0x100 * l.val) s (setLane (corrCounted s l corr) l (badWindow snr corr)) :=
      ((frame_corrCounted s l corr).within (hr := fun _ h => h)).andThen (frame_setLane _ l _)
    have hsame : (setLane (corrCounted s l corr) l (badWindow snr corr)).lanes[l] = badWindow snr corr s.lanes[l] := lane_same _ l _
    have hother (k : Fin 4) (hk : k ≠ l) : (setLane (corrCounted s l corr) l (badWindow snr corr)).lanes[k] = s.lanes[k] := lane_other _ hk _
    have hcount : Counted (0x1120 + 0x100 * l.val) corr s (setLane (corrCounted s l corr) l (badWindow snr corr)) :=
      (reg_setLane _ _ _ _).trans (counted_corrCounted s l corr)
    have hvals : laneVals (setLane (corrCounted s l corr) l (badWindow snr corr)) l ++ [] = [l.val, s.lanes[l].mode, snr % 65536, s.lanes[l].farUid] := by
      rw [laneVals, hsame]
      rfl
    refine completes_of (u := portTurns s (healthWindow s l m snr corr 0)) rfl ?_
    rw [healthWindow_bad snr corr hrun hst hm hh]
    generalize setLane (corrCounted s l corr) l (badWindow snr corr) = u at *
    have hevent : Frame [.lanes, .log] (fun o => o = 0x1120 + 0x100 * l.val ∨ o = 0x1124 + 0x100 * l.val ∨ o = 0xC180) s (laneEvent u l 0x2005 3 []) :=
      (hset.within (hr := fun _ h => h.imp_right .inl)).andThen (frame_laneEvent u l _ _ _) (hr := fun _ h => .inr (.inr h))
    have hsts (k : Fin 4) : (laneEvent u l 0x2005 3 []).lanes[k].st = s.lanes[k].st := by
      rw [laneEvent_lanes]
      by_cases hk : k = l
      · rw [hk, hsame]; rfl
      · rw [hother k hk]
    rw [portTurns_frame hevent hsts (fun k => by omega), settle_lanes, laneEvent_lanes, hsame]
    refine ⟨rfl, rfl, rfl, rfl, counted_settle (by omega) ?_, raisedIn_laneEvent hset hrun hvals (by omega), fun k hk => hother k hk⟩
    exact ((frame_laneEvent u l 0x2005 3 []).reg (by omega) (by omega)).trans hcount
  · intro s l m want ffe hrun hst hi hm hen
    refine completes_of (u := eqAdapt s l m want ffe) rfl ?_
    rw [show eqAdapt s l m want ffe = setLane s l (fun x => { x with low := true }) from
      (if_pos (by rw [hrun, hst, hi, hen]; rfl)).trans (if_pos hm)]
    exact ⟨by rw [settle_lanes]; exact lane_same s l _, frame_settle (frame_setLane s l _)⟩
  · intro s l m want ffe hrun hst hi hm hen
    refine completes_of (u := eqAdapt s l m want ffe) rfl ?_
    rw [show eqAdapt s l m want ffe = setLane s l (adapted want ffe) from
      (if_pos (by rw [hrun, hst, hi, hen]; rfl)).trans (if_neg (Int.not_lt.2 hm)), settle_lanes, lane_same]
    exact ⟨rfl, by simp [adapted], rfl, frame_settle (frame_setLane s l _)⟩
  · intro s l m want ffe hen
    refine completes_of (u := eqAdapt s l m want ffe) rfl ?_
    rw [show eqAdapt s l m want ffe = s from if_neg (by rw [hen]; simp)]
    exact frame_settle (frame_refl _ _ s)
  · intro s l stamp hon
    refine completes_of (u := linkMessageTx s l stamp) rfl ?_
    rw [show linkMessageTx s l stamp = setLane (emit s (.link l.val (linkMsg s l))) l (messageSent stamp) from if_pos hon, settle_lanes, lane_same]
    exact ⟨by rw [settle_out]; rfl, rfl, fun k hk => lane_other _ hk _, frame_settle (((frame_emit s _).within).andThen (frame_setLane _ l _))⟩
  · intro s l msg stamp hon hd hh hlen h0 hret hpd
    refine completes_of (u := portTurns s (linkMessageRx s l msg stamp)) rfl ?_
    have hset := frame_setLane s l (messageTaken msg stamp)
    have hsts (k : Fin 4) : (setLane s l (messageTaken msg stamp)).lanes[k].st = s.lanes[k].st := by
      by_cases hk : k = l
      · rw [hk, lane_same]; rfl
      · rw [lane_other s hk]
    rw [linkMessageRx_taken stamp hon hd hh hlen h0 hret hpd, portTurns_frame hset hsts (fun _ h => h), settle_lanes, lane_same]
    exact ⟨rfl, rfl, rfl, rfl, rfl, rfl, rfl, fun k hk => lane_other s hk _, frame_settle hset⟩
  · intro s l r hrun hup hi hstart hcrc
    refine completes_of (u := nativeFrameRx s l r) rfl ?_
    rw [nativeFrameRx_badHeader hrun hup hi hstart hcrc]
    obtain ⟨hframe, hlanes⟩ := laneError_tested s l 2
    have hfec : (laneError s l 2).lanes[l].fecErr = s.lanes[l].fecErr + 1 := by
      rcases hlanes with h | h
      · rw [h]; exact congrArg Lane.fecErr (lane_same (bumpLane s l 2) l _)
      · rw [h, beginRetire, lane_same]; exact congrArg Lane.fecErr (lane_same (bumpLane s l 2) l _)
    have hcount : Counted (0x1128 + 0x100 * l.val) 1 s (laneError s l 2) :=
      (hframe.reg (by unfold FaultWords; omega) (by omega)).trans ((reg_setLane _ _ _ _).trans (counted_bumpLane s l 2 (by omega)))
    exact ⟨counted_settle (by omega) hcount, by rw [settle_lanes]; exact hfec, by rw [settle_sw, hframe.part .sw]; rfl,
      by rw [settle_sg]; exact hframe.part .sg⟩
  · intro s l r hrun hup hi hstart hcrc hkind htype hpause hlen hhops hsrc hgd hunc hcut htrail
    refine completes_of (u := nativeFrameRx s l r) rfl ?_
    rw [nativeFrameRx_pause hrun hup hi hstart hcrc hkind htype hpause hlen hhops hsrc hgd hunc hcut htrail]
    have hseen := frame_pauseSeen s l r
    have hmask : Frame [.sw] (fun _ => False) (pauseSeen s l r) (pauseMasked (pauseSeen s l r) l (byteAt (payloadOf r.bytes) 1)) := frame_setPause _ l _
    have hrx := pauseMasked_rx (pauseSeen s l r) l (byteAt (payloadOf r.bytes) 1)
    generalize pauseMasked (pauseSeen s l r) l (byteAt (payloadOf r.bytes) 1) = u at *
    have hbump : Frame [] (· = 0x5800 + 0x40 * l.val + 4 * 13) u (bumpSw u l.val 13) := frame_bump u _
    have hcount : Counted (0x1148 + 0x100 * l.val) 1 s (bumpSw u l.val 13) := by
      rw [Counted, hbump.reg (by omega) (by omega), hmask.reg (by simp) (by omega),
        hseen.reg (by simp only [SendCounts, LaneTx, inGroup_iff]; omega) (by omega)]
      exact counted_bumpLane s l 10 (by omega)
    exact ⟨by rw [settle_sw]; exact hrx, counted_settle (by omega) hcount⟩

end Sys2Proof.Lanes

end

section
/-! SUPPORT. A lane that leaves its port to the other one (R195, R212): what the start of a fold, the move of its queue and its retirement leave
unchanged. -/

namespace Sys2Proof.Lanes

open Sys2Proof.Machine Sys2Proof.Safety Sys2Proof.Registers Sys2Proof.Traffic Sys2Proof.Faulty Sys2Proof.Bridge

/-! ### The start of a fold (R195 to R198) -/

/-- The words of a fold: FOLD_LOST and the events. -/
def FoldWords (off : Nat) : Prop := off = 0x409C ∨ off = 0xC180

-- Elaborated by itself, so that the proofs before it are checked before those after it begin: this bounds the memory that proofs under way take at once.
set_option Elab.async false in
theorem frame_withSch (s : State) (x : Sched) : Frame [.sch] (fun _ => False) s { s with sch := x } := frame_of_regs

theorem frame_schEvent (s : State) (code sev lane port : Nat) (more : List Nat) : Frame [.log] (· = 0xC180) s (schEvent s code sev lane port more) :=
  frame_raiseSeg _ _ _ _ _ _

theorem frame_bumpSch (s : State) (i : Nat) : Frame [] (· = 0x4080 + 4 * i) s (bumpSch s i) := frame_bump s _

theorem frame_foldLost (s : State) (l : Fin 4) (row : Nat) : Frame [.sch, .log] FoldWords s (foldLost s l row) :=
  ((frame_bumpSch s 7).within (Q := [.sch, .log]) (S := FoldWords) (hr := fun _ h => .inl (by omega))).andThen (frame_schEvent _ _ _ _ _ _)
    (hr := fun _ h => .inr h)

theorem frame_foldPrimary (s : State) (l : Fin 4) (f : Bytes) : Frame [.sch, .log] FoldWords s (foldPrimary s l f) := by
  unfold foldPrimary
  dsimp only
  split
  · exact frame_refl _ _ s
  split
  · exact frame_refl _ _ s
  · exact frame_ite (frame_foldLost s l _) (frame_withSch s _).within

theorem frame_foldDrop (s : State) (l : Fin 4) : Frame [.sch, .log] FoldWords s (foldDrop s l) :=
  frame_trans ((frame_withSch s _).within) (frame_foldl (fun t _ => frame_foldLost t _ _) _ _)

theorem frame_foldStart (s : State) (l : Fin 4) : Frame [.sch, .log] FoldWords s (foldStart s l) := by
  have hopen (x : Sched) : Frame [.sch, .log] FoldWords s { s with sch := x } := (frame_withSch s x).within
  have hdrop := (hopen _).andThen (frame_foldDrop { s with sch := { s.sch with foldEnd := s.sch.foldEnd &&& ~~~BitVec.ofNat 4 (2 ^ l.val) } } l)
    (hr := fun _ h => h)
  refine frame_ite (frame_trans (frame_trans (frame_ite ?_ ?_) ((frame_schEvent _ _ _ _ _ _).within (hr := fun _ h => .inr h)))
    (frame_foldl (fun t f => frame_foldPrimary t l f) _ _)) (hopen _)
  · exact (hdrop.andThen (frame_withSch _ _)).andThen (frame_withSch _ _)
  · exact hdrop.andThen (frame_withSch _ _)

/-! ### The queue of a lane (R212) -/

theorem frame_moveQueue (s : State) (l : Fin 4) : Frame [.sw, .log, .out] SendCounts s (moveQueue s l) :=
  frame_ite (frame_refl _ _ s) ((((frame_setSw s _ _).within (Q := [.sw, .log, .out]) (S := SendCounts)).andThen (frame_setSw _ _ _)).andThen
    (frame_xoffUpdate _) (hr := fun _ h => h))

end Sys2Proof.Lanes

end

section
/-! SUPPORT. Fault handling (R357, R360, R361, R363, R365): the end of a passed test, a retirement, the unit commands, and the comparison of REQ and EFF. -/

namespace Sys2Proof.Faulty

open Sys2Proof.Machine Sys2Proof.Safety Sys2Proof.Registers Sys2Proof.Traffic Sys2Proof.Bridge Sys2Proof.Lanes Sys2Proof.Can Sys2Proof.Settling

/-! ### Units -/

-- Elaborated by itself, so that the proofs before it are checked before those after it begin: this bounds the memory that proofs under way take at once.
set_option Elab.async false in
theorem fUnit_setUnit_get (s : State) (u v : Nat) (f : FUnit → FUnit) :
    fUnit (setUnit s v f) u = if u = v ∧ v < 50 then f (fUnit s v) else fUnit s u := by
  by_cases h : u = v
  · subst h
    by_cases hv : u < 50 <;> simp [fUnit, setUnit, hv]
  · have hne : v ≠ u := fun e => h e.symm
    simp [fUnit, setUnit, h, hne]

/-- REQ and the hold of every unit are as they were. -/
def UnitsKept (s t : State) : Prop := ∀ u, (fUnit t u).req = (fUnit s u).req ∧ (fUnit t u).held = (fUnit s u).held

theorem unitsKept_setUnit (s : State) (v : Nat) {f : FUnit → FUnit} (h : ∀ x, (f x).req = x.req ∧ (f x).held = x.held) :
    UnitsKept s (setUnit s v f) := by
  intro u
  rw [fUnit_setUnit_get]
  split
  next e => rw [e.1]; exact h _
  next => exact ⟨rfl, rfl⟩

theorem unitsKept_undefer (s : State) : UnitsKept s (undefer s) := by
  unfold undefer
  split
  · split
    next v _ => exact unitsKept_setUnit s v (f := fun x => { x with defer_ := v == 0x30 && !(s.flt.defRows.drop 1).isEmpty }) fun _ => ⟨rfl, rfl⟩
    next => exact fun _ => ⟨rfl, rfl⟩
  · exact fun _ => ⟨rfl, rfl⟩

theorem units_testEffects (s : State) (q : QEnt) : (testEffects s q).flt.units = s.flt.units := by
  have hcan (t : State) (c : Nat) : (canTestStart t c).flt = t.flt := (frame_canTestStart t c).part .flt
  have hbridge (t : State) : (bridgeTestStart t).flt = t.flt := (frame_bridgeTestStart t).part .flt
  rw [testEffects_eq]
  split
  · rw [hcan]; rfl
  split
  · rw [hbridge]; rfl
  · rfl

theorem unitsKept_startTest (s : State) : UnitsKept s (startTest s) := by
  intro u
  unfold startTest
  split
  next q r _ _ =>
    split
    · exact ⟨rfl, rfl⟩
    · have hu : fUnit (testEffects { s with flt := { s.flt with queue := r } } q) u = fUnit s u := by rw [fUnit, units_testEffects, fUnit]
      have h := unitsKept_undefer (testEffects { s with flt := { s.flt with queue := r } } q) u
      rwa [hu] at h
  next => exact ⟨rfl, rfl⟩

/-! ### The end of a test that passed (R360) -/

/-- A unit after a test that passed. -/
def passedUnit (s : State) (q : QEnt) (x : FUnit) : FUnit :=
  { x with trans := s.mram.optime :: recentTrans s q.unit, lost := false, held := x.held && !q.ret, req := if q.ret then 1 else x.req }

/-- A test that passed, counted and recorded. -/
def testPassed (s : State) (q : QEnt) : State := raise (setUnit (bumpFlt s 2) q.unit (passedUnit s q)) 0xA001 3 q.unit [q.unit, 1, q.code]

/-- The row of a test that passed serves again. -/
def rowFreed (s : State) (q : QEnt) : State :=
  let t : State := { s with flt := { s.flt with heldRows := s.flt.heldRows.filter (· != q.row) } }
  if t.mram.spares.contains q.row then t else { t with flt := { t.flt with remap := t.flt.remap.filter (· != q.row) } }

theorem transientOutcome_passed {s : State} {q : QEnt} (h : q.unit ≠ 0x31) (r : TestResult) :
    transientOutcome s q r = if q.unit = 0x30 then rowFreed (testPassed s q) q else testPassed s q := by
  unfold transientOutcome
  simp only [if_neg h]
  rfl

theorem frame_rowFreed (s : State) (q : QEnt) : Frame [.flt] (fun _ => False) s (rowFreed s q) :=
  frame_ite (frame_withFlt s _) (frame_trans (frame_withFlt s _) (frame_withFlt _ _))

theorem rowFreed_flt (s : State) (q : QEnt) : (rowFreed s q).flt.test = s.flt.test ∧ (rowFreed s q).flt.queue = s.flt.queue ∧
    (rowFreed s q).flt.units = s.flt.units := by
  unfold rowFreed
  dsimp only
  split <;> exact ⟨rfl, rfl, rfl⟩

/-- What the test of the schedule's row restores (Table 14-3). -/
def planRestored (s : State) (q : QEnt) : State :=
  if q.unit = 0x21 then { s with sch := { s.sch with gdPlan := s.sch.plan, tabFault := false, clkFault := false } } else s

/-- The test of a unit has ended and passed. -/
def selfTested (s : State) (q : QEnt) : State :=
  let t := testPassed (testOver (planRestored s q)) q
  if q.unit = 0x30 then rowFreed t q else t

theorem planRestored_flt (s : State) (q : QEnt) : (planRestored s q).flt = s.flt := by
  unfold planRestored
  split <;> rfl

theorem frame_planRestored (s : State) (q : QEnt) : Frame [.sch] (fun _ => False) s (planRestored s q) :=
  frame_ite (frame_withSch s _) (frame_refl _ _ s)

/-- The state of the units and of the queue once the test has ended. -/
theorem selfTested_flt (s : State) (q : QEnt) : (selfTested s q).flt.test = none ∧ (selfTested s q).flt.queue = s.flt.queue ∧
    ∀ u, fUnit (selfTested s q) u = fUnit (setUnit s q.unit (passedUnit s q)) u := by
  have hflt := planRestored_flt s q
  have hmram : (planRestored s q).mram = s.mram := (frame_planRestored s q).part .mram
  have hkept : (planRestored s q).flt.queue = s.flt.queue := congrArg Faults.queue hflt
  have hpassed : (testPassed (testOver (planRestored s q)) q).flt.test = none ∧ (testPassed (testOver (planRestored s q)) q).flt.queue = s.flt.queue ∧
      ∀ u, fUnit (testPassed (testOver (planRestored s q)) q) u = fUnit (setUnit s q.unit (passedUnit s q)) u := by
    have hlog : (testPassed (testOver (planRestored s q)) q).flt =
        (setUnit (bumpFlt (testOver (planRestored s q)) 2) q.unit (passedUnit (testOver (planRestored s q)) q)).flt := raise_flt _ _ _ _ _
    refine ⟨by rw [hlog]; rfl, by rw [hlog]; exact hkept, fun u => ?_⟩
    have hunits : (setUnit (bumpFlt (testOver (planRestored s q)) 2) q.unit (passedUnit (testOver (planRestored s q)) q)).flt.units =
        (setUnit s q.unit (passedUnit s q)).flt.units := by
      simp only [setUnit, fUnit, passedUnit, recentTrans, testOver, hflt, hmram, bumpFlt, bump, bumpBy, setReg]
    rw [fUnit, hlog, hunits, fUnit]
  obtain ⟨htest, hqueue, hunits⟩ := hpassed
  unfold selfTested
  dsimp only
  split
  · obtain ⟨ft, fq, fu⟩ := rowFreed_flt (testPassed (testOver (planRestored s q)) q) q
    exact ⟨ft.trans htest, fq.trans hqueue, fun u => by rw [fUnit, fu]; exact hunits u⟩
  · exact ⟨htest, hqueue, hunits⟩

theorem selfTestEnd_passed {s : State} {r : TestResult} {q : QEnt} (hrun : coreRun s = true) (hup : s.flt.mgmtDown = false) (ht : s.flt.test = some q)
    (hu : q.unit < 50) (h31 : q.unit ≠ 0x31) (hpass : r.pass = true) (hm : ∀ l : Fin 4, laneUnit q.unit = some l → laneMeasured s l = true)
    (hsec : s.flt.second = false) (hrec : regF s 0xB000 15 12 = 0) (hq : s.flt.queue = []) (hdis : (fUnit s q.unit).disT = false) :
    selfTestEnd s r = selfTested s q := by
  have hflt := planRestored_flt s q
  have hrec' : regF (planRestored s q) 0xB000 15 12 = 0 := by rw [regF, (frame_planRestored s q).reg]; exact hrec
  have hend (r' : TestResult) (hp : r'.pass = true) : endTest (planRestored s q) q r' = selfTested s q := by
    have hlasting : (!r'.pass || (planRestored s q).flt.second ||
        (regF (planRestored s q) 0xB000 15 12 != 0 && decide (regF (planRestored s q) 0xB000 15 12 ≤ (recentTrans
          (planRestored s q) q.unit).length))) = false := by
      rw [hp, hflt, hsec, hrec']; rfl
    have hout : transientOutcome (testOver (planRestored s q)) q r' = selfTested s q := transientOutcome_passed h31 r'
    unfold endTest
    simp only [hlasting, Bool.false_eq_true, if_false]
    exact (congrArg startTest hout).trans (startTest_empty ((selfTested_flt s q).2.1.trans hq))
  have hdis' : (fUnit (selfTested s q) q.unit).disT = false := by
    rw [(selfTested_flt s q).2.2, fUnit_setUnit s hu]
    exact hdis
  have hdone (r' : TestResult) (hp : r'.pass = true) :
      (if (fUnit (endTest (planRestored s q) q r') q.unit).disT then
        let s2 := setUnit (endTest (planRestored s q) q r') q.unit (fun x => { x with disT := false, dis := 0 })
        if reqState s2 q.unit ≠ effState s2 q.unit then holdUnit (setUnit s2 q.unit (fun x => { x with disH := true })) q.unit 3 0xA006 else s2
      else endTest (planRestored s q) q r') = selfTested s q := by
    rw [hend r' hp, if_neg (by rw [hdis']; exact Bool.false_ne_true)]
  unfold selfTestEnd
  simp only [ht, hrun, hup, Bool.not_true, Bool.or_self, Bool.false_eq_true, if_false]
  cases hl : laneUnit q.unit with
  | none =>
    simp only [hpass, Bool.true_and, beq_iff_eq]
    exact hdone r hpass
  | some l =>
    simp only [hpass, hm l hl, Bool.and_self, Bool.true_and, beq_iff_eq]
    exact hdone { r with pass := true } rfl

end Sys2Proof.Faulty

end

section
/-! SUPPORT. A lane's retirement and the unit commands (R361, R363), and the comparison of REQ and EFF (R365). -/

namespace Sys2Proof.Faulty

open Sys2Proof.Machine Sys2Proof.Safety Sys2Proof.Registers Sys2Proof.Traffic Sys2Proof.Bridge Sys2Proof.Lanes Sys2Proof.Can Sys2Proof.Settling
open Sys2Proof.Telemetry

/-! ### The end of a test, framed -/

/-- The unit, the count and the plan of a test that passed, its event not yet raised. -/
def passedBase (s : State) (q : QEnt) : State :=
  setUnit (bumpFlt (testOver (planRestored s q)) 2) q.unit (passedUnit (testOver (planRestored s q)) q)

-- Elaborated by itself, so that the proofs before it are checked before those after it begin: this bounds the memory that proofs under way take at once.
set_option Elab.async false in
theorem testPassed_base (s : State) (q : QEnt) :
    testPassed (testOver (planRestored s q)) q = raise (passedBase s q) 0xA001 3 q.unit [q.unit, 1, q.code] := rfl

theorem frame_passedBase (s : State) (q : QEnt) : Frame [.flt, .sch] (· = 0xB088) s (passedBase s q) := by
  have hover : Frame [.flt, .sch] (· = 0xB088) s (testOver (planRestored s q)) :=
    ((frame_planRestored s q).within).andThen (frame_withFlt _ _)
  have hbump : Frame [] (· = 0xB080 + 4 * 2) (testOver (planRestored s q)) (bumpFlt (testOver (planRestored s q)) 2) := frame_bump _ _
  exact (hover.andThen hbump (hr := fun _ h => by omega)).andThen (frame_setUnit _ _ _)

theorem frame_selfTested (s : State) (q : QEnt) :
    Frame [.flt] (fun _ => False) (raise (passedBase s q) 0xA001 3 q.unit [q.unit, 1, q.code]) (selfTested s q) := by
  rw [← testPassed_base]
  exact frame_ite (frame_rowFreed _ q) (frame_refl _ _ _)

theorem counted_passedBase (s : State) (q : QEnt) : Counted 0xB088 1 s (passedBase s q) := by
  have hbump := reg_bumpBy (testOver (planRestored s q)) 0xB088 1 0xB088
  have hreg : reg (testOver (planRestored s q)) 0xB088 = reg s 0xB088 := (frame_planRestored s q).reg
  rw [if_pos rfl, hreg] at hbump
  exact hbump

/-! ### A lane retires (R361) -/

/-- A lane that enters RETIRED. -/
def retiredLane (x : Lane) : Lane := { endUp x with st := .retired, retiring := false, mode := 0, farRet := 0, farRetAny := false, lossAt := none }

/-- The lane retired, its unit and the record of it. -/
def retireNoted (s : State) (l : Fin 4) (cause code : Nat) : State :=
  raise (setUnit (setLane s l retiredLane) l.val (fun x => { x with req := 2, held := false })) 0xA003 5 l.val [l.val, 3, code, cause]

theorem retireLane_eq (s : State) (l : Fin 4) (cause code : Nat) :
    retireLane s l cause code = moveQueue (foldStart (dropTests (retireNoted s l cause code) l.val) l) l := rfl

theorem frame_retireNoted (s : State) (l : Fin 4) (cause code : Nat) : Frame [.lanes, .flt, .log] (· = 0xC180) s (retireNoted s l cause code) :=
  (((frame_setLane s l retiredLane).within (Q := [.lanes, .flt, .log]) (S := (· = 0xC180))).andThen (frame_setUnit _ _ _)).andThen (frame_raise _ _ _ _ _)
    (hr := fun _ h => h)

theorem retireNoted_lanes (s : State) (l : Fin 4) (cause code : Nat) : (retireNoted s l cause code).lanes = (setLane s l retiredLane).lanes :=
  raise_lanes _ _ _ _ _

theorem retireNoted_unit (s : State) (l : Fin 4) (cause code : Nat) :
    (fUnit (retireNoted s l cause code) l.val).req = 2 ∧ (fUnit (retireNoted s l cause code) l.val).held = false := by
  have hu : fUnit (retireNoted s l cause code) l.val = { fUnit (setLane s l retiredLane) l.val with req := 2, held := false } :=
    (fUnit_congr (raise_flt _ _ _ _ _) _).trans (fUnit_setUnit _ (by omega) _)
  rw [hu]
  exact ⟨rfl, rfl⟩

theorem frame_dropTests (s : State) (u : Nat) : Frame faultParts FaultWords s (dropTests s u) := by
  have hflt (x : Faults) : Frame faultParts FaultWords s { s with flt := x } := (frame_withFlt s x).within
  exact (frame_ite (frame_trans (hflt _) ((frame_withFlt _ _).within)) (hflt _)).andThen (frame_startTest _) (hr := fun _ h => h)

theorem unitsKept_dropTests (s : State) (u : Nat) : UnitsKept s (dropTests s u) := by
  intro v
  have h := unitsKept_startTest (if underTest s u then
    { s with flt := { s.flt with queue := s.flt.queue.filter (fun q => q.unit != u), test := none, second := false, lossTest := false, pdTest := false } }
    else { s with flt := { s.flt with queue := s.flt.queue.filter (fun q => q.unit != u) } }) v
  rwa [show fUnit (if underTest s u then
    { s with flt := { s.flt with queue := s.flt.queue.filter (fun q => q.unit != u), test := none, second := false, lossTest := false, pdTest := false } }
    else { s with flt := { s.flt with queue := s.flt.queue.filter (fun q => q.unit != u) } }) v = fUnit s v by split <;> rfl] at h

/-- Where the words of a retirement lie. -/
def RetireWords (off : Nat) : Prop := SchedWords off ∨ off = 0x9618

theorem retireWords_of_fault {off : Nat} (h : FaultWords off) : RetireWords off := by
  unfold FaultWords at h
  unfold RetireWords SchedWords
  omega

theorem retireWords_of_fold {off : Nat} (h : FoldWords off) : RetireWords off := by
  unfold FoldWords at h
  unfold RetireWords SchedWords
  omega

theorem retireWords_of_sends {off : Nat} (h : SendCounts off) : RetireWords off := by
  simp only [SendCounts, LaneTx, inGroup_iff] at h
  unfold RetireWords SchedWords
  omega

theorem retired_lane (s : State) (l : Fin 4) (cause code : Nat) :
    let t := retireLane s l cause code
    t.lanes = (setLane s l retiredLane).lanes ∧ (fUnit t l.val).req = 2 ∧ (fUnit t l.val).held = false ∧
    Frame [.lanes, .flt, .sch, .sw, .can, .hb, .log, .out] RetireWords s t := by
  dsimp only
  rw [retireLane_eq]
  have hnoted := frame_retireNoted s l cause code
  have hlanes := retireNoted_lanes s l cause code
  have hunit := retireNoted_unit s l cause code
  generalize retireNoted s l cause code = u at *
  have hdrop := frame_dropTests u l.val
  have hkept := unitsKept_dropTests u l.val l.val
  generalize dropTests u l.val = v at *
  have hfold := frame_foldStart v l
  generalize foldStart v l = w at *
  have hmove := frame_moveQueue w l
  generalize moveQueue w l = t at *
  have hunits : fUnit t l.val = fUnit v l.val := fUnit_congr ((hmove.part .flt).trans (hfold.part .flt)) _
  refine ⟨?_, ?_, ?_, ?_⟩
  · exact (hmove.part .lanes).trans ((hfold.part .lanes).trans ((hdrop.part .lanes).trans hlanes))
  · rw [hunits, hkept.1]; exact hunit.1
  · rw [hunits, hkept.2]; exact hunit.2
  · exact (((hnoted.within (Q := [.lanes, .flt, .sch, .sw, .can, .hb, .log, .out]) (S := RetireWords) (hr := fun _ h => retireWords_of_fault (.inr (.inr h)))).andThen
      hdrop (hr := fun _ => retireWords_of_fault)).andThen hfold (hr := fun _ => retireWords_of_fold)).andThen hmove (hr := fun _ => retireWords_of_sends)

theorem reqState_retired {s : State} {l : Fin 4} (h : (fUnit s l.val).req = 2) : reqState s l.val = if coreRun s then 2 else 0 := by
  unfold reqState
  cases coreRun s
  · rfl
  · exact if_pos h

/-! ### Unit commands (R363) -/

theorem regCommand_unitCmd {s : State} {op u : Nat} {v : Word} (h : UnitCmd op u v s) :
    regCommand s .host 0xB00C 0xF v false = endWrite .host 0xB00C (unitCmd s 3 v, 0) := by
  have hw : writeBlock s .host 0xB00C 0xF v false = (unitCmd s 3 (maskBe 0xF v), 0) := rfl
  rw [regCommand_block h.1 v false (by decide) (fun _ => rfl), hw, maskBe_full]

theorem coreRun_of_unitCmd {s : State} {op u : Nat} {v : Word} (h : UnitCmd op u v s) : coreRun s = true := by
  obtain ⟨-, -, hrun, -⟩ := h
  exact hrun

theorem unitCmd_test {s : State} {u : Nat} {v : Word} (h : UnitCmd 1 u v s) : unitCmd s 3 v = unitTest s u 3 := by
  obtain ⟨-, -, -, hmagic, hen, hop, hu⟩ := h
  unfold unitCmd
  simp only [hmagic, hen, hop, hu, and_self, if_true]

theorem unitCmd_retire {s : State} {l : Fin 4} {v : Word} (h : UnitCmd 2 l.val v s) (hr : canRetire s l = true) : unitCmd s 3 v = laneRetire s l 3 := by
  obtain ⟨-, -, -, hmagic, hen, hop, hu⟩ := h
  unfold unitCmd
  simp only [hmagic, hen, hop, hu, laneUnit_val, hr, and_self, if_true]

theorem unitCmd_return {s : State} {u : Nat} {v : Word} (h : UnitCmd 3 u v s) : unitCmd s 3 v = unitReturn s u 3 := by
  obtain ⟨-, -, -, hmagic, hen, hop, hu⟩ := h
  unfold unitCmd
  simp only [hmagic, hen, hop, hu, and_self, if_true]

/-- The unit joins the queue behind the test that runs. -/
def queuedBehind (s : State) (u : Nat) (ret : Bool) : State :=
  { s with flt := { s.flt with queue := s.flt.queue ++ [{ unit := u, ret := ret, row := if u = 0x30 then s.flt.row else 0 }] } }

theorem askTest_queues {s : State} {u : Nat} (h : CanQueue u s) (ret : Bool) : askTest s u ret = queuedBehind s u ret := by
  obtain ⟨hown, htest, hqueue, hlen, hrun⟩ := h
  unfold askTest
  simp only [hown, htest, hqueue, Bool.false_eq_true, if_false]
  exact enqueue_behind htest hqueue hlen hrun 0 ret

theorem unitTest_queues {s : State} {u : Nat} (ha : unitAssigned u = true) (hr : reqState s u ≠ 0) (h : CanQueue u s) :
    unitTest s u 3 = queuedBehind s u false := by
  have hreq : (!unitAssigned u || reqState s u == 0) = false := by simp [ha, hr]
  unfold unitTest
  rw [hreq]
  exact askTest_queues h false

/-- A lane whose retirement was asked for. -/
def retireAsked (s : State) (l : Fin 4) : State := beginRetire (keepCode s l 0) l 3

theorem dropTests_idle {s : State} {u : Nat} (ht : underTest s u = false) (hq : queued s u = false) (hr : s.flt.test.isSome = true) : dropTests s u = s := by
  have hfilter : s.flt.queue.filter (fun q => q.unit != u) = s.flt.queue := by
    rw [List.filter_eq_self]
    simpa [queued] using hq
  unfold dropTests
  simp only [hfilter, ht, Bool.false_eq_true, if_false]
  exact startTest_running hr

theorem laneRetire_begins {s : State} {l : Fin 4} (h : CanQueue l.val s) (hd : upAtDesign s (sisterLane l) = true) :
    laneRetire s l 3 = retireAsked s l := by
  obtain ⟨-, htest, hqueue, -, hrun⟩ := h
  have hd' : upAtDesign (keepCode s l 0) (sisterLane l) = true := hd
  unfold laneRetire
  rw [dropTests_idle htest hqueue hrun]
  exact if_pos hd'

/-- The record of a return. -/
def returnNoted (s : State) (u : Nat) : State := raise s 0xA050 6 u [u, 3]

/-- The row that a return of the SRAM tests. -/
def rowChosen (s : State) (row : Nat) : State := { s with flt := { s.flt with row := row } }

theorem canQueue_of_flt {s t : State} {u : Nat} (h : CanQueue u s) (ht : t.flt.test = s.flt.test) (hq : t.flt.queue = s.flt.queue) : CanQueue u t := by
  obtain ⟨hown, htest, hqueue, hlen, hrun⟩ := h
  exact ⟨hown, by rw [underTest, ht]; exact htest, by rw [queued, hq]; exact hqueue, hq ▸ hlen, ht ▸ hrun⟩

theorem unitReturn_unit {s : State} {u row : Nat} (ha : unitAssigned u = true) (h4 : 4 ≤ u) (hheld : (fUnit s u).held = true) (h : CanQueue u s)
    (hrow : row = if u = 0x30 then s.flt.heldRows.headD s.flt.row else s.flt.row) :
    unitReturn s u 3 = queuedBehind (rowChosen (returnNoted s u) row) u true := by
  have hcan : canReturn s u = true := by simp [canReturn, ha, hheld]
  have hlane : laneUnit u = none := dif_neg (by omega)
  have hflt : (returnNoted s u).flt = s.flt := raise_flt _ _ _ _ _
  have htest : (returnNoted s u).flt.test = s.flt.test := congrArg Faults.test hflt
  have hqueue : (returnNoted s u).flt.queue = s.flt.queue := congrArg Faults.queue hflt
  have hchosen : (if u = 0x30 then { returnNoted s u with flt := { (returnNoted s u).flt with row := (returnNoted s u).flt.heldRows.headD (returnNoted s u).flt.row } }
      else returnNoted s u) = rowChosen (returnNoted s u) row := by
    subst hrow
    rw [rowChosen, hflt]
    split
    · rfl
    · exact congrArg (fun x : Faults => { returnNoted s u with flt := x }) hflt
  unfold unitReturn
  simp only [hcan, hlane, if_true]
  refine (congrArg (askTest · u true) hchosen).trans (askTest_queues (canQueue_of_flt h ?_ ?_) true)
  · exact htest
  · exact hqueue

theorem unitReturn_lane {s : State} {l : Fin 4} (hreq : (fUnit s l.val).req = 2) (hst : s.lanes[l].st = .retired) (h : CanQueue l.val s) :
    unitReturn s l.val 3 = queuedBehind (setLane (returnNoted s l.val) l toDetect) l.val true := by
  have hassigned : unitAssigned l.val = true := by
    have : l.val ≤ 3 := by omega
    simp [unitAssigned, this]
  have hcan : canReturn s l.val = true := by simp [canReturn, hassigned, hreq]
  have hflt : (returnNoted s l.val).flt = s.flt := raise_flt _ _ _ _ _
  have htest : (returnNoted s l.val).flt.test = s.flt.test := congrArg Faults.test hflt
  have hqueue : (returnNoted s l.val).flt.queue = s.flt.queue := congrArg Faults.queue hflt
  have hlanes : (returnNoted s l.val).lanes = s.lanes := raise_lanes _ _ _ _ _
  have hretired : ((returnNoted s l.val).lanes[l].st == LaneSt.retired) = true := by rw [hlanes, hst]; rfl
  have hsram : ¬ l.val = 0x30 := by omega
  unfold unitReturn
  simp only [hcan, laneUnit_val, hsram, if_true, if_false]
  refine (congrArg (askTest · l.val true) (if_pos hretired)).trans (askTest_queues (canQueue_of_flt h ?_ ?_) true)
  · exact htest
  · exact hqueue

/-! ### REQ and EFF compared (R365) -/

/-- A unit whose REQ and EFF agree. -/
def agreedUnit (x : FUnit) : FUnit := { x with dis := 0, held := x.held && !x.disH, disH := false }

/-- The unit's REQ and EFF agree, and it is not under a test that moves its traffic. -/
def Agrees (s : State) (u : Nat) : Prop := effState s u ≠ 3 ∧ reqState s u = effState s u

theorem disagreeUnit_agrees {s : State} {u : Nat} (ha : unitAssigned u = true) (h : Agrees s u) : disagreeUnit s u = setUnit s u agreedUnit := by
  obtain ⟨htest, heq⟩ := h
  unfold disagreeUnit
  simp only [ha, htest, heq, Bool.not_true, Bool.false_eq_true, if_false, if_true]
  rfl

theorem disagreeUnit_unassigned {s : State} {u : Nat} (ha : unitAssigned u = false) : disagreeUnit s u = s := by
  unfold disagreeUnit
  simp only [ha, Bool.not_false, if_true]

theorem agreed_kept (s : State) (v u : Nat) : (fUnit (setUnit s v agreedUnit) u).req = (fUnit s u).req ∧
    (fUnit (setUnit s v agreedUnit) u).lost = (fUnit s u).lost ∧ (fUnit (setUnit s v agreedUnit) u).disT = (fUnit s u).disT := by
  rw [fUnit_setUnit_get]
  split
  next h => rw [h.1]; exact ⟨rfl, rfl, rfl⟩
  next => exact ⟨rfl, rfl, rfl⟩

theorem agrees_setUnit (s : State) (v u : Nat) : Agrees (setUnit s v agreedUnit) u ↔ Agrees s u := by
  obtain ⟨hreq, hlost, -⟩ := agreed_kept s v u
  have er : reqState (setUnit s v agreedUnit) u = reqState s u := by
    unfold reqState
    rw [hreq]
    rfl
  have ee : effState (setUnit s v agreedUnit) u = effState s u := by
    unfold effState
    simp only [hlost]
    rfl
  rw [Agrees, Agrees, er, ee]

/-- The comparison of units that all agree: their counts are 0 and nothing else of the handler has changed. -/
def Compared (l : List Nat) (s t : State) : Prop :=
  t.flt.queue = s.flt.queue ∧ t.flt.test = s.flt.test ∧ Frame [.flt] (fun _ => False) s t ∧
  ∀ u < 50, (fUnit t u).disT = (fUnit s u).disT ∧
    (((fUnit s u).dis = 0 ∧ (fUnit s u).disH = false) ∨ (u ∈ l ∧ unitAssigned u = true) → (fUnit t u).dis = 0 ∧ (fUnit t u).disH = false)

theorem compared_units (l : List Nat) {s : State} (h : ∀ u ∈ l, unitAssigned u = true → Agrees s u) : Compared l s (l.foldl disagreeUnit s) := by
  induction l generalizing s with
  | nil => exact ⟨rfl, rfl, frame_refl _ _ s, fun u _ => ⟨rfl, fun hu => by simpa using hu⟩⟩
  | cons v l ih =>
    rw [List.foldl_cons]
    cases ha : unitAssigned v with
    | false =>
      rw [disagreeUnit_unassigned ha]
      obtain ⟨hq, ht, hf, hu⟩ := ih fun u hm => h u (List.mem_cons_of_mem v hm)
      refine ⟨hq, ht, hf, fun u hlt => ⟨(hu u hlt).1, fun hc => (hu u hlt).2 (hc.imp_right fun ⟨hm, hau⟩ => ⟨?_, hau⟩)⟩⟩
      rcases List.mem_cons.1 hm with e | hm
      · rw [e, ha] at hau; nomatch hau
      · exact hm
    | true =>
      rw [disagreeUnit_agrees ha (h v List.mem_cons_self ha)]
      obtain ⟨hq, ht, hf, hu⟩ := ih (s := setUnit s v agreedUnit) fun u hm hau => (agrees_setUnit s v u).2 (h u (List.mem_cons_of_mem v hm) hau)
      refine ⟨hq, ht, frame_trans (frame_setUnit s v _) hf, fun u hlt => ⟨((hu u hlt).1).trans (agreed_kept s v u).2.2, fun hc => (hu u hlt).2 ?_⟩⟩
      by_cases he : u = v
      · subst he
        left
        rw [fUnit_setUnit s hlt]
        exact ⟨rfl, rfl⟩
      · rw [fUnit_setUnit_get, if_neg (fun hb => he hb.1)]
        exact hc.imp_right fun ⟨hm, hau⟩ => ⟨(List.mem_cons.1 hm).resolve_left he, hau⟩

/-! ### The obligation -/

theorem raised_passed {s : State} (h : coreRun s = true) (q : QEnt) : Raised [(0xA001, 3, q.unit, [q.unit, 1, q.code])] s (selfTested s q) := by
  have hbase := frame_passedBase s q
  have hlog : (passedBase s q).log = s.log := hbase.part .log
  rw [Raised, (frame_selfTested s q).part .log, raise_raised _ _ _ _ _ ((coreRun_of_frame hbase).trans h), mkEvent_of_frame hbase, hlog]
  rfl

theorem frame_selfTested_whole (s : State) (q : QEnt) : Frame [.flt, .sch, .log] (fun o => o = 0xB088 ∨ o = 0xC180) s (selfTested s q) :=
  (((frame_passedBase s q).within (Q := [.flt, .sch, .log]) (S := fun o => o = 0xB088 ∨ o = 0xC180) (hr := fun _ h => .inl h)).andThen (frame_raise _ _ _ _ _)
    (hr := fun _ h => .inr h)).andThen (frame_selfTested s q)

theorem counted_selfTested (s : State) (q : QEnt) : Counted 0xB088 1 s (selfTested s q) := by
  rw [Counted, (frame_selfTested s q).reg, (frame_raise (passedBase s q) 0xA001 3 q.unit [q.unit, 1, q.code]).reg]
  exact counted_passedBase s q

theorem selfTested_sch {s : State} {q : QEnt} (h : q.unit ≠ 0x21) : (selfTested s q).sch = s.sch := by
  have hplan : planRestored s q = s := if_neg h
  have hbase : (passedBase s q).sch = s.sch := by rw [passedBase, hplan]; rfl
  rw [(frame_selfTested s q).part .sch, raise_sch, hbase]

/-- The record and the frame of a return that puts a unit, or its lane, back. -/
theorem returned_done {s u : State} (n : Nat) (hrun : coreRun s = true) (hl : u.log = (returnNoted s n).log) (ho : u.out = s.out) :
    Raised [(0xA050, 6, n, [n, 3])] s (settle s (endWrite .host 0xB00C (u, 0))) ∧ Ended .host s (settle s (endWrite .host 0xB00C (u, 0))) := by
  refine ⟨?_, ended_of_out ho⟩
  rw [Raised, settle_log, endWrite_log, hl, returnNoted, raise_raised _ _ _ _ _ hrun]
  rfl

theorem frame_returnNoted (s : State) (u : Nat) : Frame [.log] (· = 0xC180) s (returnNoted s u) := frame_raise s _ _ _ _

theorem frame_queuedBehind (s : State) (u : Nat) (ret : Bool) : Frame [.flt] (fun _ => False) s (queuedBehind s u ret) := frame_withFlt s _

theorem endWrite_flt (s : State) (req : Req) (off : Nat) : (endWrite req off (s, 0)).flt = s.flt := by rw [endWrite_done]; split <;> rfl
theorem endWrite_lanes (s : State) (req : Req) (off : Nat) : (endWrite req off (s, 0)).lanes = s.lanes := by rw [endWrite_done]; split <;> rfl

/-- Settles O32: a test passed, a lane retired, the unit commands, and units that agree. -/
theorem faultHandlingComplete : Obligations.FaultHandlingComplete := by
  refine ⟨?_, ?_, ?_, ?_, ?_, ?_, ?_⟩
  · intro s r q hrun hup ht hu h31 hpass hm hsec hrec hq hdis
    refine completes_of (u := selfTestEnd s r) rfl ?_
    rw [selfTestEnd_passed hrun hup ht hu h31 hpass hm hsec hrec hq hdis]
    obtain ⟨htest, hqueue, hunits⟩ := selfTested_flt s q
    have hown : fUnit (selfTested s q) q.unit = passedUnit s q (fUnit s q.unit) := (hunits _).trans (fUnit_setUnit s hu _)
    have hraised := raised_passed hrun q
    refine ⟨by rw [settle_flt]; exact htest, by rw [settle_flt]; exact hqueue.trans hq, by rw [fUnit_settle, hown]; rfl, by rw [fUnit_settle, hown]; rfl, ?_, ?_,
      counted_settle (by decide) (counted_selfTested s q), fun h => by rw [settle_sch]; exact selfTested_sch h, frame_settle (frame_selfTested_whole s q)⟩
    · intro u hne
      rw [fUnit_settle, hunits, fUnit_setUnit_get, if_neg (fun h => hne h.1)]
    · rw [Raised, settle_log]; exact hraised
  · intro s l hret hsent hat hd
    refine completes_of (u := laneRetireDone s l) rfl ?_
    have heq : laneRetireDone s l = retireLane s l s.lanes[l].retCause (fUnit s l.val).code :=
      (if_pos (by simp only [hret, hsent, hat, decide_true, Bool.and_self])).trans (if_pos hd)
    rw [heq]
    obtain ⟨hlanes, hreq, hheld, hframe⟩ := retired_lane s l s.lanes[l].retCause (fUnit s l.val).code
    have hstate := reqState_retired (s := settle s (retireLane s l s.lanes[l].retCause (fUnit s l.val).code)) (l := l) (by rw [fUnit_settle]; exact hreq)
    rw [coreRun_of_frame (frame_settle hframe)] at hstate
    refine ⟨?_, fun m hne => ?_, by rw [fUnit_settle]; exact hreq, by rw [fUnit_settle]; exact hheld, hstate, frame_settle hframe⟩
    · rw [settle_lanes, hlanes]; exact lane_same s l _
    · rw [settle_lanes, hlanes]; exact lane_other s hne _
  · intro s v u hcmd ha hr hq
    refine completes_of (u := regCommand s .host 0xB00C 0xF v false) rfl ?_
    rw [regCommand_unitCmd hcmd, unitCmd_test hcmd, unitTest_queues ha hr hq]
    exact ⟨by rw [settle_flt, endWrite_flt]; rfl, ended_of_out rfl,
      frame_settle (((frame_queuedBehind s u false).within).andThen (frame_endWrite_done _ _ _))⟩
  · intro s v l hcmd hr hq hd
    refine completes_of (u := regCommand s .host 0xB00C 0xF v false) rfl ?_
    rw [regCommand_unitCmd hcmd, unitCmd_retire hcmd hr, laneRetire_begins hq hd]
    have hframe : Frame [.lanes, .flt, .out] (fun _ => False) s (retireAsked s l) :=
      ((frame_setUnit s l.val _).within).andThen (Q := [.lanes]) (S := fun _ => False) (frame_setLane (keepCode s l 0) l _)
    refine ⟨?_, fun m hne => ?_, by rw [settle_flt, endWrite_flt]; rfl, ended_of_out rfl, frame_settle (hframe.andThen (frame_endWrite_done _ _ _))⟩
    · rw [settle_lanes, endWrite_lanes]; exact lane_same (keepCode s l 0) l _
    · rw [settle_lanes, endWrite_lanes]; exact lane_other (keepCode s l 0) hne _
  · intro s v u row hcmd ha h4 hheld hq hrow
    refine completes_of (u := regCommand s .host 0xB00C 0xF v false) rfl ?_
    rw [regCommand_unitCmd hcmd, unitCmd_return hcmd, unitReturn_unit ha h4 hheld hq hrow]
    have hflt : (returnNoted s u).flt = s.flt := raise_flt _ _ _ _ _
    obtain ⟨hraised, hended⟩ := returned_done (u := queuedBehind (rowChosen (returnNoted s u) row) u true) u (coreRun_of_unitCmd hcmd) rfl (raise_out _ _ _ _ _)
    have hframe : Frame [.flt, .log, .out] (· = 0xC180) s (queuedBehind (rowChosen (returnNoted s u) row) u true) :=
      (((frame_returnNoted s u).within (Q := [.flt, .log, .out]) (S := (· = 0xC180))).andThen (frame_withFlt (returnNoted s u) _)).andThen
        (frame_queuedBehind (rowChosen (returnNoted s u) row) u true)
    refine ⟨?_, hraised, hended, frame_settle (hframe.andThen (frame_endWrite_done _ _ _))⟩
    rw [settle_flt, endWrite_flt, queuedBehind, rowChosen, hflt]
  · intro s v l hcmd hreq hst hq
    refine completes_of (u := regCommand s .host 0xB00C 0xF v false) rfl ?_
    rw [regCommand_unitCmd hcmd, unitCmd_return hcmd, unitReturn_lane hreq hst hq]
    have hflt : (returnNoted s l.val).flt = s.flt := raise_flt _ _ _ _ _
    have hlanes : (returnNoted s l.val).lanes = s.lanes := raise_lanes _ _ _ _ _
    obtain ⟨hraised, hended⟩ := returned_done (u := queuedBehind (setLane (returnNoted s l.val) l toDetect) l.val true) l.val (coreRun_of_unitCmd hcmd) rfl (raise_out _ _ _ _ _)
    have hframe : Frame [.lanes, .flt, .log, .out] (· = 0xC180) s (queuedBehind (setLane (returnNoted s l.val) l toDetect) l.val true) :=
      (((frame_returnNoted s l.val).within (Q := [.lanes, .flt, .log, .out]) (S := (· = 0xC180))).andThen (frame_setLane (returnNoted s l.val) l toDetect)).andThen
        (frame_queuedBehind (setLane (returnNoted s l.val) l toDetect) l.val true)
    refine ⟨?_, fun m hne => ?_, ?_, hraised, hended, frame_settle (hframe.andThen (frame_endWrite_done _ _ _))⟩
    · rw [settle_lanes, endWrite_lanes]; exact congrArg Lane.st (lane_same (returnNoted s l.val) l toDetect)
    · rw [settle_lanes, endWrite_lanes]; exact (lane_other (returnNoted s l.val) hne toDetect).trans (by rw [hlanes])
    · rw [settle_flt, endWrite_flt, queuedBehind, if_neg (by omega), setLane_flt, hflt]
  · intro s hrun h
    refine completes_of (u := disagreeCheck s) rfl ?_
    obtain ⟨hqueue, htest, hframe, hunits⟩ := compared_units (List.range 50) (s := s) fun u hm ha => h ⟨u, List.mem_range.1 hm⟩ ha
    rw [show disagreeCheck s = (List.range 50).foldl disagreeUnit s from if_pos hrun]
    refine ⟨fun u ha => ?_, by rw [settle_flt]; exact hqueue, by rw [settle_flt]; exact htest, frame_settle hframe⟩
    obtain ⟨hdis, hdone⟩ := hunits u.val u.isLt
    obtain ⟨h0, hH⟩ := hdone (.inr ⟨List.mem_range.2 u.isLt, ha⟩)
    rw [fUnit_settle]
    exact ⟨h0, hH, hdis⟩

end Sys2Proof.Faulty

end

section
/-! SUPPORT. Inauguration's registers and the ETB node (R139, R144, R146, R417): reports of the own node, and what the leader does with them. -/

namespace Sys2Proof.Topology

open Sys2Proof.Machine Sys2Proof.Safety Sys2Proof.Registers Sys2Proof.Traffic Sys2Proof.Lanes Sys2Proof.Telemetry Sys2Proof.Recorder Sys2Proof.Bridge Sys2Proof.Instant

-- Elaborated by itself, so that the proofs before it are checked before those after it begin: this bounds the memory that proofs under way take at once.
set_option Elab.async false in
theorem inaug_same (s : State) (g : Fin 2) (f : Inaug → Inaug) : (setInaug s g f).inaug[g] = f s.inaug[g] := setInaug_same s g f

theorem inaug_other (s : State) {g k : Fin 2} (h : k ≠ g) (f : Inaug → Inaug) : (setInaug s g f).inaug[k] = s.inaug[k] :=
  setInaug_other s g f k.val k.isLt (fun e => h (Fin.ext e))

/-! ### Control frames that are no TOKEN -/

theorem byteAt_dawnFrame (s : State) (g : Fin 2) (dtype : Nat) (dest : Bytes) (hops : Nat) (p : Bytes) : byteAt (dawnFrame s g dtype dest hops p) 0 = 2 := rfl

/-- The control frames that wait, and nothing else of the schedule. -/
def CtlOnly (s t : State) : Prop := t.sch = { s.sch with ctl := t.sch.ctl }

/-- What a sound control frame that is no TOKEN may touch as it is queued. -/
theorem queueCtl_sound {s : State} {f : Bytes} (hsound : unsound f = false) (hkind : byteAt f 0 ≠ 3) (fore aft : Bool) :
    Frame [.out, .sch, .sw, .log] SendCounts s (queueCtl s f fore aft) ∧ CtlOnly s (queueCtl s f fore aft) := by
  have hport (u : State) (p : Port) (b : Bool) : Frame [.out, .sw, .log] SendCounts u (if b then sendPort u p f else u) :=
    frame_ite ((frame_sendPort u p f).within (hr := fun _ => sendsOf_sound hsound)) (frame_refl _ _ u)
  have hsent (c : Ctl) (hc : c.frame = f) : Frame [.out, .sw, .log] SendCounts s (ctlSent s c) := by
    subst hc
    unfold ctlSent
    dsimp only
    rw [tokenLeft_other hkind]
    exact frame_trans (hport s .fore _) (hport _ .aft _)
  have hqueued : Frame [.out, .sch, .sw, .log] SendCounts s
      { s with sch := { s.sch with ctl := s.sch.ctl ++ [{ frame := f, fore := fore, aft := aft }] } } := (frame_withSch s _).within
  have hstart : Frame [.out, .sch, .sw, .log] SendCounts s (startNow s { frame := f, fore := fore, aft := aft }) ∧
      CtlOnly s (startNow s { frame := f, fore := fore, aft := aft }) := by
    have h := hsent { frame := f, fore := fore, aft := aft } rfl
    have hsch : (ctlSent s { frame := f, fore := fore, aft := aft }).sch = s.sch := h.part .sch
    rw [startNow_eq]
    generalize ctlSent s { frame := f, fore := fore, aft := aft } = u at *
    split
    · refine ⟨((h.within (Q := [.out, .sch, .sw, .log]) (hr := fun _ h => h)).andThen (frame_withSch u _)).andThen (frame_bumpSch _ 10)
        (hr := fun _ h => .inr (.inr (.inr (.inl h)))), ?_⟩
      exact congrArg (fun x : Sched => { x with ctl := (ctlKept s { frame := f, fore := fore, aft := aft } u).sch.ctl }) hsch
    · exact ⟨h.within (hr := fun _ h => h), by rw [CtlOnly, hsch]⟩
  unfold queueCtl
  dsimp only
  split
  · exact hstart
  split
  · exact ⟨hqueued, rfl⟩
  · exact ⟨frame_refl _ _ s, rfl⟩

/-! ### The leader (R139) -/

/-- The leader has changed its function of a segment, and nothing of the other segment's. -/
def Leads (g : Fin 2) (s t : State) : Prop := Frame [.inaug, .log] (· = 0xC180) s t ∧ ∀ k : Fin 2, k ≠ g → t.inaug[k] = s.inaug[k]

theorem leads_refl (g : Fin 2) (s : State) : Leads g s s := ⟨frame_refl _ _ s, fun _ _ => rfl⟩

theorem Leads.then {g : Fin 2} {s t u : State} (h : Leads g s t) (k : Leads g t u) : Leads g s u :=
  ⟨frame_trans h.1 k.1, fun n hn => (k.2 n hn).trans (h.2 n hn)⟩

theorem leads_setInaug (s : State) (g : Fin 2) (f : Inaug → Inaug) : Leads g s (setInaug s g f) :=
  ⟨(frame_setInaug s g f).within, fun _ hk => inaug_other s hk f⟩

theorem leads_topEvent (s : State) (g h : Fin 2) (code sev : Nat) (vals : List Nat) : Leads g s (topEvent s h code sev vals) :=
  ⟨(frame_raiseSeg s _ _ _ _ _).within, fun k _ => congrArg (fun x : Vector Inaug 2 => x[k]) (raiseSeg_inaug s _ _ _ _ _)⟩

theorem leads_addChange (s : State) (g : Fin 2) (c : Change) : Leads g s (addChange s g c) := by
  unfold addChange
  split
  · exact leads_refl g s
  · exact leads_setInaug s g _

/-- Why a replan cannot be taken, 0 where it can (R139). -/
def replanReason (s : State) (g : Fin 2) : Nat :=
  if s.inaug[g].st != .settled then 1
  else if s.inaug[g].pending.isSome || s.inaug[g].issue.isSome || !s.inaug[g].changes.isEmpty || s.inaug[g].reorder then 2
  else if s.line.node == .drain then 4 else 0

theorem leaderReplan_eq (s : State) (g : Fin 2) (src handle : Nat) : leaderReplan s g src handle =
    if replanReason s g = 0 then addChange (setInaug s g (fun x => { x with repSrc := src, repHandle := handle })) g { kind := 128, src := src }
    else topEvent s g 0x3021 1 [replanReason s g, src, handle] := rfl

theorem leads_leaderReplan (s : State) (g : Fin 2) (src handle : Nat) : Leads g s (leaderReplan s g src handle) := by
  rw [leaderReplan_eq]
  split
  · exact (leads_setInaug s g _).then (leads_addChange _ g _)
  · exact leads_topEvent s g g _ _ _

theorem leads_leaderReport (s : State) (g : Fin 2) (bodies : List RepBody) : Leads g s (leaderReport s g bodies) := by
  have hetb := leads_setInaug s g (fun x => { x with etb := noteEtb x.etb bodies })
  unfold leaderReport
  dsimp only
  generalize setInaug s g (fun x => { x with etb := noteEtb x.etb bodies }) = u at *
  refine hetb.then ?_
  split
  · exact leads_refl g u
  split
  · split
    · exact leads_refl g u
    · exact leads_addChange u g _
  split
  · exact leads_leaderReplan u g _ _
  split
  · exact leads_setInaug u g _
  split
  · exact leads_refl g u
  split
  · split
    · exact (leads_setInaug u g _).then (leads_addChange _ g _)
    · exact leads_setInaug u g _
  split
  · exact leads_addChange u g _
  split
  · exact leads_addChange u g _
  · exact leads_refl g u

/-! ### The own report (R146) -/

/-- A node's own report has gone to the leader, or is owed; of the schedule only the control frames that wait have changed. -/
def Reports (g : Fin 2) (s t : State) : Prop :=
  Frame [.inaug, .out, .sch, .sw, .log] SendCounts s t ∧ CtlOnly s t ∧ ∀ k : Fin 2, k ≠ g → t.inaug[k] = s.inaug[k]

theorem reports_of_leads {g : Fin 2} {s t : State} (h : Leads g s t) : Reports g s t := by
  refine ⟨h.1.within (hr := fun _ h => h ▸ sendCounts_event), ?_, h.2⟩
  have hsch : t.sch = s.sch := h.1.part .sch
  rw [CtlOnly, hsch]

theorem unsound_dawnFrame (s : State) (g : Fin 2) (dtype : Nat) (dest : Bytes) (hops : Nat) {p : Bytes} (h : p.length < 65536) :
    unsound (dawnFrame s g dtype dest hops p) = false := unsound_mkFrame _ p h

theorem length_ownPayload (r : RunId) (epoch : Nat) (b : RepBody) : (reportPayload r epoch [b]).length = 32 := by
  simp [reportPayload, dawnCommon, repBytes]

theorem reports_reportUp (s : State) (g : Fin 2) (b : RepBody) : Reports g s (reportUp s g [b]) := by
  unfold reportUp
  split
  · exact reports_of_leads (leads_leaderReport s g [b])
  split
  next l _ =>
    have hp : (reportPayload (tableRun s g) s.inaug[g].epoch [b]).length < 65536 := by rw [length_ownPayload]; decide
    obtain ⟨hframe, hsch⟩ := queueCtl_sound (s := s) (unsound_dawnFrame s g 0 [BitVec.ofNat 8 l.handle] 0 hp)
      (by rw [byteAt_dawnFrame]; decide) (segLinked s g .fore && !freshPort s .fore) (segLinked s g .aft && !freshPort s .aft)
    exact ⟨hframe.within (hr := fun _ h => h), hsch, fun k _ => congrArg (fun x : Vector Inaug 2 => x[k]) (hframe.part .inaug)⟩
  · exact reports_of_leads (leads_refl g s)

theorem reports_reportOwn (s : State) (g : Fin 2) (replan : Bool) (src : Nat) : Reports g s (reportOwn s g replan src) := by
  unfold reportOwn
  split
  · exact reports_of_leads (leads_refl g s)
  split
  · exact reports_reportUp s g _
  · exact reports_of_leads (leads_setInaug s g _)

/-- A node in a run owes its report. -/
theorem reportOwn_owes {s : State} {g : Fin 2} (h : s.inaug[g].st = .conduct ∨ s.inaug[g].st = .follow ∨ s.inaug[g].st = .joining) (replan : Bool)
    (src : Nat) : (reportOwn s g replan src).inaug[g] = { s.inaug[g] with owes := true } := by
  have hin : ¬ (s.inaug[g].st == .idle || s.inaug[g].st == .listen) = true := by
    rcases h with h | h | h <;> rw [h] <;> exact Bool.false_ne_true
  have hset : ¬ (dawnUp s && s.inaug[g].st == .settled) = true := by
    rw [Bool.and_eq_true, not_and_or]
    right
    rcases h with h | h | h <;> rw [h] <;> exact Bool.false_ne_true
  unfold reportOwn
  rw [if_neg hin, if_neg hset]
  exact inaug_same s g _

/-! ### TOP_LEAD and TOP_CMD (R139, R146) -/

theorem frame_noteWrite (s : State) (off : Nat) (v : Word) : Frame [.boot] (fun _ => False) s (noteWrite s off v) :=
  frame_ite frame_of_regs (frame_refl _ _ s)

/-- TOP_LEAD as written. -/
def leadStored (s : State) (w : Word) : State := setReg (noteWrite s 0x2004 w) 0x2004 (BitVec.ofNat 32 (w.toNat % 4))

theorem regCommand_topLead {s : State} {req : Req} {be : BitVec 4} (h : Reaches req 0x2004 be s) (v : Word) :
    regCommand s req 0x2004 be v false =
      endWrite req 0x2004 (reportOwn (reportOwn (leadStored s (rwMerge s 0x2004 be v)) 0 false 0) 1 false 0, 0) :=
  regCommand_block h v false (by decide) fun hc => absurd hc (by decide)

theorem frame_leadStored (s : State) (w : Word) : Frame [.boot] (· = 0x2004) s (leadStored s w) :=
  ((frame_noteWrite s 0x2004 w).within).andThen (frame_setReg _ _ _)

theorem Reports.then_other {g h : Fin 2} {s t u : State} (a : Reports g s t) (b : Reports h t u) :
    Frame [.inaug, .out, .sch, .sw, .log] SendCounts s u ∧ CtlOnly s u := by
  obtain ⟨af, asch, -⟩ := a
  obtain ⟨bf, bsch, -⟩ := b
  refine ⟨frame_trans af bf, ?_⟩
  rw [CtlOnly, bsch, asch]

/-- A replan asked for by the host, taken by the leader. -/
def replanTaken (s : State) : State :=
  setInaug (setInaug s 0 (fun x => { x with repSrc := 3, repHandle := ownHandle s 0 })) 0 (fun x => { x with changes := x.changes ++ [{ kind := 128, src := 3 }] })

theorem topCmd_replans {s : State} {v : Word} (h0 : bitAt v 0 = true) (hmagic : fld v 31 16 = 0x7E9D) (hen : regB s 0x2000 10 = true) (hgw : segGw s = false)
    (hup : dawnUp s = true) (hreorder : s.inaug[(0 : Fin 2)].reorder = false) (hst : s.inaug[(0 : Fin 2)].st = .settled) (hlead : isLeader s 0 = true)
    (hpend : s.inaug[(0 : Fin 2)].pending = none) (hissue : s.inaug[(0 : Fin 2)].issue = none) (hchanges : s.inaug[(0 : Fin 2)].changes = [])
    (hnode : s.line.node = .run) : topCmd s 3 v = replanTaken s := by
  have hreason : replanReason s 0 = 0 := by
    unfold replanReason
    rw [hst, hpend, hissue, hchanges, hreorder, hnode]
    rfl
  have hcontains : (setInaug s 0 (fun x => { x with repSrc := 3, repHandle := ownHandle s 0 })).inaug[(0 : Fin 2)].changes.contains { kind := 128, src := 3 } = false := by
    rw [inaug_same]
    exact (congrArg (fun l : List Change => l.contains { kind := 128, src := 3 }) hchanges).trans rfl
  obtain ⟨hrun, hmgmt⟩ : coreRun s = true ∧ s.flt.mgmtDown = false := by simpa [dawnUp] using hup
  have hreplan : leaderReplan s 0 3 (ownHandle s 0) = replanTaken s := by
    rw [leaderReplan_eq, if_pos hreason]
    exact if_neg (by rw [hcontains]; exact Bool.false_ne_true)
  have hsettled : ¬ (s.inaug[(0 : Fin 2)].st != .settled) = true := by rw [hst]; decide
  have hdrain : ¬ (s.line.node == .drain) = true := by rw [hnode]; decide
  have hrequest : requestReplan s 0 3 = replanTaken s := by
    unfold requestReplan dawnOr
    simp only [hrun, hmgmt, hlead, Bool.not_true, Bool.false_eq_true, if_false, if_neg hsettled, if_neg hdrain, if_true]
    exact hreplan
  unfold topCmd
  simp only [hgw, Bool.false_and, Bool.false_eq_true, if_false, h0, hmagic, hen, or_true, and_self, if_true]
  exact hrequest

/-! ### Windows (R146, R417) -/

theorem fld_low_byte (w : Word) : fld w 7 0 = (w &&& 0xFF).toNat := by
  rw [fld, BitVec.toNat_and]
  exact (Nat.and_two_pow_sub_one_eq_mod _ 8).symm

theorem fld_wd {n : Nat} (h : n < 1024) : fld (wd n) 9 0 = n := by
  simp [fld, wd]
  omega

/-- The low byte of a merge comes from the low byte written. -/
theorem mergeBe_low_byte (be : BitVec 4) (old v : Word) : fld (mergeBe be old (v &&& 0xFF)) 7 0 = fld (mergeBe be old v) 7 0 := by
  rw [fld_low_byte, fld_low_byte]
  congr 1
  ext i hi
  simp only [mergeBe, BitVec.getElem_and, BitVec.getElem_or]
  cases (v[i]) <;> cases ((0xFF : Word)[i]) <;> simp

theorem length_tentWords (s : State) (n : Nat) : (tentWords s n).length = 4 := by
  unfold tentWords
  dsimp only
  split <;> rfl

theorem endWrite_sch (s : State) (req : Req) (off : Nat) : (endWrite req off (s, 0)).sch = s.sch := by rw [endWrite_done]; split <;> rfl
theorem endWrite_inaug (s : State) (req : Req) (off : Nat) : (endWrite req off (s, 0)).inaug = s.inaug := by rw [endWrite_done]; split <;> rfl

/-- The index of the ETB directory advanced. -/
theorem readEffect_etbData (s : State) (req : Req) :
    readEffect s req 0x206C = setLatch s req 0x2068 [wd ((fld (getLatch s req 0x2068) 9 0 + 1) % 1024)] := rfl

/-! ### The ETB node (R144) -/

/-- A TTDP frame taken: its octets, and the results of the standard's inauguration. -/
def ttdpTaken (s : State) (f : TtdpFrame) : Etb :=
  let arg := f.topology.toNat :: f.bytes.map BitVec.toNat
  { s.etb with
    heard := f.bytes :: s.etb.heard, inaug := Config.standardNat 1 (s.free :: s.etb.inaug :: arg), topo := Config.standardNat 2 (s.free :: arg) % 2 ^ 32
    nodes := Config.standardNat 3 (s.free :: arg) % 256, ownId := 1 + Config.standardNat 4 (s.free :: arg) % 63
    st := if f.topology then 2 else s.etb.st
    dir := if f.topology then (List.range (Config.standardNat 5 (s.free :: arg) % 1024)).map (fun i => BitVec.ofNat 32 (Config.standardNat 6 (s.free :: i :: arg)))
      else s.etb.dir }

/-- The neighbour is no longer heard. -/
def ttdpLost (s : State) : Etb :=
  { s.etb with heard := [], st := 1, nodes := 0, dir := [], inaug := Config.standardNat 7 [s.free, s.etb.inaug] }

/-- The ETB node as given, a free value taken; a new inauguration counter is recorded. -/
def etbSet (s : State) (e : Etb) : State :=
  let t : State := { takeFree s with etb := e }
  if e.inaug % 256 = s.etb.inaug % 256 then t else topEvent t 0 0x3040 1 [e.inaug]

theorem frame_etbSet (s : State) (e : Etb) : Frame [.etb, .free, .log] (· = 0xC180) s (etbSet s e) := by
  have hset : Frame [.etb, .free, .log] (· = 0xC180) s { takeFree s with etb := e } := frame_of_regs
  exact frame_ite hset (hset.andThen (frame_raiseSeg _ _ _ _ _ _))

theorem etbSet_parts (s : State) (e : Etb) : (etbSet s e).etb = e ∧ (etbSet s e).free = s.free + 1 := by
  unfold etbSet
  dsimp only
  split
  · exact ⟨rfl, rfl⟩
  · exact ⟨raiseSeg_etb _ _ _ _ _ _, raiseSeg_free _ _ _ _ _ _⟩

theorem etb_takes {s : State} (hon : etbOn s = true) (h0 : s.etb.st ≠ 0) (h3 : s.etb.st ≠ 3) : (etbOn s && s.etb.st != 3 && s.etb.st != 0) = true := by
  simp [hon, h0, h3]

/-- Settles O14: TOP_LEAD by the two reports, REPLAN by the leader's change, the windows by their latches, and the ETB node's frames. -/
theorem topologyRegistersAndEtbComplete : Obligations.TopologyRegistersAndEtbComplete := by
  refine ⟨?_, ?_, ?_, ?_, ?_, ?_, ?_⟩
  · intro s req be v hreach
    refine completes_of (u := regCommand s req 0x2004 be v false) rfl ?_
    rw [regCommand_topLead hreach]
    have hstored := frame_leadStored s (rwMerge s 0x2004 be v)
    have hword : reg (leadStored s (rwMerge s 0x2004 be v)) 0x2004 = BitVec.ofNat 32 ((rwMerge s 0x2004 be v).toNat % 4) := by
      rw [leadStored, reg_setReg, if_pos rfl]
    generalize leadStored s (rwMerge s 0x2004 be v) = a at *
    have hinaug : a.inaug = s.inaug := hstored.part .inaug
    have hsch : a.sch = s.sch := hstored.part .sch
    have h0 := reports_reportOwn a 0 false 0
    have howes0 := fun h => reportOwn_owes (s := a) (g := 0) h false 0
    generalize reportOwn a 0 false 0 = b at *
    have h1 := reports_reportOwn b 1 false 0
    have howes1 := fun h => reportOwn_owes (s := b) (g := 1) h false 0
    generalize reportOwn b 1 false 0 = c at *
    obtain ⟨hframe, hctl⟩ := h0.then_other h1
    obtain ⟨-, -, hother0⟩ := h0
    obtain ⟨-, -, hother1⟩ := h1
    have hb1 : b.inaug[(1 : Fin 2)] = s.inaug[(1 : Fin 2)] := (hother0 1 (by decide)).trans (by rw [hinaug])
    refine ⟨?_, fun g hg => ?_, ?_, ?_⟩
    · rw [reg_settle_ne _ _ (by decide), reg_endWrite, hframe.reg (by unfold SendCounts LaneTx; decide), hword]
    · rw [settle_inaug, endWrite_inaug]
      match g with
      | 0 =>
        rw [hother1 0 (by decide), howes0 (by rw [hinaug]; exact hg), hinaug]
      | 1 =>
        rw [howes1 (by rw [hb1]; exact hg), hb1]
    · rw [settle_sch, endWrite_sch, hctl, hsch]
    · refine frame_settle (Frame.andThen ?_ (frame_endWrite_done _ _ _))
      exact (hstored.within (Q := [.inaug, .boot] ++ [.out, .sch, .sw, .log]) (S := fun o => o = 0x2004 ∨ SendCounts o) (hr := fun _ h => .inl h)).andThen hframe
        (hr := fun _ h => .inr h)
  · intro s v hreach h0 hmagic hen hgw hup hreorder hst hlead hpend hissue hchanges hnode
    have hw : writeBlock s .host 0x2008 0xF v false = (topCmd s 3 (maskBe 0xF v), 0) := rfl
    refine completes_of (u := regCommand s .host 0x2008 0xF v false) rfl ?_
    rw [regCommand_block hreach v false (by decide) (fun _ => rfl), hw, maskBe_full,
      topCmd_replans h0 hmagic hen hgw hup hreorder hst hlead hpend hissue hchanges hnode, settle_inaug, endWrite_inaug]
    have hframe : Frame [.inaug, .out] (fun _ => False) s (replanTaken s) :=
      ((frame_setInaug s 0 _).within).andThen (frame_setInaug _ 0 _)
    have hown : (replanTaken s).inaug[(0 : Fin 2)] = { s.inaug[(0 : Fin 2)] with
        repSrc := 3, repHandle := ownHandle s 0, changes := s.inaug[(0 : Fin 2)].changes ++ [{ kind := 128, src := 3 }] } := by
      rw [replanTaken, inaug_same, inaug_same]
    rw [hown]
    exact ⟨by rw [hchanges]; rfl, rfl, rfl, rfl, (inaug_other _ (by decide) _).trans (inaug_other s (by decide) _), ended_of_out rfl,
      frame_settle (hframe.andThen (frame_endWrite_done _ _ _))⟩
  · intro s req be v n hreach hn
    have hidx : fld (getLatch (setIdx s req 0x2020 be (v &&& 0xFF)) req 0x2020) 7 0 = n := by
      rw [getLatch_setIdx, mergeBe_low_byte, hn]
    have hwords : tentWords (setIdx s req 0x2020 be (v &&& 0xFF)) n = tentWords s n := by cases req <;> rfl
    have hw : writeBlock s req 0x2020 be v false = (windowed s req 0x2020 0x2024 be (v &&& 0xFF) (tentWords s n), 0) := by
      rw [← hwords, ← hidx]
      rfl
    refine completes_of (u := regCommand s req 0x2020 be v false) rfl ?_
    rw [regCommand_block hreach v false (by decide) (fun hc => absurd hc (by decide)), hw]
    obtain ⟨hended, hlatch, hframe⟩ := window_done (req := req) (off := 0x2020) (frame_windowed s req 0x2020 0x2024 be (v &&& 0xFF) (tentWords s n)) (by decide)
    refine ⟨?_, fun i => ?_, hended, hframe⟩
    · rw [hlatch, windowed_idx _ _ _ _ (by decide), mergeBe_low_byte, hn]
    · rw [hlatch]
      exact windowed_word _ _ _ _ _ _ (by rw [length_tentWords]; exact i.isLt)
  · intro s req halive
    refine completes_of (u := regReadCommand s req 0x206C) rfl ⟨?_, read_out halive ?_, frame_read halive (by decide) ?_⟩
    · rw [getLatch_read halive, readEffect_etbData]
      exact (congrArg (fld · 9 0) (getLatch_setLatch s req 0x2068 [wd _] (i := 0) Nat.one_pos)).trans (fld_wd (Nat.mod_lt _ (by decide)))
    · rw [readEffect_etbData]
      exact setLatch_out _ _ _ _
    · rw [readEffect_etbData]
      exact (frame_setLatch _ _ _ _).within
  · intro s f hon h0 h3
    refine completes_of (u := etbFrameRx s f) rfl ?_
    rw [show etbFrameRx s f = etbSet s (ttdpTaken s f) from if_pos (etb_takes hon h0 h3)]
    obtain ⟨hetb, hfree⟩ := etbSet_parts s (ttdpTaken s f)
    exact ⟨by rw [settle_etb, hetb]; rfl, by rw [settle_etb, hetb]; rfl, by rw [settle_free]; exact hfree, by rw [settle_inaug, (frame_etbSet s _).part .inaug],
      frame_settle (frame_etbSet s _)⟩
  · intro s hon h0 h3
    refine completes_of (u := etbHelloTimer s) rfl ?_
    rw [show etbHelloTimer s = emit (takeFree s) (.eth (20 + etbLane s) ((List.range 64).map (Config.standardByte 1 [s.free]))) from
      if_pos (etb_takes hon h0 h3)]
    exact ⟨⟨_, by rw [settle_out]; rfl⟩, frame_settle (((frame_takeFree s).within).andThen (frame_emit _ _))⟩
  · intro s hon h0 h3
    refine completes_of (u := ttdpHelloTimeout s) rfl ?_
    rw [show ttdpHelloTimeout s = etbSet s (ttdpLost s) from if_pos (etb_takes hon h0 h3)]
    obtain ⟨hetb, -⟩ := etbSet_parts s (ttdpLost s)
    rw [settle_etb, hetb]
    exact ⟨rfl, rfl, rfl, rfl, frame_settle (frame_etbSet s _)⟩

end Sys2Proof.Topology

end

section
/-! SUPPORT. A calm step: it may queue, send, time and record, but leaves the phase, the line feed, the lanes' configuration and every lane, its seam flags
at most excepted. The outputs of the switch (R212, R222, R227, R228). -/

namespace Sys2Proof.Quiet

open Sys2Proof.Machine Sys2Proof.Safety Sys2Proof.Registers Sys2Proof.Traffic Sys2Proof.Faulty Sys2Proof.Lanes Sys2Proof.Topology

/-! ### Calm steps -/

/-- The words of calm steps: those beyond the lanes' block, and of a lane the frames sent and stomped. -/
def Busy (off : Nat) : Prop := 0x2000 ≤ off ∨ ∃ l : Fin 4, off = 0x1138 + 0x100 * l.val ∨ off = 0x114C + 0x100 * l.val

/-- The parts of calm steps beside the lanes. -/
abbrev calmParts : List Part := [.sw, .log, .out, .flt, .can, .hb, .sch, .snuf, .inaug, .tb, .sg, .etb]

/-- A lane is as it was, its seam flags excepted where the step may take the port on or off the seam. -/
def LaneKept (seam : Bool) (x y : Lane) : Prop := y = x ∨ (seam = true ∧ ∃ a b, y = { x with seam := a, seamWas := b })

/-- A calm step. -/
def Calm (seam : Bool) (s t : State) : Prop := Frame (.lanes :: calmParts) Busy s t ∧ ∀ k : Fin 4, LaneKept seam s.lanes[k] t.lanes[k]

variable {seam : Bool} {s t u : State}

-- Elaborated by itself, so that the proofs before it are checked before those after it begin: this bounds the memory that proofs under way take at once.
set_option Elab.async false in
theorem calm_refl (s : State) : Calm seam s s := ⟨frame_refl _ _ s, fun _ => .inl rfl⟩

theorem Calm.then (h : Calm seam s t) (g : Calm seam t u) : Calm seam s u := by
  refine ⟨frame_trans h.1 g.1, fun k => ?_⟩
  rcases g.2 k with e | ⟨hs, a, b, e⟩
  · rw [e]; exact h.2 k
  · rcases h.2 k with e' | ⟨-, _, _, e'⟩
    · exact .inr ⟨hs, a, b, by rw [e, e']⟩
    · exact .inr ⟨hs, a, b, by rw [e, e']⟩

/-- A step that leaves the lanes and stays within the parts and words is calm. -/
theorem calm_of_frame {P : List Part} {R : Nat → Prop} (h : Frame P R s t) (hr : ∀ o, R o → Busy o := by simp) (hp : P ⊆ calmParts := by decide +kernel) :
    Calm seam s t := by
  have hframe : Frame calmParts Busy s t := frame_mono h (fun _ hm => hp hm) hr
  have hlanes : t.lanes = s.lanes := hframe.part .lanes
  exact ⟨hframe.within (hr := fun _ h => h), fun k => .inl (by rw [hlanes])⟩

theorem Calm.wider (h : Calm false s t) : Calm seam s t :=
  ⟨h.1, fun k => .inl ((h.2 k).resolve_right fun e => nomatch e.1)⟩

theorem calm_foldl {α : Type} {f : State → α → State} (h : ∀ s x, Calm seam s (f s x)) (l : List α) (s : State) : Calm seam s (l.foldl f s) := by
  induction l generalizing s with
  | nil => exact calm_refl s
  | cons x l ih => exact (h s x).then (ih _)

theorem calm_ite {c : Prop} [Decidable c] (h : Calm seam s t) (g : Calm seam s u) : Calm seam s (if c then t else u) := by
  split
  · exact h
  · exact g

theorem busy_event {o : Nat} (h : o = 0xC180) : Busy o := .inl (by omega)

theorem busy_sends {f : Bytes} {o : Nat} (h : SendsOf f o) : Busy o := by
  rcases h with h | ⟨-, l, h⟩
  · simp only [SendCounts, LaneTx, inGroup_iff] at h
    rcases h with h | h | h | h | h
    · exact .inr ⟨⟨(o - 0x114C) / 0x100, by omega⟩, .inr (by simp only; omega)⟩
    all_goals exact .inl (by omega)
  · exact .inr ⟨l, .inl h⟩

theorem busy_counts {o : Nat} (h : SendCounts o) : Busy o := busy_sends (f := []) (.inl h)

theorem busy_fault {o : Nat} (h : FaultWords o) : Busy o := .inl (by unfold FaultWords at h; omega)

theorem busy_fold {o : Nat} (h : FoldWords o) : Busy o := .inl (by unfold FoldWords at h; omega)

/-! ### What every chapter uses -/

theorem calm_raise (s : State) (code sev inst : Nat) (vals : List Nat) : Calm seam s (raise s code sev inst vals) :=
  calm_of_frame (frame_raise s _ _ _ _) fun _ => busy_event

theorem calm_raiseLim (s : State) (win code sev inst : Nat) (vals : List Nat) : Calm seam s (raiseLim s win code sev inst vals) :=
  calm_of_frame (frame_raiseLim s _ _ _ _ _) fun _ => busy_event

theorem calm_raiseSeg (s : State) (g : Fin 2) (code sev inst : Nat) (vals : List Nat) : Calm seam s (raiseSeg s g code sev inst vals) :=
  calm_of_frame (frame_raiseSeg s _ _ _ _ _) fun _ => busy_event

theorem calm_laneEvent (s : State) (l : Fin 4) (code sev : Nat) (more : List Nat) : Calm seam s (laneEvent s l code sev more) := calm_raiseSeg _ _ _ _ _ _

theorem calm_bump (s : State) {o : Nat} (h : 0x2000 ≤ o) : Calm seam s (bump s o) := calm_of_frame (frame_bump s o) fun _ e => .inl (e ▸ h)

theorem calm_bumpSw (s : State) (p i : Nat) : Calm seam s (bumpSw s p i) := calm_bump s (by omega)

theorem calm_bumpCc (s : State) (c i : Nat) : Calm seam s (bumpCc s c i) := calm_bump s (by omega)

theorem calm_setSw (s : State) (p : Fin 20) (f : SwPort → SwPort) : Calm seam s (setSw s p f) := calm_of_frame (frame_setSw s p f)

theorem calm_withSw (s : State) (w : Switch) : Calm seam s { s with sw := w } := calm_of_frame (frame_withSw s w)

theorem calm_xoffUpdate (s : State) : Calm seam s (xoffUpdate s) := calm_of_frame (frame_xoffUpdate s) fun _ => busy_counts

theorem calm_sendPort (s : State) (p : Port) (f : Bytes) : Calm seam s (sendPort s p f) := calm_of_frame (frame_sendPort s p f) fun _ => busy_sends

theorem calm_queueCtl (s : State) (f : Bytes) (fore aft : Bool) : Calm seam s (queueCtl s f fore aft) :=
  calm_of_frame (frame_queueCtl s f fore aft) fun _ => busy_sends

theorem calm_foldDrop (s : State) (l : Fin 4) : Calm seam s (foldDrop s l) := calm_of_frame (frame_foldDrop s l) fun _ => busy_fold

theorem calm_foldStart (s : State) (l : Fin 4) : Calm seam s (foldStart s l) := calm_of_frame (frame_foldStart s l) fun _ => busy_fold

theorem calm_moveQueue (s : State) (l : Fin 4) : Calm seam s (moveQueue s l) := calm_of_frame (frame_moveQueue s l) fun _ => busy_counts

theorem calm_withSch (s : State) (x : Sched) : Calm seam s { s with sch := x } := calm_of_frame (frame_withSch s x)

/-! ### The outputs of the switch -/

theorem calm_mirDrop (s : State) (p : Fin 20) (c : Nat) : Calm seam s (mirDrop s p c) := (calm_bump s (by omega)).then (calm_raiseLim _ _ _ _ _ _)

/-- A frame leaves its input for an output. -/
def crossed (s : State) (p : Fin 20) (x : QFrame) : State :=
  { s with sw := { s.sw with fab := fabAdd s.sw.fab x.inp p.val x.id false x.cls (cellsOf x.frame) } }

theorem takeOut_eq (s : State) (p : Fin 20) (x : QFrame) : takeOut s p x = xoffUpdate (setSw (crossed s p x) p (fun o => { o with q := o.q ++ [x] })) := rfl

theorem calm_takeOut (s : State) (p : Fin 20) (x : QFrame) : Calm seam s (takeOut s p x) := by
  have hcrossed : Calm seam s (crossed s p x) := calm_withSw s _
  rw [takeOut_eq]
  exact (hcrossed.then (calm_setSw _ p _)).then (calm_xoffUpdate _)

/-- The fabric has no buffer for a frame: recorded, and on a lane an error detected (R228). -/
def bufferLost (s : State) (x : QFrame) : State :=
  let s1 := raise (bumpSw s x.inp 7) 0x6011 5 x.inp [x.inp, x.cls]
  if x.inp < 4 then detect s1 x.inp 0x6011 else s1

theorem calm_bufferLost (s : State) (x : QFrame) : Calm seam s (bufferLost s x) := by
  have hlost : Calm seam s (raise (bumpSw s x.inp 7) 0x6011 5 x.inp [x.inp, x.cls]) := (calm_bumpSw s _ _).then (calm_raise _ _ _ _ _)
  unfold bufferLost
  dsimp only
  split
  next h => exact hlost.then (calm_of_frame (frame_detect_lane _ ⟨x.inp, h⟩ (by decide)) fun _ => busy_fault)
  next => exact hlost

/-- A frame at an output that is UP. -/
def enqueueUp (s : State) (p : Fin 20) (x : QFrame) : State :=
  if noCredit s p x then { s with sw := { s.sw with kept := s.sw.kept ++ [(p.val, x)] } }
  else if occ s p x.cls + cellsOf x.frame ≤ qMax s x.cls then takeOut s p x
  else if localSource x.inp then raiseLim (bumpSw s x.inp 5) 1000000000 0x6021 2 x.inp [x.inp, x.cls]
  else if poolFree s < cellsOf x.frame then bufferLost s x
  else takeOut (raiseLim (bumpSw s x.inp 6) 1000000000 0x6010 2 x.inp [x.inp, x.cls]) p x

theorem calm_enqueueUp (s : State) (p : Fin 20) (x : QFrame) : Calm seam s (enqueueUp s p x) :=
  calm_ite (calm_withSw s _) (calm_ite (calm_takeOut s p x) (calm_ite ((calm_bumpSw s _ _).then (calm_raiseLim _ _ _ _ _ _))
    (calm_ite (calm_bufferLost s x) (((calm_bumpSw s _ _).then (calm_raiseLim _ _ _ _ _ _)).then (calm_takeOut _ p x)))))

theorem calm_enqueueOut (s : State) (p : Fin 20) (x : QFrame) : Calm seam s (enqueueOut s p x) := by
  unfold enqueueOut
  split
  · exact (calm_bumpSw s _ _).then (calm_bumpCc _ _ _)
  · exact calm_bumpSw s _ _
  · exact calm_refl s
  · exact calm_enqueueUp s p x

theorem calm_releaseHeld (s : State) : Calm seam s (releaseHeld s) := (calm_withSw s _).then (calm_foldl (fun t _ => calm_enqueueOut t _ _) _ _)

theorem calm_purgeOut (s : State) (p : Fin 20) : Calm seam s (purgeOut s p) := (calm_setSw s p _).then (calm_foldl (fun t _ => calm_bumpCc t _ _) _ _)

theorem calm_copiesGone (s : State) (p : Fin 20) : Calm seam s (copiesGone s p) :=
  (calm_setSw s p _).then (calm_foldl (fun t _ => calm_mirDrop t p _) _ _)

theorem calm_outDown (s : State) (p : Fin 20) : Calm seam s (outDown s p) := by
  refine calm_ite ?_ (calm_refl s)
  have hgone : Calm seam s (copiesGone (if s.now < s.sw.ports[p].busy then bumpSw s p.val 11 else s) p) :=
    (calm_ite (calm_bumpSw s _ _) (calm_refl s)).then (calm_copiesGone _ p)
  exact ((hgone.then (calm_ite ((calm_purgeOut _ p).then (calm_setSw _ p _)) ((calm_setSw _ p _).then (calm_raise _ _ _ _ _)))).then
    (calm_xoffUpdate _)).then (calm_releaseHeld _)

theorem calm_outUp (s : State) (p : Fin 20) : Calm seam s (outUp s p) := by
  unfold outUp
  split
  · exact calm_refl s
  · exact ((calm_setSw s p _).then (calm_raise _ _ _ _ _)).then (calm_xoffUpdate _)
  · exact calm_setSw s p _

theorem calm_outDisable (s : State) (p : Fin 20) : Calm seam s (outDisable s p) :=
  (((((calm_copiesGone s p).then (calm_purgeOut _ p)).then (calm_setSw _ p _)).then (calm_xoffUpdate _))).then (calm_releaseHeld _)

end Sys2Proof.Quiet

end

section
/-! SUPPORT. Inauguration is calm (R125 to R146, R157): of the lanes it changes the seam flags alone. -/

namespace Sys2Proof.Quiet

open Sys2Proof.Machine Sys2Proof.Safety Sys2Proof.Registers Sys2Proof.Traffic Sys2Proof.Faulty Sys2Proof.Lanes Sys2Proof.Topology Sys2Proof.Can

variable {seam : Bool}

/-! ### Parts of inauguration and of the time base -/

-- Elaborated by itself, so that the proofs before it are checked before those after it begin: this bounds the memory that proofs under way take at once.
set_option Elab.async false in
theorem calm_setInaug (s : State) (g : Fin 2) (f : Inaug → Inaug) : Calm seam s (setInaug s g f) := calm_of_frame (frame_setInaug s g f)

theorem calm_withTb (s : State) (x : TimeBase) : Calm seam s { s with tb := x } := calm_of_frame (P := [.tb]) (R := fun _ => False) frame_of_regs

theorem calm_withFlt (s : State) (x : Faults) : Calm seam s { s with flt := x } := calm_of_frame (frame_withFlt s x)

theorem calm_withSg (s : State) (x : Signals) : Calm seam s { s with sg := x } := calm_of_frame (frame_withSignals s x)

theorem calm_withEtb (s : State) (x : Etb) : Calm seam s { s with etb := x } := calm_of_frame (P := [.etb]) (R := fun _ => False) frame_of_regs

theorem calm_topEvent (s : State) (g : Fin 2) (code sev : Nat) (vals : List Nat) : Calm seam s (topEvent s g code sev vals) := calm_raiseSeg _ _ _ _ _ _

theorem calm_bumpTop (s : State) (i : Nat) : Calm seam s (bumpTop s i) := calm_bump s (by omega)

theorem calm_timeEvent (s : State) (code sev : Nat) (vals : List Nat) : Calm seam s (timeEvent s code sev vals) := calm_raise _ _ _ _ _

theorem calm_bumpTb (s : State) (i : Nat) : Calm seam s (bumpTb s i) := calm_bump s (by omega)

theorem calm_masterStart (s : State) (reason : Nat) : Calm seam s (masterStart s reason) :=
  (((calm_ite (calm_refl s) (calm_withTb s _)).then (calm_withTb _ _)).then (calm_bumpTb _ 4)).then (calm_timeEvent _ _ _ _)

theorem calm_timeOnTable (s : State) : Calm seam s (timeOnTable s) := by
  unfold timeOnTable
  split
  · exact calm_refl s
  · exact calm_ite ((calm_withTb s _).then (calm_masterStart _ 0)) (calm_withTb s _)

theorem calm_timeOnView (s : State) : Calm seam s (timeOnView s) := calm_ite (calm_withTb s _) (calm_refl s)

theorem calm_timeFree (s : State) : Calm seam s (timeFree s) := calm_withTb s _

theorem calm_syncoShut (s : State) : Calm seam s (syncoShut s) := calm_ite (calm_withTb s _) (calm_refl s)

/-- The seam flags of the lanes of a segment, and nothing else. -/
theorem calm_setSeam (s : State) (g : Fin 2) (ps : List Port) : Calm true s (setSeam s g ps) := by
  have hframe : Frame [.lanes] (fun _ => False) s (setSeam s g ps) := frame_of_regs
  refine ⟨hframe.within, fun k => ?_⟩
  have hk : (setSeam s g ps).lanes[k] = if segOf s (portOf k) = g then
      { s.lanes[k] with seam := ps.contains (portOf k), seamWas := !ps.contains (portOf k) && (s.lanes[k].seam || s.lanes[k].seamWas) } else s.lanes[k] := by
    simp [setSeam]
  rw [hk]
  split
  · exact .inr ⟨rfl, _, _, rfl⟩
  · exact .inl rfl

theorem calm_takeMap (s : State) (g : Fin 2) (t : List TopoEnt) : Calm seam s (takeMap s g t) := calm_withSch s _

/-! ### Sending -/

theorem calm_sendHop (s : State) (g : Fin 2) (p : Port) (f : Bytes) : Calm seam s (sendHop s g p f) :=
  calm_ite (calm_queueCtl s f _ _) (calm_sendPort s p f)

theorem calm_sendTrain (s : State) (g : Fin 2) (f : Bytes) : Calm seam s (sendTrain s g f) := calm_queueCtl s f _ _

theorem calm_sendReport (s : State) (g : Fin 2) (p : Port) (r : RunId) (bodies : List RepBody) : Calm seam s (sendReport s g p r bodies) :=
  calm_sendHop s g p _

theorem calm_of_leads {g : Fin 2} {s t : State} (h : Leads g s t) : Calm seam s t := calm_of_frame h.1 fun _ => busy_event

theorem calm_addChange (s : State) (g : Fin 2) (c : Change) : Calm seam s (addChange s g c) := calm_of_leads (leads_addChange s g c)

theorem calm_reportUp (s : State) (g : Fin 2) (bodies : List RepBody) : Calm seam s (reportUp s g bodies) := by
  unfold reportUp
  split
  · exact calm_of_leads (leads_leaderReport s g bodies)
  split
  · exact calm_sendTrain s g _
  · exact calm_refl s

theorem calm_reportOwn (s : State) (g : Fin 2) (replan : Bool) (src : Nat) : Calm seam s (reportOwn s g replan src) :=
  calm_ite (calm_refl s) (calm_ite (calm_reportUp s g _) (calm_setInaug s g _))

theorem calm_payReport (s : State) (g : Fin 2) : Calm seam s (payReport s g) :=
  calm_ite ((calm_setInaug s g _).then (calm_reportOwn _ g _ _)) (calm_refl s)

/-! ### Tables and runs -/

theorem calm_published (s : State) (x : Sched) (y : Signals) : Calm seam s { s with sch := x, sg := y } :=
  (calm_withSch s x).then (calm_withSg { s with sch := x } y)

theorem calm_applyTable (s : State) (g : Fin 2) (a : Assign) : Calm true s (applyTable s g a) := by
  have htaken (f : Inaug → Inaug) (ps : List Port) (t : List TopoEnt) : Calm true s (takeMap (setSeam (setInaug s g f) g ps) g t) :=
    ((calm_setInaug s g f).then (calm_setSeam _ g ps)).then (calm_takeMap _ g t)
  unfold applyTable
  dsimp only
  generalize hv : takeMap (setSeam (setInaug s g _) g _) g (assignTable a) = v
  have hcalm : Calm true s v := hv ▸ htaken _ _ _
  exact (((hcalm.then (calm_published v _ _)).then (calm_ite (calm_timeOnTable _) (calm_refl _))).then (calm_timeOnView _)).then (calm_payReport _ g)

theorem calm_toIdle (s : State) (g : Fin 2) : Calm true s (toIdle s g) := by
  have hidle := (calm_setInaug (seam := true) s g (fun x => { ({} : Inaug) with run := x.run })).then (calm_setSeam _ g [])
  exact calm_ite ((hidle.then (calm_timeFree _)).then (calm_syncoShut _)) hidle

theorem calm_idleRows (s : State) (g : Fin 2) : Calm true s (idleRows s g) :=
  calm_ite (calm_ite (calm_setInaug s g _) (calm_ite (calm_applyTable s g _) (calm_refl s))) (calm_refl s)

theorem calm_sendAssign (s : State) (g : Fin 2) (a : Assign) (ps : List Port) (hop : Bool) : Calm seam s (sendAssign s g a ps hop) := by
  refine calm_foldl (fun t x => ?_) a.got s
  exact calm_ite (calm_foldl (fun u p => calm_sendHop u g p _) ps t) (calm_sendTrain t g _)

theorem calm_settleRun (s : State) (g : Fin 2) (a : Assign) : Calm true s (settleRun s g a) :=
  ((calm_applyTable s g a).then (calm_setInaug _ g _)).then (calm_topEvent _ g _ _ _)

theorem calm_topSchedFail (s : State) (b : Bound) : Calm seam s (topSchedFail s b) := calm_raiseSeg _ _ _ _ _ _

theorem calm_noSpare (s : State) (g : Fin 2) (t : List TopoEnt) : Calm seam s (noSpare s g t) := calm_foldl (fun u _ => calm_topEvent u g _ _ _) _ s

theorem calm_tryComplete (s : State) (g : Fin 2) : Calm true s (tryComplete s g) := by
  unfold tryComplete
  dsimp only
  split
  · exact ((((((calm_setInaug s g _).then (calm_ite (calm_topEvent _ g _ _ _) (calm_refl _))).then (calm_ite (calm_topEvent _ g _ _ _) (calm_refl _))).then
      (calm_noSpare _ g _)).then (calm_ite (calm_topSchedFail _ _) (calm_refl _))).then (calm_sendAssign _ g _ _ true)).then
      (calm_ite (calm_settleRun _ g _) (calm_refl _))
  · exact calm_refl s

theorem calm_newRun (s : State) (g : Fin 2) : Calm true s (newRun s g) :=
  (((calm_setInaug s g _).then (calm_bumpTop _ 0)).then (calm_foldl (fun t p => calm_sendHop t g p _) _ _)).then (calm_tryComplete _ g)

theorem calm_restartRun (s : State) (g : Fin 2) : Calm true s (restartRun s g) := by
  have hend := ((calm_setInaug (seam := true) s g (fun x => { x with restarts := x.restarts + 1 })).then (calm_bumpTop _ 1)).then (calm_topEvent _ g 0x3002 1 [])
  exact (hend.then (calm_ite (calm_topEvent _ g _ _ _) (calm_refl _))).then (calm_newRun _ g)

theorem calm_dawnOr {k : State → State} (h : ∀ s, Calm seam s (k s)) (s : State) (w : DawnWork) : Calm seam s (dawnOr s w k) :=
  calm_ite (calm_refl s) (calm_ite (calm_withFlt s _) (h s))

/-! ### Links lost and found (R108, R134 to R137) -/

/-- The nodes `uids` are cut off from the segment of this node (R134, R135). -/
def cutOff (s : State) (g : Fin 2) (lost : Nat) (uids : List Nat) : State :=
  let x := s.inaug[g]
  let rest := x.table.filter (fun e => !(x.removed ++ uids).contains e.uid)
  let old := ((leaderOf x.table).map TopoEnt.uid).getD 0
  let s1 := setInaug s g (fun x => { x with removed := x.removed ++ uids })
  if uids.contains old then
    match topEnt rest with
    | some n =>
      let s2 := setInaug s1 g (fun x => { x with table := x.table.map (fun e => withFlag e 4 (e.uid == n.uid)), oldLeader := old })
      timeOnView (if n.uid = s.uid then addChange (setInaug s2 g (fun x => { x with issue := none, pending := none })) g { kind := 2 + 16, uid := lost } else s2)
    | none => timeOnView s1
  else timeOnView (if isLeader s1 g then addChange s1 g { kind := 2, uid := lost } else s1)

theorem calm_cutOff (s : State) (g : Fin 2) (lost : Nat) (uids : List Nat) : Calm true s (cutOff s g lost uids) := by
  unfold cutOff
  dsimp only
  generalize hu : setInaug s g _ = u
  refine Calm.then (t := u) (hu ▸ calm_setInaug s g _) ?_
  clear hu
  split
  · split
    · generalize hv : setInaug u g _ = v
      refine Calm.then (t := v) (hv ▸ calm_setInaug u g _) ?_
      exact (calm_ite ((calm_setInaug v g _).then (calm_addChange _ g _)) (calm_refl v)).then (calm_timeOnView _)
    · exact calm_timeOnView u
  · exact (calm_ite (calm_addChange u g _) (calm_refl u)).then (calm_timeOnView _)

theorem calm_lostLink (s : State) (g : Fin 2) (reporter lost : Nat) (p : Port) : Calm true s (lostLink s g reporter lost p) := by
  unfold lostLink
  dsimp only
  generalize hu : setInaug s g _ = u
  refine Calm.then (t := u) (hu ▸ calm_setInaug s g _) ?_
  clear hu
  generalize (if u.inaug[g].table.any (fun e => e.uid == lost) then u.inaug[g].table else _) = tab
  split
  · exact calm_refl u
  split
  · exact ((calm_setInaug u g _).then (calm_setSeam _ g [])).then (calm_ite (calm_addChange _ g _) (calm_refl _))
  split
  · exact calm_refl u
  split
  · exact calm_cutOff u g lost _
  · exact calm_refl u

theorem calm_portChange (s : State) (g : Fin 2) : Calm seam s (portChange s g) := by
  unfold portChange
  split
  · exact calm_ite (calm_sendReport s g _ _ _) (calm_refl s)
  · exact calm_refl s

theorem calm_sendLeave (s : State) (g : Fin 2) (p : Port) (far : Nat) : Calm seam s (sendLeave s g p far) := calm_sendTrain s g _

theorem calm_endLost (s : State) (p : Port) (far : Nat) : Calm true s (endLost s p far) := by
  unfold endLost
  dsimp only
  generalize hu : setInaug s (segOf s p) _ = u
  refine Calm.then (t := u) (hu ▸ calm_setInaug s (segOf s p) _) ?_
  split
  · exact (calm_sendLeave u _ p far).then (calm_lostLink _ _ _ far p)
  · exact calm_ite ((calm_toIdle u _).then (calm_idleRows _ _)) (calm_refl u)
  · exact calm_ite (calm_restartRun u _) (calm_refl u)
  · exact calm_portChange u _
  · exact calm_refl u

theorem calm_inaugEndLost (s : State) (p : Port) (far : Nat) : Calm true s (inaugEndLost s p far) := calm_dawnOr (fun t => calm_endLost t p far) s _

theorem calm_sendAnnounce (s : State) (g : Fin 2) (p : Port) : Calm seam s (sendAnnounce s g p) := calm_sendHop s g p _

theorem calm_endFound (s : State) (p : Port) (far : Nat) : Calm true s (endFound s p far) := by
  unfold endFound
  dsimp only
  split
  · exact calm_idleRows s _
  · exact calm_ite ((calm_setInaug s _ _).then (calm_reportOwn _ _ _ _)) ((calm_setInaug s _ _).then (calm_sendAnnounce _ _ p))
  · exact calm_ite (calm_restartRun s _) (calm_refl s)
  · exact calm_portChange s _
  · exact calm_refl s

theorem calm_inaugEndFound (s : State) (p : Port) (far : Nat) : Calm true s (inaugEndFound s p far) := calm_dawnOr (fun t => calm_endFound t p far) s _

theorem calm_etbRole (s : State) : Calm seam s (etbRole s) :=
  calm_ite (calm_withEtb s _) (calm_ite (calm_ite (calm_refl s) ((calm_withEtb s _).then (calm_topEvent _ 0 _ _ _))) (calm_ite (calm_withEtb s _) (calm_refl s)))

/-! ### Lanes that leave UP, and folds (R108, R195, R212) -/

theorem calm_portEnds (s : State) (l : Fin 4) (was : Lane) : Calm true s (portEnds s l was) := by
  have hdrop : Calm true s (if nearLoss s s.lanes[sisterLane l].lossAt then s else foldDrop (foldDrop s (laneA (portOf l))) (laneB (portOf l))) :=
    calm_ite (calm_refl s) ((calm_foldDrop s _).then (calm_foldDrop _ _))
  unfold portEnds
  dsimp only
  generalize (if nearLoss s s.lanes[sisterLane l].lossAt then s else foldDrop (foldDrop s (laneA (portOf l))) (laneB (portOf l))) = u at *
  exact ((((hdrop.then (calm_withSch u _)).then (calm_raiseSeg _ _ _ _ _ _)).then (calm_outDown _ _)).then (calm_outDown _ _)).then (calm_inaugEndLost _ _ _)

theorem calm_leftUp (s : State) (l : Fin 4) (was : Lane) : Calm true s (leftUp s l was) :=
  calm_ite ((calm_foldStart s l).then (calm_moveQueue _ l)) (calm_portEnds s l was)

theorem calm_foldBelow (s : State) (p : Port) : Calm seam s (foldBelow s p) := calm_foldl (fun t l => calm_ite (calm_foldStart t l) (calm_refl t)) _ s

/-! ### What a calm step keeps -/

variable {s t : State}

/-- A value of a lane that its seam flags do not enter. -/
theorem Calm.field {α : Type} (h : Calm seam s t) (k : Fin 4) (f : Lane → α) (hf : ∀ x a b, f { x with seam := a, seamWas := b } = f x := by intros; rfl) :
    f t.lanes[k] = f s.lanes[k] := by
  rcases h.2 k with e | ⟨-, a, b, e⟩
  · rw [e]
  · rw [e, hf]

theorem Calm.st (h : Calm seam s t) (k : Fin 4) : t.lanes[k].st = s.lanes[k].st := h.field k Lane.st

theorem Calm.health (h : Calm seam s t) (k : Fin 4) : t.lanes[k].health = s.lanes[k].health := h.field k Lane.health

theorem Calm.lane (h : Calm false s t) (k : Fin 4) : t.lanes[k] = s.lanes[k] := (h.2 k).resolve_right fun e => nomatch e.1

theorem Calm.line (h : Calm seam s t) : t.line = s.line := h.1.part .line

theorem Calm.boot (h : Calm seam s t) : t.boot = s.boot := h.1.part .boot

/-- The lanes' configuration and their counters but for frames sent and stomped. -/
theorem Calm.reg (h : Calm seam s t) {o : Nat} (ho : o < 0x2000) (h40 : o ≠ 0x40) (hl : ∀ l : Fin 4, o ≠ 0x1138 + 0x100 * l.val ∧ o ≠ 0x114C + 0x100 * l.val) :
    reg t o = reg s o := by
  refine h.1.2 o h40 ?_
  rintro (hb | ⟨l, hb⟩)
  · omega
  · exact absurd hb (not_or.2 (hl l))

theorem Calm.laneI1g (h : Calm seam s t) (l : Fin 4) : laneI1g t l = laneI1g s l :=
  laneI1g_congr (committed_of_frame h.1) (fun k => h.reg (by omega) (by omega) fun m => by omega) l

theorem Calm.portAnyUp (h : Calm seam s t) (p : Port) : portAnyUp t p = portAnyUp s p := portAnyUp_congr h.st p

theorem Calm.portLinked (h : Calm seam s t) (p : Port) : portLinked t p = portLinked s p := portLinked_congr h.laneI1g (h.portAnyUp p)

end Sys2Proof.Quiet

end

section
/-! SUPPORT. The training of a lane (Table 5-4, R100 to R102), and the port that turns when one comes UP (R108, R347). -/

namespace Sys2Proof.Lanes

open Sys2Proof.Machine Sys2Proof.Safety Sys2Proof.Registers Sys2Proof.Traffic Sys2Proof.Faulty Sys2Proof.Bridge Sys2Proof.Quiet Sys2Proof.Can

/-! ### Ports that turn -/

/-- A step that leaves the lanes, the phase, the core and the lanes' configuration. -/
def Turned (s t : State) : Prop :=
  t.lanes = s.lanes ∧ t.boot = s.boot ∧ t.line.core = s.line.core ∧ ∀ o, o ≠ 0x40 → ¬ Busy o → reg t o = reg s o

-- Elaborated by itself, so that the proofs before it are checked before those after it begin: this bounds the memory that proofs under way take at once.
set_option Elab.async false in
theorem turned_refl (s : State) : Turned s s := ⟨rfl, rfl, rfl, fun _ _ _ => rfl⟩

theorem Turned.then {s t u : State} (h : Turned s t) (g : Turned t u) : Turned s u := by
  obtain ⟨hl, hb, hc, hr⟩ := h
  obtain ⟨gl, gb, gc, gr⟩ := g
  exact ⟨gl.trans hl, gb.trans hb, gc.trans hc, fun o h40 ho => (gr o h40 ho).trans (hr o h40 ho)⟩

theorem turned_of_frame {P : List Part} {R : Nat → Prop} {s t : State} (h : Frame P R s t) (hc : t.line.core = s.line.core) (hr : ∀ o, R o → Busy o)
    (hl : Part.lanes ∉ P := by decide) (hb : Part.boot ∉ P := by decide) : Turned s t :=
  ⟨h.part .lanes hl, h.part .boot hb, hc, fun _ h40 ho => h.reg (fun hro => ho (hr _ hro)) h40⟩

theorem turned_kindleOut (cause : Nat) (t : State) (g : Fin 2) : Turned t (kindleOut cause t g) := by
  have hq := frame_queueCtl t (snufFrame t g 4 3 (kindleWord cause 0 true ++ beBytes 8 t.uid ++ beBytes 2 t.snuf.round ++ [0#8, 0#8]))
    (segLinked t g .fore) (segLinked t g .aft)
  exact turned_of_frame hq (congrArg (·.core) (hq.part .line)) fun _ => busy_sends

theorem turned_abortLatched (s : State) (cause chan : Nat) (id : Option Nat) : Turned s (abortLatched s cause chan id) :=
  turned_of_frame (frame_abortLatched s cause chan id)
    (congrArg (·.core) ((frame_sleepEvent (bumpPwr s 4) 0x1006 1 [cause, chan, id.getD 0]).part .line)) fun _ => busy_event

theorem turned_wakeEvent (s : State) (cause chan : Nat) (id : Option Nat) : Turned s (wakeEvent s cause chan id) := by
  rw [wakeEvent_eq]
  split
  · have hfold (l : List (Fin 2)) (t : State) : Turned t (l.foldl (kindleOut cause) t) := by
      induction l generalizing t with
      | nil => exact turned_refl t
      | cons g l ih => exact (turned_kindleOut cause t g).then (ih _)
    exact ((turned_abortLatched s cause chan id).then (hfold _ _)).then (turned_of_frame (frame_bumpPwr _ 8) rfl fun _ h => h.elim)
  · exact turned_refl s

theorem turned_abortEnd (s : State) (p : Port) : Turned s (abortEnd s p) := by
  unfold abortEnd abortTone
  split
  · split
    · exact turned_refl s
    · exact ⟨rfl, rfl, rfl, fun _ _ _ => rfl⟩
  · exact turned_refl s

theorem turned_portTurns (s t : State) : Turned t (portTurns s t) := by
  have hstep (u : State) (p : Port) : Turned u (if !portLinked s p && portLinked t p then wakeEvent u 9 0 none
      else if portLinked s p && !portLinked t p then abortEnd u p else u) := by
    split
    · exact turned_wakeEvent u 9 0 none
    split
    · exact turned_abortEnd u p
    · exact turned_refl u
  exact (hstep t .fore).then (hstep _ .aft)

theorem turned_settle (s t : State) : Turned t (settle s t) :=
  ⟨settle_lanes s t, settle_boot s t, by rw [settle_line], fun _ h40 _ => reg_settle_ne s t h40⟩

theorem Turned.laneI1g {s t : State} (h : Turned s t) (l : Fin 4) : laneI1g t l = laneI1g s l := by
  obtain ⟨-, hboot, hcore, hreg⟩ := h
  refine laneI1g_congr ?_ (fun k => hreg _ (by omega) ?_) l
  · rw [committed, committed, hcore, hboot]
  · rintro (hb | ⟨m, hb⟩)
    all_goals omega

theorem Turned.portLinked {s t : State} (h : Turned s t) (p : Port) : portLinked t p = portLinked s p :=
  portLinked_congr h.laneI1g (portAnyUp_congr (fun l => by rw [h.1]) p)

theorem portAnyUp_of_laneUp {s : State} {l : Fin 4} (h : laneUp s l = true) : portAnyUp s (portOf l) = true := by
  rw [portAnyUp]
  fin_cases l <;> simp_all [laneA, laneB, portOf]

theorem portAnyUp_sister (s : State) (l : Fin 4) : portAnyUp s (portOf l) = (laneUp s l || laneUp s (sisterLane l)) := by
  rw [portAnyUp]
  fin_cases l
  · rfl
  · exact Bool.or_comm _ _
  · rfl
  · exact Bool.or_comm _ _

theorem sister_ne (l : Fin 4) : sisterLane l ≠ l := by
  revert l
  decide

/-! ### Energy and identity (R100, R102) -/

/-- A lane that trains after energy. -/
def energySeen (s : State) (l : Fin 4) (x : Lane) : Lane :=
  { x with st := .train, heldSeen := false
           mode := if laneI1g s l then 3 else if commonModes s l = 0 then highestMode (laneModes s l) else highestMode (commonModes s l) }

/-- A lane that knows its far end. -/
def farNamed (msg : Bytes) (x : Lane) : Lane := { x with farUid := beAt msg 4 8, farModes := byteAt msg 2 % 4, farFlags := byteAt msg 3 }

theorem lockAchieved_named {s : State} {l : Fin 4} {msg : Bytes} (hrun : coreRun s = true) (hst : s.lanes[l].st = .lock) (hi : laneI1g s l = false)
    (h0 : byteAt msg 0 = 0x4C) : lockAchieved s l msg =
      if byteAt msg 1 % 2 ≠ l.val % 2 then laneEvent (setLane (setLane s l (farNamed msg)) l (fun x => { x with st := .held })) l 0x2007 5 []
      else if s.lanes[sisterLane l].st = .up ∧ s.lanes[sisterLane l].farUid ≠ beAt msg 4 8 then
        laneEvent (setLane (setLane s l (farNamed msg)) l (fun x => { x with st := .held })) l 0x2008 5 [1]
      else setLane (setLane s l (farNamed msg)) l (fun x => { x with st := .check }) :=
  (if_pos (by rw [hrun, hst]; rfl)).trans ((if_neg (by simp [hi])).trans (if_neg (not_not.2 h0)))

/-! ### A lane that enters UP -/

/-- A lane that has come UP. -/
def inService (x : Lane) : Lane := { x with st := .up, health := 0, goodRun := 0, unc := 0, fecErr := 0, again := false, fallback := false }

/-- The lane is UP and its event raised. -/
def cameUp (s : State) (l : Fin 4) : State := laneEvent (setLane s l inService) l 0x2001 0 []

theorem frame_cameUp (s : State) (l : Fin 4) : Frame [.lanes, .log] (· = 0xC180) s (cameUp s l) :=
  ((frame_setLane s l inService).within (Q := [.lanes, .log]) (S := (· = 0xC180))).andThen (frame_laneEvent _ l _ _ _) (hr := fun _ h => h)

theorem cameUp_same (s : State) (l : Fin 4) : (cameUp s l).lanes[l] = inService s.lanes[l] := by
  rw [cameUp, laneEvent_lanes, lane_same]

theorem cameUp_other (s : State) {l k : Fin 4} (h : k ≠ l) : (cameUp s l).lanes[k] = s.lanes[k] := by
  rw [cameUp, laneEvent_lanes, lane_other s h]

theorem cameUp_laneI1g (s : State) (l k : Fin 4) : laneI1g (cameUp s l) k = laneI1g s k :=
  laneI1g_congr (committed_of_frame (frame_cameUp s l)) (fun m => (frame_cameUp s l).reg (by omega) (by omega)) k

theorem cameUp_upAtDesign (s : State) (l k : Fin 4) :
    upAtDesign (cameUp s l) k = ((cameUp s l).lanes[k].st == .up && decide (1 ≤ (cameUp s l).lanes[k].mode) &&
      decide ((cameUp s l).lanes[k].mode ≤ designMode s k)) := by
  have hreg (o : Nat) (h : o = 0x4004 ∨ o = 0x4008) : reg (cameUp s l) o = reg s o := (frame_cameUp s l).reg (by omega) (by omega)
  rw [upAtDesign, laneUp, designMode, designMode, cameUp_laneI1g, hreg]
  split
  · exact .inl rfl
  · exact .inr rfl

theorem cameUp_portAnyUp {s : State} {l : Fin 4} (hup : laneUp s (sisterLane l) = true) (p : Port) : portAnyUp (cameUp s l) p = portAnyUp s p := by
  by_cases hp : p = portOf l
  · have hup' : laneUp (cameUp s l) (sisterLane l) = true := by rw [laneUp, cameUp_other s (sister_ne l)]; exact hup
    rw [hp, portAnyUp_sister, portAnyUp_sister, hup, hup', Bool.or_true, Bool.or_true]
  · have hne (k : Fin 4) (hk : portOf k = p) : k ≠ l := fun e => hp (hk ▸ e ▸ rfl)
    have ha : portOf (laneA p) = p := by cases p <;> rfl
    have hb : portOf (laneB p) = p := by cases p <;> rfl
    simp only [portAnyUp, laneUp, cameUp_other s (hne _ ha), cameUp_other s (hne _ hb)]

theorem foldBelow_upAtDesign {s : State} {p : Port} (ha : upAtDesign s (laneA p) = true) (hb : upAtDesign s (laneB p) = true) : foldBelow s p = s := by
  have hstep (t : State) (l : Fin 4) (h : upAtDesign t l = true) :
      (if laneUp t l && !upAtDesign t l && !t.sch.fold.getLsbD l.val then foldStart t l else t) = t := by
    rw [h, Bool.not_true, Bool.and_false, Bool.false_and]
    rfl
  unfold foldBelow
  simp only [List.foldl_cons, List.foldl_nil, hstep s _ ha, hstep s _ hb]

theorem foldBelow_beside {s : State} {l : Fin 4} (hl : upAtDesign s l = true) (hk : upAtDesign s (sisterLane l) = true) : foldBelow s (portOf l) = s := by
  fin_cases l
  · exact foldBelow_upAtDesign hl hk
  · exact foldBelow_upAtDesign hk hl
  · exact foldBelow_upAtDesign hl hk
  · exact foldBelow_upAtDesign hk hl

/-- A lane that came UP below the highest mode both ends allow has the event of it (R100). -/
def modeNoted (s : State) (l : Fin 4) : State :=
  if (setLane s l inService).lanes[l].mode ≠ highestMode (commonModes (setLane s l inService) l) ∧ commonModes (setLane s l inService) l ≠ 0 then
    laneEvent (cameUp s l) l 0x2003 5 []
  else cameUp s l

/-- A folded lane that is UP at its design mode again ends its fold (R195). -/
def foldEnding (s : State) (l : Fin 4) : State :=
  if s.sch.fold.getLsbD l.val && upAtDesign s l then
    { s with sch := { s.sch with foldEnd := s.sch.foldEnd ||| BitVec.ofNat 4 (2 ^ l.val) } }
  else s

/-- The lane is in service, its schedule and its fold as its mode asks. -/
def laneServes (s : State) (l : Fin 4) : State := foldBelow (foldEnding (modeNoted s l) l) (portOf l)

/-- The port has come LINKED by lane l: its event, its outputs, inauguration told (R108). -/
def portBegins (s u : State) (l : Fin 4) : State :=
  let x := (setLane s l inService).lanes[l]
  let t := raiseSeg u (segOf u (portOf l)) 0x2010 1 l.val [l.val, x.mode, x.snr, x.farUid]
  inaugEndFound (outUp (outUp t (lanePort (laneA (portOf l)))) (lanePort (laneB (portOf l)))) (portOf l) x.farUid

theorem checkDone_native {s : State} {l : Fin 4} (hrun : coreRun s = true) (hst : s.lanes[l].st = .check) (hi : laneI1g s l = false)
    (hother : otherFar s l = false) :
    checkDone s l = if !portAnyUp s (portOf l) then portBegins s (laneServes s l) l else laneServes s l :=
  (if_pos (by rw [hrun, hst]; rfl)).trans ((if_neg (by simp [hother])).trans (if_neg (by simp [hi])))

theorem checkDone_i1g {s : State} {l : Fin 4} (hrun : coreRun s = true) (hst : s.lanes[l].st = .check) (hi : laneI1g s l = true) :
    checkDone s l = etbRole (outUp (cameUp s l) (lanePort l)) :=
  (if_pos (by rw [hrun, hst]; rfl)).trans ((if_neg (by simp [otherFar, hi])).trans (if_pos hi))

theorem modeNoted_highest {s : State} {l : Fin 4} (h : s.lanes[l].mode = highestMode (commonModes s l)) : modeNoted s l = cameUp s l := by
  have hmodes : commonModes (setLane s l inService) l = commonModes s l := by
    simp only [commonModes, laneModes, lane_same]
    rfl
  refine if_neg fun hne => hne.1 ?_
  rw [hmodes, lane_same]
  exact h

theorem laneServes_beside {s : State} {l : Fin 4} (hmode : s.lanes[l].mode = highestMode (commonModes s l)) (hlow : 1 ≤ s.lanes[l].mode)
    (hhigh : s.lanes[l].mode ≤ designMode s l) (hfold : s.sch.fold.getLsbD l.val = false) (hsis : upAtDesign s (sisterLane l) = true) :
    laneServes s l = cameUp s l := by
  have hown : upAtDesign (cameUp s l) l = true := by
    rw [cameUp_upAtDesign, cameUp_same, Bool.and_eq_true, Bool.and_eq_true]
    exact ⟨⟨rfl, decide_eq_true hlow⟩, decide_eq_true hhigh⟩
  have hbeside : upAtDesign (cameUp s l) (sisterLane l) = true := by
    rw [cameUp_upAtDesign, cameUp_other s (sister_ne l)]
    exact hsis
  have hfold' : (cameUp s l).sch.fold.getLsbD l.val = false := by
    rw [(frame_cameUp s l).part .sch]
    exact hfold
  have hending : foldEnding (cameUp s l) l = cameUp s l := if_neg (by rw [hfold', Bool.false_and]; exact Bool.false_ne_true)
  rw [laneServes, modeNoted_highest hmode, hending, foldBelow_beside hown hbeside]

theorem calm_laneServes (s : State) (l : Fin 4) : Calm seam (cameUp s l) (laneServes s l) :=
  ((calm_ite (calm_laneEvent _ l _ _ _) (calm_refl _)).then (calm_ite (calm_withSch _ _) (calm_refl _))).then (calm_foldBelow _ _)

theorem calm_portBegins (s u : State) (l : Fin 4) : Calm true u (portBegins s u l) :=
  (((calm_raiseSeg u _ _ _ _ _).then (calm_outUp _ _)).then (calm_outUp _ _)).then (calm_inaugEndFound _ _ _)

theorem calm_checkDone_first {s : State} {l : Fin 4} (hrun : coreRun s = true) (hst : s.lanes[l].st = .check) (hi : laneI1g s l = false)
    (hup : laneUp s (sisterLane l) = false) : Calm true (cameUp s l) (checkDone s l) := by
  have hother : otherFar s l = false := by rw [otherFar, hup, Bool.and_false, Bool.false_and]
  have hany : portAnyUp s (portOf l) = false := by rw [portAnyUp_sister, hup, laneUp, hst]; rfl
  rw [checkDone_native hrun hst hi hother, hany, Bool.not_false, if_pos rfl]
  exact (calm_laneServes s l).then (calm_portBegins s _ l)

/-- Settles O8: each step of the training, the lane beside another, the first of its port, and the one alone in I1G. -/
theorem laneTrainingReachesUp : Obligations.LaneTrainingReachesUp := by
  refine ⟨?_, ?_, ?_, ?_, ?_, ?_, ?_, ?_, ?_⟩
  · intro s l hrun hst
    refine completes_of (u := detectEnergy s l false) rfl ?_
    rw [show detectEnergy s l false = setLane s l (energySeen s l) from if_pos (by rw [hrun, hst]; rfl), settle_lanes, lane_same]
    exact ⟨rfl, fun hi => if_pos hi, fun hi hc => (if_neg (by simp [hi])).trans (if_neg hc), fun k hk => lane_other s hk _, frame_settle (frame_setLane s l _)⟩
  · intro s l
    refine completes_of (u := detectEnergy s l true) rfl ?_
    rw [show detectEnergy s l true = s from if_neg (by simp)]
    exact frame_settle (frame_refl _ _ s)
  · intro s l hrun hst
    refine completes_of (u := trainDone s l) rfl ?_
    rw [show trainDone s l = setLane s l (fun x => { x with st := .lock }) from if_pos (by rw [hrun, hst]; rfl), settle_lanes, lane_same]
    exact ⟨rfl, fun k hk => lane_other s hk _, frame_settle (frame_setLane s l _)⟩
  · intro s l msg hrun hst hi
    refine completes_of (u := lockAchieved s l msg) rfl ?_
    rw [show lockAchieved s l msg = setLane s l (fun x => { x with st := .check }) from (if_pos (by rw [hrun, hst]; rfl)).trans (if_pos hi),
      settle_lanes, lane_same]
    exact ⟨rfl, fun k hk => lane_other s hk _, frame_settle (frame_setLane s l _)⟩
  · intro s l msg hrun hst hi h0 hlane hfar
    refine completes_of (u := lockAchieved s l msg) rfl ?_
    rw [lockAchieved_named hrun hst hi h0, if_neg (not_not.2 hlane), if_neg (fun h => h.2 (hfar h.1)), setLane_twice, settle_lanes, lane_same]
    exact ⟨rfl, rfl, rfl, fun k hk => lane_other s hk _, frame_settle (frame_setLane s l _)⟩
  · intro s l msg hrun hst hi h0 hlane
    refine completes_of (u := lockAchieved s l msg) rfl ?_
    rw [lockAchieved_named hrun hst hi h0, if_pos hlane, setLane_twice, settle_lanes, laneEvent_lanes, lane_same]
    exact ⟨rfl, fun k hk => lane_other s hk _, frame_settle (((frame_setLane s l _).within).andThen (frame_laneEvent _ l _ _ _) (hr := fun _ h => h))⟩
  · intro s l hrun hst hi hup hfar hmode hlow hhigh hfold hsis
    have hother : otherFar s l = false := by rw [otherFar, hfar, bne_self_eq_false, Bool.and_false]
    have hany : portAnyUp s (portOf l) = true := by rw [portAnyUp_sister, hup, Bool.or_true]
    have hlinks (p : Port) : portLinked (cameUp s l) p = portLinked s p := portLinked_congr (cameUp_laneI1g s l) (cameUp_portAnyUp hup p)
    have hraised : RaisedIn (segOf s (portOf l)) [(0x2001, 0, l.val, [l.val, s.lanes[l].mode, s.lanes[l].snr, s.lanes[l].farUid])] s (settle s (cameUp s l)) :=
      raisedIn_laneEvent (frame_setLane s l inService) hrun (by rw [laneVals, lane_same]; rfl) (fun h => h)
    refine completes_of (u := portTurns s (checkDone s l)) rfl ?_
    rw [checkDone_native hrun hst hi hother, hany, laneServes_beside hmode hlow hhigh hfold hsis]
    rw [Bool.not_true, if_neg Bool.false_ne_true, portTurns_same hlinks, settle_lanes, cameUp_same]
    exact ⟨rfl, rfl, fun k hk => cameUp_other s hk, hraised, frame_settle (frame_cameUp s l)⟩
  · intro s l hrun hst hi hup
    have hcalm := calm_checkDone_first hrun hst hi hup
    refine completes_of (u := portTurns s (checkDone s l)) rfl ?_
    have hturn := turned_portTurns s (checkDone s l)
    generalize checkDone s l = u at *
    have hup' : u.lanes[l].st = .up := by rw [hcalm.st, cameUp_same]; rfl
    rw [(turned_settle s _).portLinked, settle_lanes, hturn.portLinked, hturn.1]
    refine ⟨hup', ?_, ?_⟩
    · rw [hcalm.health, cameUp_same]
      rfl
    · rw [portLinked, portAnyUp_of_laneUp (by rw [laneUp, hup']; rfl), Bool.and_true, portI1g, portI1g, hcalm.laneI1g, cameUp_laneI1g]
  · intro s l hrun hst hi
    have hcalm : Calm false (cameUp s l) (checkDone s l) := by
      rw [checkDone_i1g hrun hst hi]
      exact (calm_outUp _ _).then (calm_etbRole _)
    refine completes_of (u := portTurns s (checkDone s l)) rfl ?_
    have hturn := turned_portTurns s (checkDone s l)
    generalize checkDone s l = u at *
    rw [settle_lanes, hturn.1, hcalm.lane, cameUp_same]
    exact ⟨rfl, rfl, fun k hk => (hcalm.lane k).trans (cameUp_other s hk)⟩

end Sys2Proof.Lanes

end

section
/-! SUPPORT. Lanes that fail or are lost (Table 5-4, R100, R106 to R108): the fallback of a margin, the loss of lock and what it leaves of the port. -/

namespace Sys2Proof.Lanes

open Sys2Proof.Machine Sys2Proof.Safety Sys2Proof.Registers Sys2Proof.Traffic Sys2Proof.Faulty Sys2Proof.Bridge Sys2Proof.Quiet

/-! ### The margin (R100) -/

/-- A lane that trains again in N2G5. -/
def fallenBack (x : Lane) : Lane := { x with st := .train, mode := 2, again := false, fallback := true, farFallback := false }

-- Elaborated by itself, so that the proofs before it are checked before those after it begin: this bounds the memory that proofs under way take at once.
set_option Elab.async false in
theorem failedMargin_lower {s : State} {l : Fin 4} (hm : s.lanes[l].mode = 1) (hc : commonModes s l / 2 % 2 = 1) :
    failedMargin s l = setLane s l fallenBack := if_pos ⟨hm, hc⟩

theorem failedMargin_held {s : State} {l : Fin 4} (hm : s.lanes[l].mode ≠ 1) :
    failedMargin s l = laneEvent (setLane s l (fun x => { x with st := .held })) l 0x2008 5 [2] := if_neg fun h => hm h.1

theorem commonModes_of_frame {P : List Part} {R : Nat → Prop} {s t : State} (h : Frame P R s t) (l : Fin 4) (hr : ¬ R (0x1100 + 0x100 * l.val))
    (ha : Part.lanes ∉ P := by decide) (hl : Part.line ∉ P := by decide) (hb : Part.boot ∉ P := by decide) : commonModes t l = commonModes s l := by
  have hlanes : t.lanes = s.lanes := h.part .lanes ha
  have hmodes : laneModes t l = laneModes s l := by rw [laneModes, laneModes, laneCfg, laneCfg, hlanes, committed_of_frame h hl hb, h.reg hr (by omega)]
  rw [commonModes, commonModes, hmodes, hlanes]

/-! ### A loss of lock (R106 to R108) -/

/-- A lane after a loss of lock. -/
def lossNoted (s : State) (l : Fin 4) (x : Lane) : Lane :=
  { endUp x with
    st := .downWait, modeWas := x.mode, uncWas := x.unc, mode := 0, losses := s.now :: recentLosses s l, lossAt := some s.now, byEnd := false }

/-- The corrected bits are counted and the lane is lost. -/
def laneLost (s : State) (l : Fin 4) (corr : Nat) : State := setLane (corrCounted s l corr) l (lossNoted s l)

/-- The last lane of its port is lost: a coupler end, which its sister's own loss may be part of. -/
def couplerEnd (s : State) (l : Fin 4) (corr : Nat) : State :=
  setLane (setLane (laneLost s l corr) l (fun y => { y with byEnd := true })) (sisterLane l) (joinEnd s)

/-- A retirement that the loss began is superseded. -/
def unitReturned (s : State) (l : Fin 4) (corr : Nat) : State :=
  if (laneLost s l corr).lanes[sisterLane l].st == .retired && (couplerEnd s l corr).lanes[sisterLane l].st == .downWait then
    setUnit (couplerEnd s l corr) (sisterLane l).val (fun u => { u with req := 1 })
  else couplerEnd s l corr

theorem lossOfLock_lost {s : State} {l : Fin 4} (corr : Nat) (hrun : coreRun s = true) (hst : s.lanes[l].st = .up) (hret : s.lanes[l].farRetAny = false) :
    lossOfLock s l corr 0 =
      if laneI1g s l then etbRole (outDown (laneLost s l corr) (lanePort l))
      else if laneUp s (sisterLane l) then leftUp (laneLost s l corr) l s.lanes[l]
      else leftUp (unitReturned s l corr) l s.lanes[l] := by
  unfold lossOfLock
  rw [if_neg (by rw [hrun, hst]; decide)]
  dsimp only
  rw [uncBlocks_none, if_neg (by rw [hret]; simp)]
  rfl

theorem counted_laneLost (s : State) (l : Fin 4) (corr : Nat) : Counted (0x1120 + 0x100 * l.val) corr s (laneLost s l corr) :=
  ((frame_setLane (corrCounted s l corr) l (lossNoted s l)).reg (fun h => h) (by omega)).trans (counted_corrCounted s l corr)

theorem laneLost_same (s : State) (l : Fin 4) (corr : Nat) : (laneLost s l corr).lanes[l] = lossNoted s l s.lanes[l] := lane_same (corrCounted s l corr) l _

theorem laneLost_other (s : State) (l : Fin 4) (corr : Nat) {k : Fin 4} (h : k ≠ l) : (laneLost s l corr).lanes[k] = s.lanes[k] :=
  lane_other (corrCounted s l corr) h _

theorem frame_unitReturned (s : State) (l : Fin 4) (corr : Nat) : Frame [.lanes, .flt] (fun _ => False) (laneLost s l corr) (unitReturned s l corr) := by
  have hends : Frame [.lanes, .flt] (fun _ => False) (laneLost s l corr) (couplerEnd s l corr) :=
    ((frame_setLane _ l _).within (Q := [.lanes, .flt]) (S := fun _ => False)).andThen (frame_setLane _ _ _)
  exact frame_ite (hends.andThen (frame_setUnit _ _ _)) hends

theorem unitReturned_lanes (s : State) (l : Fin 4) (corr : Nat) : (unitReturned s l corr).lanes = (couplerEnd s l corr).lanes := by
  unfold unitReturned
  split
  · rfl
  · rfl

theorem unitReturned_same (s : State) (l : Fin 4) (corr : Nat) :
    (unitReturned s l corr).lanes[l] = { lossNoted s l s.lanes[l] with byEnd := true } := by
  rw [unitReturned_lanes, couplerEnd, lane_other _ (sister_ne l).symm, lane_same, laneLost_same]

theorem joinEnd_st {s : State} {x : Lane} (h : x.st ≠ .up) : (joinEnd s x).st ≠ .up := by
  unfold joinEnd
  split
  · dsimp only
    split
    · decide
    · exact h
  · exact h

theorem unitReturned_sister {s : State} {l : Fin 4} (corr : Nat) (h : s.lanes[sisterLane l].st ≠ .up) :
    (unitReturned s l corr).lanes[sisterLane l].st ≠ .up := by
  rw [unitReturned_lanes, couplerEnd, lane_same, lane_other _ (sister_ne l), laneLost_other s l corr (sister_ne l)]
  exact joinEnd_st h

/-- The lane that carries on takes the queue of the lost one. -/
theorem calm_leftUp_beside {s : State} {l : Fin 4} (corr : Nat) (h : laneUp s (sisterLane l) = true) :
    Calm seam (laneLost s l corr) (leftUp (laneLost s l corr) l s.lanes[l]) := by
  have hup : laneUp (laneLost s l corr) (sisterLane l) = true := by rw [laneUp, laneLost_other s l corr (sister_ne l)]; exact h
  rw [leftUp, if_pos hup]
  exact (calm_foldStart _ l).then (calm_moveQueue _ l)

theorem calm_leftUp_last {s : State} {l : Fin 4} (corr : Nat) (h : laneUp s (sisterLane l) = false) :
    Calm true (unitReturned s l corr) (leftUp (unitReturned s l corr) l s.lanes[l]) := by
  have hdown : laneUp (unitReturned s l corr) (sisterLane l) = false :=
    beq_eq_false_iff_ne.2 (unitReturned_sister corr (beq_eq_false_iff_ne.1 h))
  rw [leftUp, hdown, if_neg Bool.false_ne_true]
  exact calm_portEnds _ l _

/-- What is left of a lane after its loss, before the port is told. -/
def LossLeft (s : State) (l : Fin 4) (corr : Nat) (v : State) : Prop :=
  (∃ b, v.lanes[l] = { lossNoted s l s.lanes[l] with byEnd := b }) ∧ Counted (0x1120 + 0x100 * l.val) corr s v

theorem lossLeft_laneLost (s : State) (l : Fin 4) (corr : Nat) : LossLeft s l corr (laneLost s l corr) :=
  ⟨⟨false, laneLost_same s l corr⟩, counted_laneLost s l corr⟩

theorem lossLeft_unitReturned (s : State) (l : Fin 4) (corr : Nat) : LossLeft s l corr (unitReturned s l corr) :=
  ⟨⟨true, unitReturned_same s l corr⟩, ((frame_unitReturned s l corr).reg (fun h => h) (by omega)).trans (counted_laneLost s l corr)⟩

theorem calm_lossOfLock {s : State} {l : Fin 4} (corr : Nat) (hrun : coreRun s = true) (hst : s.lanes[l].st = .up) (hret : s.lanes[l].farRetAny = false) :
    ∃ v, LossLeft s l corr v ∧ Calm true v (lossOfLock s l corr 0) := by
  rw [lossOfLock_lost corr hrun hst hret]
  split
  · exact ⟨_, lossLeft_laneLost s l corr, (calm_outDown _ _).then (calm_etbRole _)⟩
  split
  next hup => exact ⟨_, lossLeft_laneLost s l corr, calm_leftUp_beside corr hup⟩
  next hup => exact ⟨_, lossLeft_unitReturned s l corr, calm_leftUp_last corr (Bool.eq_false_iff.2 hup)⟩

theorem lossOfLock_sister {s : State} {l : Fin 4} (corr : Nat) (hrun : coreRun s = true) (hst : s.lanes[l].st = .up) (hret : s.lanes[l].farRetAny = false)
    (hup : laneUp s (sisterLane l) = true) : (lossOfLock s l corr 0).lanes[sisterLane l] = s.lanes[sisterLane l] := by
  have hcalm : Calm false (laneLost s l corr) (lossOfLock s l corr 0) := by
    rw [lossOfLock_lost corr hrun hst hret, if_pos hup]
    exact calm_ite ((calm_outDown _ _).then (calm_etbRole _)) (calm_leftUp_beside corr hup)
  rw [hcalm.lane, laneLost_other s l corr (sister_ne l)]

theorem lossOfLock_last {s : State} {l : Fin 4} (corr : Nat) (hrun : coreRun s = true) (hst : s.lanes[l].st = .up) (hret : s.lanes[l].farRetAny = false)
    (hup : laneUp s (sisterLane l) = false) (hi : laneI1g s l = false) :
    (lossOfLock s l corr 0).lanes[l].byEnd = true ∧ portAnyUp (lossOfLock s l corr 0) (portOf l) = false := by
  have hcalm : Calm true (unitReturned s l corr) (lossOfLock s l corr 0) := by
    rw [lossOfLock_lost corr hrun hst hret, hi, hup, if_neg Bool.false_ne_true, if_neg Bool.false_ne_true]
    exact calm_leftUp_last corr hup
  refine ⟨?_, ?_⟩
  · rw [hcalm.field l Lane.byEnd, unitReturned_same]
  · rw [hcalm.portAnyUp, portAnyUp_sister, laneUp, laneUp, unitReturned_same,
      beq_eq_false_iff_ne.2 (unitReturned_sister corr (beq_eq_false_iff_ne.1 hup))]
    rfl

/-! ### The classification of a loss (R106, R107) -/

theorem unit_of_ofUnit {s : State} {u : Nat} {q : QEnt} (h : ofUnit s u q = true) : q.unit = u := by
  rw [ofUnit, Bool.and_eq_true] at h
  exact beq_iff_eq.1 h.1

theorem detect_tested (s : State) (l : Fin 4) (code : Nat) : LaneTested l s (detect s l.val code) := by
  have hcount := frame_errorNoted s l
  have hask : LaneTested l s (enqueue (errorNoted s l) l.val code false) := laneTested_of_frame (hcount.andThen (frame_enqueue _ _ _ _) (hr := fun _ h => h))
  rw [detect_lane]
  split
  · split
    · split
      next q _ hof =>
        split
        · exact laneTested_of_frame hcount
        · exact .after hcount (endTest_lane (by rw [unit_of_ofUnit hof]; exact laneUnit_val l) rfl)
      · exact hask
    · exact hask
  · exact laneTested_of_frame (frame_refl _ _ s)

/-- The loss is the lane's own: counted and recorded. -/
def lossCounted (s : State) (l : Fin 4) : State := laneEvent (bumpLane (setLane s l (fun x => { x with lossAt := none })) l 7) l 0x2002 2 []

theorem lossCounted_lanes (s : State) (l : Fin 4) : (lossCounted s l).lanes = (setLane s l
    (fun x => { x with lossAt := none })).lanes := laneEvent_lanes _ _ _ _ _

theorem lossCounted_counted (s : State) (l : Fin 4) : Counted (0x113C + 0x100 * l.val) 1 s (lossCounted s l) := by
  refine ((frame_laneEvent _ l 0x2002 2 []).reg (by omega) (by omega)).trans ?_
  refine (counted_bumpLane (setLane s l (fun x => { x with lossAt := none })) l 7 (by omega)).trans ?_
  rw [reg_setLane]

theorem lossClassify_own {s : State} {l : Fin 4} {n : Nat} (hn : s.lanes[l].lossAt = some n) (hb : s.lanes[l].byEnd = false) (hst : s.lanes[l].st ≠ .retired) :
    lossClassify s l = detect (lossCounted s l) l.val 0x2002 := by
  unfold lossClassify
  rw [hn]
  exact if_neg (by rw [hb, beq_eq_false_iff_ne.2 hst]; decide)

theorem lossClassify_end {s : State} {l : Fin 4} {n : Nat} (hn : s.lanes[l].lossAt = some n) (h : s.lanes[l].byEnd = true ∨ s.lanes[l].st = .retired) :
    lossClassify s l = setLane s l (fun x => { x with lossAt := none }) := by
  unfold lossClassify
  rw [hn]
  refine if_pos (Bool.or_eq_true_iff.2 ?_)
  exact h.imp_right fun e => beq_iff_eq.2 e

theorem lossAt_tested {s t : State} {l : Fin 4} (h : LaneTested l s t) : t.lanes[l].lossAt = s.lanes[l].lossAt := by
  rcases h.2 with e | e
  · rw [e]
  · rw [e, beginRetire, lane_same]

/-! ### The rows -/

theorem downWaitExpiry_detect {s : State} {l : Fin 4} (hrun : coreRun s = true) (hst : s.lanes[l].st = .downWait) (h : fld (laneThr s l) 27 24 = 0) :
    downWaitExpiry s l = setLane s l toDetect := (if_pos (by rw [hrun, hst]; rfl)).trans (if_neg fun hn => hn.1 h)

theorem downWaitExpiry_held {s : State} {l : Fin 4} (hrun : coreRun s = true) (hst : s.lanes[l].st = .downWait) (h : fld (laneThr s l) 27 24 ≠ 0)
    (hn : fld (laneThr s l) 27 24 ≤ (recentLosses s l).length) :
    downWaitExpiry s l = laneEvent (setLane s l (fun x => { x with st := .held })) l 0x2006 5 [] := (if_pos (by rw [hrun, hst]; rfl)).trans (if_pos ⟨h, hn⟩)

/-- Settles O9: fallback, the repeat after a lock timeout, the loss of lock and its classification, and the ends of DOWN_WAIT and HELD. -/
theorem laneLossesAndRetriesComplete : Obligations.LaneLossesAndRetriesComplete := by
  refine ⟨?_, ?_, ?_, ?_, ?_, ?_, ?_, ?_, ?_, ?_⟩
  · intro s l hrun hst hm hc
    refine completes_of (u := trainTimeout s l) rfl ?_
    rw [trainTimeout, if_pos (by rw [hrun, hst]; rfl), failedMargin_lower hm hc, settle_lanes, lane_same]
    exact ⟨rfl, rfl, rfl, fun k hk => lane_other s hk _, frame_settle (frame_setLane s l _)⟩
  · intro s l hrun hst hm
    have hset := frame_setLane s l (fun x => { x with st := .held })
    have hraised := raisedIn_laneEvent (code := 0x2008) (sev := 5) (more := [2]) (vals := [l.val, s.lanes[l].mode, s.lanes[l].snr, s.lanes[l].farUid, 2])
      hset hrun (by rw [laneVals, lane_same]; rfl) (fun h => h)
    refine completes_of (u := trainTimeout s l) rfl ?_
    rw [trainTimeout, if_pos (by rw [hrun, hst]; rfl), failedMargin_held hm, settle_lanes, laneEvent_lanes, lane_same]
    exact ⟨rfl, fun k hk => lane_other s hk _, hraised, frame_settle (hset.within.andThen (frame_laneEvent _ l _ _ _) (hr := fun _ h => h))⟩
  · intro s l hrun hst hagain
    refine completes_of (u := lockTimeout s l) rfl ?_
    rw [show lockTimeout s l = setLane s l (fun x => { x with st := .train, again := true }) from
      (if_pos (by rw [hrun, hst]; rfl)).trans (if_neg (by rw [hagain]; decide)), settle_lanes, lane_same]
    exact ⟨rfl, frame_settle (frame_setLane s l _)⟩
  · intro s l hrun hst hm hc
    have hnoted : Frame faultParts FaultWords (bumpLane s l 1) (detect (bumpLane s l 1) l.val 0) := frame_detect_lane _ l (by decide)
    have hword (o : Nat) (h : 0x1100 ≤ o ∧ o < 0x2000) : ¬ FaultWords o := by unfold FaultWords; omega
    have hmodes : commonModes (bumpLane s l 1) l = commonModes s l := commonModes_of_frame (frame_bump s _) l (by omega)
    have hlanes : (detect (bumpLane s l 1) l.val 0).lanes = s.lanes := hnoted.part .lanes
    have hcount : Counted (0x1124 + 0x100 * l.val) 1 s (detect (bumpLane s l 1) l.val 0) :=
      (hnoted.reg (hword _ (by omega)) (by omega)).trans (counted_bumpLane s l 1 (by omega))
    have hcommon : commonModes (detect (bumpLane s l 1) l.val 0) l / 2 % 2 = 1 := by
      rw [commonModes_of_frame hnoted l (hword _ (by omega)), hmodes]
      exact hc
    refine completes_of (u := checkFail s l) rfl ?_
    rw [checkFail, if_pos (by rw [hrun, hst]; rfl), failedMargin_lower (by rw [hlanes]; exact hm) hcommon, settle_lanes, lane_same]
    exact ⟨rfl, rfl, counted_settle (by omega) ((reg_setLane _ _ _ _).trans hcount)⟩
  · intro s l corr hrun hst hret
    obtain ⟨v, ⟨⟨b, hlane⟩, hcount⟩, hcalm⟩ := calm_lossOfLock corr hrun hst hret
    have hsister := lossOfLock_sister corr hrun hst hret
    have hlast := lossOfLock_last corr hrun hst hret
    refine completes_of (u := portTurns s (lossOfLock s l corr 0)) rfl ?_
    have hturn := (turned_portTurns s (lossOfLock s l corr 0)).then (turned_settle s _)
    generalize lossOfLock s l corr 0 = u at *
    have hlinked := hturn.portLinked (portOf l)
    obtain ⟨hlanes, -, -, hreg⟩ := hturn
    have hword : ¬ Busy (0x1120 + 0x100 * l.val) := by
      rintro (h | ⟨k, h⟩)
      all_goals omega
    rw [hlanes, hcalm.field l Lane.st, hcalm.field l Lane.mode, hcalm.field l Lane.lossAt, hcalm.field l Lane.losses, hlane]
    refine ⟨rfl, rfl, rfl, rfl, ?_, hsister, fun hup hi => ⟨(hlast hup hi).1, ?_⟩⟩
    · exact (hreg _ (by omega) hword).trans ((hcalm.reg (by omega) (by omega) fun k => by omega).trans hcount)
    · rw [hlinked, portLinked, (hlast hup hi).2, Bool.and_false]
  · intro s l n hn h
    refine completes_of (u := portTurns s (lossClassify s l)) rfl ?_
    have hset := frame_setLane s l (fun x => { x with lossAt := none })
    have hsts (k : Fin 4) : (setLane s l (fun x => { x with lossAt := none })).lanes[k].st = s.lanes[k].st := by
      by_cases hk : k = l
      · rw [hk, lane_same]
      · rw [lane_other s hk]
    rw [lossClassify_end hn h, portTurns_frame hset hsts (fun _ h => h), settle_lanes, lane_same]
    exact ⟨rfl, frame_settle hset⟩
  · intro s l n hn hb hst
    have htested := detect_tested (lossCounted s l) l 0x2002
    have hcount := lossCounted_counted s l
    have hlanes := lossCounted_lanes s l
    refine completes_of (u := portTurns s (lossClassify s l)) rfl ?_
    rw [lossClassify_own hn hb hst]
    obtain ⟨hturned, -, -, hreg⟩ := (turned_portTurns s (detect (lossCounted s l) l.val 0x2002)).then (turned_settle s _)
    have hword : ¬ Busy (0x113C + 0x100 * l.val) := by
      rintro (h | ⟨k, h⟩)
      all_goals omega
    refine ⟨?_, ?_⟩
    · rw [hturned, lossAt_tested htested, hlanes, lane_same]
    · exact (hreg _ (by omega) hword).trans ((htested.1.reg (by unfold FaultWords; omega) (by omega)).trans hcount)
  · intro s l hrun hst h
    refine completes_of (u := downWaitExpiry s l) rfl ?_
    rw [downWaitExpiry_detect hrun hst h, settle_lanes, lane_same]
    exact ⟨rfl, rfl, frame_settle (frame_setLane s l _)⟩
  · intro s l hrun hst h hn
    have hset := frame_setLane s l (fun x => { x with st := .held })
    have hraised := raisedIn_laneEvent (code := 0x2006) (sev := 5) (more := []) (vals := [l.val, s.lanes[l].mode, s.lanes[l].snr, s.lanes[l].farUid])
      hset hrun (by rw [laneVals, lane_same]; rfl) (fun h => h)
    refine completes_of (u := downWaitExpiry s l) rfl ?_
    rw [downWaitExpiry_held hrun hst h hn, settle_lanes, laneEvent_lanes, lane_same]
    exact ⟨rfl, hraised, frame_settle (hset.within.andThen (frame_laneEvent _ l _ _ _) (hr := fun _ h => h))⟩
  · intro s l hrun hst
    refine completes_of (u := heldExit s l) rfl ?_
    rw [show heldExit s l = setLane s l toDetect from if_pos (by rw [hrun, hst]; rfl), settle_lanes, lane_same]
    exact ⟨rfl, rfl, fun k hk => lane_other s hk _, frame_settle (frame_setLane s l _)⟩

end Sys2Proof.Lanes

end

section
/-! SUPPORT. The start-up sequence (chapter 4): the reads of the image, and what a commit and the entry to REPEATER leave of the phase and the node. -/

namespace Sys2Proof.Image

open Sys2Proof.Machine Sys2Proof.Safety Sys2Proof.Registers Sys2Proof.Quiet Sys2Proof.Power

/-! ### Steps of a commit (R81, R83) -/

/-- The start-up sequencer and the node's state are as they were. -/
def PhaseKept (s t : State) : Prop := t.boot = s.boot ∧ t.line.node = s.line.node

variable {s t u : State}

-- Elaborated by itself, so that the proofs before it are checked before those after it begin: this bounds the memory that proofs under way take at once.
set_option Elab.async false in
theorem kept_refl (s : State) : PhaseKept s s := ⟨rfl, rfl⟩

theorem PhaseKept.then (h : PhaseKept s t) (g : PhaseKept t u) : PhaseKept s u := by
  obtain ⟨hb, hn⟩ := h
  obtain ⟨gb, gn⟩ := g
  exact ⟨gb.trans hb, gn.trans hn⟩

theorem kept_of_calm {seam : Bool} (h : Calm seam s t) : PhaseKept s t := ⟨h.boot, by rw [h.line]⟩

theorem kept_of_frame {P : List Part} {R : Nat → Prop} (h : Frame P R s t) (hl : Part.line ∉ P := by decide) (hb : Part.boot ∉ P := by decide) :
    PhaseKept s t := ⟨h.part .boot hb, congrArg (·.node) (h.part .line hl)⟩

theorem kept_ite {c : Prop} [Decidable c] (h : PhaseKept s t) (g : PhaseKept s u) : PhaseKept s (if c then t else u) := by
  split
  · exact h
  · exact g

theorem kept_foldl {α : Type} {f : State → α → State} (h : ∀ s x, PhaseKept s (f s x)) (l : List α) (s : State) : PhaseKept s (l.foldl f s) := by
  induction l generalizing s with
  | nil => exact kept_refl s
  | cons x l ih => exact (h s x).then (ih _)

theorem kept_laneCommit (s : State) (l : Fin 4) : PhaseKept s (laneCommit s l) := by
  have hset (f : Lane → Lane) : PhaseKept s (setLane s l f) := kept_of_frame (frame_setLane s l f)
  unfold laneCommit
  dsimp only
  split
  · generalize hv : (if s.lanes[l].st == .disabled then s else setLane s l _) = v
    have hoff : PhaseKept s v := hv ▸ kept_ite (kept_refl s) (hset _)
    exact (kept_ite (hoff.then (kept_of_calm (calm_leftUp v l _))) hoff).then (kept_of_calm (calm_outDisable (seam := false) _ _))
  split
  · exact hset _
  · exact kept_ite (kept_ite ((hset _).then (kept_of_calm (calm_portEnds _ l _))) (hset _)) (kept_refl s)

/-- A pair that feeds or relays goes off. -/
def pairBlocked (s : State) (q : Fin 4) : State := if pairMode (lfctl s) q.val = 0 then s else setPair s q (fun x => { x with st := .off, sink := false })

theorem feedBlocked_eq (s : State) (p : Port) : feedBlocked s p =
    if portI1g s p && [laneA p, laneB p].any (fun q => pairMode (lfctl s) q.val != 0) then
      laneEvent ([laneA p, laneB p].foldl pairBlocked s) (laneA p) 0x2030 5 []
    else s := rfl

theorem kept_pairBlocked (s : State) (q : Fin 4) : PhaseKept s (pairBlocked s q) := kept_ite (kept_refl s) ⟨rfl, rfl⟩

theorem kept_feedBlocked (s : State) (p : Port) : PhaseKept s (feedBlocked s p) := by
  rw [feedBlocked_eq]
  exact kept_ite ((kept_foldl kept_pairBlocked _ s).then (kept_of_calm (calm_laneEvent (seam := false) _ _ _ _ _))) (kept_refl s)

theorem kept_canCommit (s : State) (c : Fin 8) : PhaseKept s (canCommit s c) := kept_ite ⟨rfl, rfl⟩ ⟨rfl, rfl⟩

/-- An enabled local port waits for its PHY; another is disabled. -/
def localCommit (s : State) (n : Nat) : State :=
  if regB s (0xE100 + 0x10 * n) 0 then setSw s (Fin.ofNat 20 (4 + n)) (fun o => { o with hst := 2 }) else outDisable s (Fin.ofNat 20 (4 + n))

theorem portsCommit_eq (s : State) : portsCommit s =
    setSw (setSw ((List.range 10).foldl localCommit s) 14 (fun o => { o with hst := 0 })) 15 (fun o => { o with hst := 0 }) := rfl

theorem kept_localCommit (s : State) (n : Nat) : PhaseKept s (localCommit s n) :=
  kept_ite (kept_of_calm (calm_setSw (seam := false) s _ _)) (kept_of_calm (calm_outDisable (seam := false) s _))

theorem kept_portsCommit (s : State) : PhaseKept s (portsCommit s) := by
  rw [portsCommit_eq]
  have hports := kept_foldl kept_localCommit (List.range 10) s
  generalize (List.range 10).foldl localCommit s = t at *
  exact (hports.then (kept_of_calm (calm_setSw (seam := false) t 14 _))).then (kept_of_calm (calm_setSw (seam := false) _ 15 _))

theorem kept_loadStaticFdb (s : State) : PhaseKept s (loadStaticFdb s) := by
  unfold loadStaticFdb
  dsimp only
  refine PhaseKept.then (t := { s with sw := { s.sw with fdb := [] } }) ⟨rfl, rfl⟩ (kept_foldl (fun t k => ?_) _ _)
  split
  · split
    · exact ⟨rfl, rfl⟩
    · exact kept_refl t
  · exact kept_refl t

theorem kept_winBind (s : State) : PhaseKept s (winBind s) := by
  refine kept_foldl (fun t n => ?_) _ s
  refine kept_ite ⟨rfl, rfl⟩ ?_
  have hfirst (c : Prop) [Decidable c] (x : Bridge) (f : WinSt → WinSt) : PhaseKept t (setWin (if c then { t with hb := x } else t) n f) :=
    PhaseKept.then (t := if c then { t with hb := x } else t) (kept_ite ⟨rfl, rfl⟩ (kept_refl t)) ⟨rfl, rfl⟩
  exact kept_ite ((hfirst _ _ _).then (kept_of_calm (calm_raise (seam := false) _ _ _ _ _))) (hfirst _ _ _)

/-- The statistic of an entry whose definition changed is gone. -/
def statGone (s : State) (k c : Nat) : State :=
  { s with
    log := { s.log with stats := mdel s.log.stats k }
    mram := { s.mram with stats := mdel s.mram.stats k, defCrc := mput s.mram.defCrc k c } }

/-- One statistic at a commit. -/
def statChecked (s : State) (k : Nat) : State :=
  let i := if 64 ≤ k then k - 64 else k
  let c := (crc32 (statDef s (decide (64 ≤ k)) i)).toNat
  if (mget s.mram.defCrc k).getD noDefCrc = c then s else raise (statGone s k c) 0xB007 6 0xFFF [(decide (64 ≤ k)).toNat, i]

theorem statCommit_eq (s : State) : statCommit s = (List.range 192).foldl statChecked s := by
  unfold statCommit statChecked statGone
  rfl

theorem kept_statChecked (s : State) (k : Nat) : PhaseKept s (statChecked s k) := by
  have hgone (c : Nat) : PhaseKept s (statGone s k c) := ⟨rfl, rfl⟩
  unfold statChecked
  dsimp only
  exact kept_ite (kept_refl s) ((hgone _).then (kept_of_calm (calm_raise (seam := false) _ _ _ _ _)))

theorem kept_statCommit (s : State) : PhaseKept s (statCommit s) := by
  rw [statCommit_eq]
  exact kept_foldl kept_statChecked _ s

/-- The collector's rate and the windows of the policy as a commit leaves them. -/
def monitorCommit (s : State) : State := policyRestart { s with mon := { s.mon with baud := regF s 0xD000 2 0 } }

theorem blocksCommit_eq (s : State) : blocksCommit s = statCommit (pilotCopy (monitorCommit (collBind (winBind (bindAll
    ((List.finRange 8).foldl canCommit (loadStaticFdb (portsCommit ([Port.fore, Port.aft].foldl feedBlocked s))))))))) := rfl

theorem kept_blocksCommit (s : State) : PhaseKept s (blocksCommit s) := by
  have hmon (u : State) : PhaseKept u (pilotCopy (monitorCommit (collBind u))) := ⟨rfl, rfl⟩
  have hbind (u : State) : PhaseKept u (bindAll u) := ⟨rfl, rfl⟩
  rw [blocksCommit_eq]
  have hports := ((kept_foldl kept_feedBlocked [Port.fore, Port.aft] s).then (kept_portsCommit _)).then (kept_loadStaticFdb _)
  generalize loadStaticFdb (portsCommit ([Port.fore, Port.aft].foldl feedBlocked s)) = t at *
  have hcan := hports.then (kept_foldl kept_canCommit (List.finRange 8) t)
  generalize (List.finRange 8).foldl canCommit t = u at *
  exact (((hcan.then (hbind u)).then (kept_winBind _)).then (hmon _)).then (kept_statCommit _)

theorem kept_slotsCommit (s : State) : PhaseKept s (slotsCommit s) := by
  unfold slotsCommit
  dsimp only
  generalize hv : takeMap _ 0 _ = v
  have hmap : PhaseKept s v := hv ▸ ⟨rfl, rfl⟩
  have hsynco : PhaseKept s (syncoCommit (if segGw s then takeMap v 1 s.inaug[(1 : Fin 2)].table else v)) :=
    (hmap.then (kept_ite (kept_of_calm (calm_takeMap (seam := false) v 1 _)) (kept_refl v))).then ⟨rfl, rfl⟩
  exact (hsynco.then (kept_of_calm (calm_foldBelow (seam := false) _ _))).then (kept_of_calm (calm_foldBelow (seam := false) _ _))

theorem kept_wakeReport (s : State) : PhaseKept s (wakeReport s) :=
  have htold (u : State) (more : List Nat) (h : PhaseKept s u) : PhaseKept s (sleepEvent u 0x1010 0 more) :=
    h.then (kept_of_calm (calm_raise (seam := false) _ _ _ _ _))
  kept_ite (htold _ _ ⟨rfl, rfl⟩) (kept_refl s)

end Sys2Proof.Image

end

section
/-! SUPPORT. The load of the image and the profile switch (R69 to R88): each read passed, the commit, the entry to REPEATER. -/

namespace Sys2Proof.Image

open Sys2Proof.Machine Sys2Proof.Safety Sys2Proof.Registers Sys2Proof.Quiet Sys2Proof.Power Sys2Proof.Telemetry Sys2Proof.Traffic

/-! ### Commit and REPEATER (R81, R83) -/

-- Elaborated by itself, so that the proofs before it are checked before those after it begin: this bounds the memory that proofs under way take at once.
set_option Elab.async false in
theorem frame_takeWords (l : List (Nat × Word)) (s : State) : Frame [] (fun _ => True) s (l.foldl (fun t x => setReg t x.1 x.2) s) :=
  frame_foldl (fun t x => (frame_setReg t x.1 x.2).within (hr := fun _ _ => trivial)) l s

theorem frame_takeRegs (s ld : State) : Frame [] (fun _ => True) s (takeRegs s ld) := frame_takeWords ld.regs s

/-- The profile's tables, the node's state and the phase as a commit takes them. -/
def tablesTaken (s ld : State) : State :=
  { s with
    tables := ld.tables
    line := { s.line with node := .run }
    boot := { s.boot with
      phase := .committed, committed := true, everRun := true, locked := true, active := s.boot.psel, source := 0, types := profTypes s s.boot.psel
      img := [], tag := [] } }

/-- No written word waits for the commit. -/
def noneWritten (s : State) : State := { s with boot := { s.boot with wrote := [] } }

/-- The registers of the image, and over them what was written since. -/
def imageTaken (s : State) : State :=
  s.boot.wrote.foldl (fun t x => setReg t x.1 x.2) (noneWritten (takeRegs (tablesTaken s (loaded s)) (loaded s)))

theorem kept_inaugCommit (s : State) : PhaseKept s (if segGw s then idleRows (idleRows (toIdle (toIdle s 0) 1) 0) 1 else idleRows (reportOwn s 0 false 0) 0) :=
  kept_of_calm (calm_ite ((((calm_toIdle s 0).then (calm_toIdle _ 1)).then (calm_idleRows _ 0)).then (calm_idleRows _ 1))
    ((calm_reportOwn s 0 false 0).then (calm_idleRows _ 0)))

theorem kept_commit (s : State) : PhaseKept (imageTaken s) (commit s) := by
  unfold commit
  extract_lets ld line boot s1 boot' taken s2 s3
  have htaken : taken = imageTaken s := by
    unfold imageTaken
    rfl
  rw [← htaken]
  clear htaken
  clear_value taken
  have hlanes : PhaseKept taken ((List.finRange 4).foldl laneCommit taken) := kept_foldl kept_laneCommit _ taken
  have hblocks : PhaseKept taken s2 := (hlanes.then (kept_slotsCommit _)).then (kept_blocksCommit _)
  have hinaug : PhaseKept s2 s3 := kept_inaugCommit s2
  clear_value s2 s3
  exact ((hblocks.then hinaug).then (kept_of_calm (calm_raise (seam := false) _ _ _ _ _))).then (kept_wakeReport _)

theorem imageTaken_boot (s : State) : (imageTaken s).boot = { (tablesTaken s (loaded s)).boot with wrote := [] } := by
  have htaken := (frame_takeRegs (tablesTaken s (loaded s)) (loaded s)).part .boot
  have hnone : (noneWritten (takeRegs (tablesTaken s (loaded s)) (loaded s))).boot = { (takeRegs (tablesTaken s (loaded s))
    (loaded s)).boot with wrote := [] } := rfl
  rw [imageTaken, (frame_takeWords s.boot.wrote _).part .boot, hnone, htaken]

theorem imageTaken_line (s : State) : (imageTaken s).line = { s.line with node := .run } := by
  have htaken := (frame_takeRegs (tablesTaken s (loaded s)) (loaded s)).part .line
  rw [imageTaken, (frame_takeWords s.boot.wrote _).part .line, show (noneWritten _).line = (takeRegs (tablesTaken s (loaded s)) (loaded s)).line from rfl,
    htaken]
  rfl

/-- What a commit leaves of the sequencer and the node. -/
theorem commit_run (s : State) : (commit s).boot.phase = .committed ∧ (commit s).boot.committed = true ∧ (commit s).boot.everRun = true ∧
    (commit s).boot.active = s.boot.psel ∧ (commit s).line.node = .run := by
  obtain ⟨hboot, hnode⟩ := kept_commit s
  rw [hboot, hnode, imageTaken_boot, imageTaken_line]
  exact ⟨rfl, rfl, rfl, rfl, rfl⟩

/-- A node without an image, before it reports itself. -/
def repeaterState (s : State) (code : Nat) : State :=
  let s0 := blocksReset s
  { s0 with
    regs := s0.regs.filter (fun e => !configReg e.1 || e.1 == 0xA100)
    tables := []
    line := { s0.line with node := .repeater }
    tb := { s0.tb with clen := if schedCommitted s then some (regF s 0x4000 2 0) else s.tb.clen }
    lanes := s0.lanes.map (fun x => if x.st == .disabled || x.mode == 3 then toDetect x else x)
    boot := { s0.boot with phase := .repeater, cause := code, committed := false, types := [], img := [], checked := false, wrote := [] } }

theorem enterRepeater_repeater (s : State) (code : Nat) : (enterRepeater s code).boot.phase = .repeater ∧ (enterRepeater s code).boot.committed = false ∧
    (enterRepeater s code).boot.cause = code ∧ (enterRepeater s code).line.node = .repeater := by
  have hcalm : Calm false (repeaterState s code) (enterRepeater s code) := calm_reportOwn _ 0 false 0
  rw [hcalm.boot, hcalm.line]
  exact ⟨rfl, rfl, rfl, rfl⟩

/-! ### Reads (R71, R80, R82) -/

theorem frame_imgEvent (s : State) (code sev : Nat) (b : BadRead) : Frame [.log] (· = 0xC180) s (imgEvent s code sev b) := frame_raise s _ _ _ _

theorem frame_withBoot (s : State) (b : Boot) : Frame [.boot] (fun _ => False) s { s with boot := b } := frame_of_regs

/-- The report of a repeat. -/
def retryTold (s : State) : State := if 0 < s.boot.attempt then imgEvent s 0xC009 3 s.boot.bad else s

theorem frame_retryTold (s : State) : Frame [.log] (· = 0xC180) s (retryTold s) := frame_ite (frame_imgEvent s _ _ _) (frame_refl _ _ s)

theorem readPassed_boot (s : State) : (readPassed s).boot = { s.boot with attempt := 0, blanks := 0, bad := {} } := by
  have htold : (retryTold s).boot = s.boot := (frame_retryTold s).part .boot
  have h : (readPassed s).boot = { (retryTold s).boot with attempt := 0, blanks := 0, bad := {} } := rfl
  rw [h, htold]

theorem frame_readPassed (s : State) : Frame [.boot, .log] (· = 0xC180) s (readPassed s) :=
  ((frame_retryTold s).within (Q := [.boot, .log]) (S := (· = 0xC180)) (hr := fun _ h => h)).andThen (frame_withBoot (retryTold s) _)

theorem frame_nvmRead (s : State) (addr len : Nat) : Frame [.out] (fun _ => False) s (nvmRead s addr len) := frame_emit s _

theorem frame_nextRead (s : State) : Frame [.out] (fun _ => False) s (nextRead s) := by
  unfold nextRead
  split
  · exact frame_nvmRead s _ _
  · split
    · exact frame_nvmRead s _ _
    · exact frame_ite (frame_nvmRead s _ _) (frame_refl _ _ s)

theorem frame_targetReads (s : State) : Frame [.out] (fun _ => False) s (targetReads s) :=
  frame_trans (frame_nvmRead s _ _) (frame_foldl (fun t _ => frame_nvmRead t _ _) _ _)

theorem frame_applyLfctl (s : State) (v : Word) : Frame [.line, .log] (fun o => o = 0xA100 ∨ o = 0xC180) s (applyLfctl s v) ∧
    reg (applyLfctl s v) 0xA100 = v := by
  have hpairs : Frame [.line, .log] (· = 0xC180) (setReg s 0xA100 v) (applyLfctl s v) := by
    refine frame_eachPair (fun t p => frame_ite (frame_refl _ _ t) ?_) _
    exact ((frame_setPair t p _).within (Q := [.line, .log]) (S := (· = 0xC180))).andThen (startPair_pair _ p).1.1.2.1 (hr := fun _ h => h)
  exact ⟨((frame_setReg s 0xA100 v).within (hr := fun _ h => .inl h)).andThen hpairs (hr := fun _ h => .inr h),
    (hpairs.reg (by omega)).trans (reg_setReg_same s 0xA100 v)⟩

end Sys2Proof.Image

end

section
/-! SUPPORT. The statement on the image load and the profile switch (R69 to R88). -/

namespace Sys2Proof.Image

open Sys2Proof.Machine Sys2Proof.Safety Sys2Proof.Registers Sys2Proof.Quiet Sys2Proof.Power Sys2Proof.Telemetry Sys2Proof.Traffic

variable {s : State} {d : Bytes}

/-! ### Header and directory (R71, R74, R76) -/

/-- The load starts afresh. -/
def loadBegun (s : State) : State :=
  setPhase { s with boot := { s.boot with attempt := 0, blanks := 0, dirSeen := false, next := 0, dir := [], img := [] } } .header

-- Elaborated by itself, so that the proofs before it are checked before those after it begin: this bounds the memory that proofs under way take at once.
set_option Elab.async false in
theorem nvmWaitDone_read (hrun : coreRun s = true) (hp : s.boot.phase = .nvmWait) (hb : bscan s = false) :
    nvmWaitDone s = emit (loadBegun s) (.nvm 0x03 0 120 []) := if_pos (by rw [hrun, hp, hb]; rfl)

/-- The header and its line-feed block are taken. -/
def headerTaken (s : State) (d : Bytes) : State :=
  let h := d.take 64
  let auth := (byteAt h 14).testBit 0
  let s1 := readPassed s
  { s1 with boot := { s1.boot with
    phase := .loading, imgLen := beAt h 8 4, sections := beAt h 12 2, flags := byteAt h 14, profiles := byteAt h 15, imageId := beAt h 16 8
    lfBlock := (d.drop 64).take (if auth then 56 else 24), img := d.take (64 + if auth then 56 else 24) } }

theorem headerReceived_taken (hrun : coreRun s = true) (hp : s.boot.phase = .header) (hb : bscan s = false) (hcrc : headerCrcOk (d.take 64) = true)
    (hfields : headerFieldsOk (d.take 64) = true) (hauth : (byteAt (d.take 64) 14).testBit 0 = s.otp.img.isSome) (hlf : lfCrcOk (d.drop 64) = true)
    (htag : s.otp.img.isSome = true → slice (d.drop 64) 24 32 = hmac (s.otp.img.getD []) ((d.drop 64).take 24))
    (hlff : lfFieldsOk (d.drop 64) s.otp.img.isSome (byteAt (d.take 64) 15) = true) (hprof : (byteAt (d.take 64) 15).testBit s.boot.psel = true) :
    headerReceived s d = nextRead (applyLfctl (headerTaken s d) (BitVec.ofNat 32 (beAt (d.drop 64) (4 + 4 * s.boot.psel) 4))) := by
  have hopen : (!(coreRun s && s.boot.phase == .header && !bscan s)) = false := by rw [hrun, hp, hb]; rfl
  have hkey : ((byteAt (d.take 64) 14).testBit 0 && s.otp.img.isNone) = false := by
    rw [hauth]
    cases s.otp.img <;> rfl
  have hopenKey : (!(byteAt (d.take 64) 14).testBit 0 && s.otp.img.isSome) = false := by
    rw [hauth]
    cases s.otp.img <;> rfl
  have hmac : ((byteAt (d.take 64) 14).testBit 0 && slice (d.drop 64) 24 32 != hmac (s.otp.img.getD []) ((d.drop 64).take 24)) = false := by
    rw [hauth]
    cases hi : s.otp.img.isSome
    · rfl
    · rw [htag hi, bne_self_eq_false]
      rfl
  rw [← hauth] at hlff
  unfold headerReceived
  dsimp only
  rw [hopen, if_neg Bool.false_ne_true, hcrc, hfields, hkey, hopenKey, hlf, hmac, hlff, hprof]
  rfl

/-- The directory is taken. -/
def directoryTaken (s : State) (d : Bytes) : State :=
  let s1 := readPassed s
  { s1 with boot := { s1.boot with
    dirSeen := true, next := 0
    dir := ((List.range s.boot.sections).map (readDir d)).mergeSort (fun a b => decide (a.offset ≤ b.offset)), img := imgPad s 0x80 ++ d } }

theorem directoryReceived_taken (hlen : d.length = 16 * s.boot.sections + 4)
    (hcrc : beAt d (16 * s.boot.sections) 4 = (crc32 (d.take (16 * s.boot.sections))).toNat)
    (hok : dirOk d s.boot.sections s.boot.profiles s.boot.imgLen (imgAuth s) = true) : directoryReceived s d = nextRead (directoryTaken s d) :=
  (if_neg (by
    rintro (h | h)
    · exact h hcrc
    · exact h hlen)).trans (if_neg (by simp [hok]))

section

variable (hrun : coreRun s = true) (hp : s.boot.phase = .loading) (hb : bscan s = false)
include hrun hp hb

theorem sectionReceived_directory (hdir : s.boot.dirSeen = false) : sectionReceived s d = directoryReceived s d := by
  unfold sectionReceived
  rw [if_neg (by rw [hrun, hp, hb]; decide), hdir]
  rfl

theorem sectionReceived_body {e : DirEnt} (hdir : s.boot.dirSeen = true)
    (he : s.boot.dir[s.boot.next]? = some e) : sectionReceived s d = bodyReceived s e d := by
  unfold sectionReceived
  rw [if_neg (by rw [hrun, hp, hb]; decide), hdir, he]
  rfl

theorem sectionReceived_tag (hdir : s.boot.dirSeen = true) (he : s.boot.dir[s.boot.next]? = none) :
    sectionReceived s d = loadedPhase { s with boot := { s.boot with tag := d } } := by
  unfold sectionReceived
  rw [if_neg (by rw [hrun, hp, hb]; decide), hdir, he]
  rfl

end

/-! ### Sections (R78 to R82) -/

/-- A section is taken. -/
def bodyTaken (s : State) (e : DirEnt) (d : Bytes) : State :=
  let from0 := readFrom s s.boot.next e
  let s1 := readPassed s
  { s1 with boot := { s1.boot with
    next := s.boot.next + 1, img := imgPad s from0 ++ d
    wrote := if e.pmask.testBit s.boot.psel then s1.boot.wrote.filter (fun x => !bodySets (d.drop (e.offset - from0)) x.1) else s1.boot.wrote } }

theorem bodyTaken_dir (s : State) (e : DirEnt) (d : Bytes) : (bodyTaken s e d).boot.dir = s.boot.dir := by
  have hpassed : (readPassed s).boot.dir = s.boot.dir := by rw [readPassed_boot]
  exact hpassed

theorem bodyReceived_taken {e : DirEnt} (hlen : (d.drop (e.offset - readFrom s s.boot.next e)).length = e.length)
    (hcrc : (crc32 (d.drop (e.offset - readFrom s s.boot.next e))).toNat = e.crc) (hok : bodyOk e.type (d.drop (e.offset - readFrom s s.boot.next e)) = true)
    (hmore : s.boot.next + 1 < s.boot.dir.length) : bodyReceived s e d = nextRead (bodyTaken s e d) := by
  have hnext : (bodyTaken s e d).boot.next < (bodyTaken s e d).boot.dir.length := by
    rw [bodyTaken_dir]
    exact hmore
  refine ((if_neg ?_).trans (if_neg ?_)).trans (if_pos hnext)
  · rintro (h | h)
    · exact h hcrc
    · exact h hlen
  · simp [hok]

theorem frame_bootAfter (s : State) (b : Boot) : Frame [.boot, .log] (· = 0xC180) s { readPassed s with boot := b } :=
  (frame_readPassed s).andThen (frame_withBoot (readPassed s) b)

/-- A step of the load and the read that follows it. -/
theorem frame_stepRead {t : State} (h : Frame [.boot, .log] (· = 0xC180) s t) : Frame [.boot, .log, .out] (· = 0xC180) s (nextRead t) :=
  (h.within (hr := fun _ h => h)).andThen (frame_nextRead t)

theorem nextRead_boot (t : State) : (nextRead t).boot = t.boot := (frame_nextRead t).part .boot

/-! ### The tag (R80, R81) -/

/-- The tag of the image is the one of its key. -/
def tagVerified (s : State) : State := { s with boot := { s.boot with authOk := true } }

theorem tagVerified_psel (s : State) : (tagVerified s).boot.psel = s.boot.psel := rfl

theorem tagResult_open {tail : Bytes} (hrun : coreRun s = true) (hp : s.boot.phase = .loaded) (hb : bscan s = false) :
    tagResult s tail = if !imgAuth s then commit s
      else if s.boot.tag = hmac (s.otp.img.getD []) (hashed s tail) then commit (tagVerified s)
      else imageFails s 0xC005 { part := 0xFF } :=
  if_neg (by rw [hrun, hp, hb]; decide)

/-! ### The profile switch (R86 to R88) -/

/-- The switch is in its verify step. -/
def switchBegun (s : State) (p src : Nat) : State :=
  { s with boot := { s.boot with phase := .switchVerify, target := p, reqSource := src, attempt := 0, checked := false } }

theorem profCtl_begun {v : Word} (hgo : bitAt v 8 = true) (hm : fld v 31 16 = 0xC9A5) (hflag : s.boot.flags.testBit 2 = true)
    (hr : switchReason s (fld v 1 0) = 0) : profCtl s 3 v = targetReads (switchBegun s (fld v 1 0) 3) := by
  have hmagic : ¬ (fld v 31 16 ≠ 0xC9A5 ∨ ((3 : Nat) = 3 ∧ s.boot.flags.testBit 2 = false)) := by
    rw [hflag]
    rintro (h | ⟨-, h⟩)
    · exact h hm
    · exact Bool.noConfusion h
  rw [profCtl, if_pos hgo, if_neg hmagic]
  exact if_neg (not_not.2 hr)

theorem reaches_global {off : Nat} (h : reqAlive s .host = true) (ho : off < 0x1000) : Reaches .host off 0xF s :=
  ⟨by simp [mayWrite, h], fun _ => ⟨by decide, .inr ho⟩⟩

theorem regCommand_profCtl {v : Word} (h : reqAlive s .host = true) :
    regCommand s .host 0x120 0xF v false = endWrite .host 0x120 (profCtl s 3 v, 0) := by
  rw [regCommand_block (reaches_global h (by decide)) v false (by decide) (fun _ => rfl)]
  exact congrArg (fun m => endWrite .host 0x120 (profCtl s 3 m, 0)) (maskBe_full v)

theorem endWrite_boot (s : State) (req : Req) (off : Nat) : (endWrite req off (s, 0)).boot = s.boot := by rw [endWrite_done]; split <;> rfl

/-- The target's registers replace those of the blocks that are not common. -/
def profileLoaded (s : State) (ld : State) : State :=
  let s1 := readPassed s
  { s1 with
    boot := { s1.boot with checked := true, types := profTypes s s.boot.target }
    regs := s1.regs.filter (fun e => !profileBlock e.1)
    tables := ld.tables.foldl (fun m x => mput m x.1 x.2) (s1.tables.filter (fun e => commonType (e.1 / 65536))) }

theorem switchVerifyDone_passed {lf : Bytes} {secs : List Bytes} (hrun : coreRun s = true) (hp : s.boot.phase = .switchVerify) (hc : s.boot.checked = false)
    (hb : bscan s = false) (hbad : switchBad s lf secs = none) :
    switchVerifyDone s lf secs = { readPassed s with boot := { (readPassed s).boot with checked := true } } := by
  unfold switchVerifyDone
  rw [if_neg (by rw [hrun, hp, hc, hb]; decide), hbad]

theorem switchLoadDone_passed {lf : Bytes} {secs : List Bytes} (hrun : coreRun s = true) (hp : s.boot.phase = .switchLoad) (hc : s.boot.checked = false)
    (hb : bscan s = false) (hbad : switchBad s lf secs = none) :
    let ld := loadBodies s (((targetSecs s s.boot.target).map DirEnt.type).zip secs)
    switchLoadDone s lf secs = takeRegs (profileLoaded s ld) ld := by
  unfold switchLoadDone
  rw [if_neg (by rw [hrun, hp, hc, hb]; decide), hbad]
  rfl

/-- Settles O6: the header, the directory, the sections and the tag, and the switch with its verify and load steps. -/
theorem imageLoadAndSwitchRowsComplete : Obligations.ImageLoadAndSwitchRowsComplete := by
  refine ⟨?_, ?_, ?_, ?_, ?_, ?_, ?_, ?_, ?_⟩
  · intro s hrun hp hb
    refine completes_of (u := nvmWaitDone s) rfl ?_
    rw [nvmWaitDone_read hrun hp hb, settle_boot, settle_out]
    exact ⟨rfl, rfl, rfl, rfl, frame_settle (((frame_withBoot s _).within).andThen (frame_emit (loadBegun s) _))⟩
  · intro s d hrun hp hb hcrc hfields hauth hlf htag hlff hprof
    refine completes_of (u := headerReceived s d) rfl ?_
    rw [headerReceived_taken hrun hp hb hcrc hfields hauth hlf htag hlff hprof]
    have hpassed := readPassed_boot s
    have htaken : Frame [.boot, .log] (· = 0xC180) s (headerTaken s d) := frame_bootAfter s _
    have hattempt : (headerTaken s d).boot.attempt = 0 := congrArg Boot.attempt hpassed
    obtain ⟨hfeed, hword⟩ := frame_applyLfctl (headerTaken s d) (BitVec.ofNat 32 (beAt (d.drop 64) (4 + 4 * s.boot.psel) 4))
    generalize applyLfctl (headerTaken s d) _ = u at *
    have hboot : u.boot = (headerTaken s d).boot := hfeed.part .boot
    have hall : Frame [.boot, .line, .log, .out] (fun o => o = 0xA100 ∨ o = 0xC180) s u :=
      (htaken.within (hr := fun _ h => .inr h)).andThen hfeed (hr := fun _ h => h)
    have hread := frame_nextRead u
    rw [settle_boot, nextRead_boot, hboot, reg_settle_ne _ _ (by omega), hread.reg (fun h => h) (by omega)]
    exact ⟨rfl, rfl, rfl, rfl, rfl, hattempt, hword, frame_settle (hall.andThen hread)⟩
  · intro s d hrun hp hb hdir hlen hcrc hok
    refine completes_of (u := sectionReceived s d) rfl ?_
    rw [sectionReceived_directory hrun hp hb hdir, directoryReceived_taken hlen hcrc hok, settle_boot, nextRead_boot]
    have hpassed := readPassed_boot s
    refine ⟨(congrArg Boot.phase hpassed).trans hp, rfl, rfl, congrArg Boot.attempt hpassed, ?_, frame_settle (frame_stepRead (frame_bootAfter s _))⟩
    exact (List.length_mergeSort _).trans ((List.length_map _).trans List.length_range)
  · intro s d e hrun hp hb hdir he hlen hcrc hok hmore
    refine completes_of (u := sectionReceived s d) rfl ?_
    rw [sectionReceived_body hrun hp hb hdir he, bodyReceived_taken hlen hcrc hok hmore, settle_boot, nextRead_boot]
    have hpassed := readPassed_boot s
    exact ⟨(congrArg Boot.phase hpassed).trans hp, rfl, congrArg Boot.attempt hpassed, bodyTaken_dir s e d, frame_settle (frame_stepRead (frame_bootAfter s _))⟩
  · intro s d hrun hp hb hdir he
    refine completes_of (u := sectionReceived s d) rfl ?_
    rw [sectionReceived_tag hrun hp hb hdir he, settle_boot]
    exact ⟨rfl, frame_settle (frame_withBoot s _)⟩
  · intro s tail hrun hp hb
    refine completes_of (u := tagResult s tail) rfl ?_
    rw [tagResult_open hrun hp hb, settle_boot, settle_line]
    by_cases hauth : imgAuth s = false
    · rw [if_pos (.inl hauth), if_pos (by rw [hauth]; rfl)]
      exact commit_run s
    have hkey : ¬ (!imgAuth s) = true := by simpa using hauth
    by_cases htag : s.boot.tag = hmac (s.otp.img.getD []) (hashed s tail)
    · rw [if_pos (.inr htag), if_neg hkey, if_pos htag]
      have hdone := commit_run (tagVerified s)
      rwa [tagVerified_psel] at hdone
    · rw [if_neg (not_or.2 ⟨hauth, htag⟩), if_neg hkey, if_neg htag, imageFails]
      exact enterRepeater_repeater (imgEvent s 0xC005 5 { part := 0xFF }) 0xC005
  · intro s v halive hgo hm hflag hr
    refine completes_of (u := regCommand s .host 0x120 0xF v false) rfl ?_
    rw [regCommand_profCtl halive, profCtl_begun hgo hm hflag hr, settle_boot, endWrite_boot, (frame_targetReads (switchBegun s (fld v 1 0) 3)).part .boot]
    exact ⟨rfl, rfl, rfl, rfl, rfl, rfl⟩
  · intro s lf secs hrun hp hc hb hbad
    refine completes_of (u := switchVerifyDone s lf secs) rfl ?_
    rw [switchVerifyDone_passed hrun hp hc hb hbad, settle_boot]
    have hpassed := readPassed_boot s
    exact ⟨(congrArg Boot.phase hpassed).trans hp, rfl, congrArg Boot.attempt hpassed, frame_settle (frame_bootAfter s _)⟩
  · intro s lf secs hrun hp hc hb hbad
    refine completes_of (u := switchLoadDone s lf secs) rfl ?_
    rw [switchLoadDone_passed hrun hp hc hb hbad]
    generalize loadBodies s _ = ld
    have hpassed := readPassed_boot s
    have hframe := frame_readPassed s
    have htaken := frame_takeRegs (profileLoaded s ld) ld
    rw [settle_boot, settle_line, settle_lanes, settle_inaug, settle_tb, htaken.part .boot, htaken.part .line, htaken.part .lanes, htaken.part .inaug,
      htaken.part .tb]
    exact ⟨(congrArg Boot.phase hpassed).trans hp, rfl, congrArg Boot.attempt hpassed, rfl, hframe.part .line, hframe.part .lanes, hframe.part .inaug,
      hframe.part .tb⟩

end Sys2Proof.Image

end

section
/-! SUPPORT. Local service shed (R48, R65, R227): what the outputs, the recorder's intake and the statistics keep while local ports go down. -/

namespace Sys2Proof.Shed

open Sys2Proof.Machine Sys2Proof.Safety Sys2Proof.Registers Sys2Proof.Traffic Sys2Proof.Faulty Sys2Proof.Quiet Sys2Proof.Power

/-! ### Steps that spare the outputs -/

/-- Every output keeps its state, the statistics are as they were, and events are only added to those that wait. -/
def Spared (s t : State) : Prop :=
  (∀ p : Fin 20, t.sw.ports[p].hst = s.sw.ports[p].hst) ∧ (∃ evs, t.log.raised = s.log.raised ++ evs) ∧ t.log.stats = s.log.stats

variable {s t u : State}

-- Elaborated by itself, so that the proofs before it are checked before those after it begin: this bounds the memory that proofs under way take at once.
set_option Elab.async false in
theorem spared_refl (s : State) : Spared s s := ⟨fun _ => rfl, ⟨[], (List.append_nil _).symm⟩, rfl⟩

theorem Spared.then (h : Spared s t) (g : Spared t u) : Spared s u := by
  obtain ⟨hp, ⟨e, he⟩, hs⟩ := h
  obtain ⟨gp, ⟨f, hf⟩, gs⟩ := g
  exact ⟨fun p => (gp p).trans (hp p), ⟨e ++ f, by rw [hf, he, List.append_assoc]⟩, gs.trans hs⟩

theorem spared_ite {c : Prop} [Decidable c] (h : Spared s t) (g : Spared s u) : Spared s (if c then t else u) := by
  split
  · exact h
  · exact g

theorem spared_foldl {α : Type} {f : State → α → State} (h : ∀ s x, Spared s (f s x)) (l : List α) (s : State) : Spared s (l.foldl f s) := by
  induction l generalizing s with
  | nil => exact spared_refl s
  | cons x l ih => exact (h s x).then (ih _)

/-- A step that leaves the recorder and every output's state. -/
theorem spared_of_kept (hl : t.log = s.log) (hp : ∀ p : Fin 20, t.sw.ports[p].hst = s.sw.ports[p].hst) : Spared s t :=
  ⟨hp, ⟨[], by rw [hl, List.append_nil]⟩, by rw [hl]⟩

theorem spared_of_frame {P : List Part} {R : Nat → Prop} (h : Frame P R s t) (hl : Part.log ∉ P := by decide) (hs : Part.sw ∉ P := by decide) :
    Spared s t := spared_of_kept (h.part .log hl) fun _ => by rw [h.part .sw hs]

theorem spared_raise (s : State) (code sev inst : Nat) (vals : List Nat) : Spared s (raise s code sev inst vals) := by
  by_cases h : coreRun s = true
  · refine ⟨fun _ => by rw [raise_sw], ⟨_, raise_raised s code sev inst vals h⟩, ?_⟩
    have hrun : coreRun (bump s 0xC180) = true := h
    unfold raise raiseEv
    rw [if_pos h, if_pos hrun]
    rfl
  · rw [raise, if_neg h]
    exact spared_refl s

theorem spared_raiseLim (s : State) (win code sev inst : Nat) (vals : List Nat) : Spared s (raiseLim s win code sev inst vals) := by
  have hraise (l : List (Nat × Nat)) : Spared s (raise { s with log := { s.log with limits := l } } code sev inst vals) :=
    Spared.then (t := { s with log := { s.log with limits := l } }) ⟨fun _ => rfl, ⟨[], (List.append_nil _).symm⟩, rfl⟩ (spared_raise _ _ _ _ _)
  unfold raiseLim
  split
  · exact spared_ite (spared_refl s) (hraise _)
  · exact hraise _

theorem spared_bump (s : State) (o : Nat) : Spared s (bump s o) := spared_of_frame (frame_bump s o)

theorem spared_bumpSw (s : State) (p i : Nat) : Spared s (bumpSw s p i) := spared_bump s _

theorem spared_bumpCc (s : State) (c i : Nat) : Spared s (bumpCc s c i) := spared_bump s _

theorem spared_setPause (s : State) (l : Fin 4) (f : Pause → Pause) : Spared s (setPause s l f) := spared_of_kept rfl fun _ => rfl

theorem setSw_hst (s : State) (p q : Fin 20) (f : SwPort → SwPort) : (setSw s p f).sw.ports[q].hst = if q = p then
    (f s.sw.ports[p]).hst else s.sw.ports[q].hst := by
  split
  next h => subst h; simp [setSw]
  next h =>
    have hne : p.val ≠ q.val := fun e => h (Fin.ext e.symm)
    simp [setSw, hne]

theorem spared_setSw (s : State) (p : Fin 20) (f : SwPort → SwPort) (h : ∀ o, (f o).hst = o.hst := by intro _; rfl) : Spared s (setSw s p f) := by
  refine spared_of_kept rfl fun q => ?_
  rw [setSw_hst]
  split
  next e => rw [h, e]
  next => rfl

/-! ### Frames and queues -/

theorem spared_mirDrop (s : State) (p : Fin 20) (c : Nat) : Spared s (mirDrop s p c) := (spared_bumpCc s _ _).then (spared_raiseLim _ _ _ _ _ _)

theorem spared_enqueueCopy (s : State) (d : Fin 20) (x : QFrame) : Spared s (enqueueCopy s d x) :=
  spared_ite (spared_mirDrop s d _) ((spared_setSw s d _).then (spared_setSw _ d _))

theorem spared_mirror (s : State) (egress : Bool) (p cls id : Nat) (f : Bytes) (eth bad : Bool) (stamp : Nat) : Spared s
    (mirror s egress p cls id f eth bad stamp) := by
  rw [mirror_looks]
  refine spared_foldl (fun t n => ?_) _ s
  have hseen : Spared t (mirSeen t n) := spared_of_kept rfl fun _ => rfl
  exact spared_ite (spared_ite ((hseen.then (spared_bumpSw _ _ _)).then (spared_enqueueCopy _ _ _)) hseen) (spared_refl t)

theorem spared_sendLane (s : State) (l : Fin 4) (inp : Option Nat) (id : Nat) (f : Bytes) : Spared s (sendLane s l inp id f) := by
  rw [sendLane_counts]
  exact ((spared_of_frame (frame_laneCounted s l inp f)).then (spared_mirror _ _ _ _ _ _ _ _ _)).then (spared_of_frame (frame_sendRaw _ l f))

theorem spared_sendPause (s : State) (l : Fin 4) (m : BitVec 8) : Spared s (sendPause s l m) :=
  ((spared_setPause s l _).then (spared_sendLane _ l none _ _)).then (spared_bumpSw _ _ _)

theorem spared_pauseUpdate (s : State) (l : Fin 4) : Spared s (pauseUpdate s l) :=
  spared_ite (spared_refl s) (spared_ite (spared_setPause s l _) (spared_ite (spared_sendPause s l _) (spared_setPause s l _)))

/-- An output with its XOFF and its peak anew. -/
def xoffPort (s : State) (p : Fin 20) : SwPort :=
  { s.sw.ports[p] with
    xoff := BitVec.ofNat 8 (((List.range 8).map (fun c => if xoffBit s (poolLeft s (occFwd s)) p c then 2 ^ c else 0)).sum)
    peak := max s.sw.ports[p].peak (occAll s p) }

/-- Every output has its XOFF and its peak anew. -/
def xoffRead (s : State) : State := { s with sw := { s.sw with ports := Vector.ofFn (xoffPort s) } }

theorem xoffRead_ports (s : State) (p : Fin 20) : (xoffRead s).sw.ports[p] = xoffPort s p := Vector.getElem_ofFn _

theorem xoffUpdate_reads (s : State) : xoffUpdate s = [0, 1, 2, 3].foldl pauseUpdate (xoffRead s) := rfl

theorem spared_xoffRead (s : State) : Spared s (xoffRead s) := by
  have hlog : (xoffRead s).log = s.log := (frame_withSw s { s.sw with ports := Vector.ofFn (xoffPort s) }).part .log
  have hst (p : Fin 20) : (xoffPort s p).hst = s.sw.ports[p].hst := by
    unfold xoffPort
    dsimp only
  exact spared_of_kept hlog fun p => by rw [xoffRead_ports, hst]

theorem spared_xoffUpdate (s : State) : Spared s (xoffUpdate s) := by
  have hread := spared_xoffRead s
  rw [xoffUpdate_reads]
  generalize xoffRead s = u at *
  exact hread.then (spared_foldl spared_pauseUpdate _ u)

theorem spared_purgeOut (s : State) (p : Fin 20) : Spared s (purgeOut s p) :=
  (spared_setSw s p _).then (spared_foldl (fun t _ => spared_bumpCc t _ _) _ _)

theorem spared_copiesGone (s : State) (p : Fin 20) : Spared s (copiesGone s p) :=
  (spared_setSw s p _).then (spared_foldl (fun t _ => spared_mirDrop t p _) _ _)

theorem spared_takeOut (s : State) (p : Fin 20) (x : QFrame) : Spared s (takeOut s p x) := by
  have hcrossed : Spared s (crossed s p x) := spared_of_kept rfl fun _ => rfl
  rw [takeOut_eq]
  exact (hcrossed.then (spared_setSw _ p _)).then (spared_xoffUpdate _)

/-! ### Errors found on the way (R357) -/

theorem spared_startTest (s : State) : Spared s (startTest s) := by
  have hnoted (t : State) (q : QEnt) : Spared t (bumpFlt (testNoted t q) 1) :=
    (spared_of_frame (frame_withFlt t _)).then (spared_bump (testNoted t q) _)
  have heffects (t : State) (q : QEnt) : Spared t (testEffects t q) := by
    rw [testEffects_eq]
    exact spared_ite ((hnoted t q).then (spared_of_frame (frame_canTestStart _ _)))
      (spared_ite ((hnoted t q).then (spared_of_frame (frame_bridgeTestStart _))) (hnoted t q))
  unfold startTest
  split
  next q r _ _ =>
    exact spared_ite (spared_refl s) (((spared_of_frame (frame_withFlt s { s.flt with queue := r })).then (heffects _ q)).then (spared_of_frame
      (frame_undefer _)))
  next => exact spared_refl s

theorem spared_enqueue (s : State) (u code : Nat) (ret : Bool) : Spared s (enqueue s u code ret) := by
  have hflt (t : State) (x : Faults) : Spared t { t with flt := x } := spared_of_frame (frame_withFlt t x)
  have hdefer : Spared s (bumpFlt (setUnit s u (fun x => { x with defer_ := true, defCode := code })) 4) :=
    (spared_of_frame (frame_setUnit s u _)).then (spared_bump _ _)
  exact spared_ite (spared_refl s) (spared_ite (hflt s _) (spared_ite ((hflt s _).then (spared_startTest _))
    ((spared_ite (hdefer.then (hflt _ _)) hdefer).then (spared_raiseLim _ _ _ _ _ _))))

theorem spared_detect (s : State) (l : Fin 4) {code : Nat} (h : code ≠ 0x2002) : Spared s (detect s l.val code) := by
  have hcount : Spared s (errorNoted s l) := (spared_of_frame (frame_setUnit s l.val _)).then (spared_bump _ _)
  have hask : Spared s (enqueue (errorNoted s l) l.val code false) := hcount.then (spared_enqueue _ _ _ _)
  rw [detect_lane]
  refine spared_ite ?_ (spared_refl s)
  split
  · exact spared_ite (by rw [if_pos h]; exact hcount) hask
  · exact hask

theorem spared_bufferLost (s : State) (x : QFrame) : Spared s (bufferLost s x) := by
  have hlost : Spared s (raise (bumpSw s x.inp 7) 0x6011 5 x.inp [x.inp, x.cls]) := (spared_bumpSw s _ _).then (spared_raise _ _ _ _ _)
  unfold bufferLost
  dsimp only
  split
  next h => exact hlost.then (spared_detect _ ⟨x.inp, h⟩ (by decide))
  next => exact hlost

theorem spared_enqueueOut (s : State) (p : Fin 20) (x : QFrame) : Spared s (enqueueOut s p x) := by
  have hkept : Spared s { s with sw := { s.sw with kept := s.sw.kept ++ [(p.val, x)] } } := spared_of_kept rfl fun _ => rfl
  have hup : Spared s (enqueueUp s p x) :=
    spared_ite hkept (spared_ite (spared_takeOut s p x) (spared_ite ((spared_bumpSw s _ _).then (spared_raiseLim _ _ _ _ _ _))
      (spared_ite (spared_bufferLost s x) (((spared_bumpSw s _ _).then (spared_raiseLim _ _ _ _ _ _)).then (spared_takeOut _ p x)))))
  unfold enqueueOut
  split
  · exact (spared_bumpSw s _ _).then (spared_bumpCc _ _ _)
  · exact spared_bumpSw s _ _
  · exact spared_refl s
  · exact hup

theorem spared_releaseHeld (s : State) : Spared s (releaseHeld s) := by
  have hnone : Spared s { s with sw := { s.sw with kept := [] } } := spared_of_kept rfl fun _ => rfl
  exact hnone.then (spared_foldl (fun t _ => spared_enqueueOut t _ _) _ _)

/-! ### An output that goes down (R227) -/

/-- The output is not UP any more; every other output is as it was. -/
def WentDown (p : Fin 20) (s t : State) : Prop :=
  t.sw.ports[p].hst ≠ 0 ∧ (∀ q : Fin 20, q ≠ p → t.sw.ports[q].hst = s.sw.ports[q].hst) ∧ (∃ evs, t.log.raised = s.log.raised ++ evs) ∧
    t.log.stats = s.log.stats

theorem WentDown.then {p : Fin 20} (h : WentDown p s t) (g : Spared t u) : WentDown p s u := by
  obtain ⟨hp, hq, ⟨e, he⟩, hs⟩ := h
  obtain ⟨gp, ⟨f, hf⟩, gs⟩ := g
  exact ⟨by rw [gp]; exact hp, fun q hne => (gp q).trans (hq q hne), ⟨e ++ f, by rw [hf, he, List.append_assoc]⟩, gs.trans hs⟩

theorem Spared.down {p : Fin 20} (h : Spared s t) (g : WentDown p t u) : WentDown p s u := by
  obtain ⟨hp, ⟨e, he⟩, hs⟩ := h
  obtain ⟨gp, gq, ⟨f, hf⟩, gs⟩ := g
  exact ⟨gp, fun q hne => (gq q hne).trans (hp q), ⟨e ++ f, by rw [hf, he, List.append_assoc]⟩, gs.trans hs⟩

theorem wentDown_setSw (s : State) (p : Fin 20) (f : SwPort → SwPort) (h : ∀ o, (f o).hst ≠ 0 := by intro _; simp) : WentDown p s (setSw s p f) :=
  ⟨by rw [setSw_hst, if_pos rfl]; exact h _, fun q hq => by rw [setSw_hst, if_neg hq], ⟨[], (List.append_nil _).symm⟩, rfl⟩

theorem wentDown_outDown (s : State) (p : Fin 20) : WentDown p s (outDown s p) := by
  unfold outDown
  dsimp only
  split
  next =>
    generalize hu : copiesGone (if s.now < s.sw.ports[p].busy then bumpSw s p.val 11 else s) p = u
    have hgone : Spared s u := hu ▸ (spared_ite (spared_bumpSw s _ _) (spared_refl s)).then (spared_copiesGone _ p)
    have hdown : WentDown p s (if holdTime s = 0 then setSw (purgeOut u p) p (fun o => { o with hst := 2, xoff := 0, busy := 0 })
        else raise (setSw u p (fun o => { o with hst := 1, xoff := 0, busy := 0, held := s.now })) 0x6001 1 p.val (p.val :: perClass u.sw.ports[p].q)) := by
      split
      · exact (hgone.then (spared_purgeOut u p)).down (wentDown_setSw _ p _)
      · exact (hgone.down (wentDown_setSw u p _)).then (spared_raise _ _ _ _ _)
    exact (hdown.then (spared_xoffUpdate _)).then (spared_releaseHeld _)
  next h => exact ⟨h, fun _ _ => rfl, ⟨[], (List.append_nil _).symm⟩, rfl⟩

/-- The event of a local port whose PHY goes down. -/
def phyTold (s : State) (p : Fin 20) : State :=
  if 4 ≤ p.val ∧ p.val ≤ 13 ∧ s.sw.ports[p].hst = 0 then raise s 0x6061 1 p.val [p.val] else s

theorem portDown_local {p : Fin 20} (h : 4 ≤ p.val) : portDown s p = outDown (phyTold s p) p := by
  have hlane : portLane p = none := dif_neg (by omega)
  unfold portDown
  rw [hlane]
  rfl

/-! ### The shed -/

theorem wentDown_portDown {p : Fin 20} (s : State) (h : 4 ≤ p.val) : WentDown p s (portDown s p) := by
  rw [portDown_local h]
  exact (spared_ite (spared_raise s _ _ _ _) (spared_refl s)).down (wentDown_outDown _ p)

theorem calm_portDown {p : Fin 20} (s : State) (h : 4 ≤ p.val) : Calm false s (portDown s p) := by
  rw [portDown_local h]
  exact (calm_ite (calm_raise s _ _ _ _) (calm_refl s)).then (calm_outDown _ p)

/-- The outputs of a list are not UP any more; every other is as it was. -/
def AllDown (l : List (Fin 20)) (s t : State) : Prop :=
  Calm false s t ∧ (∀ p : Fin 20, if p ∈ l then t.sw.ports[p].hst ≠ 0 else t.sw.ports[p].hst = s.sw.ports[p].hst) ∧
  (∃ evs, t.log.raised = s.log.raised ++ evs) ∧ t.log.stats = s.log.stats

theorem allDown_portDown {l : List (Fin 20)} (h : ∀ p ∈ l, 4 ≤ p.val) (s : State) : AllDown l s (l.foldl portDown s) := by
  induction l generalizing s with
  | nil => exact ⟨calm_refl s, fun p => rfl, ⟨[], (List.append_nil _).symm⟩, rfl⟩
  | cons x l ih =>
    have hx : 4 ≤ x.val := h x List.mem_cons_self
    obtain ⟨hdown, hother, ⟨e, he⟩, hstats⟩ := wentDown_portDown s hx
    obtain ⟨hcalm, hall, ⟨f, hf⟩, hstats'⟩ := ih (fun p hp => h p (List.mem_cons_of_mem x hp)) (portDown s x)
    refine ⟨(calm_portDown s hx).then hcalm, fun p => ?_, ⟨e ++ f, ?_⟩, hstats'.trans hstats⟩
    · have hp := hall p
      by_cases hl : p ∈ l
      · rw [if_pos hl] at hp
        rw [if_pos (List.mem_cons_of_mem x hl)]
        exact hp
      rw [if_neg hl] at hp
      by_cases hpx : p = x
      · rw [if_pos (hpx ▸ List.mem_cons_self)]
        exact hp ▸ hpx ▸ hdown
      · rw [if_neg (by simp [hpx, hl])]
        exact hp.trans (hother p hpx)
    · rw [List.foldl_cons, hf, he, List.append_assoc]

theorem frame_shedCan (s : State) (c : Fin 8) : Frame [.can] (fun _ => False) s (shedCan s c) := by
  have hset (t : State) (k : Chan → Chan) : Frame [.can] (fun _ => False) t (setChan t c k) := frame_setChan t c k
  unfold shedCan
  split
  next o _ =>
    have hobj (f : CObj → CObj) : Frame [.can] (fun _ => False) s (setObj s c o f) := by
      unfold setObj
      split
      · exact hset s _
      · exact frame_refl _ _ s
    exact frame_trans (frame_trans (hobj _) (hset _ _)) (frame_ite (hset _ _) (frame_refl _ _ _))
  next => exact frame_refl _ _ s

/-- The outputs of the local PHYs. -/
def localOuts : List (Fin 20) := (List.range 10).map (fun n => Fin.ofNat 20 (4 + n))

theorem mem_localOuts (p : Fin 20) : p ∈ localOuts ↔ 4 ≤ p.val ∧ p.val ≤ 13 := by
  revert p
  decide

theorem shedLocal_outs (s : State) : shedLocal s = (List.finRange 8).foldl shedCan (localOuts.foldl portDown s) := by
  rw [localOuts, List.foldl_map]
  rfl

theorem allDown_shedLocal (s : State) : AllDown localOuts s (shedLocal s) := by
  rw [shedLocal_outs]
  obtain ⟨hcalm, hall, hraised, hstats⟩ := allDown_portDown (fun p hp => ((mem_localOuts p).1 hp).1) s
  generalize localOuts.foldl portDown s = u at *
  have hcan : Frame [.can] (fun _ => False) u ((List.finRange 8).foldl shedCan u) := frame_foldl frame_shedCan _ u
  generalize (List.finRange 8).foldl shedCan u = v at *
  have hsw : v.sw = u.sw := hcan.part .sw
  have hlog : v.log = u.log := hcan.part .log
  exact ⟨hcalm.then (calm_of_frame hcan), by rw [hsw]; exact hall, by rw [hlog]; exact hraised, by rw [hlog]; exact hstats⟩

theorem localShed_of_allDown {s t u : State} (h : AllDown localOuts s t) (hs : u.sw = t.sw) : LocalShed s u := by
  obtain ⟨-, hall, -, -⟩ := h
  intro p
  have hp := hall p
  simpa only [mem_localOuts, ← hs] using hp

end Sys2Proof.Shed

end

section
/-! SUPPORT. The statement on service shedding: 130 °C and the power-fail warning (R48, R65, R227, R381). -/

namespace Sys2Proof.Shed

open Sys2Proof.Machine Sys2Proof.Safety Sys2Proof.Registers Sys2Proof.Quiet Sys2Proof.Power Sys2Proof.Traffic

/-- The die is at 130 °C. -/
def hot (s : State) (T : Int) : State := { s with line := { s.line with therm := 2, temp := BitVec.ofInt 8 T } }

-- Elaborated by itself, so that the proofs before it are checked before those after it begin: this bounds the memory that proofs under way take at once.
set_option Elab.async false in
theorem thermalShed_hot {s : State} (T : Int) (hrun : coreRun s = true) (ht : s.line.therm ≠ 2) :
    thermalShed s T = shedLocal (raise (hot s T) 0x1131 5 0xFFF (nodeVals s)) :=
  if_pos (by rw [hrun, Bool.true_and, bne_iff_ne]; exact ht)

/-- The power fails. -/
def failing (s : State) : State := { s with line := { s.line with shed := true } }

/-- The events that wait are lost. -/
def eventsLost (s : State) : State := { s with log := { s.log with raised := [], fifo := [] } }

/-- The statistics are written. -/
def statsWritten (s : State) : State := { s with mram := { s.mram with stats := s.log.stats } }

/-- What the warning leaves, the statistics apart. -/
def warned (s : State) : State := eventsLost (raiseGasp (shedLocal (failing s)) 0x1120 5 0xFFF (nodeVals s))

theorem powerFail_warned {s : State} (energyOk : Bool) (hcore : s.line.core = true) (hs : s.line.shed = false) :
    powerFail s energyOk = if energyOk then statsWritten (warned s) else warned s := by
  have hopen : (s.line.core && !s.line.shed) = true := by rw [hcore, hs]; rfl
  unfold powerFail
  rw [if_pos hopen, warned, failing]
  generalize raiseGasp (shedLocal _) 0x1120 5 0xFFF (nodeVals s) = u
  rfl

theorem frame_eventsLost (s : State) : Frame [.log] (fun _ => False) s (eventsLost s) := frame_of_regs

theorem eventsLost_stats (s : State) : (eventsLost s).log.stats = s.log.stats ∧ (eventsLost s).mram.stats = s.mram.stats := ⟨rfl, rfl⟩

theorem eventsLost_empty (s : State) : (eventsLost s).log.raised = [] ∧ (eventsLost s).log.fifo = [] := ⟨rfl, rfl⟩

theorem laneUp_of_lanes {s t : State} (h : t.lanes = s.lanes) (l : Fin 4) : laneUp t l = laneUp s l := by rw [laneUp, laneUp, h]

theorem lanes_of_calm {s t : State} (h : Calm false s t) : t.lanes = s.lanes :=
  Vector.ext fun i hi => h.lane ⟨i, hi⟩

theorem gaspWrite_log (s : State) (e : Event) : (gaspWrite s e).log = s.log := by
  unfold gaspWrite
  split
  · rfl
  · rfl

theorem gaspWrite_stats (s : State) (e : Event) : (gaspWrite s e).mram.stats = s.mram.stats := by
  unfold gaspWrite
  split
  · rfl
  · rfl

theorem frame_gaspWrite (s : State) (e : Event) : Frame [.mram] (fun _ => False) s (gaspWrite s e) := by
  unfold gaspWrite
  split
  · exact frame_of_regs
  · exact frame_refl _ _ s

/-- The last gasp leaves the line, the lanes, the switch and the statistics. -/
theorem frame_raiseGasp (s : State) (code sev inst : Nat) (vals : List Nat) : Frame [.log, .mram] (· = 0xC180) s (raiseGasp s code sev inst vals) :=
  ((frame_raise s code sev inst vals).within (hr := fun _ h => h)).andThen (frame_gaspWrite _ _)

theorem raiseGasp_stats (s : State) (code sev inst : Nat) (vals : List Nat) :
    (raiseGasp s code sev inst vals).log.stats = s.log.stats ∧ (raiseGasp s code sev inst vals).mram.stats = s.mram.stats := by
  have hmram : (raise s code sev inst vals).mram = s.mram := (frame_raise s code sev inst vals).part .mram
  rw [raiseGasp, gaspWrite_log, gaspWrite_stats, hmram]
  exact ⟨(spared_raise s code sev inst vals).2.2, rfl⟩

/-- What the warning leaves after the shed. -/
theorem warned_left (s : State) : Frame [.log, .mram] (· = 0xC180) (shedLocal (failing s)) (warned s) ∧
    (warned s).log.stats = (shedLocal (failing s)).log.stats ∧ (warned s).mram.stats = (shedLocal (failing s)).mram.stats ∧
    (warned s).log.raised = [] ∧ (warned s).log.fifo = [] := by
  have hgasp := frame_raiseGasp (shedLocal (failing s)) 0x1120 5 0xFFF (nodeVals s)
  obtain ⟨hlog, hmram⟩ := raiseGasp_stats (shedLocal (failing s)) 0x1120 5 0xFFF (nodeVals s)
  unfold warned
  generalize raiseGasp (shedLocal (failing s)) 0x1120 5 0xFFF (nodeVals s) = u at *
  obtain ⟨hlog', hmram'⟩ := eventsLost_stats u
  exact ⟨hgasp.andThen (frame_eventsLost u), hlog'.trans hlog, hmram'.trans hmram, eventsLost_empty u⟩

/-- Settles O5: at 130 °C and at the warning the local outputs go down, and every lane stays as it was. -/
theorem serviceSheddingComplete : Obligations.ServiceSheddingComplete := by
  refine ⟨?_, ?_⟩
  · intro s T hrun ht
    have hraised : (raise (hot s T) 0x1131 5 0xFFF (nodeVals s)).log.raised = s.log.raised ++ [mkEvent s 0x1131 5 0xFFF (nodeVals s)] :=
      raise_raised (hot s T) 0x1131 5 0xFFF (nodeVals s) hrun
    have hframe := frame_raise (hot s T) 0x1131 5 0xFFF (nodeVals s)
    have hall := allDown_shedLocal (raise (hot s T) 0x1131 5 0xFFF (nodeVals s))
    refine completes_of (u := thermalShed s T) rfl ?_
    rw [thermalShed_hot T hrun ht]
    generalize raise (hot s T) 0x1131 5 0xFFF (nodeVals s) = u at *
    obtain ⟨hcalm, -, ⟨evs, hevs⟩, -⟩ := id hall
    have hsw : u.sw = s.sw := hframe.part .sw
    have hshed := localShed_of_allDown (u := settle s (shedLocal u)) hall (settle_sw s _)
    rw [settle_line, settle_log]
    refine ⟨hcalm.line.trans (hframe.part .line), ?_, fun l => ?_, evs, ?_⟩
    · rwa [LocalShed, hsw] at hshed
    · exact laneUp_of_lanes ((settle_lanes s _).trans ((lanes_of_calm hcalm).trans (hframe.part .lanes))) l
    · rw [hevs, hraised, List.append_assoc, List.singleton_append]
  · intro s energyOk hcore hs
    have hall := allDown_shedLocal (failing s)
    obtain ⟨hframe, hlogStats, hmramStats, hraised, hfifo⟩ := warned_left s
    obtain ⟨hcalm, -, -, hstats⟩ := id hall
    have hlanes : (shedLocal (failing s)).lanes = s.lanes := by rw [lanes_of_calm hcalm]; rfl
    have hlostStats : (warned s).log.stats = s.log.stats := hlogStats.trans hstats
    have hkept : (warned s).mram.stats = s.mram.stats := hmramStats.trans (congrArg (·.stats) (hcalm.1.part .mram))
    have hwritten (u : State) : Frame [.mram] (fun _ => False) u (statsWritten u) := frame_of_regs
    refine completes_of (u := powerFail s energyOk) rfl ?_
    rw [powerFail_warned energyOk hcore hs]
    generalize warned s = v at *
    have hend : Frame [.log, .mram] (· = 0xC180) (shedLocal (failing s)) (if energyOk then statsWritten v else v) :=
      frame_ite (hframe.andThen (hwritten v)) hframe
    have hlog : (if energyOk then statsWritten v else v).log = v.log := by split <;> rfl
    have hmram : (if energyOk then statsWritten v else v).mram.stats = if energyOk then s.log.stats else s.mram.stats := by
      split
      · exact hlostStats
      · exact hkept
    generalize (if energyOk then statsWritten v else v) = t at *
    have hshed := localShed_of_allDown (u := settle s t) hall ((settle_sw s t).trans (hend.part .sw))
    rw [settle_line, settle_log, settle_mram, hlog]
    exact ⟨(hend.part .line).trans hcalm.line, hshed,
      laneUp_of_lanes ((settle_lanes s t).trans ((hend.part .lanes).trans hlanes)), hraised, hfifo, hmram⟩

end Sys2Proof.Shed

end
